-- ==== Sys2Proof/Word.lean ====
section
/-! DEFINITION. The word types, saturating and wrapping counts, and little-endian bytes (00 R4). -/

namespace Sys2Proof

abbrev Byte := BitVec 8
abbrev Bytes := List Byte
abbrev W16 := BitVec 16
abbrev W32 := BitVec 32
abbrev W64 := BitVec 64

/-- A field of one byte of a message or register (a Nat; `WellFormed` holds it below 2^8). -/
abbrev B1 := Nat
/-- A field of two bytes. -/
abbrev B2 := Nat
/-- A field of four bytes. -/
abbrev B4 := Nat
/-- A field of eight bytes. -/
abbrev B8 := Nat
/-- A field of sixteen bytes. -/
abbrev B16 := Nat

/-- An owner (R14): 0 to 15 is a partition, 16 the operator domain. -/
abbrev Owner := Nat
/-- The operator domain as an owner. -/
def Owner.operator : Owner := 16

/-- Largest value of a count 32 bits wide. -/
def max32 : Nat := 0xFFFF_FFFF
/-- A 32-bit count that saturates at 0xFFFF_FFFF. -/
def sat32 (a n : Nat) : Nat := min (a + n) max32
/-- A 64-bit count that wraps. -/
def wrap64 (a n : Nat) : Nat := (a + n) % 2 ^ 64
/-- Arithmetic modulo 2^32, as the mailbox and ring counts compare. -/
def wrap32 (n : Nat) : Nat := n % 2 ^ 32
/-- `a - b` modulo 2^32. -/
def sub32 (a b : Nat) : Nat := (a + 2 ^ 32 - b % 2 ^ 32) % 2 ^ 32

/-- One bit of a number. -/
def bitOf (v k : Nat) : Bool := v.testBit k
/-- Bits [hi:lo] of a number. -/
def bitsOf (v hi lo : Nat) : Nat := (v >>> lo) % 2 ^ (hi + 1 - lo)
/-- 1 for true, 0 for false. -/
def b2n (b : Bool) : Nat := if b then 1 else 0

/-- The `n` little-endian bytes of a number (R4). -/
def le : Nat → Nat → Bytes
  | 0, _ => []
  | n + 1, v => BitVec.ofNat 8 v :: le n (v / 256)

/-- The number that little-endian bytes spell (R4). -/
def ofLe : Bytes → Nat
  | [] => 0
  | b :: bs => b.toNat + 256 * ofLe bs

/-- `n` zero bytes. -/
def zeros (n : Nat) : Bytes := List.replicate n 0

/-- The field of `n` bytes at byte `off` of a body, little-endian; absent bytes read as zero. -/
def fieldAt (bs : Bytes) (off n : Nat) : Nat := ofLe ((bs.drop off).take n)

/-- A body of `n` bytes: the bytes given, cut or padded with zeros (R356). -/
def padTo (n : Nat) (bs : Bytes) : Bytes := (bs ++ zeros (n - bs.length)).take n

/-- The OWNER byte of an Ialdo body (R372) as an owner; none where it is malformed. -/
def ownerOfByte (b : Nat) : Option Owner :=
  if b / 32 ≠ 0 then none
  else if bitOf b 4 then (if b % 16 = 0 then some 16 else none)
  else some (b % 16)

/-- The OWNER byte that an owner is reported as. -/
def ownerByte (o : Owner) : Nat := if o = 16 then 16 else o % 16

end Sys2Proof
end

