-- ==== Sys2Proof/Syntax.lean ====
section
/-! DEFINITION. The commands the block takes: one constructor of `Instr` per row of the opcode table, with its operands.
A Ialdo message carries its ring entry's header fields and its body's fields; a memory the block reads outside itself (host
memory, a medium, a peer) answers through the operands. Fields of type B1 to B16 are numbers of that many bytes. -/

namespace Sys2Proof

/-- The header of a Ialdo request as its ring entry holds it (R356), with what the mailbox adds. -/
structure Req where
  /-- Mailbox: 0 to 1,023 an instance, 0x400 + port a physical function (R373 MAILBOX_QUERY). -/
  mbx : B2
  /-- LEVEL. -/
  level : B1
  /-- INDEX. -/
  index : B4
  /-- BODY_LEN. -/
  len : B2
  /-- COOKIE. -/
  cookie : B4
  /-- A reserved header byte, or one that must be 0 in a request, is non-zero. -/
  hdrBad : Bool
  /-- A reserved body field is non-zero. -/
  bodyBad : Bool
  deriving DecidableEq, Repr

/-- A buffer reference (R357). -/
structure BufRef where
  /-- ADDR. -/
  addr : B8
  /-- LENGTH. -/
  len : B4
  /-- SPACE: 1 host memory, 2 the sender's plot space. -/
  space : B1
  deriving DecidableEq, Repr

/-- What host memory answers to a read of the block (R331, R332, R357). -/
inductive HostData
  /-- The bytes read. -/
  | data (bs : Bytes)
  /-- Unsupported Request or Completer Abort. -/
  | refused
  /-- No completion within the timeout. -/
  | timeout
  /-- A completion with EP set. -/
  | poisoned
  deriving DecidableEq, Repr

/-- A clock with a loss monitor (R43). -/
inductive ClockId
  | root
  | host (p : Fin 2)
  | zalLane (p : Fin 8) (lane : Fin 12)
  | eth (p : Fin 8)
  | storage
  deriving DecidableEq, Repr

/-- A Knalys engine: a Privet core or the sequencer of a Yew tile. -/
inductive CoreId
  | privet (cluster : Fin 64) (core : Fin 16)
  | yew (tile : Fin 144)
  deriving DecidableEq, Repr

/-- Where and when a syllable issues: the engine, the slot and the cycle of its clock (R140, R147). -/
structure Issue where
  core : CoreId
  slot : Fin 4
  cycle : B8
  deriving DecidableEq, Repr

/-- A Bramble target (R13). -/
inductive BrTarget
  /-- A granule of stacked memory of a die, by DPA (R219). -/
  | dram (die : Fin 2) (dpa : B8)
  /-- A Yew SRAM window. -/
  | sram (tile : Fin 144) (addr : B4)
  /-- A key slot. -/
  | keySlot (slot : B2)
  /-- A register block of BAR0 of a port, at an offset. -/
  | registers (port : Fin 2) (offset : B4)
  /-- Queue memory of a packet ring. -/
  | queue (ring : B2)
  /-- The egress of a ZAL port. -/
  | zalEgress (port : Fin 8)
  /-- The egress of a host port, for an address in the memory of a mailbox's function (0 to 1,023 an instance, 0x400 + port). -/
  | hostEgress (port : Fin 2) (mbx : B2) (addr : B8)
  deriving DecidableEq, Repr

/-- A message of an accelerator: header of R266, with its data. -/
structure ZalReq where
  /-- GEN, LAST. -/
  gen : BitVec 4
  /-- STATUS: zero in requests. -/
  status : B1
  /-- TAG. -/
  tag : B2
  /-- AUX. -/
  aux : B2
  /-- ADDR. -/
  addr : B8
  /-- CELLS. -/
  cells : B1
  /-- The data of the cells. -/
  data : Bytes
  /-- A reserved field is non-zero. -/
  bad : Bool
  deriving DecidableEq, Repr

/-- An NVMe command that a controller fetches: where it stands and its common fields (R398). -/
structure NvmeCmd where
  /-- Instance. -/
  inst : B2
  /-- Submission queue; 0 is the admin queue. -/
  sq : B2
  /-- Command identifier. -/
  cid : B2
  /-- NSID. -/
  nsid : B4
  /-- The data buffer that PRP1 and PRP2 describe: (host address, bytes) in order. -/
  prp : List (Nat × Nat)
  deriving DecidableEq, Repr

/-- A bulk command (R408) as its ring entry holds it. -/
structure BulkCmd where
  /-- [0] ORDERED; [7:1] reserved. -/
  flags : B1
  space : B1
  nsid : B4
  slba : B8
  nlb : B4
  tag : B4
  addr : B8
  operand : B8
  len : B8
  /-- A reserved field is non-zero. -/
  bad : Bool
  deriving DecidableEq, Repr

/-- The 80-byte body of CKP_GROUP_CREATE and CKP_STANDBY (R381), with what its references hold. -/
structure CkpGroupBody where
  part : B1
  member : B1
  n : B1
  port : B1
  captureTimeout : B4
  groupId : B8
  shardMax : B8
  phaseTimeout : B4
  ownerEntry : B2
  egressQueue : B2
  peers : BufRef
  peersHost : HostData
  partMax : BufRef
  partMaxHost : HostData
  own0 : B8
  own1 : B8
  deriving DecidableEq, Repr

/-- What the boot ROM finds in one bank of the boot flash or in the staging bank (R464): the header fields it checks
and whether the signature and hash verify. -/
structure BootImage where
  /-- The header and body are well formed and the signature verifies. -/
  verifies : Bool
  fwVersion : B4
  securityVersion : B8
  levelMax : B1
  liveCapable : Bool
  /-- Fused key hash that PUBLIC_KEY matches, 0 to 3. -/
  keyIndex : B1
  /-- SHA-256 of the image. -/
  digest : Bytes
  deriving DecidableEq, Repr

/-- The commands of the block, one per row of the opcode table, in its order. -/
inductive Instr
  /-- MODULE_POWER_GOOD. R499. MODULE_EN is asserted and the input has been in range for 100 ms. -/
  | modulePowerGood
  /-- SENSE_CONTACTS_MATE. R498. -/
  | senseContactsMate
  /-- SENSE_CONTACTS_LOST. R498. -/
  | senseContactsLost
  /-- MODULE_EN_DEASSERT. R499, R505. -/
  | moduleEnDeassert
  /-- COLD_RESET. R515. -/
  | coldReset
  /-- BOOT_ROM. R464. What the boot ROM reads from the staging bank and the two flash banks, and whether the entropy source passes. -/
  | bootRom (staged bank0 bank1 : Option BootImage) (entropyOk : Bool)
  /-- QUICKSET_REACHED. R510, R511. Units that fail their test. -/
  | quicksetReached (bad : List Nat)
  /-- FULL_REACHED. R513. Units that fail their test. -/
  | fullReached (bad : List Nat)
  /-- INPUT_SAMPLE. R497. One voltage sample in mV and one current sample in mA. -/
  | inputSample (mv ma : B4)
  /-- POWER_EMERGENCY_END. R504. -/
  | powerEmergencyEnd
  /-- INPUT_UNDERVOLTAGE_TIMEOUT. R496. -/
  | inputUndervoltageTimeout
  /-- CAP_LIMIT_RAISE. R502. -/
  | capLimitRaise
  /-- CAP_UNMET. R502. -/
  | capUnmet
  /-- TJ_SAMPLE. R503. The three readings in 0.1 °C, signed. -/
  | tjSample (die : Fin 2) (t0 t1 t2 : BitVec 16)
  /-- THROTTLE_STEP. R503. -/
  | throttleStep
  /-- THROTTLE_CLEAR. R503. -/
  | throttleClear
  /-- THERMAL_EMERGENCY_END. R503. -/
  | thermalEmergencyEnd (die : Fin 2)
  /-- PLANNED_STEP_TIMEOUT. R501. -/
  | plannedStepTimeout
  /-- TCLK_DIVIDER_CHANGE. R40, R200, R201. -/
  | tclkDividerChange
  /-- CLOCK_LOST. R43. -/
  | clockLost (c : ClockId)
  /-- CLOCK_RESTORED. R44. -/
  | clockRestored (c : ClockId)
  /-- CROSSING_REARM. R69. -/
  | crossingRearm (crossing : B2)
  /-- LAUNCH_CHANGEOVER. R58, R59. -/
  | launchChangeover (kind unit slot : B1)
  /-- DRAIN_TIMEOUT. R36. -/
  | drainTimeout (unit : B2)
  /-- DRAIN_COMPLETE. R36. -/
  | drainComplete (unit : B2)
  /-- UNIT_FAILURE. R34, R35. -/
  | unitFailure (unit : B2) (code : B4)
  /-- BRAMBLE_TRANSACTION. R10 to R13, R29, R30. -/
  | brambleTransaction (tag : BitVec 17) (write : Bool) (target : BrTarget) (len : B4) (data : Bytes) (accessor : B2)
  /-- TILE_PREDICTED_FAILURE. R85, R86. -/
  | tilePredictedFailure (tile : Fin 144)
  /-- SPARE_COPY_COMPLETE. R86. -/
  | spareCopyComplete (group : Fin 16)
  /-- SPARE_COPY_TIMEOUT. R86. -/
  | spareCopyTimeout (group : Fin 16)
  /-- TILE_SUDDEN_FAILURE. R85, R87, R89. -/
  | tileSuddenFailure (tile : Fin 144)
  /-- SPARE_LOAD_COMPLETE. R87. -/
  | spareLoadComplete (group : Fin 16)
  /-- MESH_STOP_FAULT. R90. -/
  | meshStopFault (tile : Fin 144)
  /-- PLACEMENT_LOAD_COMPLETE. R95. -/
  | placementLoadComplete (session : B4)
  /-- GROUP_ZEROING_COMPLETE. R94. -/
  | groupZeroingComplete (group : Fin 16)
  /-- SRAM_SCRUB_READ. R96 to R98. How many symbols of the word read are bad. -/
  | sramScrubRead (tile : Fin 144) (badSymbols : B1)
  /-- MESH_ARRIVAL. R103, R104. The oldest message in flight towards the tile arrives. -/
  | meshArrival (tile : Fin 144)
  /-- EPOCH_START. R191 to R193. -/
  | epochStart (session : B4)
  /-- YEW_STEP. R105, R168. The tile's next Launch Table entry is a STEP and falls due. -/
  | yewStep (tile : Fin 144)
  /-- EPOCH_END. R107, R196. -/
  | epochEnd (session : B4)
  /-- SESSION_SCHEDULE_FAULT. R110. -/
  | sessionScheduleFault (session : B4)
  /-- SAMPLE. R190, R208. -/
  | sample (session : B4)
  /-- DRAW_COMPLETE. R208, R209. -/
  | drawComplete (session : B4)
  /-- DRBG_RESEED. R210. -/
  | drbgReseed (session : B4)
  /-- DRBG_REQUEST_LIMIT. R210. -/
  | drbgRequestLimit (session : B4)
  /-- DRAFT. R213, R283. -/
  | draft (session : B4)
  /-- VERDICT_TIMEOUT. R215. -/
  | verdictTimeout (session : B4)
  /-- PENDING_RECORD_WRITE. R197. CONSUMED as read from the ring's header. -/
  | pendingRecordWrite (session : B4) (consumed : B8)
  /-- NOP. R141. -/
  | nop (i : Issue)
  /-- B. R151, R146. -/
  | b (i : Issue) (cond : BitVec 4) (off : BitVec 21)
  /-- JAL. R152. -/
  | jal (i : Issue) (off : BitVec 21)
  /-- JR. R152. -/
  | jr (i : Issue) (ra : Fin 32)
  /-- JALR. R152. -/
  | jalr (i : Issue) (ra : Fin 32)
  /-- RPT. R154. -/
  | rpt (i : Issue) (count : BitVec 16)
  /-- RPTR. R154. -/
  | rptr (i : Issue)
  /-- IMX. R153. -/
  | imx (i : Issue) (target : BitVec 2) (hi : BitVec 18)
  /-- ADD. R158. -/
  | add (i : Issue) (rd ra rb : Fin 32) (f : Bool)
  /-- SUB. R158. -/
  | sub (i : Issue) (rd ra rb : Fin 32) (f : Bool)
  /-- AND. R158. -/
  | knAnd (i : Issue) (rd ra rb : Fin 32) (f : Bool)
  /-- OR. R158. -/
  | knOr (i : Issue) (rd ra rb : Fin 32) (f : Bool)
  /-- XOR. R158. -/
  | xor (i : Issue) (rd ra rb : Fin 32) (f : Bool)
  /-- ANDN. R158. -/
  | andn (i : Issue) (rd ra rb : Fin 32) (f : Bool)
  /-- SLL. R158. -/
  | sll (i : Issue) (rd ra rb : Fin 32) (f : Bool)
  /-- SRL. R158. -/
  | srl (i : Issue) (rd ra rb : Fin 32) (f : Bool)
  /-- SRA. R158. -/
  | sra (i : Issue) (rd ra rb : Fin 32) (f : Bool)
  /-- ROL. R158. -/
  | rol (i : Issue) (rd ra rb : Fin 32) (f : Bool)
  /-- ROR. R158. -/
  | ror (i : Issue) (rd ra rb : Fin 32) (f : Bool)
  /-- MIN. R158. -/
  | knMin (i : Issue) (rd ra rb : Fin 32) (f : Bool)
  /-- MAX. R158. -/
  | knMax (i : Issue) (rd ra rb : Fin 32) (f : Bool)
  /-- MINU. R158. -/
  | minu (i : Issue) (rd ra rb : Fin 32) (f : Bool)
  /-- MAXU. R158. -/
  | maxu (i : Issue) (rd ra rb : Fin 32) (f : Bool)
  /-- NEG. R158. -/
  | neg (i : Issue) (rd ra : Fin 32) (f : Bool)
  /-- CLZ. R158. -/
  | clz (i : Issue) (rd ra : Fin 32) (f : Bool)
  /-- POPC. R158. -/
  | popc (i : Issue) (rd ra : Fin 32) (f : Bool)
  /-- BSWAP. R158. -/
  | bswap (i : Issue) (rd ra : Fin 32) (f : Bool)
  /-- ADC. R158. -/
  | adc (i : Issue) (rd ra rb : Fin 32) (f : Bool)
  /-- SBC. R158. -/
  | sbc (i : Issue) (rd ra rb : Fin 32) (f : Bool)
  /-- ADDW. R158, 32-bit. -/
  | addw (i : Issue) (rd ra rb : Fin 32) (f : Bool)
  /-- SUBW. R158, 32-bit. -/
  | subw (i : Issue) (rd ra rb : Fin 32) (f : Bool)
  /-- ANDW. R158, 32-bit. -/
  | andw (i : Issue) (rd ra rb : Fin 32) (f : Bool)
  /-- ORW. R158, 32-bit. -/
  | orw (i : Issue) (rd ra rb : Fin 32) (f : Bool)
  /-- XORW. R158, 32-bit. -/
  | xorw (i : Issue) (rd ra rb : Fin 32) (f : Bool)
  /-- ANDNW. R158, 32-bit. -/
  | andnw (i : Issue) (rd ra rb : Fin 32) (f : Bool)
  /-- SLLW. R158, 32-bit. -/
  | sllw (i : Issue) (rd ra rb : Fin 32) (f : Bool)
  /-- SRLW. R158, 32-bit. -/
  | srlw (i : Issue) (rd ra rb : Fin 32) (f : Bool)
  /-- SRAW. R158, 32-bit. -/
  | sraw (i : Issue) (rd ra rb : Fin 32) (f : Bool)
  /-- ROLW. R158, 32-bit. -/
  | rolw (i : Issue) (rd ra rb : Fin 32) (f : Bool)
  /-- RORW. R158, 32-bit. -/
  | rorw (i : Issue) (rd ra rb : Fin 32) (f : Bool)
  /-- MINW. R158, 32-bit. -/
  | minw (i : Issue) (rd ra rb : Fin 32) (f : Bool)
  /-- MAXW. R158, 32-bit. -/
  | maxw (i : Issue) (rd ra rb : Fin 32) (f : Bool)
  /-- MINUW. R158, 32-bit. -/
  | minuw (i : Issue) (rd ra rb : Fin 32) (f : Bool)
  /-- MAXUW. R158, 32-bit. -/
  | maxuw (i : Issue) (rd ra rb : Fin 32) (f : Bool)
  /-- NEGW. R158, 32-bit. -/
  | negw (i : Issue) (rd ra : Fin 32) (f : Bool)
  /-- CLZW. R158, 32-bit. -/
  | clzw (i : Issue) (rd ra : Fin 32) (f : Bool)
  /-- POPCW. R158, 32-bit. -/
  | popcw (i : Issue) (rd ra : Fin 32) (f : Bool)
  /-- BSWAPW. R158, 32-bit. -/
  | bswapw (i : Issue) (rd ra : Fin 32) (f : Bool)
  /-- ADCW. R158, 32-bit. -/
  | adcw (i : Issue) (rd ra rb : Fin 32) (f : Bool)
  /-- SBCW. R158, 32-bit. -/
  | sbcw (i : Issue) (rd ra rb : Fin 32) (f : Bool)
  /-- MUL. R158, R138. -/
  | mul (i : Issue) (rd ra rb : Fin 32) (f : Bool)
  /-- MULHS. R158, R138. -/
  | mulhs (i : Issue) (rd ra rb : Fin 32) (f : Bool)
  /-- MULHU. R158, R138. -/
  | mulhu (i : Issue) (rd ra rb : Fin 32) (f : Bool)
  /-- MULW. R158, R138. -/
  | mulw (i : Issue) (rd ra rb : Fin 32) (f : Bool)
  /-- DIV. R158, R138. -/
  | div (i : Issue) (rd ra rb : Fin 32) (f : Bool)
  /-- DIVU. R158, R138. -/
  | divu (i : Issue) (rd ra rb : Fin 32) (f : Bool)
  /-- REM. R158, R138. -/
  | rem (i : Issue) (rd ra rb : Fin 32) (f : Bool)
  /-- REMU. R158, R138. -/
  | remu (i : Issue) (rd ra rb : Fin 32) (f : Bool)
  /-- DIVW. R158, R138. -/
  | divw (i : Issue) (rd ra rb : Fin 32) (f : Bool)
  /-- DIVUW. R158, R138. -/
  | divuw (i : Issue) (rd ra rb : Fin 32) (f : Bool)
  /-- REMW. R158, R138. -/
  | remw (i : Issue) (rd ra rb : Fin 32) (f : Bool)
  /-- REMUW. R158, R138. -/
  | remuw (i : Issue) (rd ra rb : Fin 32) (f : Bool)
  /-- ADDI. R158. -/
  | addi (i : Issue) (rd ra : Fin 32) (imm : BitVec 14) (f : Bool)
  /-- ANDI. R158. -/
  | andi (i : Issue) (rd ra : Fin 32) (imm : BitVec 14) (f : Bool)
  /-- ORI. R158. -/
  | ori (i : Issue) (rd ra : Fin 32) (imm : BitVec 14) (f : Bool)
  /-- XORI. R158. -/
  | xori (i : Issue) (rd ra : Fin 32) (imm : BitVec 14) (f : Bool)
  /-- SLLI. R158. -/
  | slli (i : Issue) (rd ra : Fin 32) (imm : BitVec 14) (f : Bool)
  /-- SRLI. R158. -/
  | srli (i : Issue) (rd ra : Fin 32) (imm : BitVec 14) (f : Bool)
  /-- SRAI. R158. -/
  | srai (i : Issue) (rd ra : Fin 32) (imm : BitVec 14) (f : Bool)
  /-- RORI. R158. -/
  | rori (i : Issue) (rd ra : Fin 32) (imm : BitVec 14) (f : Bool)
  /-- MOVI. R158. -/
  | movi (i : Issue) (rd : Fin 32) (imm : BitVec 19) (f : Bool)
  /-- CSEL. R158. -/
  | csel (i : Issue) (rd ra rb : Fin 32) (cond : BitVec 4) (f : Bool)
  /-- MFS. R144. -/
  | mfs (i : Issue) (rd : Fin 32) (n : BitVec 8) (f : Bool)
  /-- MTS. R144. -/
  | mts (i : Issue) (n : BitVec 8) (ra : Fin 32)
  /-- LDB. R159. -/
  | ldb (i : Issue) (rd ra : Fin 32) (imm : BitVec 14)
  /-- LDBU. R159. -/
  | ldbu (i : Issue) (rd ra : Fin 32) (imm : BitVec 14)
  /-- LDH. R159. -/
  | ldh (i : Issue) (rd ra : Fin 32) (imm : BitVec 14)
  /-- LDHU. R159. -/
  | ldhu (i : Issue) (rd ra : Fin 32) (imm : BitVec 14)
  /-- LDW. R159. -/
  | ldw (i : Issue) (rd ra : Fin 32) (imm : BitVec 14)
  /-- LDWU. R159. -/
  | ldwu (i : Issue) (rd ra : Fin 32) (imm : BitVec 14)
  /-- LDD. R159. -/
  | ldd (i : Issue) (rd ra : Fin 32) (imm : BitVec 14)
  /-- STB. R159. -/
  | stb (i : Issue) (rd ra : Fin 32) (imm : BitVec 14)
  /-- STH. R159. -/
  | sth (i : Issue) (rd ra : Fin 32) (imm : BitVec 14)
  /-- STW. R159. -/
  | stw (i : Issue) (rd ra : Fin 32) (imm : BitVec 14)
  /-- STD. R159. -/
  | std (i : Issue) (rd ra : Fin 32) (imm : BitVec 14)
  /-- CUSTOM. R176 to R181. -/
  | custom (i : Issue) (k : Fin 16) (rd ra rb : Fin 32) (imm : BitVec 9) (f : Bool)
  /-- DONE. R162. -/
  | done (i : Issue) (status : BitVec 8)
  /-- HX. R163. -/
  | hx (i : Issue) (rd ra : Fin 32) (imm : BitVec 14)
  /-- PROBE. R164. -/
  | probe (i : Issue) (ra rb : Fin 32) (fn : BitVec 8)
  /-- PROBE_COMPLETE. R164, R430. The lookup's answer, or none within the bound. -/
  | probeComplete (core : Fin 1024) (handle : Fin 4) (late : Bool)
  /-- PRES. R164. -/
  | pres (i : Issue) (rd : Fin 32) (handle : Fin 4)
  /-- EMIT. R165. -/
  | emit (i : Issue) (rb : Fin 32) (word : Fin 8)
  /-- PARSE_LIMIT. R162. -/
  | parseLimit (core : Fin 1024)
  /-- LWAIT. R167. -/
  | lwait (i : Issue) (ra : Fin 32)
  /-- LWAITS. R167. -/
  | lwaits (i : Issue) (wait : BitVec 21)
  /-- END. R168. -/
  | endStep (i : Issue)
  /-- TISS. R169, R175. -/
  | tiss (i : Issue) (q : Fin 4) (ra rb : Fin 32)
  /-- MMA. The command at the front of its queue starts in cycle `start`. R171, R172. -/
  | mma (tile : Fin 144) (start : B8)
  /-- MMAK. The command at the front of its queue starts in cycle `start`. R171, R172. -/
  | mmak (tile : Fin 144) (start : B8)
  /-- ACLR. The command at the front of its queue starts in cycle `start`. R171, R172. -/
  | aclr (tile : Fin 144) (start : B8)
  /-- VADD. The command at the front of its queue starts in cycle `start`. R173. -/
  | vadd (tile : Fin 144) (start : B8)
  /-- VSUB. The command at the front of its queue starts in cycle `start`. R173. -/
  | vsub (tile : Fin 144) (start : B8)
  /-- VMUL. The command at the front of its queue starts in cycle `start`. R173. -/
  | vmul (tile : Fin 144) (start : B8)
  /-- VFMA. The command at the front of its queue starts in cycle `start`. R173. -/
  | vfma (tile : Fin 144) (start : B8)
  /-- VMIN. The command at the front of its queue starts in cycle `start`. R173. -/
  | vmin (tile : Fin 144) (start : B8)
  /-- VMAX. The command at the front of its queue starts in cycle `start`. R173. -/
  | vmax (tile : Fin 144) (start : B8)
  /-- VIADD. The command at the front of its queue starts in cycle `start`. R173. -/
  | viadd (tile : Fin 144) (start : B8)
  /-- VISUB. The command at the front of its queue starts in cycle `start`. R173. -/
  | visub (tile : Fin 144) (start : B8)
  /-- VIMUL. The command at the front of its queue starts in cycle `start`. R173. -/
  | vimul (tile : Fin 144) (start : B8)
  /-- VAND. The command at the front of its queue starts in cycle `start`. R173. -/
  | vand (tile : Fin 144) (start : B8)
  /-- VOR. The command at the front of its queue starts in cycle `start`. R173. -/
  | vor (tile : Fin 144) (start : B8)
  /-- VXOR. The command at the front of its queue starts in cycle `start`. R173. -/
  | vxor (tile : Fin 144) (start : B8)
  /-- VSLL. The command at the front of its queue starts in cycle `start`. R173. -/
  | vsll (tile : Fin 144) (start : B8)
  /-- VSRL. The command at the front of its queue starts in cycle `start`. R173. -/
  | vsrl (tile : Fin 144) (start : B8)
  /-- VSRA. The command at the front of its queue starts in cycle `start`. R173. -/
  | vsra (tile : Fin 144) (start : B8)
  /-- VIDIV. The command at the front of its queue starts in cycle `start`. R173. -/
  | vidiv (tile : Fin 144) (start : B8)
  /-- VIREM. The command at the front of its queue starts in cycle `start`. R173. -/
  | virem (tile : Fin 144) (start : B8)
  /-- VINEG. The command at the front of its queue starts in cycle `start`. R173. -/
  | vineg (tile : Fin 144) (start : B8)
  /-- VLD. The command at the front of its queue starts in cycle `start`. R173. -/
  | vld (tile : Fin 144) (start : B8)
  /-- VST. The command at the front of its queue starts in cycle `start`. R173. -/
  | vst (tile : Fin 144) (start : B8)
  /-- VACC. The command at the front of its queue starts in cycle `start`. R173. -/
  | vacc (tile : Fin 144) (start : B8)
  /-- VCVTI. The command at the front of its queue starts in cycle `start`. R173. -/
  | vcvti (tile : Fin 144) (start : B8)
  /-- VCVTF. The command at the front of its queue starts in cycle `start`. R173. -/
  | vcvtf (tile : Fin 144) (start : B8)
  /-- VQUANT. The command at the front of its queue starts in cycle `start`. R173. -/
  | vquant (tile : Fin 144) (start : B8)
  /-- EXP2. The command at the front of its queue starts in cycle `start`. R135, R173. -/
  | exp2 (tile : Fin 144) (start : B8)
  /-- LOG2. The command at the front of its queue starts in cycle `start`. R135, R173. -/
  | vlog2 (tile : Fin 144) (start : B8)
  /-- RCP. The command at the front of its queue starts in cycle `start`. R135, R173. -/
  | rcp (tile : Fin 144) (start : B8)
  /-- RSQRT. The command at the front of its queue starts in cycle `start`. R135, R173. -/
  | rsqrt (tile : Fin 144) (start : B8)
  /-- SQRT. The command at the front of its queue starts in cycle `start`. R135, R173. -/
  | sqrt (tile : Fin 144) (start : B8)
  /-- TANH. The command at the front of its queue starts in cycle `start`. R135, R173. -/
  | tanh (tile : Fin 144) (start : B8)
  /-- SIGMOID. The command at the front of its queue starts in cycle `start`. R135, R173. -/
  | sigmoid (tile : Fin 144) (start : B8)
  /-- VRSUM. The command at the front of its queue starts in cycle `start`. R173. -/
  | vrsum (tile : Fin 144) (start : B8)
  /-- VRMAX. The command at the front of its queue starts in cycle `start`. R173. -/
  | vrmax (tile : Fin 144) (start : B8)
  /-- SEND. The command at the front of its queue starts in cycle `start`. R79, R82, R174. -/
  | send (tile : Fin 144) (start : B8)
  /-- GATEWAY_READ. R174. -/
  | gatewayRead (tile : Fin 144) (start : B8)
  /-- GATEWAY_WRITE. R174. -/
  | gatewayWrite (tile : Fin 144) (start : B8)
  /-- GATEWAY_GATHER. R174, R240. -/
  | gatewayGather (tile : Fin 144) (start : B8)
  /-- FILL. R238, R242. A FILL issued by a device engine with the tag of R10, in the plot space of the owner in the tag. -/
  | fill (tag : BitVec 17) (addr len pattern : B8)
  /-- COPY. R238, R242. -/
  | copy (tag : BitVec 17) (dst src len : B8)
  /-- FILL_COMPLETE. R226, R242. -/
  | fillComplete (op : B4)
  /-- STACK_SCRUB_READ. R230 to R233. The scrub's next granule, or the one that an access reads; for each of its eight words the bad symbols found and the slice of the first. -/
  | stackScrubRead (stack : Fin 8) (access : Option B4) (bad : List (Nat × Nat))
  /-- REPAIR_MOVE_COMPLETE. R234. -/
  | repairMoveComplete (stack : Fin 8) (row : B4) (column : Bool)
  /-- REFRESH_BURST. R235. -/
  | refreshBurst (stack : Fin 8) (quad : Fin 8) (ns : B2)
  /-- STACK_FAILED. R246. -/
  | stackFailed (stack : Fin 8)
  /-- RESERVED_REBUILD_COMPLETE. R247. -/
  | reservedRebuildComplete (die : Fin 2)
  /-- PLOT_ZEROING_COMPLETE. R247. The lowest-numbered LOST plot of the die is zeroed. -/
  | plotZeroingComplete (die : Fin 2)
  /-- STACK_MOVE_COMPLETE. R248, R249. -/
  | stackMoveComplete (die : Fin 2)
  /-- ZAL_TRAINING_ATTEMPT. R251. -/
  | zalTrainingAttempt (port : Fin 8)
  /-- INIT. R262. -/
  | init (port : Fin 8) (seq : BitVec 12) (version : B1) (req rsp blk tok limit : B2) (bad : Bool)
  /-- LANE_MAP. R260, R262. -/
  | laneMap (port : Fin 8) (seq : BitVec 12) (map : BitVec 40) (bad : Bool)
  /-- MAP_SWITCH. R260. -/
  | mapSwitch (port : Fin 8) (seq : BitVec 12) (bad : Bool)
  /-- FLIT_RECEIVE. R252 to R258. A 512-byte flit; `destroyed` when a codeword of it could not be corrected. -/
  | flitReceive (port : Fin 8) (fecCorrected : Bool) (destroyed : Bool) (flit : Bytes)
  /-- LOOKUP. R275 to R277. The 32-byte request slot of the flit with that TXPOS. -/
  | lookup (port : Fin 8) (txPos : BitVec 12) (slot : Bytes)
  /-- REPLAY_TIMEOUT. R258. -/
  | replayTimeout (port : Fin 8)
  /-- ZAL_RETRAIN. R259. The lanes found good in each direction, and whether the retrain succeeds. -/
  | zalRetrain (port : Fin 8) (rxGood txGood : BitVec 12) (ok : Bool)
  /-- LANE_PREDICTED_FAILED. R260. -/
  | lanePredictedFailed (port : Fin 8) (lane : Fin 12)
  /-- LANE_TEST_PASS. R261. -/
  | laneTestPass (port : Fin 8) (lane : Fin 12)
  /-- READ. R267, R269. -/
  | read (port : Fin 8) (m : ZalReq)
  /-- WRITE. R267, R269. -/
  | write (port : Fin 8) (m : ZalReq)
  /-- TRANSLATE. R278. -/
  | translate (port : Fin 8) (m : ZalReq)
  /-- DF_SUBMIT. R286. -/
  | dfSubmit (port : Fin 8) (m : ZalReq)
  /-- ABORT. R281. -/
  | abort (port : Fin 8) (m : ZalReq)
  /-- ABORT_ANSWER. R281. -/
  | abortAnswer (port : Fin 8) (m : ZalReq)
  /-- FLUSH_ACK. R290. -/
  | flushAck (port : Fin 8) (m : ZalReq)
  /-- VERDICT. R214, R284. -/
  | verdict (port : Fin 8) (m : ZalReq)
  /-- ZAL_REQUEST_TIMEOUT. R280. -/
  | zalRequestTimeout (port : Fin 8) (tag : B2)
  /-- APERTURE_STAGED_REFRESH. R274. -/
  | apertureStagedRefresh (port : Fin 8)
  /-- DF_DESCRIPTOR_FETCH. R286. The next descriptor of an instance's ring, as read from host memory. -/
  | dfDescriptorFetch (stream : B2) (host : HostData)
  /-- DF_SCATTER. R287. A descriptor whose source is fetched is decrypted, decompressed and scattered. -/
  | dfScatter (op : B2)
  /-- BURST. R292. -/
  | burst (die : Fin 2) (slot : Fin 64)
  /-- CKP_TRIGGER. R299. -/
  | ckpTrigger (q : Req) (step at_ : B8)
  /-- SNAPSHOT. R299, R301. The checkpoint engine's next entry falls due. -/
  | snapshot (die : Fin 2)
  /-- WARNING_WINDOW_CHECK. R300. -/
  | warningWindowCheck
  /-- CKP_WARN. R300, R303. -/
  | ckpWarn (port : Fin 8) (code : B2)
  /-- BEGIN. R299, R301. BEGIN as the coordinator sends it. -/
  | begin (generation step : B8) (reason : B1)
  /-- SNAPSHOT_POINT. R301, R302. -/
  | snapshotPoint
  /-- CAPTURE_TIMEOUT. R301, R306. -/
  | captureTimeout
  /-- SHARD_WRITE. R303, R304. -/
  | shardWrite (port : Fin 8) (m : ZalReq)
  /-- SHARD_END. R303, R304, R313. -/
  | shardEnd (port : Fin 8) (m : ZalReq)
  /-- PARITY_CONTRIBUTION. R296, R305. One encrypted chunk of another member. -/
  | parityContribution (member : Fin 64) (chunk : B4) (data : Bytes) (crc : B8)
  /-- BUDDY_CHUNK. R305. -/
  | buddyChunk (member : Fin 64) (chunk : B4) (data : Bytes) (crc : B8)
  /-- PHASE_DONE. R305. Every member has reported that phase (1 CAPTURE to 5 PREPARED) done. -/
  | phaseDone (phase : B1)
  /-- COMMIT. R305, R308, R309. -/
  | commit (generation : B8)
  /-- PHASE_TIMEOUT. R306. -/
  | phaseTimeout
  /-- MEMBER_FAILURE. R311, R312. This member's own number stands for the loss of one of its stacks. -/
  | memberFailure (member : Fin 64)
  /-- COORDINATOR_FAILOVER. R309. Whether any surviving member holds a record of the generation. -/
  | coordinatorFailover (recordHeld : Bool)
  /-- RESTORE_READ. R303, R313. -/
  | restoreRead (port : Fin 8) (m : ZalReq)
  /-- JOB_RESUME. R313. -/
  | jobResume
  /-- CONFIG_REQUEST. R316 to R318. -/
  | configRequest (port : Fin 2) (write : Bool) (offset : B2) (byteEnables : BitVec 4) (value : B4)
  /-- PERST_ASSERT. R349. -/
  | perstAssert (port : Fin 2)
  /-- PERST_DEASSERT. R349. Width and speed the link trains to. -/
  | perstDeassert (port : Fin 2) (width speed : B1)
  /-- FLR. R349. -/
  | flr (port : Fin 2)
  /-- HEP_HEARTBEAT. R321, R345. -/
  | hepHeartbeat (port : Fin 2) (value : B4)
  /-- HEARTBEAT_TIMEOUT. R345. -/
  | heartbeatTimeout (port : Fin 2)
  /-- DRIVER_RETURN. R347. -/
  | driverReturn (port : Fin 2)
  /-- LC_NOW. R53. A read of `size` bytes at byte `offset` of LC_NOW. -/
  | lcNow (port : Fin 2) (offset size : B1)
  /-- INST_LC_NOW. R54. -/
  | instLcNow (port : Fin 2) (inst : B2) (offset size : B1)
  /-- LC_CLOCK_STATUS. R53. A write. -/
  | lcClockStatus (port : Fin 2) (value : B4)
  /-- PMC_OVF. R520. A write. -/
  | pmcOvf (port : Fin 2) (unit : B2) (value : B4)
  /-- TENANT_COUNTER_SLOT_READ. R526. An 8-byte read of bytes 0 to 7. -/
  | tenantCounterSlotRead (port : Fin 2) (inst : B2) (slot : Fin 64)
  /-- REQ_DOORBELL. R322, R353. -/
  | reqDoorbell (port : Fin 2) (mbx : B2) (posted : B4)
  /-- MBX_CTRL. R322, R352, R355. -/
  | mbxCtrl (port : Fin 2) (mbx : B2) (value : B4)
  /-- INST_CONTROL_RESET. R326, R338. -/
  | instControlReset (port : Fin 2) (inst : B2) (value : B4)
  /-- INSTANCE_RESET_COMPLETE. R340. -/
  | instanceResetComplete (inst : B2)
  /-- FREEZE_TIMEOUT. R341. -/
  | freezeTimeout (inst : B2)
  /-- REGISTER_WRITE. R319. BAR 0 or 2. -/
  | registerWrite (port : Fin 2) (bar : B1) (offset : B4) (size : B1) (value : B8)
  /-- BAR4_ACCESS. R327, R328. -/
  | bar4Access (port : Fin 2) (write : Bool) (offset : B8) (len : B4) (data : Bytes)
  /-- HOST_COMPLETION. R331, R333. `bytes` of the request's data arrive. -/
  | hostCompletion (port : Fin 2) (tag : B2) (answer : HostData) (bytes : B4)
  /-- COMPLETION_TIMEOUT. R332. -/
  | completionTimeout (port : Fin 2) (tag : B2)
  /-- TAG_QUARANTINE_EXPIRY. R333. -/
  | tagQuarantineExpiry (port : Fin 2) (tag : B2)
  /-- RESPONSE_WRITE. R354. CONSUMED as read from the ring header. -/
  | responseWrite (mbx : B2) (consumed : B4)
  /-- CONTEXT_SWAP. R386. -/
  | contextSwap (ctx : B4) (host : HostData)
  /-- EXCEPTION_DELIVERY. R387, R435. The oldest frame of the die's exception path. -/
  | exceptionDelivery (die : Fin 2) (consumed : B8)
  /-- FW_SWITCH_COMPLETE. R392. -/
  | fwSwitchComplete
  /-- FW_SWITCH_TIMEOUT. R392. -/
  | fwSwitchTimeout
  /-- ACTIVATE_WHEN_CLEAR_START. R393. -/
  | activateWhenClearStart
  /-- HELLO. R358. -/
  | hello (q : Req) (hostLevel : B1) (driverVersion : B4) (features : BitVec 256)
  /-- GOODBYE. R373. -/
  | goodbye (q : Req)
  /-- DEVICE_INFO. R373. -/
  | deviceInfo (q : Req)
  /-- READY_QUERY. R373. -/
  | readyQuery (q : Req)
  /-- OPERATOR_TRANSFER. R366. -/
  | operatorTransfer (q : Req) (port : B1)
  /-- VIOLATION_READ. R31, R373. -/
  | violationRead (q : Req) (scope flags : B1)
  /-- FAULT_LOG_READ. R373. -/
  | faultLogRead (q : Req) (first count : B4) (out : BufRef)
  /-- FAULT_LOG_REMOVE. R91, R373. -/
  | faultLogRemove (q : Req) (entry : B4)
  /-- EVENT_CONFIG. R364. The 32 opcode fields of the body. -/
  | eventConfig (q : Req) (count : B1) (events : List Nat)
  /-- IALDO_ABORT. R363. -/
  | ialdoAbort (q : Req) (token : B4)
  /-- MAILBOX_QUERY. R373. -/
  | mailboxQuery (q : Req) (mailbox : B2)
  /-- HEP_COUNTS_CLEAR. R373. -/
  | hepCountsClear (q : Req) (port mask : B1)
  /-- LAUNCH_ARM. R371, R55 to R60. -/
  | launchArm (q : Req) (changeover : B8) (kind unit slot : B1) (table : BufRef) (host : HostData)
  /-- LAUNCH_COUNTS. R62, R373. -/
  | launchCounts (q : Req) (kind unit slot flags : B1)
  /-- PARTITION_CREATE. R368. -/
  | partitionCreate (q : Req) (part policy : B1) (tracker : B4) (resident : B2) (rate keySlots pageEntries : B4)
  /-- PARTITION_DELETE. R374. -/
  | partitionDelete (q : Req) (part : B1)
  /-- PARTITION_QUERY. R374. -/
  | partitionQuery (q : Req) (part : B1)
  /-- QUOTA_SET. R374, R24. -/
  | quotaSet (q : Req) (part kind : B1) (value : B4)
  /-- PARTITION_RESET. R516. -/
  | partitionReset (q : Req) (part : B1)
  /-- EXCEPTION_RATE_SET. R388. -/
  | exceptionRateSet (q : Req) (owner : B1) (rate : B4)
  /-- DECODE_TABLE_LOAD. R176, R374. -/
  | decodeTableLoad (q : Req) (owner : B1) (table : BufRef) (host : HostData)
  /-- INSTANCE_CREATE. R335, R369. -/
  | instanceCreate (q : Req) (inst : B2) (part port : B1) (pasid : B4) (vectorBase : B2) (vectorCount : B1)
  /-- INSTANCE_DESTROY. R335. -/
  | instanceDestroy (q : Req) (inst : B2)
  /-- INSTANCE_RESET. R338. -/
  | instanceReset (q : Req) (inst : B2)
  /-- INSTANCE_QUERY. R375. -/
  | instanceQuery (q : Req) (inst : B2) (rings : BufRef)
  /-- INSTANCE_FREEZE. R341. -/
  | instanceFreeze (q : Req) (inst : B2)
  /-- INSTANCE_SAVE. R342. -/
  | instanceSave (q : Req) (inst : B2) (out : BufRef)
  /-- INSTANCE_RESTORE. R343. -/
  | instanceRestore (q : Req) (inst : B2) (part port : B1) (pasid : B4) (vectorBase : B2) (vectorCount : B1) (blob : BufRef) (host : HostData)
  /-- INSTANCE_THAW. R343. -/
  | instanceThaw (q : Req) (inst : B2)
  /-- WINDOW_WRITE. R327. -/
  | windowWrite (q : Req) (port : B1) (entry : B2) (barOffset length target : B8) (owner perm : B1)
  /-- WINDOW_COMMIT. R327. -/
  | windowCommit (q : Req) (port : B1)
  /-- DIRTY_LOG_START. R344. -/
  | dirtyLogStart (q : Req) (inst : B2) (count : B1) (ranges : BufRef) (host : HostData)
  /-- DIRTY_LOG_READ. R344. -/
  | dirtyLogRead (q : Req) (inst : B2) (range : B1) (out : BufRef)
  /-- DIRTY_LOG_STOP. R344. -/
  | dirtyLogStop (q : Req) (inst : B2)
  /-- PLOT_ASSIGN. R370, R225. -/
  | plotAssign (q : Req) (owner mode die : B1) (count : B4) (firstSlot : B2) (list : BufRef) (host : HostData)
  /-- PLOT_RELEASE. R225, R376. -/
  | plotRelease (q : Req) (owner : B1) (slot count : B2)
  /-- PLOT_QUERY. R376. -/
  | plotQuery (q : Req) (owner : B1) (firstSlot count : B2) (out : BufRef)
  /-- MEM_FILL. R376, R242. -/
  | memFill (q : Req) (owner flags : B1) (addr len pattern : B8)
  /-- MEM_COPY. R376, R242. -/
  | memCopy (q : Req) (owner : B1) (dst src len : B8)
  /-- STACK_REMOVE. R248. -/
  | stackRemove (q : Req) (stack : B1) (rate : B4)
  /-- STACK_RESTORE. R249. -/
  | stackRestore (q : Req) (stack : B1) (rate : B4)
  /-- MEM_COUNTS_READ. R376. -/
  | memCountsRead (q : Req) (stack flags : B1)
  /-- MEM_ERROR_LOG_READ. R376. -/
  | memErrorLogRead (q : Req) (stack : B1) (count : B2) (first : B4) (out : BufRef)
  /-- SCRUB_SET. R376, R230. -/
  | scrubSet (q : Req) (stack : B1) (hours : B4)
  /-- PLOT_CLEAR_SET. R376, R243. -/
  | plotClearSet (q : Req) (slot : B2) (clear : B1)
  /-- PLOT_QUOTA_SET. R376. -/
  | plotQuotaSet (q : Req) (part : B1) (quota : B4)
  /-- GROUP_ASSIGN. R93, R377. -/
  | groupAssign (q : Req) (part group : B1)
  /-- GROUP_RELEASE. R377, R94. -/
  | groupRelease (q : Req) (group : B1)
  /-- GROUP_QUERY. R377. -/
  | groupQuery (q : Req)
  /-- MODEL_LOAD. R187. -/
  | modelLoad (q : Req) (addr : B8)
  /-- MODEL_UNLOAD. R188. -/
  | modelUnload (q : Req) (model : B4)
  /-- SESSION_OPEN. R194, R195. The 128-byte session descriptor. -/
  | sessionOpen (q : Req) (descriptor : Bytes)
  /-- SESSION_FEED. R195, R377. -/
  | sessionFeed (q : Req) (session count : B4) (addr : B8)
  /-- SESSION_CLOSE. R199. -/
  | sessionClose (q : Req) (session : B4)
  /-- SESSION_QUERY. R377. -/
  | sessionQuery (q : Req) (session : B4)
  /-- SLIP_READ. R111, R377. -/
  | slipRead (q : Req) (session : B4) (flags : B1) (out : BufRef)
  /-- STREAM_RESERVE_SET. R205. -/
  | streamReserveSet (q : Req) (die : B1) (reserve : B4)
  /-- SESSION_REPLACE. R95. -/
  | sessionReplace (q : Req) (session : B4) (placement : B2)
  /-- ZAL_PORT_BIND. R263, R378. -/
  | zalPortBind (q : Req) (port owner : B1)
  /-- ZAL_PORT_ENABLE. R378. -/
  | zalPortEnable (q : Req) (port enable : B1)
  /-- ZAL_TIMEOUT_SET. R280. -/
  | zalTimeoutSet (q : Req) (port : B1) (micros : B4)
  /-- ZAL_APERTURE_ALLOT. R378. -/
  | zalApertureAllot (q : Req) (port : B1) (first count : B2)
  /-- ZAL_APERTURE_WRITE. R271, R273. The 32-byte entry. -/
  | zalApertureWrite (q : Req) (port : B1) (entry : B2) (data : Bytes)
  /-- ZAL_APERTURE_COMMIT. R273. -/
  | zalApertureCommit (q : Req) (port : B1)
  /-- ZAL_PAGE_MAP. R278. The 16-byte entry. -/
  | zalPageMap (q : Req) (port : B1) (data : Bytes)
  /-- ZAL_PAGE_UNMAP. R279. -/
  | zalPageUnmap (q : Req) (port space : B1) (va : B8)
  /-- ZAL_PAGE_QUOTA_SET. R378. -/
  | zalPageQuotaSet (q : Req) (part : B1) (entries : B4)
  /-- ZAL_COUNTS_CLEAR. R378. -/
  | zalCountsClear (q : Req) (port mask : B1)
  /-- DF_STREAM_OPEN. R285, R378. -/
  | dfStreamOpen (q : Req) (submitter port : B1) (inst : B2) (doorbell log2 vector flags : B1) (sqAddr cqAddr stagingBase stagingLength : B8) (ltDie ltSlot : B1)
  /-- DF_STREAM_CLOSE. R378. -/
  | dfStreamClose (q : Req) (stream : B2)
  /-- DF_ABORT. R291, R378. -/
  | dfAbort (q : Req) (stream : B2) (index : B4)
  /-- DF_DOORBELL. R291. -/
  | dfDoorbell (port : Fin 2) (inst : B2) (doorbell : Fin 32) (posted : B4)
  /-- NAMESPACE_CREATE. R403. -/
  | namespaceCreate (q : Req) (nsid : B4) (owner backing port flags : B1) (source : B4) (target keySlot : B2) (base size : B8)
  /-- NAMESPACE_DELETE. R379. -/
  | namespaceDelete (q : Req) (nsid : B4)
  /-- NAMESPACE_ATTACH. R379. -/
  | namespaceAttach (q : Req) (nsid : B4) (inst : B2)
  /-- NAMESPACE_DETACH. R379. -/
  | namespaceDetach (q : Req) (nsid : B4) (inst : B2)
  /-- FABRIC_TARGET_ADD. R379. -/
  | fabricTargetAdd (q : Req) (port flags : B1) (ownerEntry egressQueue : B2) (dscp : B1) (remoteIp localIp : B16) (nextHopMac : B8) (nqn : BufRef) (host : HostData)
  /-- STORAGE_POWER_POLICY. R379. -/
  | storagePowerPolicy (q : Req) (pipeline deepest : B1)
  /-- STORAGE_QUERY. R379. -/
  | storageQuery (q : Req) (kind pipeline : B1) (nsid : B4)
  /-- BULK_QUEUE_CREATE. R407. -/
  | bulkQueueCreate (q : Req) (doorbell log2 vector : B1) (sqAddr cqAddr : B8)
  /-- BULK_QUEUE_DELETE. R409. -/
  | bulkQueueDelete (q : Req) (doorbell : B1)
  /-- SETTINGS. R418. ETH_PORT_CONFIG with OP 0x01. -/
  | settings (q : Req) (port mode flags pfcClasses : B1) (maxFrame : B2)
  /-- OWNER_WRITE. R418, R419. ETH_PORT_CONFIG with OP 0x02. The MAC as its six bytes spell a little-endian number; VALID is bit 12 of `vid`. -/
  | ownerWrite (q : Req) (port : B1) (entry : B2) (mac : B8) (vid : B2) (owner flags : B1)
  /-- OWNER_CLEAR. R418. ETH_PORT_CONFIG with OP 0x03. -/
  | ownerClear (q : Req) (port : B1) (entry : B2)
  /-- COUNTS_CLEAR. R418. ETH_PORT_CONFIG with OP 0x04. -/
  | countsClear (q : Req) (port : B1)
  /-- PRIVET_PROGRAM_LOAD. R422. -/
  | privetProgramLoad (q : Req) (program : BufRef) (host : HostData)
  /-- PRIVET_SHARE_SET. R421. -/
  | privetShareSet (q : Req) (owner : B1) (clusters : B8) (base size : B1) (cacheLimit : B4)
  /-- TABLE_CREATE. R428. -/
  | tableCreate (q : Req) (table owner kl log2 flags : B1) (base : B8) (seed1 seed2 : B4)
  /-- TABLE_UPDATE. R432. -/
  | tableUpdate (q : Req) (table : B1) (count : B4) (records : BufRef) (host : HostData)
  /-- TABLE_DELETE. R428. -/
  | tableDelete (q : Req) (table : B1)
  /-- RING_CREATE. R436. -/
  | ringCreate (q : Req) (kind log2 doorbell vector : B1) (sqAddr cqAddr : B8)
  /-- RING_DELETE. R436. -/
  | ringDelete (q : Req) (ring : B2)
  /-- EXCEPTION_RING_SET. R435. -/
  | exceptionRingSet (q : Req) (ring : B2) (log2 : B1) (addr slots : B8)
  /-- RDMA_QP_CREATE. R442. -/
  | rdmaQpCreate (q : Req) (port flags mtu retry : B1) (entry queue : B2) (localIp remoteIp : B16) (mac : B8) (dscp : B1) (remoteQpn : B4) (timeout : B1) (startPsn : B4) (windowBase windowLength : B8) (expectedPsn : B4)
  /-- RDMA_QP_DESTROY. R442. -/
  | rdmaQpDestroy (q : Req) (qpn : B4)
  /-- TM_QUEUE_CONFIG. R445. -/
  | tmQueueConfig (q : Req) (queue : B2) (owner port cls flags : B1) (weight : B2) (limit : B4)
  /-- TM_POLICER_SET. R452. -/
  | tmPolicerSet (q : Req) (policer : B2) (owner flags source : B1) (cir pir cbs pbs : B4) (yellow red : B8)
  /-- TM_SHAPER_SET. R449. -/
  | tmShaperSet (q : Req) (queue : B2) (flags : B1) (cir pir cbs pbs : B4)
  /-- TM_OVERHEAD_SET. R444. -/
  | tmOverheadSet (q : Req) (port overhead : B1)
  /-- TM_COUNTS_READ. R458. -/
  | tmCountsRead (q : Req) (kind : B1) (index : B2)
  /-- GATE_LIST_ARM. R457. -/
  | gateListArm (q : Req) (port bank : B1) (count : B2) (cycleTime changeover : B8) (list : BufRef) (host : HostData)
  /-- PARTITION_KEY_INIT. R478. -/
  | partitionKeyInit (q : Req) (part : B1)
  /-- ESTABLISH. R478, R479. KEY_IMPORT with OP 0x01. -/
  | establish (q : Req) (slot : B2) (len : B4) (data : BufRef) (host : HostData)
  /-- WRAPPED. R479 to R481. KEY_IMPORT with OP 0x02. -/
  | wrapped (q : Req) (slot : B2) (len : B4) (data : BufRef) (host : HostData)
  /-- KEY_DESTROY. R483. -/
  | keyDestroy (q : Req) (slot : B2)
  /-- KEY_SLOT_QUERY. R483. -/
  | keySlotQuery (q : Req) (first count : B2) (out : BufRef)
  /-- KEY_SLOT_QUOTA_SET. R476. -/
  | keySlotQuotaSet (q : Req) (part : B1) (slots : B4)
  /-- ATTEST_QUOTE. R471. -/
  | attestQuote (q : Req) (kind part : B1) (nonce : Bytes) (out : BufRef)
  /-- QUOTE_SIGNING_COMPLETE. R473. -/
  | quoteSigningComplete
  /-- MEASUREMENT_READ. R470. -/
  | measurementRead (q : Req) (scope : B1) (first count : B4) (out : BufRef)
  /-- CKP_GROUP_CREATE. R381, R295. -/
  | ckpGroupCreate (q : Req) (g : CkpGroupBody)
  /-- CKP_GROUP_DELETE. R381. -/
  | ckpGroupDelete (q : Req) (groupId : B8)
  /-- CKP_CONFIG. R297, R381. -/
  | ckpConfig (q : Req) (count : B2) (ranges : BufRef) (host : HostData)
  /-- CKP_STATUS. R381. -/
  | ckpStatus (q : Req)
  /-- CKP_DIGEST. R310. -/
  | ckpDigest (q : Req) (generation : B8) (out : BufRef)
  /-- CKP_SPARE_ASSIGN. R313. The spare's 48-byte peer entry. -/
  | ckpSpareAssign (q : Req) (member : B1) (peer : Bytes)
  /-- CKP_STANDBY. R381. -/
  | ckpStandby (q : Req) (g : CkpGroupBody)
  /-- CKP_WARNING_SET. R300, R381. -/
  | ckpWarningSet (q : Req) (memory replays fec : B4) (flags : B1) (holdoff : B4)
  /-- POWER_QUERY. R508. -/
  | powerQuery (q : Req)
  /-- POWER_LEVEL_SET. R501. -/
  | powerLevelSet (q : Req) (level : B1)
  /-- POWER_CAP_SET. R502. -/
  | powerCapSet (q : Req) (watts : B4)
  /-- THERMAL_QUERY. R508. -/
  | thermalQuery (q : Req)
  /-- FW_STAGE. R390. -/
  | fwStage (q : Req) (image : BufRef) (host : HostData)
  /-- FW_ACTIVATE_LIVE. R391, R392. -/
  | fwActivateLive (q : Req) (flags : B1)
  /-- FW_ACTIVATE_RESET. R391. -/
  | fwActivateReset (q : Req) (flags : B1)
  /-- FW_QUERY. R382. -/
  | fwQuery (q : Req)
  /-- FW_DISCARD. R393. -/
  | fwDiscard (q : Req)
  /-- UNIT_OUT_OF_SERVICE. R535. -/
  | unitOutOfService (q : Req) (unit : B2)
  /-- BIST_RUN. R536. -/
  | bistRun (q : Req) (unit : B2) (kind patterns : B1)
  /-- BIST_COMPLETE. R537. What the test found. -/
  | bistComplete (unit : B2) (misr expected : B8) (failing : B2) (addrs : List Nat)
  /-- UNIT_RETURN. R538. -/
  | unitReturn (q : Req) (unit : B2)
  /-- TEST_QUERY. R538. -/
  | testQuery (q : Req) (unit : B2) (out : BufRef)
  /-- COUNTER_CONFIG. R525. -/
  | counterConfig (q : Req) (unit : B2) (counter event flags part : B1) (master mask : B2) (cls ctrl : B1) (lo hi value : B8) (slot : B1)
  /-- COUNTER_READ. R528. -/
  | counterRead (q : Req) (count : B2) (units out : BufRef) (host : HostData)
  /-- COUNTER_CAPTURE. R528. The oldest capture time set arrives. -/
  | counterCapture
  /-- TENANT_COUNTER_ACCESS. R382. -/
  | tenantCounterAccess (q : Req) (part allow : B1)
  /-- TELEMETRY_RING_SET. R533. -/
  | telemetryRingSet (q : Req) (addr : B8) (log2 vector : B1)
  /-- ERROR_LOG_READ. R530. -/
  | errorLogRead (q : Req) (first : B4) (count : B2) (out : BufRef)
  /-- ACCEL. R531, R532. The sampler's next entry is ACCEL and falls due. -/
  | accel (die : Fin 2)
  /-- ACCEL_REPLY. R532. -/
  | accelReply (port : Fin 8) (payload : Bytes)
  /-- ACCEL_TIMEOUT. R532. -/
  | accelTimeout (port : Fin 8)
  /-- SENSORS. R531. -/
  | sensors (die : Fin 2)
  /-- COUNTERS. R531. -/
  | counters (die : Fin 2)
  /-- TELEMETRY_RECORD_WRITE. R534. CONSUMED as read from the ring header. -/
  | telemetryRecordWrite (consumed : B8)
  /-- CREATE_IO_SQ. R400. -/
  | createIoSq (c : NvmeCmd) (qid size : B2) (pc : Bool) (prio : BitVec 2) (cqid : B2)
  /-- DELETE_IO_SQ. R398. -/
  | deleteIoSq (c : NvmeCmd) (qid : B2)
  /-- CREATE_IO_CQ. R398. -/
  | createIoCq (c : NvmeCmd) (qid size : B2) (pc ien : Bool) (vector : B2)
  /-- DELETE_IO_CQ. R398. -/
  | deleteIoCq (c : NvmeCmd) (qid : B2)
  /-- GET_LOG_PAGE. R398. -/
  | getLogPage (c : NvmeCmd) (lid : B1) (numd : B4) (offset : B8)
  /-- IDENTIFY. R398. -/
  | identify (c : NvmeCmd) (cns : B1)
  /-- NVME_ABORT. R411. -/
  | nvmeAbort (c : NvmeCmd) (sqid cid : B2)
  /-- SET_FEATURES. R399. -/
  | setFeatures (c : NvmeCmd) (fid : B1) (save : Bool) (dw11 : B4) (host : HostData)
  /-- GET_FEATURES. R399. -/
  | getFeatures (c : NvmeCmd) (fid : B1)
  /-- ASYNCHRONOUS_EVENT_REQUEST. R398. -/
  | asynchronousEventRequest (c : NvmeCmd)
  /-- NVME_FLUSH. R398. -/
  | nvmeFlush (c : NvmeCmd)
  /-- NVME_WRITE. R398. NLB counts blocks from 1. -/
  | nvmeWrite (c : NvmeCmd) (slba : B8) (nlb : B4) (fua : Bool)
  /-- NVME_READ. R398. -/
  | nvmeRead (c : NvmeCmd) (slba : B8) (nlb : B4)
  /-- WRITE_ZEROES. R398. -/
  | writeZeroes (c : NvmeCmd) (slba : B8) (nlb : B4)
  /-- DATASET_MANAGEMENT. R398. The range list, 16 bytes each. -/
  | datasetManagement (c : NvmeCmd) (deallocate : Bool) (count : B2) (host : HostData)
  /-- NVME_SQ_DOORBELL. R395. -/
  | nvmeSqDoorbell (port : Fin 2) (inst qid tail : B2)
  /-- NVME_CQ_DOORBELL. R395. -/
  | nvmeCqDoorbell (port : Fin 2) (inst qid head : B2)
  /-- CONTROLLER_ENABLE. R396. A write of CC with EN = 1 while EN is 0. -/
  | controllerEnable (port : Fin 2) (inst : B2) (cc : B4)
  /-- CONTROLLER_RESET. R396. A write of CC with EN = 0. -/
  | controllerReset (port : Fin 2) (inst : B2) (cc : B4)
  /-- SHUTDOWN_NOTIFICATION. R396. A write of CC with EN unchanged and SHN 1 or 2. -/
  | shutdownNotification (port : Fin 2) (inst : B2) (cc : B4)
  /-- BULK_DOORBELL. R407. -/
  | bulkDoorbell (port : Fin 2) (inst : B2) (doorbell : Fin 16) (posted : B4)
  /-- BULK_READ. R408. The next command of the queue, as read from host memory. -/
  | bulkRead (inst : B2) (doorbell : Fin 16) (c : BulkCmd)
  /-- BULK_WRITE. R408. -/
  | bulkWrite (inst : B2) (doorbell : Fin 16) (c : BulkCmd)
  /-- BULK_WRITE_ZEROES. R408. -/
  | bulkWriteZeroes (inst : B2) (doorbell : Fin 16) (c : BulkCmd)
  /-- BULK_FLUSH. R409. -/
  | bulkFlush (inst : B2) (doorbell : Fin 16) (c : BulkCmd)
  /-- BULK_FILL. R408. -/
  | bulkFill (inst : B2) (doorbell : Fin 16) (c : BulkCmd)
  /-- BULK_COPY. R408. -/
  | bulkCopy (inst : B2) (doorbell : Fin 16) (c : BulkCmd)
  /-- STORAGE_COMPLETION. R406. Result 0 OK, 1 uncorrectable block, 2 write fault, 3 device fault, with a read's bytes. -/
  | storageCompletion (op : B2) (result : B1) (data : Bytes)
  /-- BACKING_WAIT_TIMEOUT. R406. -/
  | backingWaitTimeout (op : B2)
  /-- BACKING_RECONNECT. R406. A root port or a target tries, and whether it succeeds. -/
  | backingReconnect (fabric : Bool) (index : B2) (up : Bool) (speed width : B1)
  /-- APST_TRANSITION. R413. -/
  | apstTransition (inst : B2)
  /-- PIPELINE_HOLD_EXPIRY. R414. -/
  | pipelineHoldExpiry (pipeline : Fin 4)
  /-- FRAME_RECEIVE. R416. A frame with its FCS; FEC codewords corrected and uncorrectable since the previous frame. -/
  | frameReceive (port : Fin 8) (frame : Bytes) (fecCorrected fecUncorrectable : B4)
  /-- PFC_REPEAT. R417. -/
  | pfcRepeat (port prio : Fin 8)
  /-- PFC_PAUSE_EXPIRY. R447. -/
  | pfcPauseExpiry (port prio : Fin 8)
  /-- FRAME_DISPATCH. R423. The frame goes to a core in that cycle of the core's clock. -/
  | frameDispatch (port : Fin 8) (cycle : B8)
  /-- FRAME_RELEASE. R425, R427. -/
  | frameRelease (port : Fin 8)
  /-- ROCE_RECEIVE. R441. The oldest frame handed to the engine. -/
  | roceReceive (port : Fin 8)
  /-- ROCE_ACK_TIMEOUT. R441. -/
  | roceAckTimeout (qpn : B4)
  /-- ROCE_RATE_INCREASE. R441. -/
  | roceRateIncrease (qpn : B4)
  /-- PACKET_DOORBELL. R436. For an RX ring, the post entries as read from host memory. -/
  | packetDoorbell (port : Fin 2) (inst : B2) (doorbell : Fin 64) (posted : B4) (host : HostData)
  /-- TX_DESCRIPTOR. R439. The next descriptor of the ring and the frame it names, as read from host memory. -/
  | txDescriptor (ring : B2) (descriptor frame : HostData)
  /-- FRAME_TRANSMIT. R447. -/
  | frameTransmit (port : Fin 8)
  /-- BUCKET_REFILL. R450. -/
  | bucketRefill
  /-- GATE_ENTRY_CHANGE. R455. -/
  | gateEntryChange (port : Fin 8)
  /-- GATE_CHANGEOVER. R457. The next entry of the port's Launch Table falls due. -/
  | gateChangeover (port : Fin 8)
  /-- ALARM. R493. 0 rail voltage, 1 input, 2 root PLL, 3 clock edges, 4 temperature, 5 tamper loop, 6 glitch. -/
  | alarm (source : Fin 7)
  /-- ALARM_CLEAR. R495. -/
  | alarmClear
  /-- ENTROPY_TEST_FAIL. R475. -/
  | entropyTestFail (die : Fin 2)
  /-- ENTROPY_WAIT_TIMEOUT. R475. The oldest draw that waits. -/
  | entropyWaitTimeout
  /-- MASKING_DRBG_RESEED. R492. 0 to 31 the cipher engines, 32 to 39 the inline pipes. -/
  | maskingDrbgReseed (engine : Fin 40)
  /-- DOE_DISCOVERY. R474. -/
  | doeDiscovery (port : Fin 2) (index : B1)
  /-- DOE_ATTESTATION. R474. The 64-byte body of R471. -/
  | doeAttestation (port : Fin 2) (body : Bytes)
  /-- SET_ENDPOINT_ID. R555. -/
  | setEndpointId (bus : Fin 2) (eid : B1)
  /-- PLDM_REQUEST. R556, R557. A request of that PLDM type; of type 2, the reading of that sensor. -/
  | pldmRequest (bus : Fin 2) (type : B1) (sensor : B2)
  /-- PLDM_FIRMWARE_UPDATE. R556. None: an update is started; else the image it transfers. -/
  | pldmFirmwareUpdate (bus : Fin 2) (image : Option Bytes)
  /-- BYPASS. R539. -/
  | bypass (die : Fin 2)
  /-- IDCODE. R539. -/
  | idcode (die : Fin 2)
  /-- SAMPLE_PRELOAD. R539. The bits shifted in, and the pins sampled. -/
  | samplePreload (die : Fin 2) (bits pins : List Bool)
  /-- EXTEST. R539. -/
  | extest (die : Fin 2)
  /-- CLAMP. R539. -/
  | clamp (die : Fin 2)
  /-- HIGHZ. R539. -/
  | highz (die : Fin 2)
  /-- ENTROPY_SOURCE_RESTORED. R475. -/
  | entropySourceRestored (die : Fin 2)
  /-- MODEL_LOAD_COMPLETE. R187, R188. -/
  | modelLoadComplete (op : B4)
  /-- SESSION_LOAD_COMPLETE. R195. -/
  | sessionLoadComplete (session : B4)
  /-- FW_STAGE_COMPLETE. R390. -/
  | fwStageComplete (op : B4)
  /-- CLOSE_DELIVERY_TIMEOUT. R199. -/
  | closeDeliveryTimeout (session : B4)
  /-- ZAL_TAG_REUSE_EXPIRY. R280. -/
  | zalTagReuseExpiry (port : Fin 8) (tag : B2)
  /-- ZAL_LINK_UP. R251. The lane maps that training picked. -/
  | zalLinkUp (port : Fin 8) (rxMap txMap : BitVec 40)
  /-- ETH_LINK_UP. R418. -/
  | ethLinkUp (port : Fin 8)
  /-- STORAGE_LINK_DOWN. R406. -/
  | storageLinkDown (port : Fin 4)
  /-- FABRIC_TARGET_TIMEOUT. R379. -/
  | fabricTargetTimeout (target : B2)
  /-- COPY_COMPLETE. R242. -/
  | copyComplete (op : B4)
  deriving DecidableEq, Repr

end Sys2Proof
end

