-- ==== Sys2Proof/Config.lean ====
section
/-! DEFINITION. What the spec leaves open, as opaque constants with no body: nothing can prove a value of one. -/

namespace Sys2Proof.Config

/-- Free value number `n` (the spec gives no value); the model counts them in `State.free`. -/
opaque freeValue : Nat → Nat
/-- Which way an open choice number `n` goes (R17, R20, R486). -/
opaque choice : Nat → Nat
/-- Bytes of draw number `n` from the entropy source (R475). -/
opaque entropy : Nat → Bytes
/-- Bytes that a plot garbled by key change number `n` reads at an offset (R245). -/
opaque garbage : Nat → Nat → Byte

/-- SHA-256 (FIPS 180-4), which the spec names and does not define. -/
opaque sha256 : Bytes → Bytes
/-- AES-256 encryption of one block under a key (R478). -/
opaque aesBlock : Bytes → Bytes → Bytes
/-- AES-KW unwrap (RFC 3394): key, wrapped bytes; none where the integrity check fails (R480). -/
opaque aesKwUnwrap : Bytes → Bytes → Option Bytes
/-- AES-256-GCM sealing: key, IV, AAD, plaintext; ciphertext and tag (R342, R485). -/
opaque gcmSeal : Bytes → Bytes → Bytes → Bytes → Bytes
/-- AES-256-GCM opening: key, IV, AAD, ciphertext and tag; none on a tag mismatch (R343). -/
opaque gcmOpen : Bytes → Bytes → Bytes → Bytes → Option Bytes
/-- XTS-AES encryption: key, data unit number, plaintext (R243, R298, R404). -/
opaque xtsEncrypt : Bytes → Nat → Bytes → Bytes
/-- XTS-AES decryption: key, data unit number, ciphertext (R287, R404). -/
opaque xtsDecrypt : Bytes → Nat → Bytes → Bytes
/-- ML-KEM-1024 key generation from a draw: encapsulation key and decapsulation key (R478). -/
opaque mlKemKeyGen : Nat → Bytes × Bytes
/-- ML-KEM-1024 decapsulation: decapsulation key, ciphertext (R478). -/
opaque mlKemDecaps : Bytes → Bytes → Bytes
/-- The identity public key of the module (R467). -/
opaque identityKey : Bytes
/-- The identity signature over bytes (R467). -/
opaque identitySign : Bytes → Bytes
/-- SLH-DSA-SHA2-256s verification: public key, message, signature (R389, R390). -/
opaque slhVerify : Bytes → Bytes → Bytes → Bool
/-- The endorsement record's key and signature, bytes 48 to 29,903 (R467). -/
opaque endorsement : Bytes
/-- CTR_DRBG output: seed, number of the generate request (R210). -/
opaque drbg : Bytes → Nat → Bytes
/-- Zstandard decompression of a frame (R287); none where it is malformed. -/
opaque zstd : Bytes → Option Bytes
/-- LZ4 decompression of a frame (R287); none where it is malformed. -/
opaque lz4 : Bytes → Option Bytes
/-- Flow-cache set of a table's key, 0 to 16,383 (R431 names the sets, not the choice). -/
opaque cacheSet : Nat → Bytes → Nat
/-- Result of a special function: operation, flush-to-zero, operand (R135, R136 publish a bound, not the value). -/
opaque special : Nat → Bool → BitVec 32 → BitVec 32
/-- Place, in block order, of block (k, column) of a stationary block of a weight format (R113 names the order only). -/
opaque stationaryBlock : Nat → Nat → Nat → Nat
/-- Where the tree of VRSUM splits node `n` (R173 says a fixed tree order and does not give it). -/
opaque treeSplit : Nat → Nat
/-- Place of lane `n` among the leaves of that tree. -/
opaque treeLeaf : Nat → Nat
/-- Quotient and remainder stand-ins where the spec gives no result: operation, operands. -/
opaque openResult : Nat → Nat → Nat → Nat
/-- Value of a configuration-space byte that the PCIe specification gives and this spec does not (R317). -/
opaque configByte : Nat → Nat → Nat
/-- Value of a byte that the NVMe specification requires and this spec does not give: structure (1 Identify
Controller, 2 SMART log, 3 namespace descriptor), instance or NSID, offset (R394, R398). -/
opaque nvmeByte : Nat → Nat → Nat → Byte
/-- CODE of a device error log record or of a fault-log entry (R373, R530 leave it to the unit): unit, class, cause. -/
opaque errorCode : Nat → Nat → Nat → Nat
/-- DRAM row of a stack's granule (R233 names rows and does not place them). -/
opaque dramRow : Nat → Nat
/-- First granule of a DRAM row. -/
opaque dramRowFirst : Nat → Nat
/-- Bank of a granule in its DRAM dies. -/
opaque dramBank : Nat → Nat
/-- Column of a word: granule, word. -/
opaque dramColumn : Nat → Nat → Nat
/-- DRAM die, 0 to 15, of a channel of a quad (R217): quad, channel 0 to 3. -/
opaque dramLayer : Nat → Nat → Nat
/-- A frame whose checksum is to be inserted where none can stand: kind 0 IPv4 or 1 TCP or UDP, offsets, frame (R439). -/
opaque openFrame : Nat → Nat → Nat → Bytes → Bytes
/-- Manufacture date in the FRU data (R559). -/
opaque manufactureDate : Nat

end Sys2Proof.Config
end

