-- ==== Sys2Proof/Machine/Table.lean ====
section
/-! DEFINITION. Sparse tables of numbered resources and byte memory, as plain data in canonical order. -/

namespace Sys2Proof.Machine

/-- A sparse table of numbered resources: pairs in rising order of the number, no number twice. -/
abbrev Tbl (α : Type) := List (Nat × α)

/-- The entry numbered `k`. -/
def Tbl.get? {α : Type} : Tbl α → Nat → Option α
  | [], _ => none
  | (j, a) :: t, k => if j = k then some a else Tbl.get? t k

/-- The entry numbered `k`, or `d` where the table lists none. -/
def Tbl.getD {α : Type} (t : Tbl α) (k : Nat) (d : α) : α := (Tbl.get? t k).getD d

/-- The table with entry `k` set. -/
def Tbl.set {α : Type} : Tbl α → Nat → α → Tbl α
  | [], k, a => [(k, a)]
  | (j, b) :: t, k, a =>
    if k < j then (k, a) :: (j, b) :: t
    else if k = j then (k, a) :: t
    else (j, b) :: Tbl.set t k a

/-- The table without entry `k`. -/
def Tbl.erase {α : Type} : Tbl α → Nat → Tbl α
  | [], _ => []
  | (j, b) :: t, k => if j = k then Tbl.erase t k else (j, b) :: Tbl.erase t k

/-- Entry `k` changed by `f`, where the table lists it. -/
def Tbl.modify {α : Type} (t : Tbl α) (k : Nat) (f : α → α) : Tbl α :=
  match Tbl.get? t k with
  | some a => Tbl.set t k (f a)
  | none => t

/-- Every entry changed by `f`. -/
def Tbl.mapV {α : Type} (t : Tbl α) (f : Nat → α → α) : Tbl α := t.map fun p => (p.1, f p.1 p.2)

/-- The entries that satisfy `p`. -/
def Tbl.keep {α : Type} (t : Tbl α) (p : Nat → α → Bool) : Tbl α := t.filter fun q => p q.1 q.2

/-- How many entries satisfy `p`. -/
def Tbl.count {α : Type} (t : Tbl α) (p : Nat → α → Bool) : Nat := (Tbl.keep t p).length

/-- Whether some entry satisfies `p`. -/
def Tbl.any {α : Type} (t : Tbl α) (p : Nat → α → Bool) : Bool := List.any t fun q => p q.1 q.2

/-- The numbers below `n`, from `k` up, that the table does not list, first one. -/
def Tbl.firstFree {α : Type} (t : Tbl α) : Nat → Nat → Option Nat
  | 0, _ => none
  | n + 1, k => if (Tbl.get? t k).isSome then Tbl.firstFree t n (k + 1) else some k

/-- An element put into a list that rises by `key`, before the equal ones' end. -/
def insertBy {α : Type} (key : α → Nat) (a : α) : List α → List α
  | [] => [a]
  | b :: l => if key a < key b then a :: b :: l else b :: insertBy key a l
/-- A list sorted by `key`, equal elements in their order. -/
def sortBy {α : Type} (key : α → Nat) (l : List α) : List α := l.foldl (fun acc a => insertBy key a acc) []

/-- Byte memory: address and byte pairs, addresses rising, no byte equal to the zero that an unlisted
address reads as (R226, R515: memory is zeroed before use). -/
abbrev Mem := List Host.Cell

/-- The byte at an address; an unlisted address reads as zero. -/
def Mem.read : Mem → Nat → Byte
  | [], _ => 0
  | (j, b) :: t, k => if j = k then b else Mem.read t k

/-- Memory with one byte written; a zero removes the entry, so equal memories are equal lists. -/
def Mem.write : Mem → Nat → Byte → Mem
  | [], k, b => if b = 0 then [] else [(k, b)]
  | (j, c) :: t, k, b =>
    if k < j then (if b = 0 then (j, c) :: t else (k, b) :: (j, c) :: t)
    else if k = j then (if b = 0 then t else (k, b) :: t)
    else (j, c) :: Mem.write t k b

/-- `n` bytes from an address up. -/
def Mem.readN (m : Mem) (a : Nat) : Nat → Bytes
  | 0 => []
  | n + 1 => Mem.read m a :: Mem.readN m (a + 1) n

/-- Memory with bytes written from an address up. -/
def Mem.writeN (m : Mem) (a : Nat) : Bytes → Mem
  | [] => m
  | b :: bs => Mem.writeN (Mem.write m a b) (a + 1) bs

/-- Memory with every byte of `[lo, lo + n)` zero. -/
def Mem.zeroRange (m : Mem) (lo n : Nat) : Mem := m.filter fun c => decide (c.1 < lo ∨ lo + n ≤ c.1)

/-- Every listed address is above `lo`, addresses rise, no listed byte is zero. -/
def Mem.wfFrom : Nat → Mem → Bool
  | _, [] => true
  | lo, (j, b) :: t => decide (lo ≤ j) && decide (b ≠ 0) && Mem.wfFrom (j + 1) t

/-- The canonical form of byte memory. -/
def Mem.wf (m : Mem) : Bool := Mem.wfFrom 0 m

end Sys2Proof.Machine
end

