-- ==== Sys2Proof/Machine/StCore.lean ====
section
/-! DEFINITION. State of the sharing rules, clocks, Launch Tables, host ports, instances, mailboxes and firmware
(01, 02, 10, 11). Each field's docstring gives its width, the rule that names it and its reset value. -/

namespace Sys2Proof.Machine

/-! ### 01: the operation tracker and the violation records -/

/-- What kind of work an operation of the tracker is (01 "Operations, tags and generations"). -/
inductive OpClass
  | nvme | bulk | descriptor | zal | cipher | packet | checkpoint
  deriving DecidableEq, Repr

/-- One entry of the operation tracker. -/
structure TrackEntry where
  /-- 4 bits; R18; reset 0. Generation of the operation that holds or last held the tag. -/
  gen : Nat := 0
  /-- 1 bit; R17; reset 0. An operation holds the entry. -/
  held : Bool := false
  /-- 1 bit; R17; reset 0. The completion of the last operation is recorded. -/
  recorded : Bool := false
  /-- 1 bit; R19; reset 0. The tag was allocated since cold reset. -/
  everUsed : Bool := false
  /-- 5 bits; R17; reset 0. Owner of the operation that holds or last held the tag (meaningless until everUsed). -/
  owner : Owner := 0
  /-- 3 bits; R17; reset nvme (meaningless until everUsed). What the operation is. -/
  cls : OpClass := .nvme
  /-- 32 bits; R17; reset 0. Queue, ring, stream or port that the operation came from. -/
  source : Nat := 0
  /-- 16 bits; R338; reset 0. Instance of the operation, or 0xFFFF. -/
  inst : Nat := 0
  /-- 8 bits; R17, R21; reset 0. Abort answers owed for the tag. -/
  owed : Nat := 0
  /-- 16 bits; R19, R35; reset 0. Status of the recorded completion (R360). -/
  status : Nat := 0
  deriving DecidableEq, Repr

/-- The first-violation record of R32. -/
structure VioRecord where
  /-- 64 bits; R32; reset empty. -/
  time : Nat
  /-- 64 bits; R32, R563; reset empty. -/
  address : Nat
  /-- 17 bits; R32, R10; reset empty. -/
  tag : Nat
  /-- 8 bits; R32; reset empty. -/
  kind : Nat
  /-- 32 bits; R32; reset empty. -/
  length : Nat
  /-- 16 bits; R32; reset empty. -/
  target : Nat
  /-- 16 bits; R32; reset empty. -/
  accessor : Nat
  deriving DecidableEq, Repr

/-- Violation count and record of one owner. -/
structure Violations where
  /-- 32 bits, saturating; R31; reset 0. -/
  count : Nat := 0
  /-- 32 bytes; R31, R32; reset empty. -/
  record : Option VioRecord := none
  deriving DecidableEq, Repr

/-- A partition that exists (R368, R374). -/
structure Partition where
  /-- 1 bit; R368 HOST_LOSS_POLICY: STOP; set at creation. -/
  stopPolicy : Bool
  /-- 1 bit; R368 TENANT_COUNTERS; set at creation. -/
  tenantCounters : Bool
  /-- 16 bits; R22; 4,032 by default. -/
  trackerQuota : Nat
  /-- 12 bits; R385; 240 by default. -/
  residentQuota : Nat
  /-- 32 bits; R374; 1,024 at creation. Queue quota. -/
  queueQuota : Nat := 1024
  /-- 15 bits; R476; set at creation. Key slot quota. -/
  keyQuota : Nat
  /-- 25 bits; R278; set at creation. Page-entry quota. -/
  pageQuota : Nat
  deriving DecidableEq, Repr

/-! ### 02: clocks, Launch Tables, crossings -/

/-- Clock status and the Launch Counter. -/
structure Clocks where
  /-- 64 bits; R46; reset 0. The Launch Counter. -/
  lc : Nat := 0
  /-- 1 bit; R42, R53 LC_CLOCK_STATUS[0]; reset 0. -/
  rootLocked : Bool := false
  /-- 2 bits; R53 LC_CLOCK_STATUS[2:1]; reset 0b10. 0 ÷3, 1 ÷4, 2 ÷6. -/
  tclkDiv : Nat := 2
  /-- 1 bit; R53 LC_CLOCK_STATUS[4]; reset 0. Local copies aligned (R49). -/
  aligned : Bool := false
  /-- 1 bit; R53 bit 8; reset 0. -/
  lostHost0 : Bool := false
  /-- 1 bit; R53 bit 9; reset 0. -/
  lostHost1 : Bool := false
  /-- 1 bit; R53 bit 10; reset 0. -/
  lostEth : Bool := false
  /-- 1 bit; R53 bit 11; reset 0. -/
  lostZal : Bool := false
  /-- 1 bit; R53 bit 12; reset 0. -/
  lostStor : Bool := false
  /-- list; R43, R44; reset none. Asynchronous clocks now declared lost, by clock number. -/
  down : List Nat := []
  deriving DecidableEq, Repr

/-- One entry of a Launch Table (R56). -/
structure LaunchEntry where
  /-- 64 bits; R56; no reset (part of a table). -/
  offset : Nat
  /-- 16 bits; R56. -/
  action : Nat
  /-- 8 bits; R56. 0: the header's policy; 1 to 4: policy 0 to 3. -/
  policy : Nat
  /-- 32 bits; R56. -/
  arg : Nat
  deriving DecidableEq, Repr

/-- A Launch Table (R56). -/
structure LaunchTable where
  /-- 64 bits; R56. -/
  base : Nat
  /-- 41 bits; R56. 0: one-shot. -/
  period : Nat
  /-- 2 bits; R56. -/
  latePolicy : Nat
  /-- 1 bit; R56, R59. -/
  rollForward : Bool
  /-- 32 bits; R56. -/
  kind : Nat
  /-- 1 to 256 entries; R56. -/
  entries : List LaunchEntry
  deriving DecidableEq, Repr

/-- One Launch Table slot (R55). -/
structure LaunchSlot where
  /-- table; R55; reset none. -/
  active : Option LaunchTable := none
  /-- table; R55; reset none. -/
  staged : Option LaunchTable := none
  /-- 64 bits; R58; reset 0. CHANGEOVER of the staged table. -/
  changeover : Nat := 0
  /-- 32 bits, saturating; R62; reset 0. -/
  late : Nat := 0
  /-- 32 bits, saturating; R62; reset 0. -/
  skip : Nat := 0
  /-- 1 bit; R61 HALT; reset 0. The active table is idle until the next changeover. -/
  halted : Bool := false
  /-- 64 bits; R57; reset 0. Cycle of the next entry. -/
  cycle : Nat := 0
  /-- 9 bits; R57; reset 0. Index of the next entry. -/
  index : Nat := 0
  deriving DecidableEq, Repr

/-- One hold-and-flag crossing (R63 to R69). -/
structure Crossing where
  /-- 64 bits; R63; reset 0. The data register. -/
  data : Nat := 0
  /-- 1 bit; R63; reset 0. Request flag. -/
  req : Bool := false
  /-- 1 bit; R63; reset 0. Acknowledge flag; a transfer is in progress while it differs from `req`. -/
  ack : Bool := false
  /-- 1 bit; R68; reset 0. -/
  severed : Bool := false
  /-- 32 bits, saturating; R68; reset 0. -/
  drops : Nat := 0
  /-- 64 bits; R69; reset 0. Launch Counter value from which the re-armed crossing carries data. -/
  readyAt : Nat := 0
  deriving DecidableEq, Repr

/-! ### 10: host ports and instances -/

/-- One MSI-X table entry (R320, R323; layout and reset of PCIe). -/
structure MsixEntry where
  /-- 64 bits; R320; reset 0. -/
  addr : Nat := 0
  /-- 32 bits; R320; reset 0. -/
  data : Nat := 0
  /-- 1 bit; R323; reset 1 (PRESUMED: PCIe). -/
  masked : Bool := true
  /-- 1 bit; R320 PBA; reset 0. -/
  pend : Bool := false
  deriving DecidableEq, Repr

/-- One BAR4 window entry (R327). -/
structure WinEntry where
  /-- 64 bits; R327; reset 0. -/
  barOffset : Nat := 0
  /-- 64 bits; R327; reset 0. -/
  length : Nat := 0
  /-- 64 bits; R327; reset 0. -/
  target : Nat := 0
  /-- 5 bits; R327; reset 0. -/
  owner : Owner := 0
  /-- 1 bit; R327; reset 0. -/
  read : Bool := false
  /-- 1 bit; R327; reset 0. -/
  write : Bool := false
  /-- 1 bit; R327; reset 0. -/
  valid : Bool := false
  deriving DecidableEq, Repr

/-- One outstanding or quarantined host read request (R329 to R333). -/
structure HostRead where
  /-- 64 bits; R332; no reset. Launch Counter value of the issue. -/
  issued : Nat
  /-- 13 bits; R333. Bytes still missing. -/
  missing : Nat
  /-- 17 bits; R332. Tracker tag of the operation that needs the read, or none. -/
  op : Option Nat
  /-- 16 bits; R338. Instance, or 0xFFFF for the physical function. -/
  inst : Nat
  /-- 1 bit; R333. The request has timed out and its tag is quarantined. -/
  quarantined : Bool
  /-- bytes; R329. Bytes the request asks for. -/
  length : Nat
  /-- bytes; R331. Where its first byte goes in the operation's data. -/
  offset : Nat
  /-- 1 bit; R338. The read belongs to an old generation of the instance: its data is discarded. -/
  stale : Bool := false
  deriving DecidableEq, Repr

/-- A host read request that waits for a free tag (R329). -/
structure WaitRead where
  /-- 17 bits; R332. Tracker tag of the operation that needs the read. -/
  op : Nat
  /-- 16 bits; R338. Instance, or 0xFFFF. -/
  inst : Nat
  /-- 64 bits; R329. -/
  addr : Nat
  /-- bytes; R329. -/
  length : Nat
  /-- bytes; R331. -/
  offset : Nat
  deriving DecidableEq, Repr

/-- State of one host port (R315 to R349). -/
structure HostPort where
  /-- 1 bit; R317 Command; reset 0. Memory Space Enable. -/
  mse : Bool := false
  /-- 1 bit; R317 Command; reset 0. Bus Master Enable. -/
  bme : Bool := false
  /-- 1 bit; R317 Command; reset 0. Parity Error Response. -/
  per : Bool := false
  /-- 1 bit; R317 Command; reset 0. SERR# Enable. -/
  serr : Bool := false
  /-- 1 bit; R318 Power Management; reset 0. The function is in D3hot. -/
  d3hot : Bool := false
  /-- 1 bit; R318 PASID; reset 0. PASID Enable. -/
  pasidEnable : Bool := false
  /-- 1 bit; R334; reset 0. LTR Mechanism Enable. -/
  ltrEnable : Bool := false
  /-- 1 bit; R330; reset 1 (PRESUMED: PCIe). Enable Relaxed Ordering. -/
  roEnable : Bool := true
  /-- 1 bit; R315; reset 0 (PRESUMED: PCIe). 10-Bit Tag Requester Enable. -/
  tag10 : Bool := false
  /-- 3 bits; R329 Max_Payload_Size, 128 × 2^k; reset 0 (PRESUMED: PCIe). -/
  mps : Nat := 0
  /-- 3 bits; R329 Max_Read_Request_Size, 128 × 2^k; reset 2 (PRESUMED: PCIe). -/
  mrrs : Nat := 2
  /-- 4 bits; R332 Completion Timeout Value; reset 0. -/
  ctoValue : Nat := 0
  /-- 64 bits; R317 BAR0; reset 0 (PRESUMED: PCIe). Base address, sized 4 MiB. -/
  bar0 : Nat := 0
  /-- 64 bits; R317 BAR2; reset 0 (PRESUMED: PCIe). Base address, sized 16 MiB. -/
  bar2 : Nat := 0
  /-- 64 bits; R317 BAR4; reset 0 (PRESUMED: PCIe). -/
  bar4 : Nat := 0
  /-- 6 bits; R317 BAR4 size 2^k bytes; reset 36 (64 GiB). -/
  bar4Log2 : Nat := 36
  /-- 1 bit; R318 MSI-X Enable; reset 0 (PRESUMED: PCIe). -/
  msixEnable : Bool := false
  /-- 1 bit; R323 Function Mask; reset 0 (PRESUMED: PCIe). -/
  functionMask : Bool := false
  /-- 6 bits; R321 HEP_PORT_STATUS[5:0]; reset 0. -/
  width : Nat := 0
  /-- 4 bits; R321 HEP_PORT_STATUS[9:6]; reset 0. -/
  speed : Nat := 0
  /-- 1 bit; R321 HEP_PORT_STATUS[10]; reset 0. -/
  flit : Bool := false
  /-- 3 bits; R316; reset 4. Highest speed advertised, 1 to 6 for 2.5 to 64.0 GT/s. -/
  advertised : Nat := 4
  /-- 1 bit; R349; reset 0 (DESIGN CHOICE). PERST# is asserted. -/
  perst : Bool := false
  /-- 1 bit; R315, R347; reset 0. The link is up. -/
  linkUp : Bool := false
  /-- 1 bit; R321 HEP_PORT_STATUS[11]; reset 0. -/
  driverPresent : Bool := false
  /-- 1 bit; R321 HEP_PORT_STATUS[12]; reset 0. -/
  hbArmed : Bool := false
  /-- 64 bits; R345; reset 0. Launch Counter value of the last heartbeat write. -/
  lastBeat : Nat := 0
  /-- 1 bit; R347; reset 0. HEP_HEARTBEAT was written since the driver last became gone. -/
  beatSeen : Bool := false
  /-- 32 bits, saturating; R321 HEP_DROPPED_DMA; reset 0. -/
  droppedDma : Nat := 0
  /-- 32 bits, saturating; R321 HEP_COMPLETION_TIMEOUTS; reset 0. -/
  ctoCount : Nat := 0
  /-- 32 bits, saturating; R321 HEP_LATE_COMPLETIONS; reset 0. -/
  lateCount : Nat := 0
  /-- list; R332, R333; reset none. AER errors logged, newest first: 0x0E Completion Timeout, 0x10 Unexpected Completion. -/
  aer : List Nat := []
  /-- 2,048 entries; R318, R320; reset all masked. -/
  msix : Tbl MsixEntry := []
  /-- 256 entries; R327; reset all zero. Current copy. -/
  win : Tbl WinEntry := []
  /-- 256 entries; R327; reset all zero. Staged copy. -/
  winStaged : Tbl WinEntry := []
  /-- by tag; R329; reset none. -/
  reads : Tbl HostRead := []
  /-- list, oldest first; R329; reset none. Requests that wait for a free tag. -/
  readWait : List WaitRead := []
  /-- 32 bits; R53 LC_HI_SNAP; reset 0. -/
  lcHiSnap : Nat := 0
  deriving DecidableEq, Repr

/-- Instance states (R336). -/
inductive InstState
  | running | resetting | frozen | hostLost
  deriving DecidableEq, Repr

/-- The STATE code of an instance state (R326). -/
def InstState.code : InstState → Nat
  | .running => 0 | .resetting => 1 | .frozen => 2 | .hostLost => 3

/-- One range of a dirty log (R344). -/
structure DirtyRange where
  /-- 64 bits; R344. -/
  addr : Nat
  /-- 64 bits; R344. -/
  length : Nat
  /-- bitmap; R344. Pages marked, by page number. -/
  marked : List Nat
  deriving DecidableEq, Repr

/-- One instance (R335). -/
structure Instance where
  /-- 4 bits; R326 INST_ID; set at creation. -/
  part : Nat
  /-- 1 bit; R326 INST_ID; set at creation. -/
  port : Nat
  /-- 20 bits or none; R335; set at creation. -/
  pasid : Option Nat
  /-- 11 bits; R326 INST_STATUS; set at creation. -/
  vectorBase : Nat
  /-- 7 bits; R326 INST_STATUS; set at creation. -/
  vectorCount : Nat
  /-- 3 bits; R326 STATE; reset RUNNING. -/
  state : InstState := .running
  /-- 16 bits; R326 GENERATION; 0 at creation. -/
  gen : Nat := 0
  /-- 1 bit; R341; reset 0. INSTANCE_FREEZE waits for the operations in flight. -/
  freezing : Bool := false
  /-- 64 bits; R341; reset 0. Launch Counter value at which the freeze began. -/
  freezeAt : Nat := 0
  /-- 1 bit; R335; reset 0. The reset in progress ends in removal (INSTANCE_DESTROY). -/
  destroying : Bool := false
  /-- 32 bits; R54; reset 0. HIGH snapshot of the counter page. -/
  lcHiSnap : Nat := 0
  /-- by doorbell offset; R341, R343; reset none. Doorbell values recorded while FROZEN. -/
  doorbells : Tbl Nat := []
  /-- 1 bit; R344; reset 0. -/
  dirtyOn : Bool := false
  /-- up to 16 ranges; R344; reset none. -/
  dirty : List DirtyRange := []
  /-- 64 bits; R344; reset 0. Writes outside every range since the previous read. -/
  dirtyOutside : Nat := 0
  deriving DecidableEq, Repr

/-! ### 11: mailboxes, long operations, firmware -/

/-- One entry of a response ring: a response, completion or event (R356). -/
structure IaldoEntry where
  /-- 16 bits; R356 OPCODE. -/
  opcode : Nat
  /-- 8 bits; R356 KIND: 2 RESPONSE, 3 COMPLETION, 4 EVENT. -/
  kind : Nat
  /-- 8 bits; R356 LEVEL. -/
  level : Nat
  /-- 32 bits; R356 INDEX. -/
  index : Nat
  /-- 16 bits; R356 STATUS. -/
  status : Nat
  /-- 32 bits; R356 TOKEN. -/
  token : Nat
  /-- 32 bits; R356 COOKIE. -/
  cookie : Nat
  /-- 64 bits; R356 TIME. -/
  time : Nat
  /-- up to 224 bytes; R356. -/
  body : Bytes
  deriving DecidableEq, Repr

/-- An open mailbox session (R358). -/
structure Session where
  /-- 8 bits; R358. -/
  level : Nat
  /-- 256 bits; R358, R359. -/
  features : Nat
  /-- 32 bits; R358. -/
  driverVersion : Nat
  deriving DecidableEq, Repr

/-- One mailbox: the register block of R322 and the protocol state of R352 to R364. -/
structure Mailbox where
  /-- 64 bits; R322 REQ_BASE; reset 0. -/
  reqBase : Nat := 0
  /-- 64 bits; R322 RSP_BASE; reset 0. -/
  rspBase : Nat := 0
  /-- 1 bit; R322 ENABLE; reset 0. -/
  enable : Bool := false
  /-- 4 bits; R322 REQ_LOG2; reset 4. -/
  reqLog2 : Nat := 4
  /-- 4 bits; R322 RSP_LOG2; reset 4. -/
  rspLog2 : Nat := 4
  /-- 11 bits; R322 VECTOR; reset 0. -/
  vector : Nat := 0
  /-- 1 bit; R322 SIGNAL; reset 0. -/
  signal : Bool := false
  /-- 32 bits; R322 POSTED; reset 0. -/
  posted : Nat := 0
  /-- 32 bits; R352 FETCHED; reset 0. -/
  fetched : Nat := 0
  /-- 32 bits; R322 WRITTEN; reset 0. -/
  written : Nat := 0
  /-- 32 bits; R352 CONSUMED as last read from host memory; reset 0. -/
  consumed : Nat := 0
  /-- up to 64 entries; R354; reset empty. Responses, completions and events waiting to be written, in order. -/
  pend : List IaldoEntry := []
  /-- 32 bits, saturating; R354 LOST_EVENTS; reset 0. -/
  lost : Nat := 0
  /-- 32 bits, saturating; R353; reset 0. -/
  protoErr : Nat := 0
  /-- session; R358; reset none. -/
  session : Option Session := none
  /-- 32 bits; model's own: numbers the mailbox's sessions, so that a completion finds its own; reset 0. -/
  sessionNo : Nat := 0
  /-- up to 32 opcodes; R364; reset none. -/
  events : List Nat := []
  /-- list; R363; reset none. TOKENs whose long operation has completed. -/
  doneTokens : List Nat := []
  /-- 32 bits; R361; reset 1. Next TOKEN. -/
  nextToken : Nat := 1
  deriving DecidableEq, Repr

/-- What a long operation in progress (class L, R361) still has to do. -/
inductive OpData
  /-- INSTANCE_RESET or INSTANCE_DESTROY of an instance. -/
  | instReset (inst : Nat)
  /-- INSTANCE_FREEZE of an instance. -/
  | instFreeze (inst : Nat)
  /-- MEM_FILL, or the bulk FILL: owner, whether ADDR is a DPA, address, length, pattern. -/
  | fill (owner : Owner) (dpa : Bool) (addr len pattern : Nat)
  /-- MEM_COPY: owner, destination, source, length. -/
  | copy (owner : Owner) (dst src len : Nat)
  /-- STACK_REMOVE of a stack. -/
  | stackRemove (stack : Nat)
  /-- STACK_RESTORE of a stack. -/
  | stackRestore (stack : Nat)
  /-- PLOT_QUOTA_SET waiting for a partition's releases. -/
  | plotQuota (part quota : Nat)
  /-- MODEL_LOAD of the image of `total` bytes at a plot-space address. -/
  | modelLoad (part addr total : Nat)
  /-- SESSION_OPEN of a session handle. -/
  | sessionOpen (session : Nat)
  /-- SESSION_CLOSE of a session handle. -/
  | sessionClose (session : Nat)
  /-- SESSION_REPLACE of a session handle to a placement. -/
  | sessionReplace (session placement : Nat)
  /-- ZAL_APERTURE_WRITE of an entry's 32 bytes, or ZAL_APERTURE_COMMIT without bytes, held for the refresh (R274). -/
  | aperture (port entry : Nat) (data : Bytes)
  /-- DF_STREAM_CLOSE of a stream. -/
  | dfClose (stream : Nat)
  /-- FABRIC_TARGET_ADD of a target, begun at a Launch Counter value. -/
  | fabricTarget (target since : Nat)
  /-- BULK_QUEUE_DELETE of a queue. -/
  | bulkDelete (queue : Nat)
  /-- RING_DELETE of a packet ring. -/
  | ringDelete (ring : Nat)
  /-- TABLE_DELETE of an exact-match table. -/
  | tableDelete (table : Nat)
  /-- RDMA_QP_DESTROY of a queue pair. -/
  | qpDestroy (qpn : Nat)
  /-- PRIVET_PROGRAM_LOAD of an owner. -/
  | privetLoad (owner : Owner)
  /-- ATTEST_QUOTE. -/
  | quote (kind : Nat) (body : Bytes) (space addr len : Nat)
  /-- CKP_GROUP_CREATE waiting for its connections. -/
  | ckpCreate (since : Nat)
  /-- CKP_SPARE_ASSIGN of a member. -/
  | ckpSpare (member : Nat)
  /-- FW_STAGE of an image. -/
  | fwStage (image : Bytes)
  /-- FW_ACTIVATE with MODE LIVE. -/
  | fwLive (whenClear raise : Bool)
  /-- UNIT_OUT_OF_SERVICE of a unit. -/
  | unitOut (unit : Nat)
  /-- BIST_RUN of a unit: KIND and PATTERNS. -/
  | bist (unit kind patterns : Nat)
  /-- PARTITION_DELETE or PARTITION_RESET waiting for its drain. -/
  | partition (part : Nat) (delete : Bool)
  /-- PARTITION_DELETE of a partition that is gone, waiting for the clearing of its groups. -/
  | partCleared (part : Nat) (groups : List Nat)
  deriving DecidableEq, Repr

/-- A long operation in progress (R361). -/
structure LongOp where
  /-- 16 bits; R361. Mailbox that asked: 0 to 1,023 an instance, 0x400 + port a physical function. -/
  mbx : Nat
  /-- 32 bits; model's own. The mailbox session that asked; a completion of an ended session is discarded (R355). -/
  sessionNo : Nat
  /-- 32 bits; R361. -/
  token : Nat
  /-- 16 bits; R361. -/
  opcode : Nat
  /-- 32 bits; R361. -/
  index : Nat
  /-- 32 bits; R361. -/
  cookie : Nat
  /-- data; R361. -/
  data : OpData
  deriving DecidableEq, Repr

/-- A scheduled context: a queue pair, RoCE queue pair or direct-feed stream (R384 to R386). -/
structure Context where
  /-- 5 bits; R15; set at creation. -/
  owner : Owner
  /-- 1 bit; R384; set at creation. Die of the engine that serves it. -/
  die : Nat
  /-- 1 bit; R384; reset 0. -/
  resident : Bool
  /-- 1 bit; R385; reset 0. -/
  pinned : Bool
  /-- 64 bits; R386; reset 0. Launch Counter value since which it is resident. -/
  since : Nat
  /-- 64 bits; R386; reset 0. Launch Counter value at which it last ran. -/
  lastRun : Nat
  /-- 1 bit; R386; reset 0. An event concerning the parked context waits. -/
  wanted : Bool
  deriving DecidableEq, Repr

/-- A firmware image's header (R389), as the device has checked it. -/
structure FwImage where
  /-- 1 bit; R389. -/
  liveCapable : Bool
  /-- 8 bits; R389. -/
  levelMax : Nat
  /-- 64 bits; R389. -/
  securityVersion : Nat
  /-- 32 bits; R389. -/
  fwVersion : Nat
  /-- 3 bits; R382 KEY_INDEX. Fused key hash that its PUBLIC_KEY matches. -/
  keyIndex : Nat
  /-- SHA-256 of the image, as a list of bytes; R464, R470. -/
  digest : Bytes
  deriving DecidableEq, Repr

/-- What holds the staging bank (R390). -/
inductive BankUse
  | empty | ialdo | pldm | staged (img : FwImage)
  deriving DecidableEq, Repr

/-- The firmware and its update (R389 to R393). -/
structure Firmware where
  /-- 32 bits; R389, R382; reset 0 (DESIGN CHOICE). Running FW_VERSION. -/
  version : Nat := 0
  /-- 64 bits; R382; reset 0 (DESIGN CHOICE). Running SECURITY_VERSION. -/
  security : Nat := 0
  /-- 8 bits; R389; reset 3. Highest level of the running image. -/
  levelMax : Nat := 3
  /-- 1 bit; R382; reset 0 (DESIGN CHOICE). Boot flash bank booted. -/
  bank : Nat := 0
  /-- 3 bits; R382; reset 0 (DESIGN CHOICE). KEY_INDEX of the running image. -/
  keyIndex : Nat := 0
  /-- staging bank; R390; survives cold reset; empty in a new module (DESIGN CHOICE). -/
  staging : BankUse := .empty
  /-- 1 bit; R391; reset 0; survives cold reset. The boot pointer names the staged image. -/
  bootStaged : Bool := false
  /-- 1 bit; R391 RAISE_SVN of the pending activation; reset 0. -/
  raiseSvn : Bool := false
  /-- 1 bit; R391; reset 0. An activation is pending. -/
  pending : Bool := false
  /-- 1 bit; R393; reset 0. ACTIVATE_WHEN_CLEAR waits for the emergency to clear. -/
  whenClear : Bool := false
  /-- 64 bits; R393; reset 0. Launch Counter value at which the last emergency cleared. -/
  clearSince : Nat := 0
  /-- Launch Counter value or none; R392; reset none. A live switch is in progress since then. -/
  switching : Option Nat := none
  deriving DecidableEq, Repr

/-- One entry of the module's fault log (R373). -/
structure FaultEntry where
  /-- 64 bits; R373. -/
  time : Nat
  /-- 64 bits; R373. First 8 bytes of BOOT_NONCE. -/
  nonce : Nat
  /-- 16 bits; R373, R519. -/
  unit : Nat
  /-- 8 bits; R373. -/
  kind : Nat
  /-- 32 bits; R373. -/
  code : Nat
  deriving DecidableEq, Repr

end Sys2Proof.Machine
end

