-- ==== Sys2Proof/Machine/StMem.lean ====
section
/-! DEFINITION. State of stacked memory, the accelerator link and direct feed (07, 08). -/

namespace Sys2Proof.Machine

/-! ### 07: plots and stacks -/

/-- Plot states (R224). -/
inductive PlotState
  | reserved | free | assigned | dirty | lost
  deriving DecidableEq, Repr

/-- One plot (R224). -/
structure Plot where
  /-- state; R224. -/
  state : PlotState
  /-- 5 bits; R224. -/
  owner : Owner
  /-- slot it is bound to, or none; R222. -/
  slot : Option Nat := none
  /-- 1 bit; R243; reset 0. -/
  clear : Bool := false
  /-- 1 bit; R225; reset 0. LOST and released: it becomes DIRTY when zeroed. -/
  released : Bool := false
  /-- free value number or none; R245; reset none. Bytes not written since read as unrelated values. -/
  garbled : Option Nat := none
  /-- list of (offset, bytes); R245; reset none. Ranges written since the plot was garbled. -/
  fresh : List (Nat × Nat) := []
  deriving DecidableEq, Repr

/-- One record of a stack's error log (R232). -/
structure MemRecord where
  /-- 64 bits; R232. -/
  time : Nat
  /-- 64 bits; R232. -/
  dpa : Nat
  /-- 8 bits; R232. -/
  layer : Nat
  /-- 8 bits; R232. -/
  quad : Nat
  /-- 8 bits; R232. -/
  slice : Nat
  /-- 8 bits; R232. -/
  kind : Nat
  /-- 8 bits; R232. -/
  foundBy : Nat
  /-- 8 bits; R232. -/
  owner : Nat
  /-- 32 bits; R232. -/
  passCount : Nat
  deriving DecidableEq, Repr

/-- One stack (R216 to R235). -/
structure Stack where
  /-- 32 bits, saturating; R231; reset 0. -/
  corrected : Nat := 0
  /-- 32 bits, saturating; R231; reset 0. -/
  uncorrectable : Nat := 0
  /-- 32 bits, saturating; R231; reset 0. -/
  poisonRead : Nat := 0
  /-- 32 bits, saturating; R231; reset 0. -/
  poisonedWrite : Nat := 0
  /-- 32 bits, saturating; R231; reset 0. -/
  repair : Nat := 0
  /-- count; R231; reset 0. CORRECTED in the current pass. -/
  passCorrected : Nat := 0
  /-- up to 256 records, oldest first; R232; reset none. -/
  log : List MemRecord := []
  /-- 32 bits; R232; reset 0. -/
  overwrites : Nat := 0
  /-- hours; R230; reset 24. Pass time of the current pass. -/
  hours : Nat := 24
  /-- hours; R376 SCRUB_SET; reset 24. Pass time from the next pass on. -/
  nextHours : Nat := 24
  /-- granule number; R230; reset 0. Next granule of the patrol scrub. -/
  granule : Nat := 0
  /-- count; R376; reset 0. Passes completed since cold reset. -/
  passes : Nat := 0
  /-- by row: last pass in which it gave a corrected error, plus one; R232, R233; reset none. -/
  rowErrors : Tbl Nat := []
  /-- by slice, 72 × quad + slice: corrected errors in this pass; R232 PASS_COUNT; reset none. -/
  sliceCorrected : Tbl Nat := []
  /-- list of (slice, row, column): where this pass corrected errors; R233; reset none. -/
  seen : List (Nat × Nat × Nat) := []
  /-- by quad: words found uncorrectable in this pass; R233; reset none. -/
  quadBad : Tbl Nat := []
  /-- by quad: the retired slice; R228; reset none. -/
  retired : Tbl Nat := []
  /-- by DRAM die and bank, 64 × layer + bank: spare rows used; R233; reset none. -/
  rowsUsed : Tbl Nat := []
  /-- by slice and bank, 64 × (72 × quad + slice) + bank: spare columns used; R233; reset none. -/
  columnsUsed : Tbl Nat := []
  /-- (row, false) or (column, true) being moved to a spare; R234; reset none. -/
  moving : List (Nat × Bool) := []
  /-- by quad: Launch Counter value until which a refresh burst occupies it; R235; reset none. -/
  refresh : Tbl Nat := []
  /-- 1 bit; R246; reset 0. -/
  failed : Bool := false
  deriving DecidableEq, Repr

/-- A stack remove or restore move in progress on a die (R248, R249). -/
structure StackMove where
  /-- 3 bits. -/
  stack : Nat
  /-- 1 bit. STACK_RESTORE, otherwise STACK_REMOVE. -/
  adding : Bool
  /-- GB/s; R376. -/
  rate : Nat
  deriving DecidableEq, Repr

/-- Stacked memory (07). -/
structure Dram where
  /-- bytes by DPA; R219; reset zero (R226, R515). Plaintext: the inline encryption is transparent (R243). -/
  bytes : Mem := []
  /-- word numbers, DPA div 32; R229; reset none. Poisoned words. -/
  poison : List Nat := []
  /-- by 512 × die + index; R224; reset none listed: indices 0 to 3 RESERVED, others FREE. -/
  plots : Tbl Plot := []
  /-- by 1,024 × owner + slot: the plot bound; R222; reset none. -/
  slots : Tbl Nat := []
  /-- stacks in die 0's plot map, ascending; R220; reset none until QUICKSET. -/
  map0 : List Nat := []
  /-- stacks in die 1's plot map, ascending; R220; reset none until QUICKSET. -/
  map1 : List Nat := []
  /-- 1 bit; R512; reset 1. The Quickset map of 16 plots a die is in force. -/
  quickset : Bool := true
  /-- by stack; R231; reset as a new Stack. -/
  stackTbl : Tbl Stack := []
  /-- by die; R248; reset none. -/
  moves : Tbl StackMove := []
  /-- dies whose reserved plots are being rebuilt; R246; reset none. -/
  rebuilding : List Nat := []
  /-- by partition: plot quota; R376; reset none listed (the device's assignable plots). -/
  quotas : Tbl Nat := []
  deriving DecidableEq, Repr

/-! ### 08: ZAL and direct feed -/

/-- A ZAL message: header of R266 and data. -/
structure ZalMsg where
  /-- 8 bits; R266 OP. -/
  op : Nat
  /-- 4 bits; R266 GEN. -/
  gen : Nat
  /-- 1 bit; R266 LAST. -/
  last : Bool := false
  /-- 8 bits; R266 STATUS. -/
  status : Nat := 0
  /-- 16 bits; R266 TAG. -/
  tag : Nat
  /-- 16 bits; R266 AUX. -/
  aux : Nat := 0
  /-- 64 bits; R266 ADDR. -/
  addr : Nat := 0
  /-- 0 to 32 cells; R266. -/
  data : Bytes := []
  deriving DecidableEq, Repr

/-- One copy of an aperture entry (R271). -/
structure Aperture where
  /-- 64 bits; R271. -/
  base : Nat
  /-- 64 bits; R271. -/
  length : Nat
  /-- 64 bits; R271. -/
  target : Nat
  /-- 1 bit; R271. -/
  read : Bool
  /-- 1 bit; R271. -/
  write : Bool
  /-- 1 bit; R271. -/
  valid : Bool
  deriving DecidableEq, Repr

/-- A page-table entry (R278). -/
structure PageEntry where
  /-- VA bits [59:12], as an address; R278. -/
  va : Nat
  /-- 8 bits; R278. -/
  space : Nat
  /-- 1 bit; R278. -/
  read : Bool
  /-- 1 bit; R278. -/
  write : Bool
  /-- 2 bits; R278. 0 4 KiB, 1 64 KiB, 2 2 MiB. -/
  size : Nat
  /-- 64 bits; R278. -/
  target : Nat
  /-- 3 bits; R263. Port through which it was written. -/
  port : Nat
  deriving DecidableEq, Repr

/-- A request of the device on a ZAL port that awaits its response (R280): an ABORT or a FLUSH. -/
structure ZalRequest where
  /-- 64 bits; R280. Launch Counter value of the issue. -/
  issued : Nat
  /-- µs; R280. Timeout in force at the issue. -/
  timeout : Nat
  /-- tracker tag of the descriptor it belongs to; R290. -/
  op : Nat
  /-- 1 bit; true for FLUSH, false for ABORT. -/
  flush : Bool
  /-- 1 bit; R280. The request has timed out; its tag waits for reuse. -/
  timedOut : Bool
  /-- 1 bit; R21; reset 0. FLUSH: an ABORT of it is outstanding. -/
  aborting : Bool := false
  /-- 1 bit; R21; reset 0. FLUSH: its FLUSH_ACK has arrived while the ABORT was outstanding. -/
  answered : Bool := false
  deriving DecidableEq, Repr

/-- A request of the accelerator that is being served under the copy it was stamped with (R268, R273). -/
structure AccRequest where
  /-- message. -/
  msg : ZalMsg
  /-- 1 bit; R273. Copy current at its arrival. -/
  copy : Bool
  /-- tracker tag, for DF_SUBMIT. -/
  op : Option Nat
  deriving DecidableEq, Repr

/-- A message or record that the device has yet to send on a port (R262, R264). -/
structure ZalTx where
  /-- 0 to 3 a virtual channel of R264; 4 a CONTROL record, whose `msg.op` is its byte 0 and `msg.addr` its map. -/
  vc : Nat
  /-- message; R266. -/
  msg : ZalMsg
  /-- FLUSH: tracker tag of its descriptor; ABORT: tag of the FLUSH it aborts. -/
  op : Nat := 0
  deriving DecidableEq, Repr

/-- Link states (R293). -/
inductive ZalLink
  | down | training | up | retraining
  deriving DecidableEq, Repr

/-- The LINK code of ZAL_PORT_STATUS (R293). -/
def ZalLink.code : ZalLink → Nat
  | .down => 0 | .training => 1 | .up => 2 | .retraining => 3

/-- One ZAL port (R250 to R293). -/
structure ZalPort where
  /-- 2 bits; R293 LINK; reset DOWN. -/
  link : ZalLink := .down
  /-- 1 bit; R293 IN_SERVICE; reset 0. -/
  inService : Bool := false
  /-- 1 bit; R293 RX_NARROW; reset 0. -/
  rxNarrow : Bool := false
  /-- 1 bit; R293 TX_NARROW; reset 0. -/
  txNarrow : Bool := false
  /-- 12 bits; R293 LANE_FAILED; reset 0. Lanes failed in the receive direction. -/
  rxFailed : Nat := 0
  /-- 12 bits; R293 LANE_FAILED; reset 0. Lanes failed in the transmit direction. -/
  txFailed : Nat := 0
  /-- 5 bits; R293 PART, OPERATOR; reset operator. -/
  owner : Owner := 16
  /-- 1 bit; R293 APERTURE_COPY; reset 0. -/
  copy : Bool := false
  /-- 40 bits; R293; reset all ones. -/
  rxMap : Nat := 0xFF_FFFF_FFFF
  /-- 40 bits; R293; reset all ones. -/
  txMap : Nat := 0xFF_FFFF_FFFF
  /-- 40 bits or none; R260; reset none. Map announced and not yet in force, receive direction. -/
  rxNext : Option Nat := none
  /-- 40 bits or none; R260; reset none. Map accepted from the accelerator's LANE_MAP, in force after MAP_SWITCH is sent. -/
  txNext : Option Nat := none
  /-- 24 bits; R293 ZAL_TIMEOUT; reset 100. -/
  timeout : Nat := 100
  /-- 1 bit; R378 ZAL_PORT_ENABLE; reset 1 (DESIGN CHOICE: R251 trains unless disabled). -/
  enabled : Bool := true
  /-- 32 bits, saturating; R293; reset 0. -/
  fecCorrected : Nat := 0
  /-- 32 bits, saturating; R293; reset 0. -/
  fecUncorrectable : Nat := 0
  /-- 32 bits, saturating; R293; reset 0. -/
  crcErrors : Nat := 0
  /-- 32 bits, saturating; R293; reset 0. -/
  replays : Nat := 0
  /-- 32 bits, saturating; R293; reset 0. -/
  retrains : Nat := 0
  /-- 32 bits, saturating; R293; reset 0. -/
  lateResponses : Nat := 0
  /-- 32 bits, saturating; R293; reset 0. -/
  protocolErrors : Nat := 0
  /-- 64 bits; R251; reset 0. Launch Counter value of the last training attempt. -/
  lastAttempt : Nat := 0
  /-- 1 bit; R262; reset 0. The device has sent INIT since the last training. -/
  initSent : Bool := false
  /-- cells by VC 0 to 3; R264; reset 0. Credits the device holds to send. -/
  credits : Tbl Nat := []
  /-- cells by VC 0 to 3; R264; reset 0. Credits the accelerator holds. -/
  granted : Tbl Nat := []
  /-- 13 bits; R262, R268; reset 0. Non-posted requests the accelerator accepts. -/
  peerLimit : Nat := 0
  /-- 12 bits; R258; reset 0. SEQ expected next. -/
  rxSeq : Nat := 0
  /-- 12 bits; R258; reset 0. SEQ of the next new flit sent. -/
  txSeq : Nat := 0
  /-- 12 bits; R276; reset 0. TXPOS of the last flit of the accelerator. -/
  accPos : Nat := 0
  /-- up to 512; R258; reset none. Unacknowledged flits, oldest first, by SEQ; what each carries stands in `sent`. -/
  unacked : List Nat := []
  /-- 64 bits; R258; reset 0. Launch Counter value at which ACK last advanced. -/
  ackAt : Nat := 0
  /-- 1 bit; R258; reset 0. A gap is open: a discard has been answered with NAK. -/
  inGap : Bool := false
  /-- 4 bits; R259; reset 0. Replays in a row without progress of ACK. -/
  stuck : Nat := 0
  /-- list; R259; reset none. Launch Counter values of recent retrains, newest first. -/
  retrainTimes : List Nat := []
  /-- list, oldest first; R266; reset none. Messages and records waiting for credits or room. -/
  txWait : List ZalTx := []
  /-- bytes; R266; reset none. The cells received of a message that continues in the next DATA flit. -/
  rxPart : Bytes := []
  /-- up to 32,768; R277; reset none. Translation cache, most recently used first. -/
  cache : List PageEntry := []
  /-- by 16 × tag + generation; R268; reset none. Requests of the accelerator outstanding. -/
  accOut : Tbl AccRequest := []
  /-- by tag: generation; R19, R281; reset none. Completed DF_SUBMIT and TRANSLATE whose tag is not used since. -/
  accDone : Tbl Nat := []
  /-- by tag; R280; reset none. Requests of the device outstanding. -/
  devOut : Tbl ZalRequest := []
  /-- 1 bit; R274; reset 0. The old aperture copy still serves requests. -/
  oldBusy : Bool := false
  deriving DecidableEq, Repr

/-- A direct-feed descriptor (R286). -/
structure Descriptor where
  /-- 8 bits; R286. -/
  srcKind : Nat
  /-- 8 bits; R286. -/
  cipher : Nat
  /-- 8 bits; R286. -/
  codec : Nat
  /-- 1 bit; R286. -/
  ordered : Bool
  /-- 1 bit; R286. -/
  timed : Bool
  /-- 14 bits; R286. -/
  keySlot : Nat
  /-- 3 bits; R286. -/
  dstPort : Nat
  /-- NSID, plot-space address or QPN; R286. -/
  src : Nat
  /-- NLB or R_Key; R286. -/
  src2 : Nat
  /-- SLBA or remote virtual address; R286. -/
  src3 : Nat
  /-- 32 bits; R286 BYTES. -/
  bytes : Nat
  /-- 64 bits; R286. -/
  dstAddr : Nat
  /-- 32 bits; R286. -/
  rowBytes : Nat
  /-- 32 bits; R286. -/
  rows : Nat
  /-- 64 bits; R286. -/
  stride : Nat
  /-- 16 bits; R286. -/
  burst : Nat
  deriving DecidableEq, Repr

/-- Where a descriptor in flight stands (R287, R292). -/
inductive DfStage
  /-- It waits before fetching: ORDERED (R27), or TIMED without room in the staging range. -/
  | waiting
  /-- Its fetch stage runs. -/
  | fetching
  /-- The source is fetched: its bytes, or the status of the failure. -/
  | fetched (status : Nat) (data : Bytes)
  /-- TIMED: staged, waiting for its BURST entry. -/
  | staged (out : Bytes)
  /-- FLUSH sent; FLUSH_ACK awaited. -/
  | flushing (status written : Nat)
  deriving DecidableEq, Repr

/-- A descriptor in flight (R285, R287). -/
structure DfRun where
  /-- 12 bits. Stream. -/
  stream : Nat
  /-- descriptor; R286. -/
  desc : Descriptor
  /-- stage; R287. -/
  stage : DfStage
  /-- 32 bits; R291 INDEX: its place in the stream's order. -/
  index : Nat
  /-- TAG and GEN of DF_SUBMIT, for a port. -/
  zalTag : Nat
  /-- 4 bits. -/
  zalGen : Nat
  deriving DecidableEq, Repr

/-- A direct-feed stream (R285). -/
structure DfStream where
  /-- 5 bits; R285. -/
  owner : Owner
  /-- ZAL port, or none for an instance; R285. -/
  port : Option Nat
  /-- 16 bits; R285. Instance, for an instance's stream. -/
  inst : Nat
  /-- 5 bits; R325. -/
  doorbell : Nat
  /-- 5 bits; R291. -/
  log2 : Nat
  /-- 8 bits; R378. -/
  vector : Nat
  /-- 64 bits; R291. -/
  sqAddr : Nat
  /-- 64 bits; R291. -/
  cqAddr : Nat
  /-- base and length, or none; R285. -/
  staging : Option (Nat × Nat)
  /-- Launch Table slot key of R55, or none; R285. -/
  launch : Option Nat
  /-- 32 bits; R291; reset 0. -/
  posted : Nat := 0
  /-- 32 bits; R291; reset 0. Descriptors fetched or submitted. -/
  fetched : Nat := 0
  /-- 32 bits; R291; reset 0. Completion records written. -/
  completed : Nat := 0
  /-- 1 bit; R378; reset 0. DF_STREAM_CLOSE waits for the fetched descriptors. -/
  closing : Bool := false
  /-- by INDEX: tracker tag and generation; R19; reset none. Descriptors of an instance's ring that have ended. -/
  done : Tbl (Nat × Nat) := []
  /-- list of (BURST_ID, 0 run late, 1 skip); R292; reset none. BURST entries late with no descriptor staged. -/
  lateBursts : List (Nat × Nat) := []
  deriving DecidableEq, Repr

/-- ZAL apertures, page tables and direct feed (08). -/
structure Link where
  /-- by port 0 to 7; R250; reset as a new ZalPort. -/
  ports : Tbl ZalPort := []
  /-- by entry 0 to 4,095: the port it is allotted to; R271; reset none. -/
  allot : Tbl Nat := []
  /-- by entry, copy 0; R271; reset none. -/
  aperA : Tbl Aperture := []
  /-- by entry, copy 1; R271; reset none. -/
  aperB : Tbl Aperture := []
  /-- by owner 0 to 16; R278; reset none. Page tables. -/
  pages : Tbl (List PageEntry) := []
  /-- by stream 0 to 4,095; R285; reset none. -/
  streams : Tbl DfStream := []
  /-- by tracker tag; R285; reset none. Descriptors in flight. -/
  runs : Tbl DfRun := []
  deriving DecidableEq, Repr

end Sys2Proof.Machine
end

