-- ==== Sys2Proof/Machine/StPkt.lean ====
section
/-! DEFINITION. State of the Ethernet ports, the packet path, the RoCEv2 engine and the traffic manager (13, 14). -/

namespace Sys2Proof.Machine

/-! ### 13: frames and Ethernet ports -/

/-- A received frame, whole, without its FCS (R416). -/
structure RxFrame where
  /-- arrival number of the port; R425. Orders the frames of a flow class. -/
  order : Nat
  /-- 3 bits; R415. Port it arrived on. -/
  port : Nat
  /-- bytes; R416. The frame without FCS. -/
  data : Bytes
  /-- 64 bits; R438 TIME. Launch Counter value at its last byte. -/
  at_ : Nat
  /-- 3 bits; R417. PCP of its outer VLAN tag, or 0. -/
  prio : Nat
  /-- 5 bits; R419. Owner of the owner-table entry it matches. -/
  owner : Owner
  /-- 3 bits; R438 FLAGS [2:0]. CSUM_CHECKED, IPV4_CSUM_OK, L4_CSUM_OK. -/
  csum : Nat
  /-- 12 bits; R425. Flow class. -/
  flow : Nat
  deriving DecidableEq, Repr

/-- Where a frame of the reorder buffer stands (R425). -/
inductive ParseState
  /-- A core, 16 × cluster + core, parses it. -/
  | parsing (core : Nat)
  /-- The parse on a core ended with the verdict DELIVER, which waits for order: the core, and metadata words 0 to 5. -/
  | ended (core : Nat) (words : List W64)
  deriving DecidableEq, Repr

/-- One entry of a reorder buffer (R425). -/
structure RoFrame where
  /-- frame; R425. -/
  frame : RxFrame
  /-- state; R425. -/
  state : ParseState
  deriving DecidableEq, Repr

/-- One bank of a gate list (R454). -/
structure GateBank where
  /-- 30 bits; R454 CYCLE_TIME; reset 0. -/
  cycle : Nat := 0
  /-- up to 1,024 of (GATES, INTERVAL); R454; reset none. -/
  entries : List (Nat × Nat) := []
  deriving DecidableEq, Repr

/-- One Ethernet port (R415 to R443, R444 to R458). -/
structure EthPort where
  /-- 2 bits; R443 LINK; reset 0b11 DISABLED. 0 DOWN, 1 TRAINING, 2 UP. -/
  link : Nat := 3
  /-- 2 bits; R443 SPEED; reset 0. -/
  speed : Nat := 0
  /-- 1 bit; R443 FEC_ALIGNED; reset 0. -/
  fecAligned : Bool := false
  /-- list of priorities held paused; R443 PFC_SENDING, R417; reset none. -/
  pfcSending : List Nat := []
  /-- by priority held paused: Launch Counter value of its last PFC frame; R417; reset none. -/
  pfcSentAt : Tbl Nat := []
  /-- by priority: Launch Counter value until which it is paused; R443 PAUSED, R447; reset none. -/
  paused : Tbl Nat := []
  /-- 2 bits; R443 MODE; reset 0. -/
  mode : Nat := 0
  /-- 1 bit; R443 PFC; reset 0. -/
  pfc : Bool := false
  /-- 8 bits; R443 PFC_CLASSES; reset 0. -/
  pfcClasses : Nat := 0
  /-- 1 bit; R443 REORDER_PORT; reset 0. -/
  reorderPort : Bool := false
  /-- 14 bits; R443 MAX_FRAME; reset 0x5EE. -/
  maxFrame : Nat := 0x5EE
  /-- 64 bits, wrapping; R443; reset 0. -/
  rxFrames : Nat := 0
  /-- 64 bits, wrapping; R443; reset 0. -/
  rxBytes : Nat := 0
  /-- 64 bits, wrapping; R443; reset 0. -/
  txFrames : Nat := 0
  /-- 64 bits, wrapping; R443; reset 0. -/
  txBytes : Nat := 0
  /-- 32 bits, saturating; R443; reset 0. -/
  fcsErrors : Nat := 0
  /-- 32 bits, saturating; R443; reset 0. -/
  lengthErrors : Nat := 0
  /-- 32 bits, saturating; R443; reset 0. -/
  dropFull : Nat := 0
  /-- 32 bits, saturating; R443; reset 0. -/
  noOwner : Nat := 0
  /-- 32 bits, saturating; R443; reset 0. -/
  fecCorrected : Nat := 0
  /-- 32 bits, saturating; R443; reset 0. -/
  fecUncorrectable : Nat := 0
  /-- 32 bits, saturating; R443; reset 0. -/
  pfcRx : Nat := 0
  /-- 32 bits, saturating; R443; reset 0. -/
  pfcTx : Nat := 0
  /-- 32 bits, saturating; R443; reset 0. -/
  parseLimit : Nat := 0
  /-- 32 bits, saturating; R443; reset 0. -/
  badVerdict : Nat := 0
  /-- count; R425; reset 0. Arrival number of the next frame. -/
  arrivals : Nat := 0
  /-- up to 4 MiB, arrival order; R417; reset none. Receive buffer. -/
  buffer : List RxFrame := []
  /-- up to 8,192, arrival order; R425; reset none. Reorder buffer. -/
  reorder : List RoFrame := []
  /-- list, oldest first; R420; reset none. Frames handed to the RoCEv2 engine. -/
  roce : List RxFrame := []
  /-- 6 bits; R423; reset 63 (DESIGN CHOICE: the round robin starts at cluster 0). Cluster used last. -/
  lastCluster : Nat := 63
  /-- signed, −32 to 63; R444; reset 20. Overhead. -/
  overhead : Int := 20
  /-- by class: virtual time V, 64 bits; R448; reset 0. -/
  vtime : Tbl Nat := []
  /-- Launch Counter value; R447; reset 0. The port is sending a frame until then. -/
  busyUntil : Nat := 0
  /-- bank; R454; reset empty. -/
  bank0 : GateBank := {}
  /-- bank; R454; reset empty. -/
  bank1 : GateBank := {}
  /-- 1 bit; R454; reset 0. Operational bank. -/
  bank : Nat := 0
  /-- 64 bits; R455; reset 0. Start of the current cycle of the operational bank. -/
  cycleStart : Nat := 0
  /-- 11 bits; R455; reset 0. Entry of the operational bank now in force. -/
  gateIndex : Nat := 0
  /-- 64 bits; R455; reset 0. Launch Counter value at which that entry began. -/
  gateAt : Nat := 0
  /-- by class, 64 bits; R456; reset 0. Launch Counter value at which its gate opened, while it is open. -/
  gateSince : Tbl Nat := []
  /-- 64 bits, wrapping; R458 GATE_OVERSIZE; reset 0. -/
  gateOversize : Nat := 0
  /-- by class, 64 bits, wrapping; R458 PFC_PAUSED_NS; reset 0. -/
  pausedNs : Tbl Nat := []
  /-- by class: Launch Counter value at which the pause now in force began; R458; reset none. -/
  pausedSince : Tbl Nat := []
  deriving DecidableEq, Repr

/-- One owner-table entry (R418, R419). -/
structure OwnerEntry where
  /-- 48 bits, bytes in wire order; R418 MAC. -/
  mac : Bytes
  /-- 12 bits; R418 VID. -/
  vid : Nat
  /-- 5 bits; R418 OWNER. -/
  owner : Owner
  /-- 1 bit; R418 ROCE. -/
  roce : Bool
  deriving DecidableEq, Repr

/-! ### 13: Privet shares, tables and the flow cache -/

/-- One owner's Privet share (R421, R422). -/
structure Share where
  /-- 64 bits; R421 CLUSTERS. -/
  clusters : Nat
  /-- 8 bits, units of 256 bundles; R421 REGION_BASE. -/
  base : Nat
  /-- 8 bits, units of 256 bundles; R421 REGION_SIZE. -/
  size : Nat
  /-- 18 bits; R421 CACHE_LIMIT; 16,384 by default. -/
  cacheLimit : Nat
  /-- bundles or none; R422. The owner's current program. -/
  program : Option (List Nat) := none
  /-- list of clusters; R422; reset none. Clusters that the program has still to be written to. -/
  loading : List Nat := []
  deriving DecidableEq, Repr

/-- One exact-match table (R428). -/
structure MatchTable where
  /-- 5 bits; R428. -/
  owner : Owner
  /-- 7 bits; R428 KL. -/
  kl : Nat
  /-- 5 bits; R428 LOG2_BUCKETS. -/
  log2 : Nat
  /-- 1 bit; R428 CACHE. -/
  cache : Bool
  /-- 64 bits; R428 BASE. -/
  base : Nat
  /-- 32 bits; R428 SEED1. -/
  seed1 : Nat
  /-- 32 bits; R428 SEED2. -/
  seed2 : Nat
  /-- operation; R428; reset none. A TABLE_DELETE waits for the probes in flight. -/
  deleting : Option Nat := none
  deriving DecidableEq, Repr

/-- One flow-cache entry (R431). -/
structure FlowEntry where
  /-- 6 bits; R431. Table. -/
  table : Nat
  /-- 14 bits; R431. Set. -/
  set : Nat
  /-- key; R431. -/
  key : Bytes
  /-- 32 bytes; R431. Action. -/
  action : Bytes
  deriving DecidableEq, Repr

/-! ### 13: packet rings and the exception path -/

/-- One packet ring (R436). -/
structure PktRing where
  /-- 16 bits; R436. Instance. -/
  inst : Nat
  /-- 5 bits; R436. Owner. -/
  owner : Owner
  /-- 1 bit; R436 KIND: TX, otherwise RX. -/
  tx : Bool
  /-- 4 bits; R436 LOG2. -/
  log2 : Nat
  /-- 6 bits; R436 DOORBELL. -/
  doorbell : Nat
  /-- 8 bits; R436 VECTOR. -/
  vector : Nat
  /-- 64 bits; R436 SQ_ADDR. -/
  sqAddr : Nat
  /-- 64 bits; R436 CQ_ADDR. -/
  cqAddr : Nat
  /-- 32 bits; R436; reset 0. Posted count last written to the doorbell. -/
  posted : Nat := 0
  /-- 32 bits; R436; reset 0. Entries fetched. -/
  fetched : Nat := 0
  /-- 64 bits, wrapping; R375, R438 SEQ, R439 SEQ; reset 0. Completion records written. -/
  completed : Nat := 0
  /-- list of (index, ADDR, LENGTH), oldest first; R437; reset none. RX buffers fetched and unused. -/
  buffers : List (Nat × Nat × Nat) := []
  /-- 32 bits, saturating; R437 RX_NO_BUFFER; reset 0. -/
  noBuffer : Nat := 0
  /-- operation; R436; reset none. A RING_DELETE waits for the ring's operations. -/
  deleting : Option Nat := none
  deriving DecidableEq, Repr

/-- A frame on its way to an RX ring or an exception ring (R437, R438). -/
structure Delivery where
  /-- bytes after STRIP; R427, R437. -/
  data : Bytes
  /-- 3 bits; R438 PORT. -/
  port : Nat
  /-- 8 bits; R438 STATUS: 0, or a code of R434. -/
  status : Nat
  /-- 32 bits; R438 FLAGS. -/
  flags : Nat
  /-- metadata words 1 to 5; R438 META. -/
  meta_ : List W64
  /-- 64 bits; R438 TIME. -/
  at_ : Nat
  deriving DecidableEq, Repr

/-- The operator domain's exception ring (R435). -/
structure OpExcRing where
  /-- 64 bits; R435. Header address. -/
  addr : Nat
  /-- 4 bits; R435 LOG2. -/
  log2 : Nat
  /-- 64 bits; R435. Address of the slots. -/
  slots : Nat
  /-- 64 bits; R435 n; reset 0. Frames written. -/
  n : Nat := 0
  /-- 64 bits; R435 CONSUMED as last read; reset 0. -/
  consumed : Nat := 0
  deriving DecidableEq, Repr

/-- Exception counts of one owner (R387). -/
structure ExcCounts where
  /-- 64 bits, wrapping; R387 EXC_DELIVERED; reset 0. -/
  delivered : Nat := 0
  /-- 64 bits, wrapping; R387 EXC_DROPPED_RATE; reset 0. -/
  droppedRate : Nat := 0
  /-- 64 bits, wrapping; R387, R435 EXC_DROPPED_NO_RING; reset 0. -/
  droppedNoRing : Nat := 0
  deriving DecidableEq, Repr

/-! ### 13: the RoCEv2 engine -/

/-- A message that a queue pair sends (R441). -/
structure QpMsg where
  /-- 24 bits; R441. First PSN of the message. -/
  psn : Nat
  /-- count; R441. PSNs that the message takes. -/
  psns : Nat
  /-- what it is; R441: 0 SEND, 1 RDMA WRITE, 2 RDMA READ. -/
  kind : Nat
  /-- 64 bits; R441. Remote address. -/
  addr : Nat
  /-- 32 bits; R441. Remote R_Key. -/
  rkey : Nat
  /-- bytes to send, or received so far by a READ; R441. -/
  data : Bytes
  /-- 32 bits; R441. Length. -/
  length : Nat
  /-- tracker tag of the operation it serves, or none once that has ended; R441. -/
  op : Option Nat
  /-- 1 bit; R386; reset 0. Its request has been sent; one whose queue pair is parked waits. -/
  sent : Bool
  deriving DecidableEq, Repr

/-- One queue pair (R441, R442). -/
structure Qp where
  /-- 5 bits; R442. Owner. -/
  owner : Owner
  /-- 3 bits; R442 PORT. -/
  port : Nat
  /-- 3 bits; R442 FLAGS: IPV6, WINDOW_READ, WINDOW_WRITE. -/
  flags : Nat
  /-- bytes; R442 MTU: 1,024, 2,048 or 4,096. -/
  mtu : Nat
  /-- 3 bits; R442 RETRY. -/
  retry : Nat
  /-- 10 bits; R442 OWNER_ENTRY. -/
  entry : Nat
  /-- 14 bits; R442 EGRESS_QUEUE. -/
  queue : Nat
  /-- 128 bits; R442 LOCAL_IP. -/
  localIp : Bytes
  /-- 128 bits; R442 REMOTE_IP. -/
  remoteIp : Bytes
  /-- 48 bits; R442 NEXT_HOP_MAC. -/
  mac : Bytes
  /-- 6 bits; R442 DSCP. -/
  dscp : Nat
  /-- 24 bits; R442 REMOTE_QPN. -/
  remoteQpn : Nat
  /-- 5 bits; R442 TIMEOUT. -/
  timeout : Nat
  /-- 24 bits; R442 START_PSN at creation. PSN of the next packet sent. -/
  psn : Nat
  /-- 24 bits; R442 EXPECTED_PSN at creation. PSN expected next. -/
  expected : Nat
  /-- 64 bits; R442 WINDOW_BASE. -/
  windowBase : Nat
  /-- 64 bits; R442 WINDOW_LENGTH. -/
  windowLength : Nat
  /-- 32 bits; R442 R_Key. -/
  rkey : Nat
  /-- 1 bit; R442; reset 0. The QP is in the error state. -/
  error : Bool := false
  /-- 24 bits; R441; reset 0. MSN: requests completed as responder. -/
  msn : Nat := 0
  /-- 1 bit; R441; reset 0. A NAK sequence error was sent and the expected PSN has not arrived since. -/
  nakSent : Bool := false
  /-- address and bytes left of the RDMA WRITE being received, or none; R441; reset none. -/
  writing : Option (Nat × Nat) := none
  /-- 1 bit; R441; reset 0. A SEND of several packets is being received. -/
  sending : Bool := false
  /-- bytes; R441; reset none. SEND being received into an engine-held buffer. -/
  receiving : Bytes := []
  /-- list, oldest first; R441; reset none. Messages not yet acknowledged. -/
  unacked : List QpMsg := []
  /-- 3 bits; R442; reset 0. Retries used without progress. -/
  tries : Nat := 0
  /-- 64 bits; R441; reset 0. Launch Counter value from which the local ACK timer runs. -/
  ackSince : Nat := 0
  /-- Mb/s or none; R441; reset none (port rate). Sending rate. -/
  rate : Option Nat := none
  /-- 64 bits or none; R441; reset none. Launch Counter value of the last CNP received or rate increase. -/
  rateAt : Option Nat := none
  /-- 64 bits or none; R441; reset none. Launch Counter value of the last CNP sent. -/
  cnpAt : Option Nat := none
  /-- operation; R442; reset none. An RDMA_QP_DESTROY waits. -/
  deleting : Option Nat := none
  deriving DecidableEq, Repr

/-! ### 14: queues, shapers and policers -/

/-- Where a transmitted frame comes from (R439, R441). -/
inductive TxOrigin
  /-- A TX ring: ring, INDEX, TAG, and the tracker tag of its operation. -/
  | ring (ring index tag op : Nat)
  /-- A queue pair of the RoCEv2 engine. -/
  | roce (qpn : Nat)
  deriving DecidableEq, Repr

/-- A frame in an egress queue, with padding, without FCS (R439, R446). -/
structure TxFrame where
  /-- bytes; R439. -/
  data : Bytes
  /-- origin; R439, R441. -/
  origin : TxOrigin
  deriving DecidableEq, Repr

/-- Rates and sizes of a shaper or a policer (R449, R452). -/
structure Rates where
  /-- Mb/s; R449 CIR; reset 0. -/
  cir : Nat := 0
  /-- Mb/s; R449 PIR; reset 0 (DESIGN CHOICE). -/
  pir : Nat := 0
  /-- 24 bits; R449 CBS; reset 0 (DESIGN CHOICE). -/
  cbs : Nat := 0
  /-- 24 bits; R449 PBS; reset 0 (DESIGN CHOICE). -/
  pbs : Nat := 0
  deriving DecidableEq, Repr

/-- Two token buckets with their values (R450). -/
structure Buckets where
  /-- 1 bit; R449 ENABLE; reset 0. -/
  enable : Bool := false
  /-- rates; R449; reset 0. -/
  rates : Rates := {}
  /-- signed bits; R450; reset 0. Committed bucket. -/
  tc : Int := 0
  /-- signed bits; R450; reset 0. Peak bucket. -/
  tp : Int := 0
  /-- ENABLE and rates or none; R450; reset none. Values taken at the next refill. -/
  staged : Option (Bool × Rates) := none
  deriving DecidableEq, Repr

/-- One egress queue with its shaper (R445 to R451). -/
structure EgressQueue where
  /-- 5 bits; R445 OWNER; reset operator domain. -/
  owner : Owner := 16
  /-- 3 bits; R445 PORT; reset 0 (DESIGN CHOICE). -/
  port : Nat := 0
  /-- 3 bits; R445 CLASS; reset 0 (DESIGN CHOICE). -/
  cls : Nat := 0
  /-- 1 bit; R445 ENABLE; reset 0. -/
  enable : Bool := false
  /-- 16 bits; R445 WEIGHT; reset 1 (DESIGN CHOICE). -/
  weight : Nat := 1
  /-- KiB; R445 LIMIT; reset 16 (DESIGN CHOICE). -/
  limit : Nat := 16
  /-- list, oldest first; R445; reset none. -/
  frames : List TxFrame := []
  /-- 64 bits; R448 F; reset 0. Finish tag of the last tagged frame, the head frame when the queue holds one. -/
  ftag : Nat := 0
  /-- shaper; R449; reset disabled. -/
  shaper : Buckets := {}
  /-- 64 bits, wrapping; R458 ENQ_FRAMES; reset 0. -/
  enqFrames : Nat := 0
  /-- 64 bits, wrapping; R458 ENQ_BYTES; reset 0. -/
  enqBytes : Nat := 0
  /-- 64 bits, wrapping; R458 TX_FRAMES; reset 0. -/
  txFrames : Nat := 0
  /-- 64 bits, wrapping; R458 TX_BYTES; reset 0. -/
  txBytes : Nat := 0
  /-- 64 bits, wrapping; R458 DROP_FRAMES; reset 0. -/
  dropFrames : Nat := 0
  /-- 64 bits, wrapping; R458 DROP_BYTES; reset 0. -/
  dropBytes : Nat := 0
  deriving DecidableEq, Repr

/-- One policer (R452, R453). -/
structure Policer where
  /-- 5 bits; R452 OWNER; reset operator domain (DESIGN CHOICE: as the queues). -/
  owner : Owner := 16
  /-- 1 bit; R452 AWARE; reset 0 (DESIGN CHOICE). -/
  aware : Bool := false
  /-- 8 bits; R452 COLOUR_SOURCE; reset 1 (DESIGN CHOICE). -/
  source : Nat := 1
  /-- 64 bits; R452 YELLOW_DSCP; reset 0 (DESIGN CHOICE). -/
  yellow : Nat := 0
  /-- 64 bits; R452 RED_DSCP; reset 0 (DESIGN CHOICE). -/
  red : Nat := 0
  /-- buckets; R453; reset disabled. -/
  buckets : Buckets := {}
  /-- 64 bits, wrapping; R458 GREEN_FRAMES; reset 0. -/
  greenFrames : Nat := 0
  /-- 64 bits, wrapping; R458 GREEN_BYTES; reset 0. -/
  greenBytes : Nat := 0
  /-- 64 bits, wrapping; R458 YELLOW_FRAMES; reset 0. -/
  yellowFrames : Nat := 0
  /-- 64 bits, wrapping; R458 YELLOW_BYTES; reset 0. -/
  yellowBytes : Nat := 0
  /-- 64 bits, wrapping; R458 RED_FRAMES; reset 0. -/
  redFrames : Nat := 0
  /-- 64 bits, wrapping; R458 RED_BYTES; reset 0. -/
  redBytes : Nat := 0
  deriving DecidableEq, Repr

/-- The packet path and the traffic manager (13, 14). -/
structure Packet where
  /-- by port 0 to 7; R415; reset as a new EthPort. -/
  ports : Tbl EthPort := []
  /-- by 1,024 × port + entry; R419; reset none valid. -/
  owners : Tbl OwnerEntry := []
  /-- by owner; R421; reset none. -/
  shares : Tbl Share := []
  /-- by 4,096 × cluster + bundle, 128 bits; R422; reset 0. Program stores of the clusters. -/
  stores : Tbl Nat := []
  /-- by table 0 to 63; R428; reset none. -/
  tables : Tbl MatchTable := []
  /-- up to 262,144, most recently used first; R431; reset none. Flow cache of die 0. -/
  cache0 : List FlowEntry := []
  /-- up to 262,144, most recently used first; R431; reset none. Flow cache of die 1. -/
  cache1 : List FlowEntry := []
  /-- by ring 0 to 4,095; R436; reset none. -/
  rings : Tbl PktRing := []
  /-- up to 64 per ring, of (ring, frame), oldest first; R437; reset none. Holding buffers of frames whose ring is not resident. -/
  held : List (Nat × Delivery) := []
  /-- by partition: RX ring; R435; reset none. Exception rings. -/
  excRings : Tbl Nat := []
  /-- ring or none; R435; reset none. The operator domain's exception ring. -/
  opExc : Option OpExcRing := none
  /-- list of (die, owner, frame), oldest first; R387; reset none. Metered frames waiting for delivery. -/
  excQueue : List (Nat × Owner × Delivery) := []
  /-- by owner, in 10^−9 packets; R387; reset none listed (a full bucket, DESIGN CHOICE). Tokens of the exception path. -/
  excTokens : Tbl Nat := []
  /-- by owner: Launch Counter value; R387; reset none. Last refill of the owner's exception bucket. -/
  excRefilled : Tbl Nat := []
  /-- by owner; R387; reset 0. -/
  excCounts : Tbl ExcCounts := []
  /-- by owner, 64 bits, wrapping; R427 PKT_DROPPED_VERDICT; reset 0. -/
  verdictDrops : Tbl Nat := []
  /-- by QPN; R442; reset none. -/
  qps : Tbl Qp := []
  /-- by queue 0 to 16,383; R445; reset as a new EgressQueue. -/
  queues : Tbl EgressQueue := []
  /-- by policer 0 to 8,191; R452; reset as a new Policer. -/
  policers : Tbl Policer := []
  /-- Launch Counter value or none; R450; reset none. The last refill of every bucket. -/
  refilledAt : Option Nat := none
  /-- by die; R423; reset 3 (DESIGN CHOICE: the round robin starts at the die's first port). Port of the die, 0 to 3, served last. -/
  turn : Tbl Nat := []
  deriving DecidableEq, Repr

end Sys2Proof.Machine
end

