-- ==== Sys2Proof/Machine/StPower.lean ====
section
/-! DEFINITION. State of power, temperature, bring-up, unit service, counters, logs, telemetry, test and
management (16, 17, 18). -/

namespace Sys2Proof.Machine

/-- Why the rails are off (R505, R506). -/
inductive OffCause
  | never | input | root | trip | enable
  deriving DecidableEq, Repr

/-- The module input, rails, power cap, temperature and emergencies (R496 to R508). -/
structure Power where
  /-- 1 bit; R498; reset 1 (DESIGN CHOICE: State.reset is a powered module). Both J1 sense contacts see the input. -/
  sense : Bool := true
  /-- 1 bit; R498; reset 1 (DESIGN CHOICE, as sense). The bulk capacitance is charged. -/
  bulk : Bool := true
  /-- 1 bit; R499 MODULE_EN; reset 1 (DESIGN CHOICE, as sense). -/
  moduleEn : Bool := true
  /-- ns or none; R505, R506; reset none. Model time since which MODULE_EN has been low. -/
  enLowSince : Option Nat := none
  /-- 1 bit; R499 PWR_GOOD; reset 1 (a cold reset starts with it). -/
  pwrGood : Bool := true
  /-- 1 bit; R503, R506 THERMTRIP#; reset 0. -/
  thermtrip : Bool := false
  /-- cause; R506; reset never. -/
  off : OffCause := .never
  /-- five voltage samples in mV, newest first; R497; reset 52,000 each (DESIGN CHOICE: nominal). -/
  volts : List Nat := [52000, 52000, 52000, 52000, 52000]
  /-- five current samples in mA, newest first; R497; reset 0 each (DESIGN CHOICE). -/
  amps : List Nat := [0, 0, 0, 0, 0]
  /-- ns or none; R499; reset none. Model time since which the filtered input is in 44 V to 58 V. -/
  inRangeSince : Option Nat := none
  /-- ns or none; R496; reset none. Model time since which the filtered input is below 40 V. -/
  below40Since : Option Nat := none
  /-- ns or none; R504; reset none. Model time since which the filtered input is at 43 V or above. -/
  above43Since : Option Nat := none
  /-- 1 bit; R504; reset 0. -/
  powerEmergency : Bool := false
  /-- 2 bits; R501; reset 0 (PL0). -/
  planned : Nat := 0
  /-- 2 bits; R502; reset 0. The cap's own limit. -/
  capLimit : Nat := 0
  /-- 11 bits, W; R502; reset 1,600. -/
  cap : Nat := 1600
  /-- ns or none; R502; reset none. Model time of the cap's last emergency step, until input power is at CAP or below. -/
  capStepAt : Option Nat := none
  /-- ns or none; R502; reset none. Model time since which input power exceeds CAP at PL2. -/
  capOverSince : Option Nat := none
  /-- ns or none; R502; reset none. Model time since which input power is below 95 % of CAP. -/
  capBelowSince : Option Nat := none
  /-- 1 bit; R502, R508; reset 0. -/
  capUnmet : Bool := false
  /-- 2 bits; R503; reset 0. The throttle limit. -/
  throttle : Nat := 0
  /-- ns or none; R503; reset none. Model time of the last throttle step while Tj is at 100 °C or above. -/
  throttleAt : Option Nat := none
  /-- ns or none; R503; reset none. Model time since which both dies' Tj is at 95 °C or below. -/
  coolSince : Option Nat := none
  /-- 1 bit; R503; reset 0. Held at PL2 until cold reset, two sensors of a die excluded. -/
  throttleHeld : Bool := false
  /-- 1 bit; R503; reset 0. Thermal emergency of die 0. -/
  thermal0 : Bool := false
  /-- 1 bit; R503; reset 0. Thermal emergency of die 1. -/
  thermal1 : Bool := false
  /-- ns or none; R503; reset none. Model time since which die 0's Tj is at 105 °C or below. -/
  below105a : Option Nat := none
  /-- ns or none; R503; reset none. As below105a, for die 1. -/
  below105b : Option Nat := none
  /-- six signed readings in 0.1 °C; R508; reset 250 each (DESIGN CHOICE). -/
  sensors : List Int := [250, 250, 250, 250, 250, 250]
  /-- 6 bits; R508 EXCLUDED; reset 0. -/
  excluded : Nat := 0
  /-- signed, 0.1 °C; R508 TJ0; reset 250 (DESIGN CHOICE). -/
  tj0 : Int := 250
  /-- signed, 0.1 °C; R508 TJ1; reset 250 (DESIGN CHOICE). -/
  tj1 : Int := 250
  /-- ns or none; R501; reset none. Model time at which a planned step not yet taken was announced. -/
  stepAt : Option Nat := none
  /-- 64 bits; R519 TCLK cycles counted up to the last divider change; reset 0. -/
  tclkCycles : Nat := 0
  /-- 64 bits; R519 Launch Counter value of the last divider change; reset 0. -/
  tclkSince : Nat := 0
  deriving DecidableEq, Repr

/-- Fuses and identity of the module (15 R461 to R463, 00 R2). No reset changes them. -/
structure Fuses where
  /-- 1 bit; R2; a new module's value: ZD-9740-L (DESIGN CHOICE). Ordering code: true for ZD-9740-LX. -/
  lx : Bool := false
  /-- 64 bits; R461 SERIAL; 0 (DESIGN CHOICE). -/
  serial : Nat := 0
  /-- four hashes of 32 bytes; R461 KEY_HASH0–3; zeros (DESIGN CHOICE). -/
  keyHash : List Bytes := List.replicate 4 (zeros 32)
  /-- 4 × 2 bits; R461 KEY_STATE: bit k programmed, bit 4 + k revoked; 1: key 0 valid (DESIGN CHOICE). -/
  keyState : Nat := 1
  /-- 8 bits; R461 LIFECYCLE; 0x5A PRODUCTION (DESIGN CHOICE: a module in the field). -/
  lifecycle : Nat := 0x5A
  /-- 32 rows of (64-bit version, 8-bit check); R461 SVN_ROW0–31; none programmed (DESIGN CHOICE). Rows programmed, in
  row order. -/
  svnRows : List (Nat × Nat) := []
  deriving DecidableEq, Repr

/-- Bring-up (R509 to R514). -/
structure BringUp where
  /-- 1 bit; R509; reset 0. The boot ROM has reached level ROM. -/
  rom : Bool := false
  /-- 2 bits; R321 LEVEL; reset 1. 1 ROM, 2 QUICKSET, 3 FULL. -/
  level : Nat := 1
  /-- 1 bit; R321 FAILED; reset 0. -/
  failed : Bool := false
  /-- 32 bits; R373 READY_QUERY CAUSE; reset 0xFFFF_FFFF. -/
  cause : Nat := 0xFFFF_FFFF
  /-- 1 bit; R366; reset 0. Host port whose physical function holds operator authority. -/
  opPort : Nat := 0
  /-- 1 bit; R321 OPERATOR_ABSENT; reset 0. -/
  opAbsent : Bool := false
  /-- 128 bits; R464 BOOT_NONCE; reset 0 (DESIGN CHOICE, until BOOT_ROM draws it). -/
  bootNonce : Nat := 0
  deriving DecidableEq, Repr

/-- Service states of a unit (R538). -/
inductive UnitState
  | inService | draining | out | bist | failed
  deriving DecidableEq, Repr

/-- The STATE code that TEST_QUERY reports (R382). -/
def UnitState.code : UnitState → Nat
  | .inService => 1 | .draining => 2 | .out => 3 | .bist => 4 | .failed => 5

/-- Service record of one unit (R535 to R538). -/
structure UnitRec where
  /-- 3 bits; R538; reset out of service (R510). -/
  state : UnitState := .out
  /-- 64 bits; R36; reset 0. Launch Counter value at which the drain began. -/
  since : Nat := 0
  /-- 2 bits; R382 TEST_QUERY LAST; reset 0: 0 none, 1 PASS, 2 FAIL. -/
  last : Nat := 0
  /-- 224 bytes; R537; reset empty. Completion body of the last BIST. -/
  result : Bytes := []
  deriving DecidableEq, Repr

/-- One programmable counter (R520 to R526). -/
structure PmcCounter where
  /-- 48 bits; R520 PMC_CTR; reset 0. -/
  count : Nat := 0
  /-- 1 bit; R520 PMC_OVF; reset 0. -/
  ovf : Bool := false
  /-- 8 bits; R520 PMC_SEL EVENT; reset 0. -/
  event : Nat := 0
  /-- 8 bits; R520 PMC_SEL FLAGS (ENABLE, CHAIN, PRIV_EN, PRIV, MASTER_EN, ADDR_EN, CLASS_EN, CLASS_KIND); reset 0. -/
  flags : Nat := 0
  /-- 5 bits; R520 PMC_SEL PART; reset 0. -/
  part : Nat := 0
  /-- 12 bits; R520 PMC_SEL MASTER; reset 0. -/
  master : Nat := 0
  /-- 12 bits; R520 PMC_SEL MASTER_MASK; reset 0. -/
  mask : Nat := 0
  /-- 8 bits; R520 PMC_SEL CLASS; reset 0. -/
  cls : Nat := 0
  /-- 64 bits; R525 ADDR_LO; reset 0. -/
  lo : Nat := 0
  /-- 64 bits; R525 ADDR_HI; reset 0. -/
  hi : Nat := 0
  /-- partition or none; R526, PMC_STATE TENANT; reset none. -/
  holder : Option Nat := none
  /-- 6 bits; R526; reset 0. Tenant slot that a held counter is bound to. -/
  slot : Nat := 0
  deriving DecidableEq, Repr

/-- One record of the device error log (R530). -/
structure ErrorRecord where
  /-- 64 bits; R530. -/
  time : Nat
  /-- 16 bits; R530. -/
  unit : Nat
  /-- 8 bits; R530, R529. -/
  cls : Nat
  /-- 8 bits; R530. -/
  code : Nat
  /-- 8 bits; R530. -/
  owner : Nat
  /-- 16 bits; R530. -/
  status : Nat
  /-- 64 bits; R530. -/
  address : Nat
  /-- 32 bits, saturating; R530. -/
  count : Nat
  deriving DecidableEq, Repr

/-- One telemetry record (R533). -/
structure TeleRecord where
  /-- 64 bits; R533. -/
  time : Nat
  /-- 8 bits; R533. -/
  type : Nat
  /-- 8 bits; R533. -/
  die : Nat
  /-- 16 bits; R533. -/
  source : Nat
  /-- 8 bits; R533. -/
  status : Nat
  /-- up to 96 bytes; R533. -/
  payload : Bytes
  deriving DecidableEq, Repr

/-- The operator telemetry ring (R533, R534). -/
structure TeleRing where
  /-- 1 bit; R533; reset 0. A TELEMETRY_RING_SET has named a ring. -/
  set : Bool := false
  /-- 64 bits; R533; reset 0. -/
  addr : Nat := 0
  /-- 5 bits; R533; reset 0. -/
  log2 : Nat := 0
  /-- 8 bits; R533; reset 0xFF. -/
  vector : Nat := 0xFF
  /-- 64 bits; R533 SEQ of the last record written; reset 0. -/
  seq : Nat := 0
  /-- 64 bits; R533 CONSUMED as last read; reset 0. -/
  consumed : Nat := 0
  /-- 64 bits; R533 LOST; reset 0. -/
  lost : Nat := 0
  /-- 64 bits; R534; reset 0. Drops since the last LOST_RECORDS record. -/
  lostSince : Nat := 0
  /-- up to 256 records; R534; reset none. -/
  queue : List TeleRecord := []
  deriving DecidableEq, Repr

/-- A running sideband exchange of a ZAL port (R532). -/
structure SideExchange where
  /-- 64 bits; R532. Launch Counter value of its start. -/
  start : Nat
  /-- 64 bits; R531. Due time of the entry. -/
  due : Nat
  /-- 8 bits; R532 SET. -/
  set : Nat
  deriving DecidableEq, Repr

/-- A counter capture set by COUNTER_READ (R528): its RESPONSE follows the capture. -/
structure Capture where
  /-- 64 bits; R528. Earliest capture time T. -/
  at_ : Nat
  /-- the request that asked. -/
  q : Req
  /-- 32 bits; R353. Its INDEX. -/
  index : Nat
  /-- model's own: the mailbox session that asked. -/
  sessionNo : Nat
  /-- up to 256 unit numbers; R528. -/
  units : List Nat
  /-- OUT; R528. -/
  out : BufRef
  deriving DecidableEq, Repr

/-- Counters, logs and telemetry (17). -/
structure Monitor where
  /-- by 8 × UNIT + k; R520; reset all zero. -/
  pmc : Tbl PmcCounter := []
  /-- by 64 × partition + slot; R526; reset 0. PMC_CYCLE latched by the last slot read. -/
  latched : Tbl Nat := []
  /-- up to 1,024 records, oldest first; R530; reset none. -/
  errors : List ErrorRecord := []
  /-- 32 bits, saturating; R530; reset 0. -/
  overwrites : Nat := 0
  /-- ring; R533; reset not set. -/
  ring : TeleRing := {}
  /-- by ZAL port; R532; reset none. -/
  side : Tbl SideExchange := []
  /-- list, oldest first; R528; reset none. -/
  captures : List Capture := []
  deriving DecidableEq, Repr

/-- The test port of one die and the straps (R539, 18). -/
structure Jtag where
  /-- 3 bits; R539; reset IDCODE, 1 (PRESUMED: IEEE 1149.1). Instruction in force: 0 BYPASS, 1 IDCODE, 2 SAMPLE/PRELOAD, 3 EXTEST, 4 CLAMP, 5 HIGHZ. -/
  instr : Nat := 1
  /-- boundary register, bits; R539; reset none (DESIGN CHOICE: its length is not given). -/
  boundary : List Bool := []
  /-- what TDO shifts next; R539: true while the bypass bit is selected; reset 0. -/
  bypass : Bool := false
  /-- 1 bit; R539 EXTEST; reset 0. The pins are driven from the boundary register. -/
  driven : Bool := false
  /-- 1 bit; R539 HIGHZ; reset 0. The pins are undriven. -/
  highz : Bool := false
  deriving DecidableEq, Repr

/-- The management interface (18 R551 to R559). -/
structure Mgmt where
  /-- 3 bits; R550 straps ID0 to ID2, pulled up; sampled at cold reset; 7 (open). -/
  straps : Nat := 7
  /-- 1 bit; R539 TEST_MODE strap, pulled down; sampled at cold reset; 0 (open). -/
  testMode : Bool := false
  /-- by bus (0 MGMT0, 1 MGMT1); R555; reset 0 (DESIGN CHOICE: no EID until assigned). -/
  eids : Tbl Nat := []
  /-- bus or none; R556; reset none. Bus whose PLDM firmware update holds the staging bank. -/
  pldmUpdate : Option Nat := none
  deriving DecidableEq, Repr

end Sys2Proof.Machine
end

