-- ==== Sys2Proof/Machine/StSec.lean ====
section
/-! DEFINITION. State of the root of trust, the key store, the entropy sources and alarms (15). -/

namespace Sys2Proof.Machine

/-- States of a general key slot (R477); a FREE slot is not listed. -/
inductive KeyState
  | loaded | exhausted | erased
  deriving DecidableEq, Repr

/-- The STATE code of KEY_SLOT_QUERY (R380). -/
def KeyState.code : KeyState → Nat
  | .loaded => 1 | .exhausted => 2 | .erased => 3

/-- One general key slot that is not FREE (R476 to R488). -/
structure KeySlot where
  /-- state; R477; FREE slots are not listed. -/
  state : KeyState
  /-- 4 bits; R476. Partition. -/
  owner : Owner
  /-- 8 bits; R480 ALG. -/
  alg : Nat
  /-- 4 bits; R480 MODES. -/
  modes : Nat
  /-- 2 bits; R480 USAGE. -/
  usage : Nat
  /-- 2 bits; R480 DIRECTION. -/
  dir : Nat
  /-- 32 bits, four bytes; R480, R485 FIXED. -/
  fixed : Bytes
  /-- 48 bits; R485 NEXT_COUNT. -/
  nextCount : Nat
  /-- key bytes; R477; none once ERASED. -/
  key : Bytes
  deriving DecidableEq, Repr

/-- A partition's memory key (R489). -/
structure MemKey where
  /-- 64 bytes or none; R489. None after an alarm, until drawn again or re-imported. -/
  key : Option Bytes
  /-- 1 bit; R489. Imported, otherwise drawn. -/
  imported : Bool
  /-- 32 bytes; R489. SHA-256 of the imported key. -/
  check : Bytes
  deriving DecidableEq, Repr

/-- One measurement log entry (R469). -/
structure LogEntry where
  /-- 64 bits; R469 TIME. -/
  time : Nat
  /-- 16 bits; R469 TYPE. -/
  type : Nat
  /-- 8 bits; R469 REGISTER. -/
  register : Nat
  /-- 32 bits; R469 INFO. -/
  info : Nat
  /-- 32 bytes; R469 DIGEST. -/
  digest : Bytes
  deriving DecidableEq, Repr

/-- A quote that is being signed: its body as captured (R473). -/
structure Signing where
  /-- the long operation of an Ialdo quote, or none for a DOE quote. -/
  op : Option Nat
  /-- host port of a DOE quote. -/
  port : Nat
  /-- 64 bits; R472 TIME. Launch Counter value at which signing began. -/
  since : Nat
  /-- bytes; R472. What the signature covers. -/
  body : Bytes
  deriving DecidableEq, Repr

/-- A DOE request for a quote that waits for the signer (R474). -/
structure DoeQuote where
  /-- 1 bit; R474. Host port. -/
  port : Nat
  /-- 8 bits; R471 KIND. -/
  kind : Nat
  /-- 8 bits; R471 PARTITION. -/
  part : Nat
  /-- 32 bytes; R471 NONCE. -/
  nonce : Bytes
  deriving DecidableEq, Repr

/-- What a draw that waits for an entropy source serves (R475). -/
inductive DrawFor
  /-- A request, with its opcode, its n, its mailbox session (model's own) and its body's fields, that is answered once it has
  drawn. -/
  | request (q : Req) (opcode n sessionNo : Nat) (args : List Nat)
  /-- The channel of a token session. -/
  | session (handle : Nat)
  /-- The masking DRBG of an engine. -/
  | engine (engine : Nat)
  deriving DecidableEq, Repr

/-- A draw that waits for an entropy source (R475). -/
structure WaitingDraw where
  /-- 64 bits; R475. Launch Counter value at which it began to wait. -/
  since : Nat
  /-- what it serves; R475. -/
  what : DrawFor
  deriving DecidableEq, Repr

/-- Root of trust, key store, entropy sources and alarms (15). -/
structure Security where
  /-- 32 bytes; R468 DMR0; reset 0. -/
  dmr0 : Bytes := zeros 32
  /-- 32 bytes; R468 DMR1; reset 0. -/
  dmr1 : Bytes := zeros 32
  /-- by partition, 32 bytes; R468 PMR; zero at PARTITION_CREATE. -/
  pmr : Tbl Bytes := []
  /-- up to 4,096, oldest first; R470; reset none. Device log. -/
  log : List LogEntry := []
  /-- by partition, up to 4,096 each, oldest first; R470; reset none. -/
  logs : Tbl (List LogEntry) := []
  /-- by slot 0 to 16,383; R477; reset all FREE. -/
  slots : Tbl KeySlot := []
  /-- by partition: 32 bytes; R476, R478; reset none. Import keys, system slots 16,384 + 2p. -/
  importKeys : Tbl Bytes := []
  /-- by partition: encapsulation key and decapsulation key; R478; reset none. -/
  decaps : Tbl (Bytes × Bytes) := []
  /-- by partition: encapsulation key of the last key pair, kept for quotes; R472; reset none. -/
  encaps : Tbl Bytes := []
  /-- by partition; R476, R489; reset none. Memory keys, system slots 16,385 + 2p. -/
  memKeys : Tbl MemKey := []
  /-- 64 bytes or none; R459; reset none until BOOT_ROM draws it. System slot 16,416. -/
  deviceKey : Option Bytes := none
  /-- 1 bit; R459; reset 0 until BOOT_ROM derives it. The firmware memory key is held. -/
  firmwareKey : Bool := false
  /-- list of long operations, oldest first; R473; reset none. Quotes that wait for the signer. -/
  quotes : List Nat := []
  /-- list, oldest first; R474; reset none. DOE quotes that wait for the signer. -/
  doe : List DoeQuote := []
  /-- or none; R473; reset none. The quote being signed. -/
  signing : Option Signing := none
  /-- 1 bit; R475; reset 0 (healthy, DESIGN CHOICE: until BOOT_ROM tests it). Die 0's source is withdrawn. -/
  withdrawn0 : Bool := false
  /-- 1 bit; R475; reset 0 (healthy, DESIGN CHOICE: as withdrawn0). Die 1's source is withdrawn. -/
  withdrawn1 : Bool := false
  /-- list, oldest first; R475; reset none. -/
  waiting : List WaitingDraw := []
  /-- by engine (0 to 31 cipher engines, 32 to 39 inline pipes): seedings done; R492; reset 0. -/
  reseeds : Tbl Nat := []
  /-- list of engines; R492; reset none. Engines whose masking DRBG cannot reseed. -/
  unseeded : List Nat := []
  /-- source or none; R493; reset none. The alarm standing: 0 rail, 1 input, 2 root PLL, 3 clock edges, 4 temperature, 5 tamper loop, 6 glitch. -/
  alarm : Option Nat := none
  /-- 64 bits; R495; reset 0. Launch Counter value of the alarm. -/
  alarmAt : Nat := 0
  deriving DecidableEq, Repr

end Sys2Proof.Machine
end

