-- ==== Sys2Proof/Machine/StStor.lean ====
section
/-! DEFINITION. State of the checkpoint group and of the storage face (09, 12). -/

namespace Sys2Proof.Machine

/-! ### 09: checkpoint -/

/-- Phases of a generation (R305, R381 PHASE). -/
inductive CkpPhase
  | capture | parity | buddy | verify | prepared | commit
  deriving DecidableEq, Repr

/-- The PHASE code of CKP_STATUS (R381). -/
def CkpPhase.code : CkpPhase → Nat
  | .capture => 1 | .parity => 2 | .buddy => 3 | .verify => 4 | .prepared => 5 | .commit => 6

/-- Capture of one part (R304). -/
structure CkpPart where
  /-- 64 bits; R304; reset 0. Next offset expected, and the bytes captured. -/
  next : Nat := 0
  /-- bytes; R304; reset none. Bytes received, from which the stream CRC is computed. -/
  crc : Nat := 0xFFFF_FFFF_FFFF_FFFF
  /-- 1 bit; R304; reset 0. SHARD_END was answered OK. -/
  done : Bool := false
  /-- status; R304; reset 0. First error found in the stream. -/
  error : Nat := 0
  deriving DecidableEq, Repr

/-- A generation in progress on this member (R299 to R309). -/
structure GenRun where
  /-- 64 bits; R299. -/
  g : Nat
  /-- 64 bits; R299. -/
  step : Nat
  /-- 8 bits; R299. -/
  reason : Nat
  /-- phase; R305; reset CAPTURE. -/
  phase : CkpPhase := .capture
  /-- 64 bits; R301. Launch Counter value at which BEGIN was processed. -/
  began : Nat
  /-- 64 bits; R306. Launch Counter value at which the phase opened. -/
  phaseAt : Nat
  /-- 64 bits or none; R301; reset none. Snapshot point taken. -/
  snapAt : Option Nat := none
  /-- by ZAL port; R304; reset none. -/
  parts : Tbl CkpPart := []
  /-- 1 bit; R302; reset 0. The device-held part is in the own slot. -/
  deviceDone : Bool := false
  /-- 64 bits; R308; reset 0. DEVICE_CRC. -/
  deviceCrc : Nat := 0
  /-- list of (member, chunk); R305; reset none. Parity contributions received. -/
  contrib : List (Nat × Nat) := []
  /-- by parity chunk; R307; reset none. XOR of the CRCs received. -/
  parityCrc : Tbl Nat := []
  /-- by chunk; R307; reset none. CRCs of the buddy chunks received. -/
  buddyCrc : Tbl Nat := []
  /-- list of (ADDR, LENGTH); R297, R381. The ranges of its device-held part. -/
  ranges : List (Nat × Nat)
  /-- 1 bit; R307; reset 0. Every check of this member passed. -/
  verified : Bool := false
  deriving DecidableEq, Repr

/-- A commit record's fields that the device needs back (R308). -/
structure CommitRecord where
  /-- 64 bits; R308. -/
  g : Nat
  /-- 64 bits; R308. -/
  step : Nat
  /-- 8 bits; R308. -/
  reason : Nat
  /-- eight part lengths; R308. -/
  partBytes : List Nat
  /-- eight part CRCs; R308. -/
  partCrc : List Nat
  /-- 64 bits; R308. -/
  deviceBytes : Nat
  /-- 64 bits; R308. -/
  deviceCrc : Nat
  /-- list of (ADDR, LENGTH); R297. Ranges of the generation's device-held part. -/
  ranges : List (Nat × Nat) := []
  deriving DecidableEq, Repr

/-- A recovery in progress (R313). -/
structure CkpRestore where
  /-- 8 bits; R313. Member whose loss began the recovery; a spare takes its index. -/
  member : Nat
  /-- list of ZAL ports; R313. Accelerators that have ended with a matching CRC. -/
  ended : List Nat
  deriving DecidableEq, Repr

/-- The checkpoint group as this member holds it (R294 to R314, R381). -/
structure CkpGroup where
  /-- 4 bits; R381. Job partition. -/
  part : Nat
  /-- 8 bits; R381; 0xFF for a standby. -/
  member : Nat
  /-- 7 bits; R381. -/
  n : Nat
  /-- 3 bits; R381. -/
  port : Nat
  /-- ms; R381. -/
  captureTimeout : Nat
  /-- 64 bits; R381. -/
  groupId : Nat
  /-- 64 bits; R381. -/
  shardMax : Nat
  /-- ms; R381. -/
  phaseTimeout : Nat
  /-- 16 bits; R381. -/
  ownerEntry : Nat
  /-- 16 bits; R381. -/
  egressQueue : Nat
  /-- N entries of 48 bytes; R381. -/
  peers : List Bytes
  /-- eight lengths; R381. -/
  partMax : List Nat
  /-- 64 bits; R381. -/
  own0 : Nat
  /-- 64 bits; R381. -/
  own1 : Nat
  /-- 1 bit; R381. -/
  standby : Bool
  /-- 1 bit; R381; reset 0. Connections to every other member are up. -/
  formed : Bool := false
  /-- list of plots; R295. Plots of the buddy, parity and record areas, in order. -/
  areas : List Nat := []
  /-- up to 256 of (ADDR, LENGTH); R297; reset none. -/
  ranges : List (Nat × Nat) := []
  /-- 32 bits; R300; reset 1,000. -/
  warnMemory : Nat := 1000
  /-- 32 bits; R300; reset 10,000. -/
  warnReplays : Nat := 10000
  /-- 32 bits; R300; reset 5,000,000. -/
  warnFec : Nat := 5000000
  /-- 3 bits; R300; reset all enabled. [0] THERMAL, [1] POWER, [2] ACCELERATOR. -/
  warnFlags : Nat := 7
  /-- s; R300; reset 30. -/
  holdoff : Nat := 30
  /-- 64 bits or none; R300; reset none. Launch Counter value from which no further WARNING starts until HOLDOFF passes. -/
  lastWarn : Option Nat := none
  /-- by stack, 100 + port and 200 + port: the count at the start of the window; R300; reset none. -/
  window : Tbl Nat := []
  /-- list of members; R381; reset all. Members in service. -/
  inService : List Nat
  /-- list of (STEP, T); R301; reset none. Local triggers pending. -/
  triggers : List (Nat × Nat) := []
  /-- generation or none; R299; reset none. -/
  gen : Option GenRun := none
  /-- 64 bits; R311; reset 0. g_c. -/
  committed : Nat := 0
  /-- 64 bits; R381; reset 0. STEP of g_c. -/
  committedStep : Nat := 0
  /-- records by page 0 and 1; R308; reset none. -/
  pages : Tbl CommitRecord := []
  /-- 64 bits; R308 BUDDY_GENERATION; reset 0. -/
  buddyGen : Nat := 0
  /-- 64 bits; R381; reset 0. -/
  abandoned : Nat := 0
  /-- 8 bits; R381; reset 0. -/
  abandonCause : Nat := 0
  /-- 16 bits; R381; reset 0. -/
  lastStatus : Nat := 0
  /-- recovery or none; R313; reset none. -/
  restore : Option CkpRestore := none
  /-- 1 bit; R314; reset 0. -/
  lost : Bool := false
  /-- 1 bit; R311; reset 0. The failed member is rebuilt from parity. -/
  parityRebuild : Bool := false
  /-- list; R314; reset none. Members replaced since the last commit. -/
  missing : List Nat := []
  /-- 1 bit; R309; reset 0. The coordinator has failed and no member has taken its place. -/
  failover : Bool := false
  /-- count; R300; reset 0. Second of the Launch Counter at which the window began. -/
  windowAt : Nat := 0
  deriving DecidableEq, Repr

/-! ### 12: storage -/

/-- A storage pipeline (12 table, R414). -/
structure Pipeline where
  /-- 3 bits; R414; reset PS4 (no controller has a namespace on it). -/
  ps : Nat := 4
  /-- 1 bit; R406, R379 LINK; reset 0. Root port link. -/
  link : Bool := false
  /-- 3 bits; R379; reset 0. -/
  speed : Nat := 0
  /-- 3 bits; R379; reset 0. -/
  width : Nat := 0
  /-- 3 bits; R379; reset 4. -/
  deepest : Nat := 4
  /-- 64 bits, wrapping; R379; reset 0. -/
  completed : Nat := 0
  /-- count; R414; reset 0. Bulk-class work in progress. -/
  bulk : Nat := 0
  /-- 64 bits or none; R414; reset none. Launch Counter value at which the last bulk-class work completed. -/
  bulkEnd : Option Nat := none
  deriving DecidableEq, Repr

/-- A namespace (R403). -/
structure Namespace where
  /-- 5 bits; R403. -/
  owner : Owner
  /-- 8 bits; R403. 1 LOCAL, 2 FABRIC, 3 MEMORY. -/
  backing : Nat
  /-- 2 bits; R403. -/
  port : Nat
  /-- 1 bit; R403. -/
  encrypt : Bool
  /-- 32 bits; R403. -/
  source : Nat
  /-- 16 bits; R403. -/
  target : Nat
  /-- 14 bits; R403. -/
  keySlot : Nat
  /-- 64 bits; R403. -/
  base : Nat
  /-- 64 bits; R403. -/
  size : Nat
  /-- list of instances; R379; reset none. -/
  attached : List Nat := []
  deriving DecidableEq, Repr

/-- A fabric target (R379, R406). -/
structure FabricTarget where
  /-- 3 bits; R379. -/
  port : Nat
  /-- 64 bytes of the body without its reference; R379. -/
  config : Bytes
  /-- bytes; R379. -/
  nqn : Bytes
  /-- 1 bit; R406; reset 0. Connected. -/
  up : Bool := false
  deriving DecidableEq, Repr

/-- An NVMe submission queue (R400). -/
structure NvmeSq where
  /-- 0's based size; R400. -/
  size : Nat
  /-- 64 bits; R400. -/
  base : Nat
  /-- 16 bits; R400. -/
  cqid : Nat
  /-- 2 bits; R400, R401. Priority class. -/
  prio : Nat
  /-- 16 bits; R395; reset 0. -/
  tail : Nat := 0
  /-- 16 bits; R400; reset 0. -/
  head : Nat := 0
  deriving DecidableEq, Repr

/-- An NVMe completion queue (R400). -/
structure NvmeCq where
  /-- 0's based size; R400. -/
  size : Nat
  /-- 64 bits; R400. -/
  base : Nat
  /-- 16 bits; R398. -/
  vector : Nat
  /-- 1 bit; R398. Interrupts enabled. -/
  ien : Bool
  /-- 16 bits; R395; reset 0. -/
  head : Nat := 0
  /-- 16 bits; R400; reset 0. -/
  tail : Nat := 0
  /-- 1 bit; NVMe phase tag of the next entry; reset 1. -/
  phase : Bool := true
  deriving DecidableEq, Repr

/-- An NVMe completion to be posted (R396, R398). -/
structure NvmeCqe where
  /-- 32 bits. Dword 0. -/
  dw0 : Nat
  /-- 16 bits. -/
  sqid : Nat
  /-- 16 bits. -/
  sqHead : Nat
  /-- 16 bits. -/
  cid : Nat
  /-- 11 bits: status code type in [10:8], status code in [7:0]. -/
  status : Nat
  deriving DecidableEq, Repr

/-- A controller of an instance (R394 to R413). -/
structure Controller where
  /-- 16 bits; R395 CAP.MQES; reset 0xFF. -/
  mqes : Nat := 0xFF
  /-- 32 bits; R395 CC; reset 0. -/
  cc : Nat := 0
  /-- 1 bit; R395 CSTS.RDY; reset 0. -/
  rdy : Bool := false
  /-- 1 bit; R395 CSTS.CFS; reset 0. -/
  cfs : Bool := false
  /-- 2 bits; R395 CSTS.SHST; reset 0. -/
  shst : Nat := 0
  /-- 32 bits; R395 AQA; reset 0. -/
  aqa : Nat := 0
  /-- 64 bits; R395 ASQ; reset 0. -/
  asq : Nat := 0
  /-- 64 bits; R395 ACQ; reset 0. -/
  acq : Nat := 0
  /-- 1 bit; R397; reset 1. The controller has Quickset limits. -/
  quickset : Bool := true
  /-- by QID 0 to 64; R400; reset none. -/
  sqs : Tbl NvmeSq := []
  /-- by QID 0 to 64; R400; reset none. -/
  cqs : Tbl NvmeCq := []
  /-- by feature; R399; reset none listed (defaults). Values of Set Features. -/
  features : Tbl Nat := []
  /-- 32 × 64 bits; R399, R413; reset none. Autonomous Power State Transition table. -/
  apst : List Nat := []
  /-- counts granted for SQs and CQs, or none before Number of Queues; R399; reset 64 each (0's based 63). -/
  grantSq : Nat := 64
  /-- as grantSq, for completion queues. -/
  grantCq : Nat := 64
  /-- up to 4 CIDs; R398; reset none. Asynchronous Event Requests outstanding. -/
  aers : List Nat := []
  /-- list of Dword 0 values, oldest first; R398; reset none. Events that wait for a request. -/
  aerPend : List Nat := []
  /-- list of event types; R398; reset none. Types masked until their log page is read. -/
  aerMasked : List Nat := []
  /-- by CQID, oldest first; R398; reset none. Completions that wait for room in a full completion queue. -/
  wait : Tbl (List NvmeCqe) := []
  /-- 3 bits; R413; reset 0. Current power state. -/
  ps : Nat := 0
  /-- 3 bits; R413; reset 0. State last set by Power Management. -/
  pmPs : Nat := 0
  /-- 64 bits; R413; reset 0. Launch Counter value since which the controller is idle in its state. -/
  idleSince : Nat := 0
  /-- up to 64 of (count, SQID, CID, status); R398 log 0x01; reset none, newest first. -/
  errorLog : List (Nat × Nat × Nat × Nat) := []
  /-- 64 bits; R398 log 0x01; reset 0. -/
  errorCount : Nat := 0
  /-- counts for log 0x02 (commands read, written, blocks read, written); reset 0. -/
  smart : Tbl Nat := []
  deriving DecidableEq, Repr

/-- What a storage operation does at its medium (R398, R408). -/
inductive IoKind
  | read | write | writeFua | writeZeroes | flush | deallocate | fill | copy
  deriving DecidableEq, Repr

/-- A storage command in flight, by tracker tag (R402 to R411). -/
structure IoOp where
  /-- kind. -/
  kind : IoKind
  /-- 16 bits. Instance, or 0x4D8 + die for a fetch of a direct-feed engine. -/
  inst : Nat
  /-- 1 bit. A bulk command, otherwise NVMe. -/
  bulk : Bool
  /-- QID, or bulk queue key. -/
  queue : Nat
  /-- CID, or bulk INDEX. -/
  id : Nat
  /-- 32 bits. Bulk TAG. -/
  hostTag : Nat := 0
  /-- NSID. -/
  nsid : Nat
  /-- first block. -/
  slba : Nat := 0
  /-- blocks, or bytes for FILL and COPY. -/
  nlb : Nat := 0
  /-- host or plot space, 1 or 2; R408. -/
  space : Nat := 1
  /-- FILL: the pattern; COPY: the source; R408. -/
  operand : Nat := 0
  /-- Dataset Management: list of (first block, blocks); R398. -/
  ranges : List (Nat × Nat) := []
  /-- pipeline 0 to 5 that serves it, or 6 for none; R414. -/
  pipe : Nat := 6
  /-- buffer: list of (address, bytes). -/
  buffers : List (Nat × Nat) := []
  /-- bytes of host data gathered so far, by offset. -/
  data : Mem := []
  /-- bytes of host data still missing. -/
  missing : Nat := 0
  /-- 1 bit; R27. -/
  ordered : Bool := false
  /-- 1 bit; R25, R27. The command has started at its medium. -/
  started : Bool := false
  /-- 64 bits or none; R406. Launch Counter value since which it waits for its backing. -/
  waiting : Option Nat := none
  /-- 16 bits; R338. Instance generation at its fetch. -/
  gen : Nat := 0
  /-- count; R25. Its place in the order in which the device fetched storage commands. -/
  seq : Nat := 0
  deriving DecidableEq, Repr

/-- A bulk queue (R407). -/
structure BulkQueue where
  /-- 16 bits; R407. -/
  inst : Nat
  /-- 4 bits; R407. -/
  doorbell : Nat
  /-- 5 bits; R407. -/
  log2 : Nat
  /-- 8 bits; R407. -/
  vector : Nat
  /-- 64 bits; R407. -/
  sqAddr : Nat
  /-- 64 bits; R407. -/
  cqAddr : Nat
  /-- 32 bits; R407; reset 0. -/
  posted : Nat := 0
  /-- 32 bits; R407; reset 0. -/
  fetched : Nat := 0
  /-- 32 bits; R407; reset 0. -/
  completed : Nat := 0
  deriving DecidableEq, Repr

/-- The storage face (12). -/
structure Storage where
  /-- pipelines 0 to 5; R414; reset as a new Pipeline (4 and 5 in PS0). -/
  pipes : Tbl Pipeline := []
  /-- by NSID; R403; reset none. -/
  spaces : Tbl Namespace := []
  /-- by handle; R379; reset none. -/
  targets : Tbl FabricTarget := []
  /-- by instance; R394; reset as a new Controller. -/
  ctrls : Tbl Controller := []
  /-- by 16 × instance + doorbell; R407; reset none. -/
  bulk : Tbl BulkQueue := []
  /-- by tracker tag; R398, R408; reset none. -/
  ops : Tbl IoOp := []
  /-- model's own: number of the next storage command in the order of R25; reset 0. -/
  nextSeq : Nat := 0
  deriving DecidableEq, Repr

end Sys2Proof.Machine
end

