-- ==== Sys2Proof/Machine/StYew.lean ====
section
/-! DEFINITION. State of the Knalys cores, the Yew array, model images and token sessions (03, 05, 06). -/

namespace Sys2Proof.Machine

/-! ### 05: Knalys cores -/

/-- What a pending Knalys result is written to (R147, R149). -/
inductive KnTarget
  /-- General register g1 to g31. -/
  | reg (n : Nat)
  /-- The flags N, Z, C, V: value in bits 0 to 3, and which of them are written. -/
  | flags (mask : Nat)
  /-- A special register, by number (R144). -/
  | special (n : Nat)
  /-- A tensor command completes: YEW_QSTAT.DONE counts it, and its flags (R131) and lanes (R137) stick. -/
  | tensor (fp : Nat) (lovf : Nat)
  deriving DecidableEq, Repr

/-- A result that has not reached its register yet (R147). -/
structure KnPending where
  /-- cycle; R147. First cycle in which an issue reads the new value. -/
  due : Nat
  /-- 2 bits; R149. Slot of the syllable; 4 for a tensor command (DESIGN CHOICE: after every slot). -/
  slot : Nat
  /-- target; R147. -/
  target : KnTarget
  /-- 64 bits; R147. -/
  value : W64
  deriving DecidableEq, Repr

/-- One probe handle of a Privet core (R164). -/
structure ProbeHandle where
  /-- 1 bit; R164; reset 0. -/
  done : Bool := false
  /-- 1 bit; R164; reset 0. -/
  hit : Bool := false
  /-- 1 bit; R164; reset 0. -/
  fault : Bool := false
  /-- 1 bit; R164; reset 0. -/
  flowCache : Bool := false
  /-- 1 bit; R164; reset 0. A probe is in flight. -/
  busy : Bool := false
  /-- 6 bits; R164; reset 0. Table of the probe in flight. -/
  table : Nat := 0
  /-- key bytes; R164; reset none. Key of the probe in flight, as read at issue. -/
  key : Bytes := []
  /-- 12 bits; R164; reset 0. Scratch address of the action. -/
  dst : Nat := 0
  /-- cycle; R164; reset 0. Issue cycle of the probe. -/
  issued : Nat := 0
  /-- 1 bit; R433; reset 0. A TABLE_UPDATE has removed the key since the issue: a stack hit is not installed. -/
  stale : Bool := false
  deriving DecidableEq, Repr

/-- One Knalys core: a Privet core or a Yew sequencer (R143 to R169). -/
structure Core where
  /-- 32 × 64 bits; R143; reset 0. g0 is never listed. -/
  regs : Tbl W64 := []
  /-- 4 bits N Z C V in bits 0 to 3; R144 FLAGS; reset 0. -/
  flags : Nat := 0
  /-- 64 bits; R144 RPTC; reset 0. -/
  rptc : W64 := 0
  /-- 16 bits; R154 hidden counter; reset 0. Repetitions of the current bundle still to issue after this one. -/
  hidden : Nat := 0
  /-- 13 bits; R144 PC; reset 0. Bundle now issuing. -/
  pc : Nat := 0
  /-- cycle count; R147; reset 0. Cycle of the current bundle. -/
  cycle : Nat := 0
  /-- 1 bit; R162, R168; reset 0. The first bundle of the packet or step has not issued yet. -/
  first : Bool := false
  /-- 1 bit; R154; reset 0. The current cycle repeats its bundle: slot 0 does not issue. -/
  again : Bool := false
  /-- list; R147; reset none. Results in flight, oldest issue first. -/
  pend : List KnPending := []
  /-- delay bundles left and target, or none; R151; reset none. -/
  branch : Option (Nat × Nat) := none
  /-- slot and HI18, or none; R153; reset none. IMX of the current bundle. -/
  imx : Option (Nat × Nat) := none
  /-- 1 bit; R154; reset 0. RPT with a count of 0: slots 1 to 3 of the bundle do not issue. -/
  skip : Bool := false
  /-- 1 bit; R162, R168; reset 0. A packet or a step is running. -/
  running : Bool := false
  /-- 1 bit; R162, R168; reset 0. END or DONE has issued: no bundle follows the current one. -/
  ended : Bool := false
  /-- 8 bits or none; R162; reset none. Status of the packet's DONE. -/
  status : Option Nat := none
  /-- Launch Counter value or none; R167; reset none. Issue is held until then. -/
  waitUntil : Option Nat := none
  /-- 14 bits; R152; reset 8,192. Bundles of the region the core runs from. -/
  region : Nat := 8192
  /-- 64 bits; R144 YEW_STEPBASE; reset 0. -/
  stepBase : Nat := 0
  /-- 64 bits; R144, R130 YEW_AMODE; reset 0. -/
  amode : W64 := 0
  /-- 64 bits; R144, R131 YEW_FPSTAT; reset 0. -/
  fpstat : W64 := 0
  /-- 256 bits; R144 YEW_LOVF0–3, YEW_LOVF0 lowest; reset 0. -/
  lovf : Nat := 0
  /-- 32 bits; R144 YEW_QSTAT.DONE; reset 0. -/
  doneCount : Nat := 0
  /-- 14 bits; R144 PRV_PKTLEN; reset 0. -/
  pktLen : Nat := 0
  /-- 3 bits; R144 PRV_PKTPORT; reset 0. -/
  pktPort : Nat := 0
  /-- 2 bits; R144 PRV_STAT: [0] PKT_SHORT, [1] PROBE_OVR; reset 0. -/
  prvStat : Nat := 0
  /-- cycle; R162; reset 0. Cycle at which the packet started; PRV_BUDGET counts from it. -/
  started : Nat := 0
  /-- bytes; R160; reset none. The current packet. -/
  packet : Bytes := []
  /-- 4 KiB; R160; reset 0. Core scratch. -/
  scratch : Mem := []
  /-- 4 handles; R164; reset idle. -/
  handles : Tbl ProbeHandle := []
  /-- 8 words of 64 bits; R165; reset 0. The packet's metadata record. -/
  metadata : Tbl W64 := []
  /-- 5 bits; R176; reset 16. Owner whose decode table and windows the program runs under. -/
  owner : Owner := 16
  /-- 16 entries of 64 bytes; R176; reset none. A Yew tile's own copy of the decode table. -/
  decode : Tbl Bytes := []
  deriving DecidableEq, Repr

/-! ### 03: tiles and groups -/

/-- Region classes (R100). -/
inductive RegionClass
  | weight | stream | epoch | persist
  deriving DecidableEq, Repr

/-- One region of tile SRAM (R100, R184). -/
structure Region where
  /-- 24 bits; R184 BASE. -/
  base : Nat
  /-- 24 bits; R184 LENGTH. -/
  length : Nat
  /-- class; R100. -/
  cls : RegionClass
  deriving DecidableEq, Repr

/-- One landing buffer (R103). -/
structure Landing where
  /-- 24 bits; R103; reset 0. -/
  base : Nat
  /-- 24 bits; R103; reset 0. -/
  length : Nat
  /-- 24 bits; R103; reset 0. -/
  expected : Nat
  /-- 24 bits; R103; reset 0. -/
  fill : Nat
  /-- 1 bit; R184 DEVICE_RELEASED; reset 0. -/
  deviceReleased : Bool
  /-- list of (plot-space address, SRAM address, length); R87; reset none. Gateway reads since the buffer was last empty. -/
  lastReads : List (Nat × Nat × Nat)
  deriving DecidableEq, Repr

/-- A result of a vector or matrix command that is not ready yet (R150). -/
structure LanePending where
  /-- cycle; R150. -/
  due : Nat
  /-- true for an accumulator row, false for a vector register. -/
  acc : Bool
  /-- 64 × block + row, or the vector register. -/
  index : Nat
  /-- 64 or 256 lanes. -/
  value : List W32
  deriving DecidableEq, Repr

/-- A step as its Launch Table and STEPS entries give it (R168, R184). -/
structure StepRun where
  /-- 9 bits; R111. Entry index in the tile's Launch Table. -/
  entry : Nat
  /-- 32 bits; R184 RELEASE. -/
  release : Nat
  /-- 64 bits; R105. Due time. -/
  due : Nat
  /-- TCLK cycles; R168. Completion cycle of the last tensor command the step issued. -/
  busyUntil : Nat := 0
  deriving DecidableEq, Repr

/-- A message in flight on the Yew mesh (R79, R80, R103). -/
structure MeshMsg where
  /-- logical position it goes to, 9 × group + slot; R83. -/
  dst : Nat
  /-- 24 bits; R79. SRAM address of its first byte. -/
  addr : Nat
  /-- bytes; R79. -/
  data : Bytes
  /-- 4 bits; R82. Partition of the sender. -/
  part : Nat
  /-- 64 bits; R79. TCLK cycle of its last word's arrival. -/
  arrive : Nat
  /-- physical tile it comes from. -/
  src : Nat
  /-- session handle of the sender; R82. -/
  session : Nat
  /-- plot-space reads (address, SRAM address, length) that it carries, none for a send; R87. -/
  reads : List (Nat × Nat × Nat)
  /-- 1 bit; R174. It answers a gateway READ or GATHER. -/
  gateway : Bool
  /-- SRAM words that arrive poisoned; R229. -/
  badWords : List Nat
  deriving DecidableEq, Repr

/-- The EPOCH section of one placement, variant and kind (R184). -/
structure EpochDef where
  /-- 41 bits; R184. -/
  period : Nat
  /-- 20 bits; R184. -/
  margin : Nat
  /-- 41 bits; R184. -/
  endPoint : Nat
  /-- 32 bits; R184, R204. STREAM_RATE of die 0. -/
  rate0 : Nat
  /-- 32 bits; R184, R204. STREAM_RATE of die 1. -/
  rate1 : Nat
  /-- 8 bits; R184. -/
  batch : Nat
  deriving DecidableEq, Repr

/-- One entry of a STEPS section (R184). -/
structure StepDef where
  /-- 64 bits; R184. -/
  finish : Nat
  /-- 32 bits; R184. -/
  need : Nat
  /-- 32 bits; R184. -/
  release : Nat
  /-- 8 bits; R184. -/
  sendSlack : Nat
  deriving DecidableEq, Repr

/-- One entry of a LANDING section (R184). -/
structure LandingDef where
  /-- 32 bits; R184. -/
  base : Nat
  /-- 32 bits; R184. -/
  length : Nat
  /-- 32 bits; R184. -/
  expected : Nat
  /-- 1 bit; R184. -/
  valid : Bool
  /-- 1 bit; R184. -/
  deviceReleased : Bool
  deriving DecidableEq, Repr

/-- One source of a SAMPLER section (R184). -/
structure SamplerSource where
  /-- 7 bits; R184. Session tile index. -/
  tile : Nat
  /-- 24 bits; R184. SRAM address. -/
  addr : Nat
  /-- 18 bits; R184. -/
  first : Nat
  /-- 18 bits; R184. -/
  count : Nat
  deriving DecidableEq, Repr

/-- A SAMPLER section (R184). -/
structure SamplerDef where
  /-- 5 bits; R184. -/
  tokenBuf : Nat
  /-- 5 bits; R184. -/
  inputBuf : Nat
  /-- 1 to 128; R184. -/
  sources : List SamplerSource
  deriving DecidableEq, Repr

/-- Health of a tile (R85). -/
inductive TileHealth
  | good | predicted | failed
  deriving DecidableEq, Repr

/-- One physical Yew tile (R71 to R111). -/
structure Tile where
  /-- 10 MiB; R71; reset 0. -/
  sram : Mem := []
  /-- 8,192 × 128 bits; R75; reset 0. Program store. -/
  store : Tbl Nat := []
  /-- 4 × 64 rows of 64 × 32 bits; R71; reset 0. Accumulator file, by 64 × block + row. -/
  acc : Tbl (List W32) := []
  /-- 4 × 1 bit; R122; reset 0 (INT, as ACLR leaves it: DESIGN CHOICE). 1: floating point. -/
  accFloat : Tbl Bool := []
  /-- 32 × 256 × 32 bits; R71; reset 0. Vector register file. -/
  vregs : Tbl (List W32) := []
  /-- list; R150; reset none. Vector and matrix results in flight. -/
  lanes : List LanePending := []
  /-- weight format, block bytes, scale bytes; R73; reset none. Stationary block now loaded. -/
  stationary : Option (Nat × Bytes × Bytes) := none
  /-- up to 32 × 128 bits; R75, R169; reset none. Matrix queue. -/
  qMatrix : List Nat := []
  /-- up to 32 × 128 bits; R75, R169; reset none. Vector queue. -/
  qVector : List Nat := []
  /-- up to 32 × 128 bits; R75, R169; reset none. Send queue. -/
  qSend : List Nat := []
  /-- up to 32 × 128 bits; R75, R169; reset none. Gateway queue. -/
  qGate : List Nat := []
  /-- cycles; R172, R173; reset 0. The matrix unit is busy until then. -/
  matrixFree : Nat := 0
  /-- cycles; R173; reset 0. The vector unit is busy until then. -/
  vectorFree : Nat := 0
  /-- cycles; R79; reset 0. The send queue's next command starts then at the earliest. -/
  sendFree : Nat := 0
  /-- 32 buffers; R103; reset none valid. -/
  landing : Tbl Landing := []
  /-- by 3 × variant + kind; R191; reset none. Launch Tables of the session for the tile. -/
  tables : Tbl LaunchTable := []
  /-- by 3 × variant + kind; R184; reset none. STEPS entries of those tables. -/
  steps : Tbl (List StepDef) := []
  /-- up to 64; R100; reset none. -/
  regions : List Region := []
  /-- step or none; R168; reset none. -/
  step : Option StepRun := none
  /-- 1 bit; R98, R175; reset 0. The running step's results are marked poisoned. -/
  poisonStep : Bool := false
  /-- 32 bits, saturating; R111; reset 0. -/
  slips : Nat := 0
  /-- 32 bits, saturating; R111; reset 0. -/
  abandoned : Nat := 0
  /-- 32 bits, saturating (DESIGN CHOICE: as R111's counts); R175; reset 0. -/
  refused : Nat := 0
  /-- 32 bits, saturating (DESIGN CHOICE: as R111's counts); R104; reset 0. Discarded arrivals. -/
  discarded : Nat := 0
  /-- 32 bits, saturating; R97; reset 0. -/
  corrected : Nat := 0
  /-- count; R97, R85; reset 0. Corrected errors of the current scrub pass. -/
  passCorrected : Nat := 0
  /-- 19 bits; R96; reset 0. Next word of the patrol scrub. -/
  scrubWord : Nat := 0
  /-- count; R96; reset 0. Scrub passes completed. -/
  passes : Nat := 0
  /-- 64 bits; R96; reset 0. Launch Counter value at which the last scrub pass completed. -/
  passAt : Nat := 0
  /-- list of word numbers; R98; reset none. Poisoned words. -/
  poisoned : List Nat := []
  /-- list of word numbers; R85, R98; reset none. Words rewritten after poisoning. -/
  rewritten : List Nat := []
  /-- health; R85; reset good. -/
  health : TileHealth := .good
  deriving DecidableEq, Repr

/-- Group states (R92). -/
inductive GroupState
  | free | assigned | zeroing | outOfService | retired
  deriving DecidableEq, Repr

/-- The STATE code of GROUP_QUERY (R377). -/
def GroupState.code : GroupState → Nat
  | .free => 0 | .assigned => 1 | .zeroing => 2 | .outOfService => 3 | .retired => 4

/-- A spare takeover in progress (R86, R87). -/
structure Takeover where
  /-- 3 bits. Logical slot that fails over. -/
  slot : Nat
  /-- 1 bit; R85. A sudden failure (R87), otherwise a predicted one (R86). -/
  sudden : Bool
  /-- 64 bits. Launch Counter value at which the copy or load began. -/
  since : Nat
  /-- 1 bit; R86. The copy is complete; the slot is renamed at the next epoch boundary. -/
  copied : Bool
  /-- 1 bit; R86; reset 0. The copy has not completed in 100 ms; the tile stops at the next epoch boundary. -/
  timedOut : Bool := false
  deriving DecidableEq, Repr

/-- One Yew group (R83, R92). -/
structure Group where
  /-- state; R92; reset OUT_OF_SERVICE until bring-up offers the group (R510). -/
  state : GroupState := .outOfService
  /-- 5 bits; R92; reset operator domain. -/
  owner : Owner := 16
  /-- session handle or none; R93; reset none. -/
  session : Option Nat := none
  /-- logical slot renamed onto the spare, or none; R83; reset none (slot s on physical s). -/
  renamed : Option Nat := none
  /-- 1 bit; R89, R377 NO_SPARE; reset 0. The spare has failed. -/
  noSpare : Bool := false
  /-- takeover or none; R86, R87; reset none. -/
  takeover : Option Takeover := none
  /-- 1 bit; R564; reset 0. The group is retired at its session's next boundary or switch. -/
  retireNext : Bool := false
  /-- 64 bits; R102; reset 0. Launch Counter value by which the gateways have written the group's PERSIST writes through. -/
  shadowAt : Nat := 0
  deriving DecidableEq, Repr

/-! ### 06: images and sessions -/

/-- A checked section table entry (R183). -/
structure Section where
  /-- 16 bits; R183. -/
  type : Nat
  /-- 16 bits; R183. -/
  placement : Nat
  /-- 8 bits; R183. -/
  variant : Nat
  /-- 8 bits; R183. -/
  kind : Nat
  /-- 16 bits; R183. -/
  tile : Nat
  /-- 64 bits; R183. -/
  offset : Nat
  /-- 64 bits; R183. -/
  length : Nat
  deriving DecidableEq, Repr

/-- An image header (R182). -/
structure ImageHeader where
  /-- 64 bits; R182. -/
  totalSize : Nat
  /-- 16 bits; R182. -/
  placements : Nat
  /-- 1 bit; R182. -/
  speculative : Bool
  /-- 8 bits; R182. 1 Resident, 2 Layer-streamed. -/
  mode : Nat
  /-- 8 bits; R182. -/
  kinds : Nat
  /-- 8 bits; R182. -/
  maxDraft : Nat
  /-- 32 bits; R182. -/
  vocab : Nat
  /-- 32 bits; R182. -/
  context : Nat
  /-- 64 bits; R182. -/
  loadBase : Nat
  /-- 64 bits; R182. -/
  workBase : Nat
  /-- 64 bits; R182. -/
  workSize : Nat
  /-- 64 bits; R182. -/
  shadowOffset : Nat
  /-- 64 bits; R182. -/
  shadowSize : Nat
  deriving DecidableEq, Repr

/-- A loaded model image (R187): the checked header and section table; the bytes stay in the plots. -/
structure Model where
  /-- 4 bits; R187. -/
  part : Nat
  /-- header; R182. -/
  header : ImageHeader
  /-- 1 to 4,096; R183. -/
  sections : List Section
  /-- 1 bit; R176. Some program of the image uses a custom opcode. -/
  usesCustom : Bool
  deriving DecidableEq, Repr

/-- States of a token session (R195, R199, R377). -/
inductive SessState
  | loading | running | idle | stopped
  deriving DecidableEq, Repr

/-- The first-slip record (R111). -/
structure SlipRecord where
  /-- 64 bits; R111. -/
  time : Nat
  /-- 32 bits; R111. -/
  epoch : Nat
  /-- 8 bits; R111. -/
  tile : Nat
  /-- 3 bits; R111. -/
  slot : Nat
  /-- 8 bits; R111. -/
  cause : Nat
  /-- 8 bits; R111. -/
  buffer : Nat
  /-- 32 bits; R111. -/
  step : Nat
  /-- 32 bits; R111. -/
  fill : Nat
  /-- 32 bits; R111. -/
  expected : Nat
  deriving DecidableEq, Repr

/-- One draw of a sampler channel (R208). -/
structure Draw where
  /-- 18 bits; R208. -/
  token : Nat
  /-- FP32; R208. -/
  prob : W32
  /-- 1 bit; R211. -/
  fallback : Bool
  deriving DecidableEq, Repr

/-- State of a channel's DRBG (R210); its internal value is a function of the seed and the requests. -/
structure Drbg where
  /-- bytes; R210; reset none. Seed material: the tenant's 48 bytes, or every entropy draw since the open, in order. -/
  seed : Bytes := []
  /-- 49 bits; R210; reset 0. Generate requests since the last seeding. -/
  requests : Nat := 0
  deriving DecidableEq, Repr

/-- One output record (R197). -/
structure OutRecord where
  /-- 18 bits; R197. -/
  token : Nat
  /-- 16 bits; R197. -/
  flags : Nat
  /-- 64 bits; R197. -/
  epoch : Nat
  /-- FP32; R197. -/
  prob : W32
  /-- 32 bits; R197. -/
  position : Nat
  deriving DecidableEq, Repr

/-- The draft of a round that awaits its verdict (R213, R214). -/
structure Awaited where
  /-- 32 bits; R213. -/
  round : Nat
  /-- 32 bits; R213. -/
  position : Nat
  /-- 1 to 16 draws; R213. -/
  drafts : List Draw
  /-- 64 bits; R215. Launch Counter value at which the DRAFT was sent, or none before. -/
  sentAt : Option Nat
  deriving DecidableEq, Repr

/-- A valid verdict (R214). -/
structure Verdict where
  /-- 5 bits; R214. -/
  accepted : Nat
  /-- 18 bits; R214. -/
  correction : Nat
  /-- 1 bit; R214. -/
  stop : Bool
  /-- draws of the round it answers; R214. -/
  drafts : List Draw
  /-- 32 bits; R214. Position of the answered round's input. -/
  position : Nat
  deriving DecidableEq, Repr

/-- The parameters of the session descriptor (R194). -/
structure SessParams where
  /-- 32 bits; R194 MODEL. -/
  model : Nat
  /-- 1 bit; R194. -/
  speculative : Bool
  /-- 1 bit; R194. -/
  tenantSeed : Bool
  /-- 1 bit; R194. -/
  ringInHost : Bool
  /-- 8 bits; R194. -/
  verifier : Nat
  /-- 64 bits; R194. -/
  workBias : Nat
  /-- 64 bits; R194. -/
  start : Nat
  /-- 64 bits; R194. -/
  outRing : Nat
  /-- 8 bits; R194. -/
  outLog2 : Nat
  /-- 16 bits; R194. -/
  inst : Nat
  /-- 32 bits; R194. -/
  streamId : Nat
  /-- 32 bits; R194. -/
  maxNew : Nat
  /-- 32 bits; R194. -/
  fallback : Nat
  /-- eight tokens; R194. -/
  stop : List Nat
  /-- FP32; R194. -/
  temperature : W32
  /-- 16 bits; R194. -/
  topK : Nat
  /-- FP32; R194. -/
  topP : W32
  /-- FP32; R194. -/
  minP : W32
  /-- up to 1,024 of (token, FP32); R194. -/
  bias : List (Nat × W32)
  /-- ms; R194. -/
  verdictTimeout : Nat
  deriving DecidableEq, Repr

/-- One token session (R194 to R215). -/
structure YewSession where
  /-- 4 bits; R194. -/
  part : Nat
  /-- descriptor; R194. -/
  params : SessParams
  /-- 6 bits; R194. Placement now in use. -/
  placement : Nat
  /-- list of groups in group-index order; R184. -/
  groups : List Nat
  /-- by 3 × variant + kind; R184; reset none. EPOCH sections of the placement. -/
  epochs : Tbl EpochDef := []
  /-- by 3 × variant + kind; R184; reset none. SAMPLER sections of the placement. -/
  samplers : Tbl SamplerDef := []
  /-- 3 bits; R207. Sampler channel: 8 × die + channel. -/
  channel : Nat
  /-- state; R195, R199. -/
  state : SessState := .loading
  /-- 16 bits; R199; reset 0. Stop status. -/
  stopStatus : Nat := 0
  /-- 1 bit; R199; reset 0. SESSION_CLOSE waits for the end point. -/
  closing : Bool := false
  /-- 64 bits or none; R199; reset none. Launch Counter value at which delivery after the close began. -/
  closeAt : Option Nat := none
  /-- 64 bits; R191; reset 0. Number of the epoch in progress or next. -/
  epoch : Nat := 0
  /-- 1 bit; R191; reset 0. An epoch is in progress. -/
  inEpoch : Bool := false
  /-- 64 bits; R192; reset 0. Start of the epoch in progress, or of the last one. -/
  epochStart : Nat := 0
  /-- 64 bits; R192; reset 0. Start of the next epoch. -/
  nextStart : Nat := 0
  /-- 2 bits; R191; reset 0. 0 DECODE, 1 PREFILL, 2 ROUND. -/
  kind : Nat := 0
  /-- 2 bits; R191; reset 0. 0 for 2.0 GHz, 1 for 1.5 GHz, 2 for 1.0 GHz. -/
  variant : Nat := 0
  /-- 64 bits; R108, R192; reset 0. -/
  shift : Nat := 0
  /-- 1 bit; R108; reset 0. The last run was abandoned; the next one repeats its epoch. -/
  rerun : Bool := false
  /-- 1 bit; R201, R202; reset 0. The next start adds the new variant's MARGIN. -/
  addMargin : Bool := false
  /-- 21 bits; R186; reset 0. Next context position. -/
  position : Nat := 0
  /-- up to 1,048,576 tokens; R195; reset none. -/
  input : List Nat := []
  /-- 64 bits; R197; reset 0. SEQ of the last record written. -/
  seq : Nat := 0
  /-- 64 bits; R197; reset 0. CONSUMED as last read. -/
  consumed : Nat := 0
  /-- 64 bits; R377; reset 0. Records emitted. -/
  emitted : Nat := 0
  /-- 32 bits; R195, R198; reset 0. Tokens emitted since the last feed. -/
  sinceFeed : Nat := 0
  /-- up to 256; R197; reset none. -/
  pend : List OutRecord := []
  /-- DRBG; R210. State recorded at the last commit. -/
  drbgSaved : Drbg := {}
  /-- DRBG; R210. Current state. -/
  drbg : Drbg := {}
  /-- list, oldest first; R208; reset none. Draws of the epoch in progress. -/
  draws : List Draw := []
  /-- or none; R190; reset none. Result of the draw that the channel is busy with. -/
  drawing : Option Draw := none
  /-- 32 bits; R213; reset 0. Next round number. -/
  round : Nat := 0
  /-- or none; R214; reset none. -/
  awaited : Option Awaited := none
  /-- or none; R214; reset none. -/
  verdict : Option Verdict := none
  /-- 32 bits, saturating; R214; reset 0. -/
  verdictFaults : Nat := 0
  /-- 1 bit; R106; reset 0. The slip line. -/
  slipLine : Bool := false
  /-- 1 bit; R107; reset 0. A slip of the epoch was raised by 100 ns before its end point. -/
  spoiled : Bool := false
  /-- 64 bits; R102; reset 0. Launch Counter value by which the write-through of the epoch before ends. -/
  shadowDue : Nat := 0
  /-- record or none; R111; reset none. -/
  firstSlip : Option SlipRecord := none
  /-- 5 bits; R110; reset 0. Consecutive abandoned epochs. -/
  abandonedRun : Nat := 0
  /-- placement or none; R95; reset none. Placement being loaded. -/
  replacing : Option Nat := none
  /-- 1 bit; R95; reset 0. The new placement is loaded; the session switches at the next boundary. -/
  replaceReady : Bool := false
  /-- 1 bit; R89; reset 0. The session has stopped for a re-placement, and its epochs are held until then. -/
  displaced : Bool := false
  deriving DecidableEq, Repr

end Sys2Proof.Machine
end

