-- ==== Sys2Proof/Machine/State.lean ====
section
/-! DEFINITION. The whole state of the block, what it sends, its faults and refusals, and the state right after reset. -/

namespace Sys2Proof.Machine

/-- Where a media command of the storage face goes (R402, R404, R406). -/
inductive Medium
  | root (port : Nat)
  | fabric (target : Nat)
  deriving DecidableEq, Repr

/-- What the block sends to the world outside it. -/
inductive Emit
  /-- Entry m of a mailbox's response ring (R354, R356). -/
  | ialdo (mbx m : Nat) (e : IaldoEntry)
  /-- FETCHED or LOST_EVENTS of a mailbox's ring header (R352, R353). -/
  | ringHeader (mbx fetched lost : Nat)
  /-- An MSI-X message of a host port (R323). -/
  | msix (port vector addr data : Nat)
  /-- A write to host memory: port, instance (0xFFFF for the physical function), address, bytes (R330). -/
  | hostWrite (port inst addr : Nat) (data : Bytes)
  /-- A read of host memory: port, PCIe tag, instance, address, length (R329, R331). -/
  | hostRead (port tag inst addr len : Nat)
  /-- The answer to a host's read of a register, a window or configuration space. -/
  | reply (port : Nat) (data : Bytes)
  /-- Request Retry Status to a configuration request (R316). -/
  | retry (port : Nat)
  /-- The answer to a host's read that meets a poisoned word: EP set (R229, R328). -/
  | replyPoisoned (port : Nat)
  /-- The answer to a Bramble read (R13, R29). -/
  | bramble (tag : Nat) (data : Bytes)
  /-- The answer to a Bramble read that meets a poisoned word (R229). -/
  | bramblePoisoned (tag : Nat)
  /-- A PCIe message of a port (R334 LTR: 0x10; R332 ERR: 0x30), with a value. -/
  | pcieMessage (port code value : Nat)
  /-- A ZAL message on a virtual channel (R266). -/
  | zal (port vc : Nat) (m : ZalMsg)
  /-- A CONTROL record of a ZAL port: INIT 1, LANE_MAP 2, MAP_SWITCH 3 (R262, R260), with its value. -/
  | zalControl (port kind value : Nat)
  /-- Acknowledgement state sent in the next flit: ACK, NAK (R258). -/
  | zalAck (port ack : Nat) (nak : Bool)
  /-- Replay of the unacknowledged flits from a sequence number (R258). -/
  | zalReplay (port seq : Nat)
  /-- The LOOKUP reply slot of the flit with a TXPOS (R276). -/
  | zalLookup (port txPos : Nat) (data : Bytes)
  /-- A byte on a ZAL port's telemetry sideband (R532). -/
  | sideband (port value : Nat)
  /-- A command to a storage medium: its namespace there, tracker tag, kind, first block, blocks, data (R402, R403). -/
  | media (m : Medium) (source tag : Nat) (kind : IoKind) (lba nlb : Nat) (data : Bytes)
  /-- An Ethernet frame without FCS (R439, R447). -/
  | frame (port : Nat) (data : Bytes)
  /-- A PFC frame of a port: priority and quanta (R417). -/
  | pfc (port prio quanta : Nat)
  /-- A checkpoint message to another member: kind, values, data (R305). -/
  | peer (member kind a b : Nat) (data : Bytes)
  /-- A DOE response of a port (R474). -/
  | doe (port : Nat) (data : Bytes)
  /-- An MCTP or PLDM reply on a management bus: PLDM type, or 0x100 for MCTP control; completion code; values (R555 to R557). -/
  | mgmt (bus type code : Nat) (values : List Nat)
  /-- Bits shifted out of TDO (R539). -/
  | tdo (die : Nat) (bits : List Bool)
  /-- THERMTRIP#, PWR_GOOD, ALERT# or SPERSTk# driven: signal 0, 1, 2 or 3 + k, and whether it is low (R552). -/
  | signal (which : Nat) (low : Bool)
  deriving DecidableEq, Repr

/-- Why a step ends without a next state. No meaning of this model raises one: the one below stands for a memory
access outside the device, which no command makes. -/
inductive Fault
  /-- A Bramble address names no unit of the device (R13). Raised by no command: `BrTarget` names existing targets
  only. Safe: it would stop the run. -/
  | noSuchTarget
  deriving DecidableEq, Repr

/-- Why a command is not run. -/
inductive Refusal
  /-- The command has no meaning in the model. Raised by the arms of `exec` that say so. Safe: the run stops. -/
  | notModelled (mnemonic : String)
  deriving DecidableEq, Repr

/-- The machine's state. Every piece of it is named by the spec but for `emitted`, `free`, `time`, `opNo` and
`pending`, which are the model's own. -/
structure State where
  /-- clocks and Launch Counter; R39 to R54. -/
  clk : Clocks := {}
  /-- input, rails and temperature; R496 to R508. -/
  power : Power := {}
  /-- fuses and identity; R461; no reset changes them. -/
  fuses : Fuses := {}
  /-- bring-up; R509 to R514. -/
  boot : BringUp := {}
  /-- by UNIT number of R519; R535 to R538; reset none listed: out of service. -/
  units : Tbl UnitRec := []
  /-- 65,536 entries by tag; R17; reset as a new TrackEntry. Operation tracker. -/
  tracker : Tbl TrackEntry := []
  /-- by partition 0 to 15, and 16 for the operator domain; R31; reset empty. -/
  vio : Tbl Violations := []
  /-- by partition 0 to 15; R368; reset none. -/
  parts : Tbl Partition := []
  /-- by owner 0 to 16: packets per second; R387; reset 1,000,000 for the operator domain (DESIGN CHOICE). Configured exception rates. -/
  excRates : Tbl Nat := [(16, 1000000)]
  /-- by owner 0 to 16: 1,024 bytes; R176; reset none. Decode tables. -/
  decode : Tbl Bytes := []
  /-- 12 bits; R385; reset 240. Resident quota of the operator domain. -/
  opResident : Nat := 240
  /-- by 65,536 × kind + 256 × unit + slot; R55; reset no table. Launch Table slots. -/
  launch : Tbl LaunchSlot := []
  /-- by crossing number; R63; reset idle. -/
  crossings : Tbl Crossing := []
  /-- by host port 0, 1; R315; reset as a new HostPort. -/
  ports : Tbl HostPort := []
  /-- by instance 0 to 1,023; R335; reset none. -/
  insts : Tbl Instance := []
  /-- by mailbox: 0 to 1,023 an instance, 0x400 + port a physical function; R322; reset as a new Mailbox. -/
  mbxs : Tbl Mailbox := []
  /-- by operation number; R361; reset none. Long operations in progress. -/
  longOps : Tbl LongOp := []
  /-- model's own: number of the next long operation; reset 0. -/
  opNo : Nat := 0
  /-- by context number; R384; reset none. -/
  ctxs : Tbl Context := []
  /-- firmware; R389 to R393. -/
  fw : Firmware := {}
  /-- up to 1,024 entries, oldest first; R91, R373; survives cold reset; empty in a new module. -/
  faultLog : List FaultEntry := []
  /-- by tile, 72 × die + 9 × group + slot; R71; reset as a new Tile. -/
  tiles : Tbl Tile := []
  /-- by group, 8 × die + group; R83; reset as a new Group. -/
  groups : Tbl Group := []
  /-- list, oldest first; R103; reset none. Messages in flight on the Yew mesh. -/
  mesh : List MeshMsg := []
  /-- by model handle; R187; reset none. -/
  models : Tbl Model := []
  /-- by session handle; R195; reset none. -/
  sessions : Tbl YewSession := []
  /-- by core: 16 × cluster + core a Privet core, 1,024 + tile a Yew sequencer; R143; reset as a new Core. -/
  cores : Tbl Core := []
  /-- by die: MB/s; R205; reset 3,275,000 each. Stream reserves. -/
  reserve : Tbl Nat := []
  /-- stacked memory; R216 to R249. -/
  dram : Dram := {}
  /-- ZAL and direct feed; R250 to R293. -/
  link : Link := {}
  /-- checkpoint group or none; R294; reset none. -/
  ckp : Option CkpGroup := none
  /-- storage face; R394 to R414. -/
  stor : Storage := {}
  /-- Ethernet, packet path and traffic manager; R415 to R458. -/
  pkt : Packet := {}
  /-- root of trust and keys; R459 to R495. -/
  sec : Security := {}
  /-- counters, logs and telemetry; R519 to R534. -/
  mon : Monitor := {}
  /-- by die; R539; reset as a new Jtag. -/
  jtag : Tbl Jtag := []
  /-- management interface; R551 to R557. -/
  mgmt : Mgmt := {}
  /-- model's own: what the block has sent, newest first; reset none. -/
  emitted : List Emit := []
  /-- model's own: number of the next free value; reset 0 (DESIGN CHOICE; no statement rests on it). -/
  free : Nat := 0
  /-- model's own: module time in ns, which runs whether or not the Launch Counter does; reset 0 (DESIGN CHOICE). -/
  time : Nat := 0
  /-- model's own: commands waiting, first in, first out; reset none. -/
  pending : List Instr := []
  deriving DecidableEq, Repr

/-- The machine right after reset: a powered module at cold reset (R515), every table empty. -/
def State.reset : State := {}

end Sys2Proof.Machine
end

