-- ==== Sys2Proof/Machine/Ops.lean ====
section
/-! DEFINITION. The named operations over the state that every meaning shares: what is sent, owners and authority, the
tracker, violations, units and logs, events and mailboxes, telemetry, plot space. -/

namespace Sys2Proof.Machine

/-! ### Reading and changing tables of the state -/

/-- The Launch Counter (R46). -/
def State.lc (s : State) : Nat := s.clk.lc
/-- The block sends `e`. -/
def State.emit (s : State) (e : Emit) : State := { s with emitted := e :: s.emitted }
/-- The block sends `es`, in order. -/
def State.emitAll (s : State) (es : List Emit) : State := es.foldl State.emit s
/-- The next free value below `n`, and the state that has used it. -/
def State.fresh (s : State) (n : Nat) : Nat × State := (Config.freeValue s.free % n, { s with free := s.free + 1 })
/-- The next `n` bytes of the entropy source (R475), and the state that has used them. -/
def State.draw (s : State) (n : Nat) : Bytes × State :=
  (padTo n (Config.entropy s.free), { s with free := s.free + 1 })

/-- Host port `p`. -/
def State.port (s : State) (p : Nat) : HostPort := s.ports.getD p {}
/-- Host port `p` changed. -/
def State.modPort (s : State) (p : Nat) (f : HostPort → HostPort) : State :=
  { s with ports := s.ports.set p (f (s.port p)) }
/-- Mailbox `m`. -/
def State.mbx (s : State) (m : Nat) : Mailbox := s.mbxs.getD m {}
/-- Mailbox `m` changed. -/
def State.modMbx (s : State) (m : Nat) (f : Mailbox → Mailbox) : State :=
  { s with mbxs := s.mbxs.set m (f (s.mbx m)) }
/-- Instance `i` changed, where it exists. -/
def State.modInst (s : State) (i : Nat) (f : Instance → Instance) : State := { s with insts := s.insts.modify i f }
/-- Launch Table slot `k`. -/
def State.slot (s : State) (k : Nat) : LaunchSlot := s.launch.getD k {}
/-- Launch Table slot `k` changed. -/
def State.modSlot (s : State) (k : Nat) (f : LaunchSlot → LaunchSlot) : State :=
  { s with launch := s.launch.set k (f (s.slot k)) }
/-- Tile `t`. -/
def State.tile (s : State) (t : Nat) : Tile := s.tiles.getD t {}
/-- Tile `t` changed. -/
def State.modTile (s : State) (t : Nat) (f : Tile → Tile) : State := { s with tiles := s.tiles.set t (f (s.tile t)) }
/-- Group `g`. -/
def State.group (s : State) (g : Nat) : Group := s.groups.getD g {}
/-- Group `g` changed. -/
def State.modGroup (s : State) (g : Nat) (f : Group → Group) : State :=
  { s with groups := s.groups.set g (f (s.group g)) }
/-- Core `c`. -/
def State.core (s : State) (c : Nat) : Core := s.cores.getD c {}
/-- Core `c` changed. -/
def State.modCore (s : State) (c : Nat) (f : Core → Core) : State := { s with cores := s.cores.set c (f (s.core c)) }
/-- Session `h` changed, where it exists. -/
def State.modSession (s : State) (h : Nat) (f : YewSession → YewSession) : State :=
  { s with sessions := s.sessions.modify h f }
/-- ZAL port `p`. -/
def State.zal (s : State) (p : Nat) : ZalPort := s.link.ports.getD p {}
/-- ZAL port `p` changed. -/
def State.modZal (s : State) (p : Nat) (f : ZalPort → ZalPort) : State :=
  { s with link := { s.link with ports := s.link.ports.set p (f (s.zal p)) } }
/-- Ethernet port `p`. -/
def State.eth (s : State) (p : Nat) : EthPort := s.pkt.ports.getD p {}
/-- Ethernet port `p` changed. -/
def State.modEth (s : State) (p : Nat) (f : EthPort → EthPort) : State :=
  { s with pkt := { s.pkt with ports := s.pkt.ports.set p (f (s.eth p)) } }
/-- Stack `k`. -/
def State.stack (s : State) (k : Nat) : Stack := s.dram.stackTbl.getD k {}
/-- Stack `k` changed. -/
def State.modStack (s : State) (k : Nat) (f : Stack → Stack) : State :=
  { s with dram := { s.dram with stackTbl := s.dram.stackTbl.set k (f (s.stack k)) } }
/-- Stacked memory changed. -/
def State.modDram (s : State) (f : Dram → Dram) : State := { s with dram := f s.dram }
/-- The checkpoint group changed, where there is one. -/
def State.modCkp (s : State) (f : CkpGroup → CkpGroup) : State := { s with ckp := s.ckp.map f }
/-- Controller `i`. -/
def State.ctrl (s : State) (i : Nat) : Controller := s.stor.ctrls.getD i {}
/-- Controller `i` changed. -/
def State.modCtrl (s : State) (i : Nat) (f : Controller → Controller) : State :=
  { s with stor := { s.stor with ctrls := s.stor.ctrls.set i (f (s.ctrl i)) } }
/-- Pipeline `k`. Pipelines 4 and 5 run in PS0 always (R414). -/
def State.pipe (s : State) (k : Nat) : Pipeline :=
  s.stor.pipes.getD k (if k < 4 then {} else { ps := 0 })
/-- Pipeline `k` changed. -/
def State.modPipe (s : State) (k : Nat) (f : Pipeline → Pipeline) : State :=
  { s with stor := { s.stor with pipes := s.stor.pipes.set k (f (s.pipe k)) } }
/-- Egress queue `q`. -/
def State.queue (s : State) (q : Nat) : EgressQueue := s.pkt.queues.getD q {}
/-- Egress queue `q` changed. -/
def State.modQueue (s : State) (q : Nat) (f : EgressQueue → EgressQueue) : State :=
  { s with pkt := { s.pkt with queues := s.pkt.queues.set q (f (s.queue q)) } }
/-- Policer `n`. -/
def State.policer (s : State) (n : Nat) : Policer := s.pkt.policers.getD n {}
/-- Policer `n` changed. -/
def State.modPolicer (s : State) (n : Nat) (f : Policer → Policer) : State :=
  { s with pkt := { s.pkt with policers := s.pkt.policers.set n (f (s.policer n)) } }
/-- Exception counts of owner `o` changed. -/
def State.modExc (s : State) (o : Owner) (f : ExcCounts → ExcCounts) : State :=
  { s with pkt := { s.pkt with excCounts := s.pkt.excCounts.set o (f (s.pkt.excCounts.getD o {})) } }
/-- Root of trust and keys changed. -/
def State.modSec (s : State) (f : Security → Security) : State := { s with sec := f s.sec }
/-- Counters and logs changed. -/
def State.modMon (s : State) (f : Monitor → Monitor) : State := { s with mon := f s.mon }
/-- The storage face changed. -/
def State.modStor (s : State) (f : Storage → Storage) : State := { s with stor := f s.stor }
/-- The packet path changed. -/
def State.modPkt (s : State) (f : Packet → Packet) : State := { s with pkt := f s.pkt }
/-- The link changed. -/
def State.modLink (s : State) (f : Link → Link) : State := { s with link := f s.link }

/-! ### Status codes (R360) -/

def OK : Nat := 0x0000
def ACCEPTED : Nat := 0x0001
def DENIED : Nat := 0x0002
def INVALID : Nat := 0x0003
def IN_USE : Nat := 0x0004
def NO_RESOURCES : Nat := 0x0005
def UNSUPPORTED : Nat := 0x0006
def NO_SESSION : Nat := 0x0007
def NOT_READY : Nat := 0x0008
def TIME_PASSED : Nat := 0x0009
def NO_SUCH_OPERATION : Nat := 0x000A
def ALREADY_COMPLETE : Nat := 0x000B
def ABORTED : Nat := 0x000C
def DEFERRED_EMERGENCY : Nat := 0x000D
def VERIFY_FAIL : Nat := 0x000E
def ROLLBACK : Nat := 0x000F
def DEVICE_FAULT : Nat := 0x0010
def POISONED : Nat := 0x0011
def TIMEOUT : Nat := 0x0012
def HOST_ERROR : Nat := 0x0013
def DECRYPT_FAIL : Nat := 0x0014
def GROUP_RETIRED : Nat := 0x0015
def SCHEDULE_FAULT : Nat := 0x0016
def VERIFIER_LOST : Nat := 0x0017
def GROUP_LOST : Nat := 0x0018
def LINK_DOWN : Nat := 0x0019

/-! ### Units (R519) -/

def uGroup (g : Nat) : Nat := 0xA0 + g
def uCluster (c : Nat) : Nat := 0x100 + c
def uCipher (c : Nat) : Nat := 0x140 + c
def uStack (k : Nat) : Nat := 0x160 + k
def uPipe (k : Nat) : Nat := 0x168 + k
def uLaurel (k : Nat) : Nat := 0x170 + k
def uHost (p : Nat) : Nat := 0x180 + p
def uZal (p : Nat) : Nat := 0x188 + p
def uEth (p : Nat) : Nat := 0x190 + p
def uStor (p : Nat) : Nat := 0x198 + p

/-- `lo ≤ n < lo + k`. -/
def inRange (n lo k : Nat) : Bool := decide (lo ≤ n) && decide (n < lo + k)

/-- A number of the table of R519. -/
def unitNamed (u : Nat) : Bool :=
  decide (u < 0x90) || inRange u 0xA0 16 || inRange u 0x100 0x82 || inRange u 0x188 22 || inRange u 0x1A0 15

/-- The unit is in service (R538). -/
def unitIn (s : State) (u : Nat) : Bool := decide ((s.units.getD u {}).state = .inService)
/-- The unit's service record changed. -/
def modUnit (s : State) (u : Nat) (f : UnitRec → UnitRec) : State :=
  { s with units := s.units.set u (f (s.units.getD u {})) }
/-- The fault log holds the unit out of service (R91). -/
def heldOut (s : State) (u : Nat) : Bool := s.faultLog.any fun e => decide (e.unit = u ∧ 1 ≤ e.kind ∧ e.kind ≤ 3)
/-- How many of the `k` units from `lo` up are in service. -/
def unitsIn (s : State) (lo k : Nat) : Nat :=
  s.units.count fun u r => inRange u lo k && decide (r.state = .inService)
/-- Laurel cores running (R383). -/
def laurelCores (s : State) : Nat := unitsIn s 0x170 16

/-- EXCEPTION cores with `c` Laurel cores running: R383 takes SERVICE, then EXCEPTION, SCHEDULER, MAILBOX. -/
def exceptionCores (c : Nat) : Nat :=
  if c ≥ 14 then 4 else if c ≥ 11 then c - 10 else if c ≥ 4 then 1 else 0

/-- Readiness level FULL (R509). -/
def State.full (s : State) : Bool := decide (s.boot.level = 3)
/-- Readiness level QUICKSET or above (R509). -/
def State.quick (s : State) : Bool := decide (2 ≤ s.boot.level)
/-- The rails are on (R499, R505). -/
def State.on (s : State) : Bool := s.power.pwrGood

/-- A power or thermal emergency stands (R504). -/
def emergency (s : State) : Bool := s.power.powerEmergency || s.power.thermal0 || s.power.thermal1

/-- The planned level as a limit: it cannot take effect before FULL, until when the array runs at 1.0 GHz (R501, R511). -/
def plannedLimit (s : State) : Nat := if s.full then s.power.planned else 2
/-- What the power cap and the emergencies ask of the divider, in hardware (R501, R502, R504). -/
def hardLevel (s : State) : Nat := max s.power.capLimit (if emergency s then 2 else 0)
/-- The throttle's limit: PL2 until cold reset once a die has two sensors excluded (R503). -/
def throttleLimit (s : State) : Nat := if s.power.throttleHeld then 2 else s.power.throttle
/-- The level in force: the slowest of the limits (R501). -/
def levelInForce (s : State) : Nat := max (max (plannedLimit s) (throttleLimit s)) (hardLevel s)

/-! ### Owners, tags and partitions (R10 to R16) -/

/-- The partition exists (R561). -/
def partExists (s : State) (p : Nat) : Bool := (s.parts.get? p).isSome
/-- The owner is the operator domain or a partition that exists. -/
def ownerExists (s : State) (o : Owner) : Bool := decide (o = 16) || (decide (o < 16) && partExists s o)
/-- The transaction tag of an owner's engine (R10, R11). -/
def mkTag (o : Owner) (req : Nat) : Nat := if o = 16 then 0x10000 + req else o * 0x1000 + req
/-- The tag of an operation's work: its instance, or the direct-feed engine for an accelerator's (R11, R12). -/
def workTag (o : Owner) (inst : Nat) : Nat := mkTag o (if inst < 0x400 then inst else 0x4D8)
/-- The requester of a tag (R10). -/
def tagReq (tag : Nat) : Nat := tag % 0x1000
/-- The tag comes from a physical function without operator authority (R16). -/
def tagPlainPf (tag : Nat) : Bool := decide (tag = 0x400 ∨ tag = 0x401)
/-- The owner that a tag names; a physical function without authority owns nothing (R13, R16). -/
def tagOwner (tag : Nat) : Option Owner :=
  if tagPlainPf tag then none else if 0x10000 ≤ tag then some 16 else some (tag / 0x1000)
/-- The owner against which a violation of a tag counts: the operator domain for a physical function without authority
and for an access through a BAR4 window (R16, R31, R328). -/
def tagBlame (tag : Nat) : Owner :=
  if tagReq tag = 0x402 ∨ tagReq tag = 0x403 then 16 else (tagOwner tag).getD 16
/-- The die of a tag's engine is not needed: the tag crosses the bridge unchanged (R8). -/
def tagAcrossBridge (tag : Nat) : Nat := tag

/-! ### Programmable counters (R520 to R524) -/

/-- One moment's occurrence of an event, with what it carries for the filters (R521). -/
structure Occ where
  /-- transaction tag (R10). -/
  tag : Option Nat := none
  /-- plot space: owner and address of the first byte. -/
  plot : Option (Nat × Nat) := none
  /-- DPA of the first byte. -/
  dpa : Option Nat := none
  /-- traffic class, or priority. -/
  tc : Option Nat := none
  /-- operation kind (R521). -/
  kind : Option Nat := none
  deriving DecidableEq, Repr

/-- The operation kind of a tracked operation (R521). -/
def OpClass.kind : OpClass → Nat
  | .nvme => 0 | .bulk => 1 | .descriptor => 2 | .zal => 3 | .cipher => 4 | .packet => 5 | .checkpoint => 6

/-- A filter that is off passes; one that is on needs the value it tests. -/
def filterOk (on : Bool) (v : Option Nat) (p : Nat → Bool) : Bool := !on || (v.map p).getD false

/-- The address an ADDR filter compares: plot space of the partition in PART, or DPA (R521). -/
def PmcCounter.addrOf (c : PmcCounter) (o : Occ) : Option Nat :=
  if bitOf c.part 4 then o.plot.bind fun a => if a.1 = c.part % 16 then some a.2 else none else o.dpa

/-- The occurrence passes every enabled filter of the counter (R521). -/
def PmcCounter.passes (c : PmcCounter) (o : Occ) : Bool :=
  filterOk (bitOf c.flags 2) o.tag (fun t => decide (bitOf c.flags 3 = decide (t < 0x10000))) &&
  filterOk (bitOf c.part 4) o.tag (fun t => decide (tagOwner t = some (c.part % 16))) &&
  filterOk (bitOf c.flags 4) o.tag (fun t => decide ((tagReq t ^^^ c.master) &&& c.mask = 0)) &&
  filterOk (bitOf c.flags 5) (c.addrOf o) (fun a => decide (c.lo ≤ a ∧ a < c.hi)) &&
  filterOk (bitOf c.flags 6) (if bitOf c.flags 7 then o.kind else o.tc) (fun k => bitOf c.cls k)

/-- Counter `k` of a unit adds `w`; a chained one carries into the next (R523, R524). At most `fuel` counters. -/
def addPmc (u : Nat) : Nat → Nat → Nat → Tbl PmcCounter → Tbl PmcCounter
  | 0, _, _, t => t
  | fuel + 1, k, w, t =>
    let c := t.getD (8 * u + k) {}
    let carry := (c.count + w) / 2 ^ 48
    let chained := bitOf c.flags 1
    let t1 := t.set (8 * u + k) { c with count := (c.count + w) % 2 ^ 48, ovf := c.ovf || (!chained && decide (0 < carry)) }
    if chained && decide (0 < carry) then addPmc u fuel (k + 1) carry t1 else t1

/-- Counter `k` of the unit counts its own event: it is enabled and no chain feeds it (R524). -/
def pmcOwn (t : Tbl PmcCounter) (u k : Nat) : Bool :=
  bitOf (t.getD (8 * u + k) {}).flags 0 && !(decide (0 < k) && bitOf (t.getD (8 * u + k - 1) {}).flags 1)

/-- An event of a unit occurs with a weight: every counter that selects it and passes it adds the weight (R521). -/
def bump (s : State) (u event weight : Nat) (o : Occ) : State :=
  if s.mon.pmc.isEmpty then s
  else s.modMon fun m => { m with pmc := (List.range 8).foldl (fun (t : Tbl PmcCounter) k =>
    let c := t.getD (8 * u + k) {}
    if pmcOwn t u k && decide (c.event = event) && c.passes o then addPmc u (8 - k) k weight t else t) m.pmc }

/-- The events that meanings count exactly: VIOLATIONS, the starts and completions of a cluster, a storage pipeline, a direct-feed
engine and the tracker, and the occurrences of R522's table that are one step each. -/
def countedEvent (u e : Nat) : Bool :=
  decide (e = 0 ∨ e = 8) ||
    (decide (e = 2 ∨ e = 3) && (inRange u 0x100 64 || inRange u 0x198 6 || inRange u 0x1A0 2 || decide (u = 0x1AC))) ||
    (inRange u 0x100 64 && inRange e 0x40 4) || (inRange u 0x190 8 && inRange e 0x40 2)
/-- Every enabled counter of another event adds an amount that is left open. -/
def freeCounts (s : State) : State :=
  (s.mon.pmc.keep fun k c => pmcOwn s.mon.pmc (k / 8) (k % 8) && !countedEvent (k / 8) c.event).foldl (fun (s : State) x =>
    let n := s.fresh (2 ^ 20)
    n.2.modMon fun m => { m with pmc := addPmc (x.1 / 8) (8 - x.1 % 8) (x.1 % 8) n.1 m.pmc }) s

/-- The unit that rejects an access (R32, R519): the one its TARGET names; the host port for a register block; and for a
memory stack, whose number the rejected address does not give, the Bramble of die 0 (DESIGN CHOICE). -/
def rejectUnit (target kind accessor : Nat) : Nat :=
  if inRange target 0x410 8 then 0x188 + (target - 0x410)
  else if inRange target 0x440 64 then 0x100 + (target - 0x440)
  else if inRange target 0x490 16 then 0x170 + (target - 0x490)
  else if inRange target 0x4A0 32 then 0x140 + (target - 0x4A0)
  else if inRange target 0x4C0 4 then 0x198 + (target - 0x4C0)
  else if inRange target 0x4C8 8 then 0x190 + (target - 0x4C8)
  else if inRange target 0x4D0 2 then 0x1A2 + (target - 0x4D0)
  else if inRange target 0x4D8 2 then 0x1A0 + (target - 0x4D8)
  else if kind = 5 ∨ kind = 6 then 0x180 + accessor % 2
  else 0x1A8

/-- The record of a violation (R32). -/
def mkVio (time addr tag kind len target accessor : Nat) : VioRecord :=
  { time := time, address := addr, tag := tag, kind := kind, length := len, target := target, accessor := accessor }

/-- A violation counts against an owner, and the first one fills the record (R31). -/
def Violations.add (v : Violations) (r : VioRecord) : Violations :=
  { count := sat32 v.count 1, record := some (v.record.getD r) }

/-- A violation (R29, R31, R32): address, tag, kind, length, target, accessor. -/
def violation (s : State) (addr tag kind len target accessor : Nat) : State :=
  bump { s with
    vio := s.vio.set (tagBlame tag)
      ((s.vio.getD (tagBlame tag) {}).add (mkVio s.lc addr tag kind len target accessor)) }
    (rejectUnit target kind accessor) 0x08 1
    { tag := some tag, plot := if kind < 4 then (tagOwner tag).map fun o => (o, addr) else none }

/-- A violation by a reference to a resource (R563): class, number. -/
def refViolation (s : State) (tag cls number target accessor : Nat) : State :=
  violation s (cls * 2 ^ 56 + number % 2 ^ 48) tag 0x04 0 target accessor

/-! ### The operation tracker (R17 to R23) -/

/-- The entry of a tag. -/
def State.track (s : State) (t : Nat) : TrackEntry := s.tracker.getD t {}
/-- The entry of a tag changed. -/
def State.modTrack (s : State) (t : Nat) (f : TrackEntry → TrackEntry) : State :=
  { s with tracker := s.tracker.set t (f (s.track t)) }

/-- Entries that an owner holds (R23). -/
def heldBy (s : State) (o : Owner) : Nat := s.tracker.count fun _ e => e.held && decide (e.owner = o)
/-- The owner's quota (R22). -/
def trackQuota (s : State) (o : Owner) : Nat :=
  if o = 16 then 1024 else ((s.parts.get? o).map Partition.trackerQuota).getD 0
/-- The owner may be given another entry (R23). -/
def mayFetch (s : State) (o : Owner) : Bool := decide (heldBy s o < trackQuota s o)

/-- The first free tag from `k` up, wrapping, among `fuel` tags. -/
def freeTag (t : Tbl TrackEntry) : Nat → Nat → Option Nat
  | 0, _ => none
  | fuel + 1, k => if (t.getD (k % 65536) {}).held then freeTag t fuel (k + 1) else some (k % 65536)

/-- A tag is allocated (R17, R18): which free tag is an open choice. None where the tracker is full. -/
def allocTag (s : State) (o : Owner) (cls : OpClass) (source inst : Nat) : Option (Nat × State) :=
  (freeTag s.tracker 65536 (Config.choice s.free)).map fun t =>
    (t, bump (({ s with free := s.free + 1 }).modTrack t fun e =>
      { gen := (e.gen + 1) % 16, held := true, recorded := false, everUsed := true, owner := o, cls := cls,
        source := source, inst := inst, owed := 0, status := 0 }) 0x1AC 0x02 1 { tag := some (workTag o inst), kind := some cls.kind })

/-- The completion of an operation is recorded (R17): the entry is free once no abort answer is owed. -/
def recordDone (s : State) (t status : Nat) : State :=
  let e := s.track t
  bump (s.modTrack t fun e => { e with recorded := true, status := status, held := decide (e.owed ≠ 0) })
    0x1AC 0x03 1 { tag := some (workTag e.owner e.inst), kind := some e.cls.kind }

/-- What an abort of a tag and generation receives (R19), and whether it counts as a violation. -/
def abortAnswer (s : State) (o : Owner) (t gen : Nat) : Nat × Bool :=
  let e := s.track t
  if e.held && decide (e.owner ≠ o) then (NO_SUCH_OPERATION, true)
  else if e.held && !e.recorded && decide (e.gen = gen) && decide (e.owner = o) then (ABORTED, false)
  else if e.recorded && decide (e.gen = gen) && decide (e.owner = o) then (ALREADY_COMPLETE, false)
  else (NO_SUCH_OPERATION, false)

/-! ### Host DMA and MSI-X (R323, R329, R330, R338, R344, R345) -/

/-- Write requests that a write splits into: none crosses a boundary of `mps` bytes (R329). -/
def tlpCount (addr len mps : Nat) : Nat := if len = 0 then 0 else (addr % mps + len - 1) / mps + 1

/-- The port of a mailbox's function: 0x400 + port, or an instance's port. -/
def mbxPort (s : State) (m : Nat) : Nat :=
  if 0x400 ≤ m then m - 0x400 else ((s.insts.get? m).map Instance.port).getD 0
/-- The instance of a mailbox, or 0xFFFF for a physical function. -/
def mbxInst (m : Nat) : Nat := if 0x400 ≤ m then 0xFFFF else m

/-- The instance is bound without a PASID, or its port's PASID Enable is 1 (R330). -/
def pasidOk (s : State) (i : Instance) : Bool := i.pasid.isNone || (s.port i.port).pasidEnable
/-- The function may write host memory now (R330, R336, R338, R345): the driver is present and the instance is running. -/
def mayDma (s : State) (port inst : Nat) : Bool :=
  (s.port port).driverPresent &&
    (decide (inst = 0xFFFF) ||
      ((s.insts.get? inst).map fun i => decide (i.state = .running) && pasidOk s i).getD false)

/-- Page numbers of a range that a write touches. -/
def pagesOf (base addr len : Nat) : List Nat :=
  if len = 0 then [] else
    (List.range ((addr + len - 1) / 4096 - addr / 4096 + 1)).map fun k => addr / 4096 + k - base / 4096

/-- The dirty log of an instance after a write of `len` bytes (R344). -/
def markDirty (i : Instance) (addr len : Nat) : Instance :=
  if !i.dirtyOn then i
  else if i.dirty.any fun r => decide (r.addr < addr + len ∧ addr < r.addr + r.length) then
    { i with dirty := i.dirty.map fun r =>
        if r.addr < addr + len ∧ addr < r.addr + r.length then
          { r with marked := r.marked ++ ((pagesOf r.addr (max addr r.addr)
              (min (addr + len) (r.addr + r.length) - max addr r.addr)).filter fun k => !r.marked.contains k) }
        else r }
  else { i with dirtyOutside := wrap64 i.dirtyOutside 1 }

/-- Writes to host memory are discarded and counted (R338, R345). -/
def dropDma (s : State) (port n : Nat) : State :=
  s.modPort port fun h => { h with droppedDma := sat32 h.droppedDma n }

/-- A write to host memory (R329, R330): sent, or discarded and counted. -/
def hostWrite (s : State) (port inst addr : Nat) (data : Bytes) : State :=
  if mayDma s port inst then
    (s.modInst inst fun i => markDirty i addr data.length).emit (.hostWrite port inst addr data)
  else dropDma s port (tlpCount addr data.length (128 * 2 ^ (s.port port).mps))

/-- The port's vector of an instance's index, or none (R323). -/
def instVector (s : State) (inst k : Nat) : Option Nat :=
  (s.insts.get? inst).bind fun i => if k < i.vectorCount then some (i.vectorBase + k) else none

/-- An MSI-X message of a port's vector (R323): sent, pended while masked, or discarded (R345). -/
def msixPort (s : State) (port v : Nat) : State :=
  let h := s.port port
  let e := h.msix.getD v {}
  if !h.msixEnable then s
  else if h.functionMask || e.masked then s.modPort port fun h => { h with msix := h.msix.set v { e with pend := true } }
  else s.emit (.msix port v e.addr e.data)

/-- An MSI-X message of a function's source: an instance's index, or a port vector of a physical function. -/
def msix (s : State) (port inst v : Nat) : State :=
  if !mayDma s port inst then dropDma s port 1
  else if inst = 0xFFFF then msixPort s port v
  else match instVector s inst v with
    | some w => msixPort s port w
    | none => s

/-- The vector 0xFF names none. -/
def msixUnlessFF (s : State) (port inst v : Nat) : State := if v = 0xFF then s else msix s port inst v

/-! ### Mailboxes: responses, completions and events (R354 to R364) -/

/-- Operator authority: the mailbox of the physical function of the port that holds it (R366). -/
def opMbx (s : State) : Nat := 0x400 + s.boot.opPort

/-- The device may write the mailbox's next response now (R354). -/
def mbxWritable (s : State) (m : Nat) : Bool :=
  let b := s.mbx m
  b.enable && decide (sub32 (b.written + 1) b.consumed ≤ 2 ^ b.rspLog2) && mayDma s (mbxPort s m) (mbxInst m)

/-- Response m of a mailbox is written (R354): the entry, RSEQ, WRITTEN, then the MSI-X message. -/
def writeEntry (s : State) (m : Nat) (e : IaldoEntry) : State :=
  let b := s.mbx m
  let n := wrap32 (b.written + 1)
  let s1 := ((s.modMbx m fun b => { b with written := n }).modInst (mbxInst m) fun i =>
    markDirty i (b.rspBase / 4096 * 4096 + 256 + 256 * ((n + 2 ^ 32 - 1) % 2 ^ b.rspLog2)) 256).emit (.ialdo m n e)
  if b.signal then msix s1 (mbxPort s m) (mbxInst m) b.vector else s1

/-- A response or completion goes to a mailbox: written at once, or after those that wait (R354). -/
def postReply (s : State) (m : Nat) (e : IaldoEntry) : State :=
  if !(s.mbx m).enable then s
  else if (s.mbx m).pend.isEmpty && mbxWritable s m then writeEntry s m e
  else s.modMbx m fun b => { b with pend := b.pend ++ [e] }

/-- An event goes to a mailbox; one that finds the pending queue full is dropped and counted (R354). -/
def postEvent (s : State) (m : Nat) (e : IaldoEntry) : State :=
  if !(s.mbx m).enable then s
  else if (s.mbx m).pend.isEmpty && mbxWritable s m then writeEntry s m e
  else if (s.mbx m).pend.length < 64 then s.modMbx m fun b => { b with pend := b.pend ++ [e] }
  else (s.modMbx m fun b => { b with lost := sat32 b.lost 1 }).emit
    (.ringHeader m (s.mbx m).fetched (sat32 (s.mbx m).lost 1))

/-- Whom an event's sender column admits (R365, R367). -/
inductive Admit
  | operator | all | bothPf
  /-- The operator and the mailboxes of an owner. -/
  | opAnd (o : Owner)
  /-- The mailboxes of an owner: its instances, or the operator's for the operator domain. -/
  | only (o : Owner)
  deriving DecidableEq, Repr

/-- The mailbox acts for the owner: an instance of the partition, or the operator's mailbox. -/
def mbxOf (s : State) (m : Nat) (o : Owner) : Bool :=
  if 0x400 ≤ m then decide (o = 16) && decide (m = opMbx s)
  else ((s.insts.get? m).map fun i => decide (i.part = o)).getD false

/-- The mailbox is admitted. -/
def admits (s : State) (a : Admit) (m : Nat) : Bool :=
  match a with
  | .operator => decide (m = opMbx s)
  | .all => true
  | .bothPf => decide (0x400 ≤ m)
  | .opAnd o => decide (m = opMbx s) || mbxOf s m o
  | .only o => mbxOf s m o

/-- The opcode's family, its high byte (R356). -/
def family (op : Nat) : Nat := op / 256

/-- An opcode that level 2 defines as a request (R359). -/
def level2Request (op : Nat) : Bool :=
  let f := family op
  ((decide (1 ≤ f ∧ f ≤ 4)) || (decide (7 ≤ f ∧ f ≤ 10)) || (decide (12 ≤ f ∧ f ≤ 15))) && decide (op % 256 < 0x40)

/-- An event that level 2 defines (R359). -/
def level2Event (op : Nat) : Bool :=
  let f := family op
  ((decide (1 ≤ f ∧ f ≤ 4)) || (decide (7 ≤ f ∧ f ≤ 10)) || (decide (12 ≤ f ∧ f ≤ 15))) && decide (0xF0 ≤ op % 256)

/-- The mailbox takes the event: a session with feature EVENTS, at a level that defines it, that enabled it (R364). -/
def wantsEvent (s : State) (m op : Nat) : Bool :=
  match (s.mbx m).session with
  | none => false
  | some ses => ses.features.testBit 6 && (decide (ses.level = 3) || level2Event op) && (s.mbx m).events.contains op

/-- An event entry: body of HANDLE, CAUSE and DETAIL (R364). -/
def eventEntry (s : State) (m op handle cause detail : Nat) : IaldoEntry :=
  { opcode := op, kind := 4, level := ((s.mbx m).session.map Session.level).getD 0, index := 0, status := 0, token := 0,
    cookie := 0, time := s.lc, body := le 4 handle ++ le 4 cause ++ le 8 detail }

/-- An event is sent to every mailbox that it is admitted to and that enabled it (R364, R562). -/
def sendEvent (s : State) (a : Admit) (op handle cause detail : Nat) : State :=
  ((s.mbxs.map Prod.fst).filter fun m => admits s a m && wantsEvent s m op).foldl
    (fun s m => postEvent s m (eventEntry s m op handle cause detail)) s

/-! ### Logs and telemetry (R373, R530, R533, R534) -/

/-- An entry joins the module's fault log, up to 1,024 (R373). -/
def logFault (s : State) (unit kind code : Nat) : State :=
  { s with faultLog := if s.faultLog.length < 1024 then
      s.faultLog ++ [{ time := s.lc, nonce := s.boot.bootNonce % 2 ^ 64, unit := unit, kind := kind, code := code }]
    else s.faultLog }

/-- A CORRECTED error is added to a record of its unit and code within one second (R530). -/
def mergeError (s : State) (r : ErrorRecord) : Option (List ErrorRecord) :=
  if r.cls = 1 ∧ (s.mon.errors.any fun e => decide (e.cls = 1 ∧ e.unit = r.unit ∧ e.code = r.code ∧
      r.time ≤ e.time + 1000000000)) then
    some (s.mon.errors.map fun e =>
      if e.cls = 1 ∧ e.unit = r.unit ∧ e.code = r.code ∧ r.time ≤ e.time + 1000000000 then
        { e with count := sat32 e.count r.count } else e)
  else none

/-- A record joins the device error log, a ring of 1,024 (R530). -/
def logError (s : State) (unit cls code owner status addr : Nat) : State :=
  let r : ErrorRecord := { time := s.lc, unit := unit, cls := cls, code := code, owner := owner, status := status,
                           address := addr, count := 1 }
  match mergeError s r with
  | some es => s.modMon fun m => { m with errors := es }
  | none => if s.mon.errors.length < 1024 then s.modMon fun m => { m with errors := m.errors ++ [r] }
    else s.modMon fun m => { m with errors := m.errors.drop 1 ++ [r], overwrites := sat32 m.overwrites 1 }

/-- The operator's telemetry ring may take another record (R533, R534, R345). -/
def teleRoom (s : State) : Bool :=
  let r := s.mon.ring
  r.set && (s.port s.boot.opPort).driverPresent && decide (r.seq + 1 - r.consumed ≤ 2 ^ r.log2)

/-- The 128 bytes of a telemetry record with its SEQ (R533). -/
def TeleRecord.bytes (r : TeleRecord) (seq : Nat) : Bytes :=
  le 8 r.time ++ le 1 r.type ++ le 1 r.die ++ le 2 r.source ++ le 1 r.status ++ le 1 r.payload.length ++ zeros 2
    ++ padTo 96 r.payload ++ zeros 8 ++ le 8 seq

/-- Record n is written, its SEQ last, then the MSI-X message (R533). -/
def telePut (s : State) (r : TeleRecord) : State :=
  let g := s.mon.ring
  let n := g.seq + 1
  let s1 := s.modMon fun m => { m with ring := { m.ring with seq := n } }
  msixUnlessFF (hostWrite s1 s.boot.opPort 0xFFFF (g.addr + 64 + 128 * (g.seq % 2 ^ g.log2)) (r.bytes n))
    s.boot.opPort 0xFFFF g.vector

/-- When space returns after drops, a LOST_RECORDS record goes first (R534). -/
def teleLost (s : State) : State :=
  if s.mon.ring.lostSince = 0 ∨ teleRoom s = false then s
  else (telePut s { time := s.lc, type := 0x1F, die := 0xFF, source := 0, status := 0,
                    payload := le 8 s.mon.ring.lostSince }).modMon fun m =>
    { m with ring := { m.ring with lostSince := 0 } }

/-- A record is dropped and counted (R534); LOST stands in the ring's header (R533). -/
def teleDrop (s : State) : State :=
  let s1 := s.modMon fun m =>
    { m with ring := { m.ring with lost := wrap64 m.ring.lost 1, lostSince := wrap64 m.ring.lostSince 1 } }
  if (s.port s.boot.opPort).driverPresent then hostWrite s1 s.boot.opPort 0xFFFF (s1.mon.ring.addr + 8) (le 8 s1.mon.ring.lost) else s1

/-- A sample record (R531, R534). -/
def teleSample (s : State) (r : TeleRecord) : State :=
  if !s.mon.ring.set then s
  else if s.mon.ring.queue.isEmpty && teleRoom s then
    let s1 := teleLost s
    if teleRoom s1 then telePut s1 r else teleDrop s1
  else teleDrop s

/-- A record of types 0x10 to 0x13: it waits where it cannot be written (R534). -/
def teleEvent (s : State) (r : TeleRecord) : State :=
  if !s.mon.ring.set then s
  else if s.mon.ring.queue.isEmpty && teleRoom s && decide (s.mon.ring.lostSince = 0) then telePut s r
  else if s.mon.ring.queue.length < 256 then
    s.modMon fun m => { m with ring := { m.ring with queue := m.ring.queue ++ [r] } }
  else teleDrop s

/-- An operator event that also goes to the telemetry ring (R34, R533). -/
def operatorReport (s : State) (op type die source handle cause detail : Nat) : State :=
  teleEvent (sendEvent s .operator op handle cause detail)
    { time := s.lc, type := type, die := die, source := source, status := 0,
      payload := le 4 handle ++ le 4 cause ++ le 8 detail }

/-- UNIT_FAULT (R34, R562): unit, die, status of affected operations, KIND of its fault-log entry. -/
def unitFault (s : State) (u die cause kind : Nat) : State :=
  operatorReport s 0x01F0 0x10 die (u % 0x10000) u cause (kind + 256 * (s.units.getD u {}).state.code)

/-- READY_CHANGED (R562). -/
def readyChanged (s : State) : State :=
  sendEvent s .all 0x01F1 s.boot.level (if s.boot.failed then DEVICE_FAULT else 0)
    (b2n s.boot.failed + 2 * b2n s.boot.opAbsent + 2 ^ 32 * s.boot.cause)

/-- EMERGENCY (R507): die or 0xFF, KIND, VALUE as a signed 16-bit number. -/
def emergencyEvent (s : State) (die kind : Nat) (value : Int) : State :=
  operatorReport s 0x0CF0 0x13 die (if die < 2 then die else 0) die 0 (kind + 2 ^ 16 * (value % 65536).toNat)

/-! ### Long operations (R361) -/

/-- A long operation ends: its COMPLETION goes to the session that asked (R355, R361, R363). -/
def finishOp (s : State) (n status : Nat) (body : Bytes) : State :=
  match s.longOps.get? n with
  | none => s
  | some o =>
    let s1 := { s with longOps := s.longOps.erase n }
    if (s.mbx o.mbx).enable && decide ((s.mbx o.mbx).sessionNo = o.sessionNo) && (s.mbx o.mbx).session.isSome then
      postReply (s1.modMbx o.mbx fun b => { b with doneTokens := b.doneTokens ++ [o.token] }) o.mbx
        { opcode := o.opcode, kind := 3, level := ((s.mbx o.mbx).session.map Session.level).getD 0, index := o.index,
          status := status, token := o.token, cookie := o.cookie, time := s.lc, body := body }
    else s1

/-- Every long operation that satisfies `p` ends with a status. -/
def finishOps (s : State) (status : Nat) (p : LongOp → Bool) : State :=
  ((s.longOps.keep fun _ o => p o).map Prod.fst).foldl (fun s n => finishOp s n status []) s

/-- The number of a long operation whose data is `d`. -/
def opWith (s : State) (p : OpData → Bool) : Option Nat :=
  (s.longOps.find? fun e => p e.2.data).map Prod.fst

/-! ### Plot space (R219 to R229, R243, R245, R247) -/

/-- Plots per stack in a die's map: 48 on -L, 96 on -LX (R219). -/
def plotsPerStack (s : State) : Nat := if s.fuses.lx then 96 else 48
/-- The stacks in a die's plot map, ascending (R220). -/
def mapOf (s : State) (die : Nat) : List Nat := if die = 0 then s.dram.map0 else s.dram.map1
/-- Plots that a die's current map holds (R219, R512). -/
def mapLimit (s : State) (die : Nat) : Nat :=
  if s.dram.quickset then (if (mapOf s die).isEmpty then 0 else 16) else plotsPerStack s * (mapOf s die).length
/-- Plot number of a die and index. -/
def plotNo (die index : Nat) : Nat := 512 * die + index
/-- A plot (R224): indices 0 to 3 are reserved, others FREE until assigned. -/
def plotAt (s : State) (n : Nat) : Plot :=
  s.dram.plots.getD n { state := if n % 512 < 4 then .reserved else .free, owner := 16 }
/-- Plot `n` changed. -/
def modPlot (s : State) (n : Nat) (f : Plot → Plot) : State :=
  s.modDram fun d => { d with plots := d.plots.set n (f (plotAt s n)) }
/-- Plot number and offset of a DPA in the die's current map (R219). -/
def dpaPlot (s : State) (dpa : Nat) : Option (Nat × Nat) :=
  let die := bitsOf dpa 39 39
  if dpa < 2 ^ 40 ∧ bitsOf dpa 38 30 < mapLimit s die then some (plotNo die (bitsOf dpa 38 30), dpa % 2 ^ 30) else none
/-- DPA of a plot's byte. -/
def dpaOf (n off : Nat) : Nat := n / 512 * 2 ^ 39 + n % 512 * 2 ^ 30 + off

/-- Quarter of a plot that holds a byte (R220). -/
def quarter (off : Nat) : Nat := ((off / 2 ^ 8) % 4 + (off / 2 ^ 16) % 4 + (off / 2 ^ 24) % 4) % 4
/-- Mapped stack and stack-local address of a byte (R220), with `n` stacks in the map. -/
def place (index off n : Nat) : Nat × Nat :=
  let k := 4 * index + quarter off
  (k % n, k / n * 2 ^ 28 + off / 2 ^ 10 * 2 ^ 8 + off % 2 ^ 8)
/-- Stack and stack-local address of a DPA (R220). -/
def locate (s : State) (dpa : Nat) : Option (Nat × Nat) :=
  (dpaPlot s dpa).bind fun p =>
    let m := mapOf s (p.1 / 512)
    (m[(place (p.1 % 512) p.2 m.length).1]?).map fun k => (k, (place (p.1 % 512) p.2 m.length).2)

/-- The plot bound to an owner's slot. -/
def slotPlot (s : State) (o : Owner) (slot : Nat) : Option Nat := s.dram.slots.get? (1024 * o + slot)

/-- The plot of a plot-space address and the offset in it, where R223 permits the owner to translate it. -/
def translate (s : State) (o : Owner) (a : Nat) : Option (Nat × Nat) :=
  if a < 2 ^ 40 then
    (slotPlot s o (a / 2 ^ 30)).bind fun n =>
      let p := plotAt s n
      if p.owner = o ∧ (p.state = .assigned ∨ p.state = .lost) then some (n, a % 2 ^ 30) else none
  else none

/-- Slots that a range of plot space touches. -/
def slotsOf (a len : Nat) : List Nat :=
  if len = 0 then [a / 2 ^ 30] else (List.range ((a + len - 1) / 2 ^ 30 - a / 2 ^ 30 + 1)).map fun k => a / 2 ^ 30 + k

/-- Every byte of a range of plot space translates (R223). -/
def translates (s : State) (o : Owner) (a len : Nat) : Bool :=
  decide (a + len ≤ 2 ^ 40) && (slotsOf a len).all fun k => (translate s o (k * 2 ^ 30)).isSome

/-- The key of a plot's owner is held, or the plot is CLEAR (R243, R245). -/
def keyHeld (s : State) (p : Plot) : Bool :=
  if p.owner = 16 then p.clear || s.sec.deviceKey.isSome
  else ((s.sec.memKeys.get? p.owner).bind MemKey.key).isSome

/-- The word of a plot at an offset reads as poisoned (R229, R245, R247). -/
def wordBad (s : State) (n off : Nat) : Bool :=
  let p := plotAt s n
  decide (p.state = .lost) || !keyHeld s p || s.dram.poison.contains (dpaOf n off / 32)

/-- One byte of a plot (R219, R245). -/
def plotByte (s : State) (n off : Nat) : Byte :=
  match (plotAt s n).garbled with
  | some g => if (plotAt s n).fresh.any fun r => decide (r.1 ≤ off ∧ off < r.1 + r.2) then s.dram.bytes.read (dpaOf n off) else Config.garbage g off
  | none => s.dram.bytes.read (dpaOf n off)

/-- What a read of plot space gives (R229, R223): bytes, poison, or a violation. -/
inductive PlotRead
  | bytes (bs : Bytes)
  | poisoned
  | violation
  deriving DecidableEq, Repr

/-- A read of `len` bytes of an owner's plot space. -/
def readPlot (s : State) (o : Owner) (a len : Nat) : PlotRead :=
  if !translates s o a len then .violation
  else
    let cells := (List.range len).filterMap fun k => translate s o (a + k)
    if cells.any fun c => wordBad s c.1 c.2 then .poisoned
    else .bytes (cells.map fun c => plotByte s c.1 c.2)

/-- The words of a range that a write covers whole: poison of these is replaced; a partial write of a poisoned word is
discarded (R229). -/
def coversWord (a len w : Nat) : Bool := decide (a ≤ 32 * w ∧ 32 * w + 32 ≤ a + len)

/-- Bytes `data` are written at a DPA that holds a plot with its key: words covered whole lose their poison, bytes of a
poisoned word covered in part are discarded. -/
def writeDpa (s : State) (dpa : Nat) (data : Bytes) : State :=
  let bad := s.dram.poison.filter fun w => decide (32 * w < dpa + data.length ∧ dpa < 32 * w + 32)
  let keep := bad.filter fun w => !coversWord dpa data.length w
  let put := (data.zipIdx dpa).filter fun c => !keep.contains (c.2 / 32)
  let s1 := s.modDram fun d =>
    { d with bytes := put.foldl (fun m c => m.write c.2 c.1) d.bytes,
             poison := d.poison.filter fun w => !(bad.contains w && !keep.contains w) }
  let s2 := keep.foldl (fun s w => match locate s (32 * w) with
    | some (k, _) => s.modStack k fun st => { st with poisonedWrite := sat32 st.poisonedWrite 1 }
    | none => s) s1
  modPlot s2 (bitsOf dpa 39 39 * 512 + bitsOf dpa 38 30) fun p =>
    if p.garbled.isSome then { p with fresh := p.fresh ++ [(dpa % 2 ^ 30, data.length)] } else p

/-- Result of a write to plot space: done, or why not. -/
inductive PlotWrite
  | done
  | deviceFault
  | violation
  deriving DecidableEq, Repr

/-- Data cut at the plot boundaries of a range, as (address, bytes). -/
def cutAt1G (a : Nat) (data : Bytes) : List (Nat × Bytes) :=
  (slotsOf a data.length).map fun k =>
    (max a (k * 2 ^ 30), (data.drop (k * 2 ^ 30 - a)).take (min (a + data.length) ((k + 1) * 2 ^ 30) - max a (k * 2 ^ 30)))

/-- A write to an owner's plot space by the device's own work (R223, R229, R245, R247). -/
def writeRaw (s : State) (o : Owner) (a : Nat) (data : Bytes) : PlotWrite × State :=
  if !translates s o a data.length then (.violation, s)
  else if (slotsOf a data.length).any fun k => match translate s o (k * 2 ^ 30) with
      | some (n, _) => decide ((plotAt s n).state = .lost) || !keyHeld s (plotAt s n)
      | none => true
    then (.deviceFault, s)
  else (.done, (cutAt1G a data).foldl (fun s c => match translate s o c.1 with
      | some (n, off) => writeDpa s (dpaOf n off) c.2
      | none => s) s)

/-- Ranges overlap. -/
def overlap (a n b m : Nat) : Bool := decide (a < b + m ∧ b < a + n)

/-- The range touches a loaded image, an image being loaded, or an exact-match table of the owner (R188, R428). -/
def guarded (s : State) (o : Owner) (a len : Nat) : Bool :=
  (s.models.any fun _ m => decide (m.part = o) && overlap a len m.header.loadBase m.header.totalSize) ||
    (s.longOps.any fun _ p => match p.data with
      | .modelLoad q b n => decide (q = o) && overlap a len b n
      | _ => false) ||
    (s.pkt.tables.any fun _ t => decide (t.owner = o) && overlap a len t.base (256 * 2 ^ t.log2))

/-- A write to an owner's plot space by an engine: a guarded range rejects it (R188, R428). -/
def writePlot (s : State) (o : Owner) (a : Nat) (data : Bytes) : PlotWrite × State :=
  if guarded s o a data.length then (.violation, s) else writeRaw s o a data

/-- A range of a plot's bytes is filled with a 64-bit pattern, low byte first (R238). -/
def fillDpa (s : State) (dpa len pattern : Nat) : State :=
  let s1 := s.modDram fun d =>
    { d with bytes := d.bytes.zeroRange dpa len,
             poison := d.poison.filter fun w => !coversWord dpa len w }
  let s2 := if pattern = 0 then s1
    else s1.modDram fun d => { d with bytes := (List.range len).foldl (fun m k =>
      m.write (dpa + k) (BitVec.ofNat 8 (pattern / 256 ^ (k % 8)))) d.bytes }
  modPlot s2 (bitsOf dpa 39 39 * 512 + bitsOf dpa 38 30) fun p =>
    if p.garbled.isNone then p
    else if len = 2 ^ 30 then { p with garbled := none, fresh := [] }
    else { p with fresh := p.fresh ++ [(dpa % 2 ^ 30, len)] }

/-- The first byte of a range whose word reads as poisoned: plot and offset. -/
def firstBad (s : State) (o : Owner) (a len : Nat) : Option (Nat × Nat) :=
  ((List.range len).filterMap fun k => translate s o (a + k)).find? fun c => wordBad s c.1 c.2

/-- A read returned a poisoned word to a consumer: POISON_READ rises (R231) and POISON_CONSUMED is logged (R529). -/
def countPoison (s : State) (o : Owner) (a len status : Nat) : State :=
  match (firstBad s o a len).bind fun c => locate s (dpaOf c.1 c.2) with
  | some (k, _) =>
    logError (s.modStack k fun t => { t with poisonRead := sat32 t.poisonRead 1 })
      (uStack k) 3 (Config.errorCode (uStack k) 3 0) (ownerByte o) status
      (((firstBad s o a len).map fun c => dpaOf c.1 c.2).getD 0 / 32 * 32)
  | none => s

/-- A word is written poisoned (R229). -/
def poisonWord (s : State) (dpa : Nat) : State :=
  s.modDram fun d => { d with poison := if d.poison.contains (dpa / 32) then d.poison else (dpa / 32) :: d.poison }

/-- Plots that an owner holds (R370, R376). -/
def plotsHeld (s : State) (o : Owner) : Nat :=
  s.dram.plots.count fun _ p => decide (p.owner = o) && (decide (p.state = .assigned) || decide (p.state = .lost))

/-! ### Contexts (R384 to R386) -/

def cxNvme (inst qid : Nat) : Nat := 0x0000000 + 128 * inst + qid
def cxBulk (inst db : Nat) : Nat := 0x1000000 + 16 * inst + db
def cxStream (n : Nat) : Nat := 0x2000000 + n
def cxRing (n : Nat) : Nat := 0x3000000 + n
def cxQp (n : Nat) : Nat := 0x4000000 + n
def cxCkp : Nat := 0x5000000

/-- The owner's resident quota (R385). -/
def residentQuota (s : State) (o : Owner) : Nat :=
  if o = 16 then s.opResident else ((s.parts.get? o).map Partition.residentQuota).getD 0
/-- Contexts of an owner that are resident. -/
def residentCount (s : State) (o : Owner) : Nat := s.ctxs.count fun _ c => c.resident && decide (c.owner = o)
/-- The context is resident: only such a context's queues are fetched (R384). -/
def resident (s : State) (k : Nat) : Bool := ((s.ctxs.get? k).map Context.resident).getD false
/-- A new context: resident while its owner is below its quota, otherwise parked (R384, R386). -/
def addCtx (s : State) (k : Nat) (o : Owner) (die : Nat) (pinned : Bool) : State :=
  { s with
    ctxs := s.ctxs.set k
      { owner := o, die := die, pinned := pinned, since := s.lc, lastRun := s.lc, wanted := false,
        resident := pinned || decide (residentCount s o < residentQuota s o) } }
/-- A context ends. -/
def dropCtx (s : State) (k : Nat) : State := { s with ctxs := s.ctxs.erase k }
/-- An event concerns a context: a resident one runs, a parked one is wanted (R386). -/
def touchCtx (s : State) (k : Nat) : State :=
  { s with ctxs := s.ctxs.modify k fun c => if c.resident then { c with lastRun := s.lc } else { c with wanted := true } }
/-- The context has an operation in flight (R386). -/
def ctxBusy (s : State) (k : Nat) : Bool :=
  let n := k % 0x1000000
  if k < 0x1000000 then
    s.stor.ops.any fun _ o => !o.bulk && decide (o.inst = n / 128 ∧ o.queue = n % 128)
  else if k < 0x2000000 then s.stor.ops.any fun _ o => o.bulk && decide (o.queue = n)
  else if k < 0x3000000 then s.link.runs.any fun _ r => decide (r.stream = n)
  else if k < 0x4000000 then
    s.pkt.queues.any fun _ q => q.frames.any fun f => match f.origin with
      | .ring r _ _ _ => decide (r = n)
      | _ => false
  else ((s.pkt.qps.get? n).map fun q => !q.unacked.isEmpty).getD false
/-- An owner's resident contexts that may be parked now, least recently run first (R386). -/
def parkable (s : State) (o : Owner) : List (Nat × Context) :=
  sortBy (fun e : Nat × Context => e.2.lastRun)
    (s.ctxs.keep fun k c => c.resident && !c.pinned && decide (c.owner = o) && !ctxBusy s k)
/-- A context is parked. -/
def parkCtx (s : State) (k : Nat) : State := { s with ctxs := s.ctxs.modify k fun c => { c with resident := false } }
/-- A lowered quota is met by parking idle contexts, least recently run first (R386). -/
def parkExcess (s : State) (o : Owner) : State :=
  ((parkable s o).take (residentCount s o - residentQuota s o)).foldl (fun s e => parkCtx s e.1) s
/-- Every owner's lowered quota is met as far as its contexts are idle. -/
def parkAll (s : State) : State := if s.ctxs.isEmpty then s else (List.range 17).foldl parkExcess s

/-- Another context may be created (R384). -/
def ctxRoom (s : State) : Bool := decide (s.ctxs.length < 69632)

/-! ### Exception rates (R387, R388) -/

/-- Packets per second that the EXCEPTION cores take together (R388). -/
def excCapacity (s : State) : Nat := 6000000 * exceptionCores (laurelCores s)
/-- The configured rates together. -/
def excSum (s : State) : Nat := (s.excRates.map Prod.snd).foldl (· + ·) 0
/-- The rate in force of an owner: scaled while the rates exceed the capacity (R388). -/
def excRate (s : State) (o : Owner) : Nat :=
  let r := s.excRates.getD o 0
  if excSum s ≤ excCapacity s then r else r * excCapacity s / excSum s
/-- EXCEPTION_CAPACITY goes to every owner whose rate in force changed from `old`, and to the operator (R388, R562). -/
def excChanged (old s : State) : State :=
  (s.excRates.map Prod.fst).foldl (fun s o =>
    if (old.excRates.get? o).isSome ∧ old.excRates.getD o 0 = s.excRates.getD o 0 ∧ excRate old o ≠ excRate s o then
      sendEvent s (.opAnd o) 0x02F0 (ownerByte o) 0 (excRate s o + 2 ^ 32 * s.excRates.getD o 0)
    else s) s

/-! ### Measurements (R468 to R470) -/

/-- The 64 bytes of a log entry (R469). -/
def LogEntry.bytes (e : LogEntry) : Bytes :=
  le 8 e.time ++ le 2 e.type ++ le 1 e.register ++ zeros 1 ++ le 4 e.info ++ padTo 32 e.digest ++ zeros 16

/-- A measurement register extended with an entry (R468). -/
def extend (r : Bytes) (e : LogEntry) : Bytes := padTo 32 (Config.sha256 (r ++ e.bytes))

/-- A device register is extended: 0 DMR0, 1 DMR1 (R468, R470). -/
def measureDevice (s : State) (reg type info : Nat) (digest : Bytes) : State :=
  let e : LogEntry := { time := s.lc, type := type, register := reg, info := info, digest := digest }
  s.modSec fun c =>
    { c with log := c.log ++ [e], dmr0 := if reg = 0 then extend c.dmr0 e else c.dmr0,
             dmr1 := if reg = 1 then extend c.dmr1 e else c.dmr1 }

/-- A partition's register is extended (R468, R470). -/
def measurePart (s : State) (p type info : Nat) (digest : Bytes) : State :=
  let e : LogEntry := { time := s.lc, type := type, register := 2, info := info, digest := digest }
  s.modSec fun c =>
    { c with logs := c.logs.set p (c.logs.getD p [] ++ [e]), pmr := c.pmr.set p (extend (c.pmr.getD p (zeros 32)) e) }

/-- The partition's log has room for `n` more entries (R470). -/
def logRoom (s : State) (p n : Nat) : Bool := decide ((s.sec.logs.getD p []).length + n ≤ 4096)

/-- The alarm stands (R494). -/
def alarmed (s : State) : Bool := s.sec.alarm.isSome
/-- Both entropy sources are withdrawn, so a draw waits (R475). -/
def noEntropy (s : State) : Bool := s.sec.withdrawn0 && s.sec.withdrawn1
/-- The partition is being reset or deleted (R516). -/
def partResetting (s : State) (p : Nat) : Bool :=
  s.longOps.any fun _ o => match o.data with | .partition q _ => decide (q = p) | _ => false
/-- No cipher engine in service takes a new job: none has a seeded masking DRBG (R492). -/
def noEngine (s : State) : Bool :=
  (List.range 32).all fun c => !unitIn s (uCipher c) || s.sec.unseeded.contains c

end Sys2Proof.Machine
end

