-- ==== Sys2Proof/Machine/Serve.lean ====
section
/-! DEFINITION. How a mailbox request is fetched, checked and answered (R352 to R365, R561), and its buffers (R357). -/

namespace Sys2Proof.Machine

/-- The sender of a request. -/
structure Who where
  /-- mailbox. -/
  mbx : Nat
  /-- 16, or the partition of the instance. -/
  owner : Owner
  /-- the physical function that holds operator authority (R366). -/
  op : Bool
  /-- instance, or 0xFFFF. -/
  inst : Nat
  /-- host port. -/
  port : Nat
  deriving DecidableEq, Repr

/-- The sender behind a mailbox. -/
def whoOf (s : State) (m : Nat) : Who :=
  { mbx := m, op := decide (m = opMbx s), inst := mbxInst m, port := mbxPort s m,
    owner := if 0x400 ≤ m then 16 else ((s.insts.get? m).map Instance.part).getD 16 }

/-- Sender codes of the catalogue (R365). -/
inductive Sender
  | any | pf | operator | tenant | opOrTenant
  deriving DecidableEq, Repr

/-- The sender is admitted (R365). -/
def Sender.admits (c : Sender) (w : Who) : Bool :=
  match c with
  | .any => true
  | .pf => decide (w.inst = 0xFFFF)
  | .operator => w.op
  | .tenant => decide (w.inst ≠ 0xFFFF)
  | .opOrTenant => w.op || decide (w.inst ≠ 0xFFFF)

/-- A row of the catalogue (R367): opcode, body length (R372), sender. -/
structure Cat where
  opcode : Nat
  len : Nat
  sender : Sender
  /-- The request's input buffer, whose poisoned words count when the request is refused for them (R229). -/
  input : Option BufRef := none
  /-- Features that gate fields of the body (R359: SPECULATIVE, LIVE_ACTIVATION). -/
  gates : List Nat := []
  deriving DecidableEq, Repr

/-- What a request's own statement answers. -/
inductive Answer
  /-- Refused: nothing changes; a body where the statement gives one. -/
  | refuse (status : Nat) (body : Bytes)
  /-- OK with a body and the new state. -/
  | done (s : State) (body : Bytes)
  /-- Class L: accepted, completes later. The status of the RESPONSE is ACCEPTED unless stated (R393). -/
  | later (status : Nat) (s : State) (d : OpData)
  /-- Class L: accepted, and its completion follows in this step. -/
  | ended (s : State) (status : Nat) (body : Bytes)
  /-- OK without a body, and the mailbox's session ends after the response (R373 GOODBYE). -/
  | bye (s : State)
  /-- The request is answered by an event of its own (R528). -/
  | held (s : State)
  /-- The request waits for an entropy source (R475): it is served again, with its body's fields, once one serves. -/
  | waits (s : State) (args : List Nat)

/-- The first cause that holds refuses the request (R561). -/
def refuseOr : List (Bool × Nat) → Answer → Answer
  | [], a => a
  | (b, st) :: l, a => if b then .refuse st [] else refuseOr l a

/-- The feature bit that gates an opcode (R359). -/
def featureBit (op : Nat) : Nat :=
  if op = 0x0305 ∨ op = 0x0306 ∨ op = 0x0307 ∨ op = 0x0308 then 1
  else if op = 0x0705 then 2
  else if op = 0x0940 then 16
  else if family op = 0x08 then 3
  else if family op = 0x09 then 4
  else if op = 0x0A06 ∨ op = 0x0A07 then 5
  else if op = 0x0109 then 6
  else if family op = 0x05 then 7
  else if family op = 0x06 then 9
  else if family op = 0x0B then 10
  else if op = 0x0340 ∨ op = 0x0341 ∨ op = 0x0342 then 11
  else if op = 0x0240 then 12
  else if op = 0x0140 ∨ op = 0x0141 then 13
  else if op = 0x0740 ∨ op = 0x0741 then 15
  else 0

/-- The opcode exists in the session and its feature is chosen (R359). -/
def supported (ses : Session) (op : Nat) : Bool :=
  (decide (ses.level = 3) || level2Request op) && ses.features.testBit (featureBit op)

/-- Requests of a mailbox in progress at once (R361). -/
def inProgressMax (s : State) : Nat := if s.full then 16 else 4
/-- Requests of a mailbox in progress: its long operations, its captures, and requests that wait for entropy. -/
def inProgress (s : State) (m : Nat) : Nat :=
  (s.longOps.count fun _ o => decide (o.mbx = m)) + (s.mon.captures.filter fun c => decide (c.q.mbx = m)).length +
    (s.sec.waiting.filter fun d => match d.what with | .request q _ _ _ _ => decide (q.mbx = m) | _ => false).length

/-- The device fetches from the mailbox's function: driver present, instance RUNNING and not freezing (R336, R341, R345). -/
def functionFetches (s : State) (m : Nat) : Bool :=
  (s.port (mbxPort s m)).driverPresent &&
    (decide (0x400 ≤ m) || match s.insts.get? m with
      | some i => decide (i.state = .running) && pasidOk s i && !i.freezing && !partResetting s i.part
      | none => false)

/-- The device fetches and serves the mailbox's next request now (R353, R354, R361, R392, R509). -/
def mbxFetches (s : State) (m : Nat) : Bool :=
  let b := s.mbx m
  s.on && s.quick && b.enable && functionFetches s m &&
    decide (1 ≤ sub32 b.posted b.fetched ∧ sub32 b.posted b.fetched < 2 ^ 31) && decide (b.pend.length < 64) &&
    decide (inProgress s m < inProgressMax s) && s.fw.switching.isNone

/-- The request is fetched: FETCHED rises and is written (R353). -/
def fetchReq (s : State) (m : Nat) : State :=
  let n := wrap32 ((s.mbx m).fetched + 1)
  (s.modMbx m fun b => { b with fetched := n }).emit (.ringHeader m n (s.mbx m).lost)

/-- The first TOKEN from `k` up that is neither 0 nor in use (R361). -/
def freeToken (used : List Nat) : Nat → Nat → Nat
  | 0, k => k
  | fuel + 1, k => if wrap32 k = 0 ∨ used.contains (wrap32 k) then freeToken used fuel (k + 1) else wrap32 k

/-- The RESPONSE to request `n` of a mailbox. -/
def respond (s : State) (q : Req) (op n status token : Nat) (body : Bytes) : State :=
  postReply s q.mbx
    { opcode := op, kind := 2, level := ((s.mbx q.mbx).session.map Session.level).getD 0, index := n, status := status,
      token := token, cookie := q.cookie, time := s.lc, body := body }

/-- A long operation starts: it takes a TOKEN and a number (R361). -/
def startOp (s : State) (q : Req) (op n status : Nat) (d : OpData) : State :=
  let used := (s.longOps.keep fun _ o => decide (o.mbx = q.mbx)).map fun e => e.2.token
  let tok := freeToken used (used.length + 2) (s.mbx q.mbx).nextToken
  let s1 := { s with
    longOps := s.longOps.set s.opNo
      { mbx := q.mbx, sessionNo := (s.mbx q.mbx).sessionNo, token := tok, opcode := op, index := n, cookie := q.cookie,
        data := d }
    opNo := s.opNo + 1 }
  respond (s1.modMbx q.mbx fun b =>
    { b with nextToken := tok + 1, doneTokens := b.doneTokens.filter fun t => decide (t ≠ tok) }) q op n status tok []

/-- The mailbox's session ends (R355): nothing more is written for it. -/
def Mailbox.endSession (b : Mailbox) : Mailbox :=
  { b with session := none, sessionNo := b.sessionNo + 1, pend := [], events := [], doneTokens := [] }

/-- What the request's answer does (R361). -/
def answer (s : State) (q : Req) (op n : Nat) : Answer → State
  | .refuse st body => respond s q op n st 0 body
  | .done s' body => respond s' q op n OK 0 body
  | .later st s' d => startOp s' q op n st d
  | .ended s' st body => finishOp (startOp s' q op n ACCEPTED (.quote 0 [] 0 0 0)) s'.opNo st body
  | .bye s' => (respond s' q op n OK 0 []).modMbx q.mbx fun b => { b.endSession with pend := b.pend }
  | .held s' => s'
  | .waits s' args =>
    s'.modSec fun k => { k with waiting := k.waiting ++ [{ since := s.lc, what := .request q op n (s'.mbx q.mbx).sessionNo args }] }

/-- A header that R356, R358 and R372 refuse. -/
def headerBad (q : Req) (ses : Session) (n len : Nat) : Bool :=
  decide (q.level ≠ ses.level) || decide (q.index ≠ n) || decide (q.len ≠ len) || q.hdrBad

/-- A request refused because its input buffer reads as poisoned counts a poison read (R229, R231). -/
def inputPoison (s : State) (w : Who) (b : Option BufRef) : Answer → State
  | .refuse st _ => match b with
    | some r => if st = POISONED ∧ r.space = 2 then countPoison s w.owner r.addr r.len POISONED else s
    | none => s
  | _ => s

/-- A request other than HELLO is fetched and served, with the refusals of R561 in their order: NO_SESSION, the header,
UNSUPPORTED, DENIED; the rest is the request's own statement. A mailbox that is not served stays as it is. -/
def serve (q : Req) (c : Cat) (f : Who → State → Answer) (s : State) : State :=
  if !mbxFetches s q.mbx then s
  else
    let s1 := fetchReq s q.mbx
    let n := (s1.mbx q.mbx).fetched
    match (s1.mbx q.mbx).session with
    | none => respond s1 q c.opcode n NO_SESSION 0 []
    | some ses =>
      if headerBad q ses n c.len then respond s1 q c.opcode n INVALID 0 []
      else if !supported ses c.opcode || c.gates.any (fun k => !ses.features.testBit k) then respond s1 q c.opcode n UNSUPPORTED 0 []
      else if !c.sender.admits (whoOf s1 q.mbx) then respond s1 q c.opcode n DENIED 0 []
      else answer (inputPoison s1 (whoOf s1 q.mbx) c.input (f (whoOf s1 q.mbx) s1)) q c.opcode n (f (whoOf s1 q.mbx) s1)

/-- A refusal by a list of causes, or what the request does. -/
def Answer.ok (s : State) : Answer := .done s []

/-! ### OWNER bytes and owners (R365, R372) -/

/-- The owner that a request's OWNER byte names: a tenant's own partition whatever the byte (R372). -/
def ownerArg (w : Who) (b : Nat) : Option Owner := if w.op then ownerOfByte b else some w.owner
/-- As `ownerArg`, with the operator domain for a malformed byte (which `ownerBad` refuses). -/
def ownerOr (w : Who) (b : Nat) : Owner := (ownerArg w b).getD 16
/-- The OWNER byte is malformed or names a partition that does not exist (R372, R561 step 6). -/
def ownerBad (s : State) (w : Who) (b : Nat) : Bool :=
  match ownerArg w b with
  | none => true
  | some o => !ownerExists s o
/-- The sender may act on a resource of the owner (R365). -/
def mayActOn (w : Who) (o : Owner) : Bool := w.op || decide (w.owner = o)

/-! ### Buffers (R357) -/

/-- What reading a buffer gives: its bytes, or the request's status. -/
abbrev BufRead := Except Nat Bytes

/-- A plot-space read by a request: poison, alarm and bounds as statuses (R357, R229). -/
def readSpace (s : State) (o : Owner) (a len : Nat) : BufRead :=
  match readPlot s o a len with
  | .bytes bs => .ok bs
  | .poisoned => .error POISONED
  | .violation => .error DENIED

/-- The bytes of an input buffer (R331, R332, R357). -/
def readBuf (s : State) (w : Who) (b : BufRef) (h : HostData) : BufRead :=
  if b.space = 1 then
    match h with
    | .data bs => .ok (padTo b.len bs)
    | .refused => .error HOST_ERROR
    | .timeout => .error TIMEOUT
    | .poisoned => .error POISONED
  else if b.space = 2 then readSpace s w.owner b.addr b.len
  else .error INVALID

/-- The status of a buffer that could not be read. -/
def bufStatus : BufRead → Nat
  | .ok _ => OK
  | .error e => e
/-- The buffer was read. -/
def bufOk : BufRead → Bool
  | .ok _ => true
  | .error _ => false
/-- The bytes read, none where the read failed. -/
def bufBytes : BufRead → Bytes
  | .ok bs => bs
  | .error _ => []

/-- An output buffer is written: host memory of the mailbox's function, or the sender's plot space (R357). -/
def writeBuf (s : State) (w : Who) (space addr : Nat) (data : Bytes) : Nat × State :=
  if space = 1 then (OK, hostWrite s w.port w.inst addr data)
  else if space = 2 then
    match writePlot s w.owner addr data with
    | (.done, s') => (OK, s')
    | (.deviceFault, _) => (DEVICE_FAULT, s)
    | (.violation, _) => (DENIED, s)
  else (INVALID, s)

/-- A request that answers with a body and writes an output buffer, refused where the buffer is (R357). -/
def doneWithBuf (s : State) (w : Who) (b : BufRef) (data body : Bytes) : Answer :=
  match writeBuf s w b.space b.addr data with
  | (st, s') => if st = OK then .done s' body else .refuse st []

/-- A buffer reference whose SPACE is neither of R357, or whose LENGTH is below what the request needs. -/
def refBad (b : BufRef) (n : Nat) : Bool := decide (b.space ≠ 1 ∧ b.space ≠ 2) || decide (b.len < n)

/-- A buffer reference of all zeros. -/
def refZero (b : BufRef) : Bool := decide (b.addr = 0 ∧ b.len = 0 ∧ b.space = 0)

/-- Fixed-size entries of a buffer. -/
def chunks (n : Nat) : Nat → Bytes → List Bytes
  | 0, _ => []
  | k + 1, bs => bs.take n :: chunks n k (bs.drop n)

end Sys2Proof.Machine
end

