-- ==== Sys2Proof/Machine/Keys.lean ====
section
/-! DEFINITION. Fuses, the key store, attestation and measurements (15 R459 to R489, 11 R380). -/

namespace Sys2Proof.Machine

/-! ### Fuses (R461 to R463) -/

/-- An SVN row's check is correct: the XOR of the eight version bytes, inverted (R461). -/
def svnRowOk (r : Nat × Nat) : Bool :=
  decide (r.2 = 255 - ((le 8 r.1).foldl (fun a b => a ^^^ b.toNat) 0))
/-- The fused version (R462): of the highest valid row above every lower valid row; 0 with none. -/
def fusedVersion (s : State) : Nat :=
  s.fuses.svnRows.foldl (fun v r => if svnRowOk r ∧ v < r.1 then r.1 else v) 0
/-- An SVN row of a version, with its check. -/
def svnRow (v : Nat) : Nat × Nat := (v, 255 - ((le 8 v).foldl (fun a b => a ^^^ b.toNat) 0))
/-- Fuse bytes 0 to 423 (R461). -/
def fuseBytes (s : State) : Bytes :=
  padTo 128 (s.fuses.keyHash.flatMap (padTo 32)) ++ le 1 s.fuses.keyState ++ le 1 s.fuses.lifecycle ++ zeros 6 ++
    padTo 288 (s.fuses.svnRows.flatMap fun r => le 8 r.1 ++ le 1 r.2)
/-- FUSE_STATE is recorded (R469). -/
def measureFuses (s : State) : State := measureDevice s 1 3 s.fw.keyIndex (Config.sha256 (fuseBytes s))
/-- The fused version is raised for an image signed with key `k`: a row is programmed and lower keys revoked (R463, R466). -/
def raiseFuses (s : State) (version k : Nat) : State :=
  measureFuses { s with
    fuses := { s.fuses with
      svnRows := s.fuses.svnRows ++ [svnRow version]
      keyState := (List.range (min k 4)).foldl (fun v j => if v.testBit j then v ||| 2 ^ (4 + j) else v) s.fuses.keyState } }

/-! ### The key store (R476 to R488) -/

/-- General slots that a partition owns. -/
def keysHeld (s : State) (p : Nat) : Nat := s.sec.slots.count fun _ k => decide (k.owner = p)
/-- The general slots of a partition with a USAGE. -/
def slotsWith (s : State) (p usage : Nat) : List (Nat × KeySlot) :=
  s.sec.slots.keep fun _ k => decide (k.owner = p ∧ k.usage = usage)

/-- What a job that names a key slot finds (R482). -/
inductive KeyCheck
  | ok (k : KeySlot)
  | violation
  | invalid
  deriving DecidableEq, Repr

/-- The check of R482: owner, USAGE, a MODES bit (0 GCM, 1 GMAC, 2 XTS, 3 CTR) and a DIRECTION bit (0 encrypt). -/
def keyCheck (s : State) (o : Owner) (slot usage mode dir : Nat) : KeyCheck :=
  match s.sec.slots.get? slot with
  | none => .violation
  | some k =>
    if k.owner ≠ o then .violation
    else if k.state ≠ .erased ∧ k.usage = usage ∧ bitOf k.modes mode = true ∧ bitOf k.dir dir = true then .ok k
    else .invalid

/-- The 12-byte IV of a counter value (R485): FIXED, then the counter, most significant byte first. -/
def gcmIv (fixed : Bytes) (count : Nat) : Bytes := padTo 4 fixed ++ (le 8 count).reverse
/-- The state of a slot that holds a key: after the value 2^48 − 1 it is EXHAUSTED (R487). -/
def keyedState (count : Nat) : KeyState := if 2 ^ 48 ≤ count then .exhausted else .loaded
/-- A counter value is handed out (R485, R487); NEXT_COUNT then names the value after it, 2^48 where there is none (DEDUCED). -/
def takeCount (s : State) (slot : Nat) : State :=
  s.modSec fun c => { c with
    slots := c.slots.modify slot fun k => { k with nextCount := k.nextCount + 1, state := keyedState (k.nextCount + 1) } }

/-- PARTITION_KEY_INIT's act (R478). -/
def keyInitAct (s : State) (p : Nat) : State :=
  let pair := Config.mlKemKeyGen s.free
  let ek := padTo 1568 pair.1
  measurePart (({ s with free := s.free + 1 }).modSec fun c =>
    { c with importKeys := c.importKeys.erase p, decaps := c.decaps.set p (ek, pair.2), encaps := c.encaps.set p ek })
    p 0x11 0 (Config.sha256 ek)

/-- PARTITION_KEY_INIT (R478, R380). -/
def keyInit (q : Req) (p : Nat) (_ : Who) (s : State) : Answer :=
  refuseOr [(alarmed s, NOT_READY), (q.bodyBad || decide (16 ≤ p) || !partExists s p, INVALID),
    (!logRoom s p 1, NO_RESOURCES)]
    (if noEntropy s then .waits s [p] else .ok (keyInitAct s p))

def execPartitionKeyInit (q : Req) (part : B1) (s : State) : Host.Outcome State Fault Refusal :=
  .next (serve q ⟨0x0A01, 8, .operator, none, []⟩ (keyInit q part) s)

/-- KEY_IMPORT's response body (R479). -/
def importBody (slot : Nat) (confirm : Bytes) : Bytes := le 2 slot ++ zeros 14 ++ padTo 16 confirm

/-- KEY_IMPORT with OP ESTABLISH (R478, R479). -/
def establish (q : Req) (len : Nat) (data : BufRef) (host : HostData) (w : Who) (s : State) : Answer :=
  let r := readBuf s w data host
  refuseOr [(decide (bufStatus r = DENIED), DENIED), (alarmed s, NOT_READY),
    (q.bodyBad || decide (len ≠ 1568) || refBad data 1568 || !bufOk r && decide (bufStatus r = INVALID), INVALID),
    (!bufOk r, bufStatus r)]
    (match s.sec.decaps.get? w.owner with
     | none => .refuse INVALID []
     | some d =>
       let key := padTo 32 (Config.mlKemDecaps d.2 ((bufBytes r).take 1568))
       .done (s.modSec fun c =>
         { c with decaps := c.decaps.erase w.owner, importKeys := c.importKeys.set w.owner key })
         (importBody (16384 + 2 * w.owner) (Config.aesBlock key (zeros 16))))

def execEstablish (q : Req) (_slot : B2) (len : B4) (data : BufRef) (host : HostData) (s : State) :
    Host.Outcome State Fault Refusal :=
  .next (serve q ⟨0x0A02, 32, .tenant, some data, []⟩ (establish q len data host) s)

/-- The attribute block of R480. -/
structure KeyAttr where
  alg : Nat
  modes : Nat
  usage : Nat
  dir : Nat
  fixed : Bytes
  count : Nat
  deriving DecidableEq, Repr

/-- The attribute block at the start of an unwrapped key. -/
def keyAttr (b : Bytes) : KeyAttr :=
  { alg := fieldAt b 0 1, modes := fieldAt b 1 1, usage := fieldAt b 2 1, dir := fieldAt b 3 1,
    fixed := padTo 4 ((b.drop 4).take 4), count := fieldAt b 8 8 }

/-- Key bytes of an ALG (R480). -/
def algBytes (alg : Nat) : Nat := if alg = 1 then 16 else if alg = 2 ∨ alg = 3 then 32 else 64

/-- The attributes and the key length obey R480 and R481. -/
def KeyAttr.ok (a : KeyAttr) (keyLen : Nat) : Bool :=
  decide (1 ≤ a.alg ∧ a.alg ≤ 4 ∧ algBytes a.alg = keyLen ∧ a.modes < 16 ∧ a.usage ≤ 3 ∧ a.dir < 4 ∧ a.count < 2 ^ 48) &&
    (if a.usage = 0 then (!bitOf a.modes 2 || decide (3 ≤ a.alg)) && (decide (a.modes = 0 ∨ a.modes = 4) || decide (a.alg ≤ 2))
     else if a.usage = 2 then decide (a.alg = 2 ∧ a.modes = 1 ∧ a.dir = 3)
     else decide (a.alg = 4 ∧ a.modes = 4 ∧ a.dir = 3))

/-- The slot that a GENERAL, MIGRATION or GROUP import takes, or its refusal (R479, R481). -/
def importSlot (s : State) (p slot usage : Nat) : Except Nat Nat :=
  let others := (slotsWith s p usage).filter fun e => decide (e.1 ≠ slot)
  if slot = 0xFFFF then
    if 2 ≤ usage ∧ !others.isEmpty then .error IN_USE
    else if ((s.parts.get? p).map Partition.keyQuota).getD 0 ≤ keysHeld s p then .error NO_RESOURCES
    else match s.sec.slots.firstFree 16384 0 with
      | some k => .ok k
      | none => .error NO_RESOURCES
  else if 16384 ≤ slot then .error INVALID
  else match s.sec.slots.get? slot with
    | none => .error IN_USE
    | some k =>
      if k.owner ≠ p then .error DENIED
      else if k.state ≠ .erased then .error IN_USE
      else if k.usage ≠ usage then .error INVALID
      else if 2 ≤ usage ∧ !others.isEmpty then .error IN_USE
      else .ok slot

/-- NEXT_COUNT of a slot that a key enters: the larger of INITIAL_COUNT and the kept value (R488). -/
def startCount (s : State) (slot : Nat) (a : KeyAttr) : Nat :=
  max a.count (((s.sec.slots.get? slot).map KeySlot.nextCount).getD 0)
/-- A key enters a general slot (R477, R488). -/
def putKey (s : State) (p slot : Nat) (a : KeyAttr) (key : Bytes) : State :=
  s.modSec fun c => { c with
    slots := c.slots.set slot
      { state := keyedState (startCount s slot a), owner := p, alg := a.alg, modes := a.modes, usage := a.usage, dir := a.dir, fixed := a.fixed,
        nextCount := startCount s slot a, key := key } }

/-- A partition holds an ASSIGNED plot (R489). -/
def holdsPlot (s : State) (p : Nat) : Bool := s.dram.plots.any fun _ x => decide (x.owner = p ∧ x.state = .assigned)

/-- Import of a memory key (R489). -/
def importMemory (s : State) (p : Nat) (key : Bytes) : Answer :=
  let check := padTo 32 (Config.sha256 key)
  let act := measurePart (s.modSec fun c =>
    { c with memKeys := c.memKeys.set p { key := some key, imported := true, check := check } }) p 0x12 1 (zeros 32)
  match s.sec.memKeys.get? p with
  | some ⟨none, _, kept⟩ =>
    if check ≠ kept then .refuse DECRYPT_FAIL [] else if !logRoom s p 1 then .refuse NO_RESOURCES []
    else .done act (importBody (16385 + 2 * p) [])
  | _ =>
    if holdsPlot s p then .refuse IN_USE [] else if !logRoom s p 1 then .refuse NO_RESOURCES []
    else .done act (importBody (16385 + 2 * p) [])

/-- KEY_IMPORT with OP WRAPPED (R479 to R481, R488, R489). -/
def wrapped (q : Req) (slot len : Nat) (data : BufRef) (host : HostData) (w : Who) (s : State) : Answer :=
  let r := readBuf s w data host
  refuseOr [(decide (bufStatus r = DENIED), DENIED), (alarmed s, NOT_READY),
    (q.bodyBad || decide (len ≠ 40 ∧ len ≠ 56 ∧ len ≠ 88) || refBad data len, INVALID), (!bufOk r, bufStatus r)]
    (match s.sec.importKeys.get? w.owner with
     | none => .refuse INVALID []
     | some ik =>
       match Config.aesKwUnwrap ik ((bufBytes r).take len) with
       | none => .refuse DECRYPT_FAIL []
       | some plain =>
         let b := padTo (len - 8) plain
         let a := keyAttr b
         let key := b.drop 16
         if !a.ok key.length then .refuse INVALID []
         else if a.usage = 1 then importMemory s w.owner key
         else match importSlot s w.owner slot a.usage with
           | .error st => .refuse st []
           | .ok k => .done (putKey s w.owner k a key) (importBody k []))

def execWrapped (q : Req) (slot : B2) (len : B4) (data : BufRef) (host : HostData) (s : State) :
    Host.Outcome State Fault Refusal :=
  .next (serve q ⟨0x0A02, 32, .tenant, some data, []⟩ (wrapped q slot len data host) s)

/-- The slot is named by a namespace, by a checkpoint group, or by a freeze of one of the partition's instances (R483). -/
def keyNamed (s : State) (slot : Nat) (k : KeySlot) : Bool :=
  (s.stor.spaces.any fun _ n => n.encrypt && decide (n.keySlot = slot)) ||
    (decide (k.usage = 3) && (s.ckp.map fun g => decide (g.part = k.owner)).getD false) ||
    (decide (k.usage = 2) && s.insts.any fun _ i => i.freezing && decide (i.part = k.owner))

/-- KEY_DESTROY (R483). -/
def keyDestroy (q : Req) (slot : Nat) (w : Who) (s : State) : Answer :=
  match s.sec.slots.get? slot with
  | none => refuseOr [(alarmed s, NOT_READY), (q.bodyBad || decide (16384 ≤ slot), INVALID)] (.refuse IN_USE [])
  | some k =>
    refuseOr [(!mayActOn w k.owner, DENIED), (alarmed s, NOT_READY), (q.bodyBad, INVALID),
      (keyNamed s slot k || (decide (w.inst ≠ 0xFFFF) && s.boot.opAbsent), IN_USE)]
      (.ok (s.modSec fun c => { c with slots := c.slots.erase slot }))

def execKeyDestroy (q : Req) (slot : B2) (s : State) : Host.Outcome State Fault Refusal :=
  .next (serve q ⟨0x0A03, 8, .opOrTenant, none, []⟩ (keyDestroy q slot) s)

/-- The 24-byte entry of KEY_SLOT_QUERY (R380); a FREE slot reads zero. -/
def keyEntry (s : State) (w : Who) (slot : Nat) : Bytes :=
  match s.sec.slots.get? slot with
  | none => zeros 24
  | some k =>
    if mayActOn w k.owner then
      le 1 k.state.code ++ le 1 k.alg ++ le 1 k.modes ++ le 1 k.usage ++ le 1 k.dir ++ le 1 (ownerByte k.owner) ++ zeros 2 ++
        padTo 4 k.fixed ++ zeros 4 ++ le 8 k.nextCount
    else zeros 24

/-- KEY_SLOT_QUERY (R483, R380). -/
def keySlotQuery (q : Req) (first count : Nat) (out : BufRef) (w : Who) (s : State) : Answer :=
  refuseOr [(alarmed s, NOT_READY),
    (q.bodyBad || decide (count < 1 ∨ 1024 < count ∨ 16384 < first + count) || refBad out (24 * count), INVALID)]
    (doneWithBuf s w out ((List.range count).flatMap fun k => keyEntry s w (first + k)) (le 8 count))

def execKeySlotQuery (q : Req) (first count : B2) (out : BufRef) (s : State) : Host.Outcome State Fault Refusal :=
  .next (serve q ⟨0x0A04, 24, .opOrTenant, none, []⟩ (keySlotQuery q first count out) s)

/-- The key slot quotas of every partition but `p`. -/
def otherKeyQuotas (s : State) (p : Nat) : Nat :=
  ((s.parts.keep fun j _ => decide (j ≠ p)).map fun e => e.2.keyQuota).sum

/-- KEY_SLOT_QUOTA_SET (R476, R380). -/
def keySlotQuotaSet (q : Req) (p slots : Nat) (_ : Who) (s : State) : Answer :=
  refuseOr [(alarmed s, NOT_READY),
    (q.bodyBad || decide (16 ≤ p) || !partExists s p || decide (16384 < otherKeyQuotas s p + slots), INVALID),
    (decide (slots < keysHeld s p), IN_USE)]
    (.ok { s with parts := s.parts.modify p fun x => { x with keyQuota := slots } })

def execKeySlotQuotaSet (q : Req) (part : B1) (slots : B4) (s : State) : Host.Outcome State Fault Refusal :=
  .next (serve q ⟨0x0A05, 8, .operator, none, []⟩ (keySlotQuotaSet q part slots) s)

/-! ### Attestation (R471 to R474) -/

/-- The PMR of a partition, or zero. -/
def pmrOf (s : State) (p : Nat) : Bytes := padTo 32 (s.sec.pmr.getD p (zeros 32))
/-- Yew groups that an owner holds. -/
def groupsHeld (s : State) (o : Owner) : Nat :=
  s.groups.count fun _ g => decide (g.owner = o ∧ (g.state = .assigned ∨ g.state = .retired))
/-- Bit k set: ZAL port k belongs to the owner. -/
def zalBits (s : State) (o : Owner) : Nat :=
  ((List.range 8).map fun k => if (s.zal k).owner = o then 2 ^ k else 0).sum

/-- KEY_FLAGS of a quote (R472). -/
def keyFlags (s : State) (part : Bool) (p : Nat) : Nat :=
  (if part then b2n (s.sec.encaps.get? p).isSome + 2 * b2n (s.sec.importKeys.get? p).isSome +
    4 * b2n (((s.sec.memKeys.get? p).map MemKey.imported).getD false) else 0) + 8 * b2n s.boot.opAbsent

/-- The 320-byte body of a quote and, for a partition, its encapsulation key (R472). -/
def quoteBody (s : State) (kind p : Nat) (nonce : Bytes) : Bytes :=
  let part := decide (kind = 2)
  let ek := if part then s.sec.encaps.getD p [] else []
  le 4 0x51544F5A ++ le 2 1 ++ le 1 kind ++ le 1 (if part then p else 0xFF) ++ le 8 s.fuses.serial ++
    le 16 s.boot.bootNonce ++ le 8 s.lc ++ padTo 32 nonce ++ le 8 (fusedVersion s) ++ le 1 s.fw.keyIndex ++
    le 1 s.fuses.lifecycle ++ zeros 2 ++ le 4 s.fw.version ++ le 8 s.fw.security ++ padTo 32 s.sec.dmr0 ++
    padTo 32 s.sec.dmr1 ++ padTo 32 Config.identityKey ++
    (if part then pmrOf s p else padTo 32 (Config.sha256 ((List.range 16).flatMap (pmrOf s)))) ++
    le 4 (if part then (s.sec.logs.getD p []).length else s.sec.log.length) ++
    le 1 (if part then groupsHeld s p else 0) ++ le 1 (if part then zalBits s p else 0) ++
    le 2 (if part then plotsHeld s p else 0) ++ le 1 (keyFlags s part p) ++ zeros 23 ++
    (if ek.isEmpty then zeros 32 else padTo 32 (Config.sha256 ek)) ++ zeros 32 ++ ek

/-- The endorsement record (R467). -/
def endorsementRecord (s : State) : Bytes :=
  le 4 0x5245445A ++ le 2 1 ++ zeros 2 ++ le 8 s.fuses.serial ++ padTo 32 Config.identityKey ++
    padTo 29856 Config.endorsement
/-- A signed quote: the body and the identity signature over it. -/
def signedQuote (body : Bytes) : Bytes := body ++ padTo 17088 (Config.identitySign body)

/-- The signer takes the next quote: a DOE quote before every Ialdo one, which go in order (R473, R474). -/
def startSigning (s : State) : State :=
  if s.sec.signing.isSome then s
  else match s.sec.doe with
    | d :: rest => s.modSec fun c =>
        { c with doe := rest, signing := some { op := none, port := d.port, since := s.lc,
                                                body := quoteBody s d.kind d.part d.nonce } }
    | [] => match s.sec.quotes with
      | n :: rest =>
        match (s.longOps.get? n).map LongOp.data with
        | some (.quote kind body _ _ _) => s.modSec fun c =>
            { c with quotes := rest, signing := some { op := some n, port := 0, since := s.lc,
                                                       body := quoteBody s kind (fieldAt body 0 1) (body.drop 1) } }
        | _ => s.modSec fun c => { c with quotes := rest }
      | [] => s

/-- Quotes in progress of a mailbox, or of the device where none is named (R473). -/
def quotesInProgress (s : State) (m : Option Nat) : Nat :=
  s.longOps.count fun _ o => decide (m = none ∨ m = some o.mbx) && (match o.data with | .quote .. => true | _ => false)

/-- The partition that a quote's request names, and whether a tenant may name it (R471). -/
def quotePart (w : Who) (kind part : Nat) : Nat := if kind = 2 ∧ !w.op ∧ part = 0xFF then w.owner else part

/-- ATTEST_QUOTE (R471, R473). -/
def attestQuote (q : Req) (kind part : Nat) (nonce : Bytes) (out : BufRef) (w : Who) (s : State) : Answer :=
  let p := quotePart w kind part
  let size := if kind = 3 then 29904 else if kind = 2 then 17408 + (s.sec.encaps.getD p []).length else 17408
  refuseOr [(decide (kind = 2) && !w.op && decide (p ≠ w.owner), DENIED), (alarmed s, NOT_READY),
    (q.bodyBad || decide (kind < 1 ∨ 3 < kind) || (decide (kind ≠ 2) && decide (part ≠ 0xFF)) ||
      (decide (kind = 2) && (decide (16 ≤ p) || !partExists s p)) || refBad out size, INVALID),
    (decide (2 ≤ quotesInProgress s (some q.mbx) ∨ 32 ≤ quotesInProgress s none), NO_RESOURCES)]
    (if kind = 3 then
       (match writeBuf s w out.space out.addr (endorsementRecord s) with
        | (st, s') => if st = OK then .ended s' OK [] else .refuse st [])
     else .later ACCEPTED (s.modSec fun c => { c with quotes := c.quotes ++ [s.opNo] })
       (.quote kind (le 1 p ++ padTo 32 nonce) out.space out.addr out.len))

def execAttestQuote (q : Req) (kind part : B1) (nonce : Bytes) (out : BufRef) (s : State) :
    Host.Outcome State Fault Refusal :=
  .next (startSigning (serve q ⟨0x0A06, 64, .opOrTenant, none, []⟩ (attestQuote q kind part nonce out) s))

/-- A DOE response object (R474): two header dwords, then its data padded to whole dwords. -/
def doeObject (vendor type : Nat) (data : Bytes) : Bytes :=
  let n := (data.length + 3) / 4
  le 2 vendor ++ le 1 type ++ zeros 1 ++ le 4 (n + 2) ++ padTo (4 * n) data

/-- A signing quote is answered with a status and a result (R473, R474). -/
def answerQuote (s : State) (g : Signing) (status : Nat) (result : Bytes) : State :=
  match g.op with
  | none => s.emit (.doe g.port (doeObject 0x1FA7 1 (le 4 status ++ result)))
  | some n =>
    match s.longOps.get? n with
    | some o =>
      match o.data with
      | .quote _ _ space addr len =>
        if status ≠ OK then finishOp s n status []
        else if len < result.length then finishOp s n INVALID []
        else match writeBuf s (whoOf s o.mbx) space addr result with
          | (st, s') => finishOp s' n st []
      | _ => s
    | none => s

/-- QUOTE_SIGNING_COMPLETE (R473). -/
def quoteSigned (s : State) : State :=
  match s.sec.signing with
  | none => s
  | some g => startSigning (answerQuote (s.modSec fun c => { c with signing := none }) g OK (signedQuote g.body))

def execQuoteSigningComplete (s : State) : Host.Outcome State Fault Refusal :=
  .next (if s.on then quoteSigned s else s)

/-- MEASUREMENT_READ (R470). -/
def measurementRead (q : Req) (scope first count : Nat) (out : BufRef) (w : Who) (s : State) : Answer :=
  let log := if scope = 0xFF then s.sec.log else s.sec.logs.getD scope []
  refuseOr [(!w.op && decide (scope ≠ 0xFF ∧ scope ≠ w.owner), DENIED), (alarmed s, NOT_READY),
    (q.bodyBad || (decide (scope ≠ 0xFF) && (decide (16 ≤ scope) || !partExists s scope)) || refBad out (64 * count),
      INVALID)]
    (doneWithBuf s w out (((log.drop first).take count).flatMap LogEntry.bytes)
      (le 4 log.length ++ if scope = 0xFF then padTo 32 s.sec.dmr0 ++ padTo 32 s.sec.dmr1 else pmrOf s scope))

def execMeasurementRead (q : Req) (scope : B1) (first count : B4) (out : BufRef) (s : State) :
    Host.Outcome State Fault Refusal :=
  .next (serve q ⟨0x0A07, 32, .opOrTenant, none, []⟩ (measurementRead q scope first count out) s)

/-- The port serves its DOE mailbox: ROM is reached and PERST# is high (R474, R509). -/
def doeServed (s : State) (port : Nat) : Bool := s.on && s.boot.rom && !(s.port port).perst

def execDoeDiscovery (port : Fin 2) (index : B1) (s : State) : Host.Outcome State Fault Refusal :=
  .next (if !doeServed s port.val then s else s.emit (.doe port.val (doeObject 1 0
    (if index = 0 then le 2 1 ++ le 1 0 ++ le 1 1
     else if index = 1 then le 2 0x1FA7 ++ le 1 1 ++ le 1 0
     else le 2 0xFFFF ++ le 1 0xFF ++ le 1 0))))

/-- What a DOE attestation request receives (R474). -/
def doeAttest (s : State) (port : Nat) (body : Bytes) : State :=
  let kind := fieldAt body 0 1
  let part := fieldAt body 1 1
  let reply (st : Nat) (data : Bytes) := s.emit (.doe port (doeObject 0x1FA7 1 (le 4 st ++ data)))
  if (kind = 2 ∧ !s.full) ∨ (kind ≠ 3 ∧ alarmed s) then reply NOT_READY []
  else if kind < 1 ∨ 3 < kind ∨ (kind ≠ 2 ∧ part ≠ 0xFF) ∨ (kind = 2 ∧ (16 ≤ part ∨ !partExists s part)) ∨
      ¬ ((body.drop 2).take 6).all (· == 0) ∨ ¬ (body.drop 40).all (· == 0) then reply INVALID []
  else if kind = 3 then reply OK (endorsementRecord s)
  else startSigning (s.modSec fun c =>
    { c with doe := c.doe ++ [{ port := port, kind := kind, part := part, nonce := padTo 32 ((body.drop 8).take 32) }] })

def execDoeAttestation (port : Fin 2) (body : Bytes) (s : State) : Host.Outcome State Fault Refusal :=
  .next (if !doeServed s port.val || (s.boot.failed && decide (s.boot.level = 1)) then s
    else doeAttest s port.val (padTo 64 body))

end Sys2Proof.Machine
end

