-- ==== Sys2Proof/Machine/Mem.lean ====
section
/-! DEFINITION. Moleveuf stacked memory: plots, near-memory commands, scrub, repair, losing and moving stacks
(07, 11 R370, R376). -/

namespace Sys2Proof.Machine

/-! ### Fills and copies (R226, R237, R238, R242) -/

/-- The range is 32-byte aligned, a multiple of 32 bytes long and not empty. -/
def wordRange (a len : Nat) : Bool := decide (a % 32 = 0 ∧ len % 32 = 0 ∧ 0 < len)
/-- The range lies within one plot's bytes. -/
def onePlot (a len : Nat) : Bool := decide (a % 2 ^ 30 + len ≤ 2 ^ 30)

/-- The limits of FILL (R238). -/
def fillFits (s : State) (o : Owner) (a len : Nat) : Bool := wordRange a len && onePlot a len && translates s o a len
/-- The limits of COPY (R238): aligned, in the owner's plots, no overlap. -/
def copyFits (s : State) (o : Owner) (dst src len : Nat) : Bool :=
  wordRange dst len && wordRange src len && translates s o dst len && translates s o src len && !overlap dst len src len

/-- The first byte that a COPY may not reach: of its destination, or else of its source (R32). -/
def copyMiss (s : State) (o : Owner) (dst src len : Nat) : Nat := if !translates s o dst len || guarded s o dst len then dst else src

/-- The plot takes writes: not LOST, its key held (R245, R247). -/
def plotWritable (s : State) (n : Nat) : Bool := decide ((plotAt s n).state ≠ .lost) && keyHeld s (plotAt s n)

/-- A FILL of an owner's plot space within one plot: its status and the state after. -/
def fillPlots (s : State) (o : Owner) (a len pattern : Nat) : Nat × State :=
  match translate s o a with
  | none => (INVALID, s)
  | some (n, off) => if plotWritable s n then (OK, fillDpa s (dpaOf n off) len pattern) else (DEVICE_FAULT, s)

/-- One 32-byte word of a COPY; a poisoned source word makes the destination word poisoned (R229). None where the
destination takes no writes. -/
def copyWord (o : Owner) (dst src : Nat) (s : State) : Option State :=
  match translate s o dst, translate s o src with
  | some (n, off), some (m, k) =>
    if !plotWritable s n then none
    else if wordBad s m k then some (poisonWord (countPoison s o src 32 0) (dpaOf n off))
    else some (writeDpa s (dpaOf n off) ((List.range 32).map fun j => plotByte s m (k + j)))
  | _, _ => none

/-- A COPY, word by word in ascending order (R242): status and state. -/
def copyPlots (o : Owner) : Nat → Nat → Nat → State → Nat × State
  | 0, _, _, s => (OK, s)
  | n + 1, dst, src, s => match copyWord o dst src s with
    | none => (DEVICE_FAULT, s)
    | some s' => copyPlots o n (dst + 32) (src + 32) s'

/-- A FILL of `len` bytes at a DPA by the operator; a whole DIRTY plot filled with zero becomes FREE (R226). -/
def fillDirty (s : State) (dpa len pattern : Nat) : Nat × State :=
  let n := plotNo (bitsOf dpa 39 39) (bitsOf dpa 38 30)
  if dpaPlot s dpa = none ∨ (plotAt s n).state ≠ .dirty then (DEVICE_FAULT, s)
  else
    let s1 := fillDpa s dpa len pattern
    (OK, if len = 2 ^ 30 ∧ pattern = 0 then modPlot s1 n fun _ => { state := .free, owner := 16 } else s1)

/-- The plots that a long operation uses (R243, R362). -/
def opPlots (s : State) (d : OpData) : List Nat :=
  match d with
  | .fill o false a len _ => (slotsOf a len).filterMap fun k => slotPlot s o k
  | .fill _ true a _ _ => [plotNo (bitsOf a 39 39) (bitsOf a 38 30)]
  | .copy o dst src len => ((slotsOf dst len) ++ (slotsOf src len)).filterMap fun k => slotPlot s o k
  | .modelLoad p a n => (slotsOf a n).filterMap fun k => slotPlot s p k
  | _ => []
/-- A long operation uses the plot. -/
def plotBusy (s : State) (n : Nat) : Bool := s.longOps.any fun _ o => (opPlots s o.data).contains n

/-- The first `n` bytes of a FILL or COPY in progress are done, at its end or at its abort (R242, R363). -/
def fillPrefix (s : State) (d : OpData) (n : Nat) : Nat × State :=
  match d with
  | .fill o false a _ p => if n = 0 then (OK, s) else if guarded s o a n then (DENIED, s) else fillPlots s o a n p
  | .fill _ true a _ p => if n = 0 then (OK, s) else fillDirty s a n p
  | .copy o dst src _ => if guarded s o dst n then (DENIED, s) else copyPlots o (n / 32) dst src s
  | _ => (OK, s)

/-- The length of a FILL or COPY. -/
def fillLen (d : OpData) : Nat :=
  match d with
  | .fill _ _ _ len _ => len
  | .copy _ _ _ len => len
  | _ => 0

/-- A FILL or COPY in progress ends: its bytes are written and its COMPLETION carries the bytes done. -/
def endFill (s : State) (op : Nat) : State :=
  match s.longOps.get? op with
  | none => s
  | some o =>
    match fillPrefix s o.data (fillLen o.data) with
    | (st, s') => finishOp s' op st (if st = OK then le 8 (fillLen o.data) else [])

/-- A FILL issued by a device engine (R237, R242). -/
def execFill (tag : BitVec 17) (addr len pattern : B8) (s : State) : Host.Outcome State Fault Refusal :=
  let t := tag.toNat
  .next (if !s.on then s else match tagOwner t with
    | none => violation s addr t 3 len 0xFFF 0xFFFF
    | some o =>
      if !translates s o addr len || guarded s o addr len then violation s addr t 3 len 0xFFF 0xFFFF
      else if fillFits s o addr len then (fillPlots s o addr len pattern).2 else s)

/-- A COPY issued by a device engine (R237, R242). -/
def execCopy (tag : BitVec 17) (dst src len : B8) (s : State) : Host.Outcome State Fault Refusal :=
  let t := tag.toNat
  .next (if !s.on then s else match tagOwner t with
    | none => violation s dst t 3 len 0xFFF 0xFFFF
    | some o =>
      if !translates s o dst len || !translates s o src len || guarded s o dst len then
        violation s (copyMiss s o dst src len) t 3 len 0xFFF 0xFFFF
      else if copyFits s o dst src len then (copyPlots o (len / 32) dst src s).2 else s)

/-- FILL_COMPLETE of a MEM_FILL (R226, R242). -/
def execFillComplete (op : B4) (s : State) : Host.Outcome State Fault Refusal :=
  .next (match (s.longOps.get? op).map LongOp.data with
    | some (.fill _ _ _ _ _) => if s.on then endFill s op else s
    | _ => s)

/-- COPY_COMPLETE of a MEM_COPY (R242). -/
def execCopyComplete (op : B4) (s : State) : Host.Outcome State Fault Refusal :=
  .next (match (s.longOps.get? op).map LongOp.data with
    | some (.copy _ _ _ _) => if s.on then endFill s op else s
    | _ => s)

/-- The operator names a partition's data, which R376 keeps from it. -/
def otherData (w : Who) (b : Nat) : Bool := w.op && decide (ownerOfByte b ≠ none ∧ ownerOfByte b ≠ some 16)

/-- MEM_FILL (R376, R226, R238). -/
def memFill (q : Req) (owner flags addr len pattern : Nat) (w : Who) (s : State) : Answer :=
  let o := ownerOr w owner
  let dpa := bitOf flags 0
  let n := plotNo (bitsOf addr 39 39) (bitsOf addr 38 30)
  refuseOr [(otherData w owner || (dpa && !w.op) || (!dpa && guarded s o addr len), DENIED),
    (q.bodyBad || decide (2 ≤ flags) || ownerBad s w owner ||
      (if dpa then !(wordRange addr len && onePlot addr len) || decide (dpaPlot s addr = none)
       else !fillFits s o addr len), INVALID),
    (if dpa then decide ((plotAt s n).state ≠ .dirty) || plotBusy s n
     else (slotsOf addr len).any fun k => ((slotPlot s o k).map (plotBusy s)).getD false, IN_USE)]
    (.later ACCEPTED s (.fill o dpa addr len pattern))

def execMemFill (q : Req) (owner flags : B1) (addr len pattern : B8) (s : State) : Host.Outcome State Fault Refusal :=
  .next (serve q ⟨0x0404, 32, .opOrTenant, none, []⟩ (memFill q owner flags addr len pattern) s)

/-- MEM_COPY (R376, R238). -/
def memCopy (q : Req) (owner dst src len : Nat) (w : Who) (s : State) : Answer :=
  let o := ownerOr w owner
  refuseOr [(otherData w owner || guarded s o dst len, DENIED),
    (q.bodyBad || ownerBad s w owner || !copyFits s o dst src len, INVALID),
    ((slotsOf dst len ++ slotsOf src len).any fun k => ((slotPlot s o k).map (plotBusy s)).getD false, IN_USE)]
    (.later ACCEPTED s (.copy o dst src len))

def execMemCopy (q : Req) (owner : B1) (dst src len : B8) (s : State) : Host.Outcome State Fault Refusal :=
  .next (serve q ⟨0x0405, 32, .opOrTenant, none, []⟩ (memCopy q owner dst src len) s)

/-! ### Plots (R221 to R226, R370, R376) -/

/-- Plots of a die that may be assigned: a move to a smaller map keeps its upper plots free (R248). -/
def assignLimit (s : State) (die : Nat) : Nat :=
  let shrink := ((s.dram.moves.get? die).map fun m => !m.adding).getD false
  mapLimit s die - (if shrink then plotsPerStack s else 0)
/-- The plot is FREE and may be assigned (R225). -/
def mayAssign (s : State) (n : Nat) : Bool := decide ((plotAt s n).state = .free ∧ n % 512 < assignLimit s (n / 512))
/-- FREE plots of a die that may be assigned, lowest first (R225). -/
def freePlots (s : State) (die : Nat) : List Nat :=
  ((List.range (assignLimit s die)).map fun i => plotNo die i).filter fun n => decide ((plotAt s n).state = .free)

/-- The first slot at which `count` consecutive slots of an owner are free, among `fuel` slots from `k`. -/
def freeRun (s : State) (o : Owner) (count : Nat) : Nat → Nat → Option Nat
  | 0, _ => none
  | fuel + 1, k =>
    if 1024 < k + count then none
    else if (List.range count).all fun j => (slotPlot s o (k + j)).isNone then some k
    else freeRun s o count fuel (k + 1)

/-- The slots an assignment takes (R225, R370). -/
def pickSlots (s : State) (o : Owner) (first count : Nat) : Option Nat :=
  if first = 0xFFFF then freeRun s o count 1024 0 else freeRun s o count 1 first

/-- The DPAs of a list buffer. -/
def dpaList (count : Nat) (bs : Bytes) : List Nat := (chunks 8 count bs).map ofLe
/-- A DPA that does not name a whole plot of its die's map (R370). -/
def dpaBad (s : State) (d : Nat) : Bool :=
  decide (2 ^ 40 ≤ d ∨ d % 2 ^ 30 ≠ 0) || decide (mapLimit s (bitsOf d 39 39) ≤ bitsOf d 38 30)
/-- A DPA whose plot FULL brings into the map and the Quickset map does not hold (R512). -/
def dpaLater (s : State) (d : Nat) : Bool :=
  s.dram.quickset && decide (d < 2 ^ 40 ∧ d % 2 ^ 30 = 0) && decide (mapLimit s (bitsOf d 39 39) ≤ bitsOf d 38 30) &&
    decide (bitsOf d 38 30 < 4 * plotsPerStack s)

/-- The partition's plot quota (R376): the device's assignable plots until set. -/
def plotQuota (s : State) (p : Nat) : Nat := s.dram.quotas.getD p (8 * (plotsPerStack s) - 8)

/-- Plots are bound to consecutive slots of an owner (R225, R370). -/
def bindPlots (s : State) (o : Owner) (first : Nat) (ns : List Nat) : State :=
  (ns.zipIdx first).foldl (fun s c =>
    (modPlot s c.1 fun _ => { state := .assigned, owner := o, slot := some c.2 }).modDram fun d =>
      { d with slots := d.slots.set (1024 * o + c.2) c.1 }) s

/-- PLOT_ASSIGN (R225, R370, R512). -/
def plotAssign (q : Req) (owner mode die count first : Nat) (list : BufRef) (host : HostData) (w : Who) (s : State) :
    Answer :=
  let o := ownerOr w owner
  let r := if mode = 2 then readBuf s w list host else .ok []
  let ds := if mode = 2 then dpaList count (bufBytes r) else []
  let ns := if mode = 2 then ds.map fun d => plotNo (bitsOf d 39 39) (bitsOf d 38 30) else (freePlots s die).take count
  refuseOr [(decide (bufStatus r = DENIED), DENIED),
    (s.dram.quickset && (ds.any (dpaLater s) || decide (mode = 1 ∧ 12 < count)), NOT_READY),
    (q.bodyBad || ownerBad s w owner || decide ((mode ≠ 1 ∧ mode ≠ 2) ∨ count < 1 ∨ 380 < count ∨
        (1023 < first ∧ first ≠ 0xFFFF)) || (decide (mode = 1) && (decide (2 ≤ die) || !refZero list)) ||
      (decide (mode = 2) && (refBad list (8 * count) || ds.any (dpaBad s) || decide (¬ ds.Nodup))), INVALID),
    (!bufOk r, bufStatus r),
    (decide (ns.length < count) || (ns.any fun n => !mayAssign s n) ||
      (pickSlots s o first count).isNone, IN_USE),
    (decide (o ≠ 16 ∧ plotQuota s o < plotsHeld s o + count), NO_RESOURCES)]
    (match pickSlots s o first count with
     | some f => .done (bindPlots s o f ns) (le 2 f ++ zeros 2 ++ le 4 count)
     | none => .refuse IN_USE [])

def execPlotAssign (q : Req) (owner mode die : B1) (count : B4) (firstSlot : B2) (list : BufRef) (host : HostData)
    (s : State) : Host.Outcome State Fault Refusal :=
  .next (serve q ⟨0x0401, 32, .operator, some list, []⟩ (plotAssign q owner mode die count firstSlot list host) s)

/-- The plot-space range that an owner's slot spans overlaps a range. -/
def slotTouches (slot a len : Nat) : Bool := overlap (slot * 2 ^ 30) (2 ^ 30) a len

/-- A slot's plot holds part of something still in use: an image (R99, R188), a table (R428), a session's working range
with its shadow, an output ring in plots, a staging range, a checkpoint range or own slot (R225, R297). -/
def slotInUse (s : State) (o : Owner) (slot : Nat) : Bool :=
  guarded s o (slot * 2 ^ 30) (2 ^ 30) ||
  (s.sessions.any fun _ h => decide (h.part = o) &&
    (match s.models.get? h.params.model with
      | some m => slotTouches slot (m.header.workBase + h.params.workBias) m.header.workSize
      | none => false) ||
    (decide (h.part = o) && !h.params.ringInHost && slotTouches slot h.params.outRing (64 + 32 * 2 ^ h.params.outLog2))) ||
  (s.link.streams.any fun _ d => decide (d.owner = o) && match d.staging with
    | some (b, n) => slotTouches slot b n
    | none => false) ||
  (match s.ckp with
    | some g => (decide (g.part = o) && ((g.ranges.any fun r => slotTouches slot r.1 r.2) ||
        slotTouches slot g.own0 g.shardMax || slotTouches slot g.own1 g.shardMax)) ||
        (decide (o = 16) && match slotPlot s o slot with
          | some n => g.areas.contains n
          | none => false)
    | none => false)

/-- A pending PLOT_QUOTA_SET completes once the partition holds no more plots than its quota (R376). -/
def checkQuotas (s : State) : State :=
  ((s.longOps.keep fun _ o => match o.data with
      | .plotQuota p n => decide (plotsHeld s p ≤ n)
      | _ => false).map Prod.fst).foldl (fun s n => finishOp s n OK []) s

/-- A plot is released (R225): DIRTY, or LOST in the operator domain's hands until its zeroing. -/
def releasePlot (s : State) (o : Owner) (slot : Nat) : State :=
  match slotPlot s o slot with
  | none => s
  | some n =>
    (modPlot s n fun p =>
      if p.state = .lost then { p with owner := 16, slot := none, released := true }
      else { state := .dirty, owner := 16 }).modDram fun d => { d with slots := d.slots.erase (1024 * o + slot) }

/-- PLOT_RELEASE (R225, R366, R376). -/
def plotRelease (q : Req) (owner slot count : Nat) (w : Who) (s : State) : Answer :=
  let o := ownerOr w owner
  let ks := (List.range count).map fun j => slot + j
  refuseOr [(q.bodyBad || ownerBad s w owner || decide (count < 1 ∨ 380 < count ∨ 1024 < slot + count) ||
      (ks.any fun k => (slotPlot s o k).isNone), INVALID),
    ((decide (w.inst ≠ 0xFFFF) && s.boot.opAbsent) || (ks.any fun k => slotInUse s o k ||
      ((slotPlot s o k).map (plotBusy s)).getD false), IN_USE)]
    (.ok (checkQuotas (ks.foldl (fun s k => releasePlot s o k) s)))

def execPlotRelease (q : Req) (owner : B1) (slot count : B2) (s : State) : Host.Outcome State Fault Refusal :=
  .next (serve q ⟨0x0402, 8, .opOrTenant, none, []⟩ (plotRelease q owner slot count) s)

/-- The byte that PLOT_QUERY gives for a slot (R376). -/
def slotByte (s : State) (o : Owner) (slot : Nat) : Byte :=
  match slotPlot s o slot with
  | none => 0
  | some n => BitVec.ofNat 8 (1 + 2 * (n / 512) + if (plotAt s n).state = .lost then 4 else 0)

/-- PLOT_QUERY (R225, R376). -/
def plotQuery (q : Req) (owner first count : Nat) (out : BufRef) (w : Who) (s : State) : Answer :=
  let o := ownerOr w owner
  let bs := (List.range count).map fun j => slotByte s o (first + j)
  refuseOr [(q.bodyBad || ownerBad s w owner || decide (count < 1 ∨ 1024 < first + count) || refBad out count, INVALID)]
    (doneWithBuf s w out bs (le 4 (bs.filter fun b => b ≠ 0).length ++ zeros 4))

def execPlotQuery (q : Req) (owner : B1) (firstSlot count : B2) (out : BufRef) (s : State) :
    Host.Outcome State Fault Refusal :=
  .next (serve q ⟨0x0403, 24, .opOrTenant, none, []⟩ (plotQuery q owner firstSlot count out) s)

/-- CLEAR changes: what the plot held reads back as unrelated values (R243, R245). -/
def setClear (s : State) (n : Nat) (c : Bool) : State :=
  if (plotAt s n).clear = c then s
  else modPlot { s with free := s.free + 1 } n fun p => { p with clear := c, garbled := some s.free, fresh := [] }

/-- PLOT_CLEAR_SET (R243, R376). -/
def plotClearSet (q : Req) (slot clear : Nat) (_ : Who) (s : State) : Answer :=
  match slotPlot s 16 slot with
  | none => .refuse INVALID []
  | some n =>
    refuseOr [(q.bodyBad || decide (2 ≤ clear), INVALID),
      (decide ((plotAt s n).state ≠ .assigned) || plotBusy s n ||
        ((s.ckp.map fun g => g.areas.contains n).getD false), IN_USE)]
      (.ok (setClear s n (decide (clear = 1))))

def execPlotClearSet (q : Req) (slot : B2) (clear : B1) (s : State) : Host.Outcome State Fault Refusal :=
  .next (serve q ⟨0x040B, 8, .operator, none, []⟩ (plotClearSet q slot clear) s)

/-- PLOT_QUOTA_SET (R376): it completes once the partition holds no more plots than the quota. -/
def plotQuotaSet (q : Req) (p quota : Nat) (_ : Who) (s : State) : Answer :=
  let s1 := s.modDram fun d => { d with quotas := d.quotas.set p quota }
  refuseOr [(q.bodyBad || decide (16 ≤ p ∨ 760 < quota) || !partExists s p, INVALID),
    ((opWith s fun d => match d with | .plotQuota r _ => decide (r = p) | _ => false).isSome, IN_USE)]
    (if plotsHeld s p ≤ quota then .ended s1 OK [] else .later ACCEPTED s1 (.plotQuota p quota))

def execPlotQuotaSet (q : Req) (part : B1) (quota : B4) (s : State) : Host.Outcome State Fault Refusal :=
  .next (serve q ⟨0x040C, 8, .operator, none, []⟩ (plotQuotaSet q part quota) s)

/-! ### Counts and the error log (R231, R232, R376) -/

/-- The 32 bytes of an error-log record (R232). -/
def MemRecord.bytes (r : MemRecord) (stack : Nat) : Bytes :=
  le 8 r.time ++ le 8 r.dpa ++ le 1 stack ++ le 1 r.layer ++ le 1 r.quad ++ le 1 r.slice ++ le 1 r.kind ++ le 1 r.foundBy ++
    le 1 r.owner ++ zeros 1 ++ le 4 r.passCount ++ le 1 1 ++ zeros 3

/-- A record joins a stack's error log, a ring of 256 (R232). -/
def Stack.logged (t : Stack) (r : MemRecord) : Stack :=
  if t.log.length < 256 then { t with log := t.log ++ [r] }
  else { t with log := t.log.drop 1 ++ [r], overwrites := sat32 t.overwrites 1 }

/-- Die of a stack. -/
def stackDie (k : Nat) : Nat := k / 4

/-- STACK_EVENT (R562) with its telemetry record. -/
def stackEvent (s : State) (k kind : Nat) : State :=
  operatorReport s 0x04F0 0x12 (stackDie k) k k (if kind = 9 then DEVICE_FAULT else 0)
    (kind + 256 * stackDie k + 65536 * (mapOf s (stackDie k)).length)

/-- MEM_COUNTS_READ's body (R376). -/
def countsBody (t : Stack) : Bytes :=
  le 4 t.corrected ++ le 4 t.uncorrectable ++ le 4 t.poisonRead ++ le 4 t.poisonedWrite ++ le 4 t.repair ++
    le 4 t.passCorrected ++ le 4 t.overwrites ++ le 4 t.passes

/-- MEM_COUNTS_READ (R231, R376). -/
def memCountsRead (q : Req) (k flags : Nat) (_ : Who) (s : State) : Answer :=
  refuseOr [(q.bodyBad || decide (8 ≤ k ∨ 2 ≤ flags), INVALID)]
    (.done (if flags = 1 then s.modStack k fun t =>
        { t with corrected := 0, uncorrectable := 0, poisonRead := 0, poisonedWrite := 0, repair := 0 } else s)
      (countsBody (s.stack k)))

def execMemCountsRead (q : Req) (stack flags : B1) (s : State) : Host.Outcome State Fault Refusal :=
  .next (serve q ⟨0x0408, 8, .operator, none, []⟩ (memCountsRead q stack flags) s)

/-- MEM_ERROR_LOG_READ (R376): records FIRST up, oldest first, and zeros past the last. -/
def memErrorLogRead (q : Req) (k count first : Nat) (out : BufRef) (w : Who) (s : State) : Answer :=
  let l := (s.stack k).log
  refuseOr [(q.bodyBad || decide (8 ≤ k ∨ count < 1 ∨ 256 < count) || refBad out (32 * count), INVALID)]
    (doneWithBuf s w out (padTo (32 * count) (((l.drop first).take count).flatMap fun r => r.bytes k))
      (le 4 l.length ++ le 4 (s.stack k).overwrites))

def execMemErrorLogRead (q : Req) (stack : B1) (count : B2) (first : B4) (out : BufRef) (s : State) :
    Host.Outcome State Fault Refusal :=
  .next (serve q ⟨0x0409, 24, .operator, none, []⟩ (memErrorLogRead q stack count first out) s)

/-- SCRUB_SET (R230, R376): from the next pass. -/
def scrubSet (q : Req) (k hours : Nat) (_ : Who) (s : State) : Answer :=
  refuseOr [(q.bodyBad || decide ((8 ≤ k ∧ k ≠ 0xFF) ∨ hours < 1 ∨ 168 < hours), INVALID)]
    (.ok ((if k = 0xFF then List.range 8 else [k]).foldl (fun s j =>
      s.modStack j fun t => { t with nextHours := hours }) s))

def execScrubSet (q : Req) (stack : B1) (hours : B4) (s : State) : Host.Outcome State Fault Refusal :=
  .next (serve q ⟨0x040A, 8, .operator, none, []⟩ (scrubSet q stack hours) s)

/-! ### The patrol scrub and repair (R227 to R235) -/

/-- Granules of a stack (R217, R219). -/
def granules (s : State) : Nat := 4 * plotsPerStack s * 2 ^ 20
/-- Position of a stack in its die's map. -/
def mapIndex (s : State) (k : Nat) : Option Nat := (mapOf s (stackDie k)).findIdx? fun j => decide (j = k)

/-- The DPA of a stack's granule (R220, inverted), where the map places it. -/
def granuleDpa (s : State) (k g : Nat) : Option Nat :=
  (mapIndex s k).bind fun i =>
    let r := g / 2 ^ 20 * (mapOf s (stackDie k)).length + i
    let j := g % 2 ^ 20
    let o98 := (r % 4 + 8 - (j / 2 ^ 6) % 4 - (j / 2 ^ 14) % 4) % 4
    if r / 4 < mapLimit s (stackDie k) then some (dpaOf (plotNo (stackDie k) (r / 4)) (j * 1024 + o98 * 256)) else none

/-- OWNER of an error-log record (R232). -/
def recordOwner (s : State) (dpa : Nat) : Nat :=
  let p := plotAt s (plotNo (bitsOf dpa 39 39) (bitsOf dpa 38 30))
  if p.state = .assigned ∨ p.state = .lost then ownerByte p.owner else 0xFF

/-- A word's error as the scrub or an access finds it. -/
structure WordError where
  /-- stack. -/
  stack : Nat
  /-- granule of the stack. -/
  granule : Nat
  /-- word of the granule, 0 to 7. -/
  word : Nat
  /-- slice within the quad, 0 to 71. -/
  slice : Nat
  /-- 0 access, 1 scrub. -/
  foundBy : Nat
  /-- DPA of the word's first byte. -/
  dpa : Nat
  deriving DecidableEq, Repr

/-- The error's quad (R217). -/
def WordError.quad (e : WordError) : Nat := e.granule % 8
/-- The error's slice, numbered over the stack. -/
def WordError.sl (e : WordError) : Nat := 72 * e.quad + e.slice
/-- The error's DRAM die. -/
def WordError.layer (e : WordError) : Nat := Config.dramLayer e.quad (e.slice / 18) % 16
/-- The error's row. -/
def WordError.row (e : WordError) : Nat := Config.dramRow e.granule
/-- The error's bank. -/
def WordError.bank (e : WordError) : Nat := Config.dramBank e.granule % 64

/-- A record of the error. -/
def WordError.record (e : WordError) (s : State) (kind dpa : Nat) : MemRecord :=
  { time := s.lc, dpa := dpa, layer := e.layer, quad := e.quad, slice := e.slice, kind := kind, foundBy := e.foundBy,
    owner := recordOwner s e.dpa, passCount := (s.stack e.stack).sliceCorrected.getD e.sl 0 }

/-- The slice is retired, or the stack is at risk where its quad already has a retired slice (R228, R233). -/
def retireSlice (s : State) (e : WordError) : State :=
  let t := s.stack e.stack
  if (t.retired.get? e.quad).isNone then
    s.modStack e.stack fun t => ({ t with retired := t.retired.set e.quad e.slice, repair := sat32 t.repair 1 }).logged
      (e.record s 6 e.dpa)
  else
    stackEvent (s.modStack e.stack fun t => (t.logged (e.record s 7 e.dpa)).logged (e.record s 8 e.dpa)) e.stack 8

/-- The row's first byte. -/
def rowDpa (s : State) (e : WordError) : Nat := (granuleDpa s e.stack (Config.dramRowFirst e.row)).getD 0

/-- The row is moved to a spare row of its bank; with none left its slice is retired (R233). -/
def moveRow (s : State) (e : WordError) : State :=
  let k := 64 * e.layer + e.bank
  let t := s.stack e.stack
  if t.moving.contains (e.row, false) then s
  else if t.rowsUsed.getD k 0 < 16 then
    s.modStack e.stack fun t =>
      ({ t with rowsUsed := t.rowsUsed.set k (t.rowsUsed.getD k 0 + 1), moving := t.moving ++ [(e.row, false)],
                rowErrors := t.rowErrors.erase e.row, repair := sat32 t.repair 1 }).logged (e.record s 3 (rowDpa s e))
  else retireSlice s e

/-- The column is moved to a spare column of its slice; with none left the slice is retired (R233). -/
def moveColumn (s : State) (e : WordError) : State :=
  let k := 64 * e.sl + e.bank
  let c := Config.dramColumn e.granule e.word
  let t := s.stack e.stack
  if t.moving.contains (c, true) then s
  else if t.columnsUsed.getD k 0 < 4 then
    s.modStack e.stack fun t =>
      ({ t with columnsUsed := t.columnsUsed.set k (t.columnsUsed.getD k 0 + 1), moving := t.moving ++ [(c, true)],
                seen := t.seen.filter fun x => !(decide (x.1 = e.sl) && decide (x.2.2 = c)),
                repair := sat32 t.repair 1 }).logged (e.record s 4 (rowDpa s e))
  else retireSlice s e

/-- Rows on which a slice gave corrected errors in this pass. -/
def rowsSeen (t : Stack) (sl : Nat) : Nat := (((t.seen.filter fun x => x.1 = sl).map fun x => x.2.1).eraseDups).length
/-- Rows on which a slice gave corrected errors in one column in this pass. -/
def columnSeen (t : Stack) (sl c : Nat) : Nat :=
  (((t.seen.filter fun x => x.1 = sl ∧ x.2.2 = c).map fun x => x.2.1).eraseDups).length

/-- A corrected error: counted, logged once a row and pass, and the first repair of R233 that applies. -/
def corrected (s : State) (e : WordError) : State :=
  let t0 := s.stack e.stack
  let newRow := t0.seen.all fun x => decide (x.2.1 ≠ e.row)
  let twoPasses := match t0.rowErrors.get? e.row with
    | some p => decide (p ≠ t0.passes + 1)
    | none => false
  let s1 := s.modStack e.stack fun t =>
    { t with corrected := sat32 t.corrected 1, passCorrected := t.passCorrected + 1,
             sliceCorrected := t.sliceCorrected.set e.sl (t.sliceCorrected.getD e.sl 0 + 1),
             seen := if t.seen.contains (e.sl, e.row, Config.dramColumn e.granule e.word) then t.seen
               else (e.sl, e.row, Config.dramColumn e.granule e.word) :: t.seen,
             rowErrors := t.rowErrors.set e.row (t.passes + 1) }
  let s2 := if newRow then s1.modStack e.stack fun t => t.logged (e.record s1 1 e.dpa) else s1
  let s3 := logError s2 (uStack e.stack) 1 (Config.errorCode (uStack e.stack) 1 0) (recordOwner s e.dpa) 0 e.dpa
  if twoPasses then moveRow s3 e
  else if 4 ≤ columnSeen (s3.stack e.stack) e.sl (Config.dramColumn e.granule e.word) then moveColumn s3 e
  else if 16 ≤ rowsSeen (s3.stack e.stack) e.sl then retireSlice s3 e
  else s3

/-- An uncorrectable word is poisoned, and its row is moved (R229, R233). -/
def uncorrectable (s : State) (e : WordError) : State :=
  let s1 := (poisonWord s e.dpa).modStack e.stack fun t =>
    ({ t with uncorrectable := sat32 t.uncorrectable 1, quadBad := t.quadBad.set e.quad (t.quadBad.getD e.quad 0 + 1) }).logged
      (e.record s 2 e.dpa)
  moveRow (logError s1 (uStack e.stack) 2 (Config.errorCode (uStack e.stack) 2 0) (recordOwner s e.dpa) 0 e.dpa) e

/-- One word read (R227 to R229): one bad symbol is corrected, or none beside a retired one; more are uncorrectable. A
word that is poisoned already stays so. -/
def readWord (s : State) (e : WordError) (bad : Nat) : State :=
  if bad = 0 ∨ s.dram.poison.contains (e.dpa / 32) then s
  else if bad = 1 ∧ ((s.stack e.stack).retired.get? e.quad).isNone then corrected s e
  else uncorrectable s e

/-- The patrol scrub goes to the next granule; a pass ends after the last (R230, R231). -/
def scrubNext (s : State) (k : Nat) : State :=
  s.modStack k fun t =>
    if t.granule + 1 < granules s then { t with granule := t.granule + 1 }
    else { t with granule := 0, passes := t.passes + 1, passCorrected := 0, sliceCorrected := [], seen := [], quadBad := [],
                  hours := t.nextHours }

/-- REPAIR_MOVE_COMPLETE (R234). -/
def execRepairMoveComplete (stack : Fin 8) (row : B4) (column : Bool) (s : State) : Host.Outcome State Fault Refusal :=
  .next (s.modStack stack.val fun t => { t with moving := t.moving.filter fun m => decide (m ≠ (row, column)) })

/-- REFRESH_BURST (R235): a quad is occupied for up to 350 ns. -/
def execRefreshBurst (stack : Fin 8) (quad : Fin 8) (ns : B2) (s : State) : Host.Outcome State Fault Refusal :=
  .next (if !s.on || !unitIn s (uStack stack.val) then s
    else s.modStack stack.val fun t => { t with refresh := t.refresh.set quad.val (s.lc + min ns 350) })

/-! ### Losing, removing and returning a stack (R246 to R249) -/

/-- PLOT_LOST to a plot's owner (R247): 1 LOST, 2 ASSIGNED again, 3 WITHDRAWN. A released plot has no one to tell. -/
def plotLost (s : State) (n what : Nat) : State :=
  let p := plotAt s n
  if p.released then s
  else sendEvent s (.only p.owner) 0x04F1 (p.slot.getD 0) DEVICE_FAULT (what + 256 * (n / 512))

/-- The listed plots of a die. -/
def plotsOf (s : State) (die : Nat) : List Nat :=
  (s.dram.plots.keep fun n _ => decide (n / 512 = die)).map Prod.fst

/-- The die's plot map becomes `m`. -/
def setMap (s : State) (die : Nat) (m : List Nat) : State :=
  s.modDram fun d => if die = 0 then { d with map0 := m } else { d with map1 := m }

/-- Every non-reserved ASSIGNED plot of the die becomes LOST, and its owner is told (R246, R247). -/
def losePlots (s : State) (die : Nat) : State :=
  (plotsOf s die).foldl (fun s n =>
    if 4 ≤ n % 512 ∧ (plotAt s n).state = .assigned then plotLost (modPlot s n fun p => { p with state := .lost }) n 1
    else s) s

/-- DIRTY and FREE plots beyond the die's limit leave the map (R247). -/
def dropBeyond (s : State) (die : Nat) : State :=
  s.modDram fun d => { d with plots := d.plots.keep fun n p =>
    !(decide (n / 512 = die ∧ mapLimit s die ≤ n % 512) && decide (p.state = .dirty ∨ p.state = .free)) }

/-- The long operations that use the die's plots, or move them, end with DEVICE_FAULT (R246, R35). -/
def faultOps (s : State) (die : Nat) : State :=
  finishOps s DEVICE_FAULT fun o => (opPlots s o.data).any (fun n => decide (n / 512 = die)) || match o.data with
    | .stackRemove k => decide (stackDie k = die)
    | .stackRestore k => decide (stackDie k = die)
    | _ => false

/-- The bring-up stops: FAILED with its cause (R514). -/
def bringUpFailed (s : State) (cause : Nat) : State :=
  readyChanged { s with boot := { s.boot with failed := true, cause := cause } }

/-- The die acts on the loss of a stack of its map (R246). -/
def remap (s : State) (k : Nat) : State :=
  let die := stackDie k
  let m := (mapOf s die).filter fun j => decide (j ≠ k)
  let s1 := faultOps s die
  let s2 := setMap (s1.modDram fun d => { d with moves := d.moves.erase die }) die m
  if m.isEmpty then (if s.full then s2 else bringUpFailed s2 (uStack k))
  else
    (dropBeyond (losePlots s2 die) die).modDram fun d =>
      { d with rebuilding := if d.rebuilding.contains die then d.rebuilding else die :: d.rebuilding }

/-- A stack fails (R233, R246). -/
def stackFailed (s : State) (k : Nat) : State :=
  if (s.stack k).failed || (s.units.get? (uStack k)).isNone then s
  else
    let r : MemRecord := { time := s.lc, dpa := 0, layer := 0xFF, quad := 0, slice := 0xFF, kind := 9, foundBy := 0,
                           owner := 0xFF, passCount := 0 }
    let s1 := s.modStack k fun t => ({ t with failed := true }).logged r
    let s2 := logFault (modUnit s1 (uStack k) fun u => { u with state := .failed }) (uStack k) 3 DEVICE_FAULT
    let s3 := logError s2 (uStack k) 4 (Config.errorCode (uStack k) 4 0) 0xFF DEVICE_FAULT 0
    let s4 := if (mapOf s (stackDie k)).contains k then remap s3 k else s3
    unitFault (stackEvent s4 k 9) (uStack k) (stackDie k) DEVICE_FAULT 3

/-- STACK_FAILED (R233, R246). -/
def execStackFailed (stack : Fin 8) (s : State) : Host.Outcome State Fault Refusal :=
  .next (if s.on then stackFailed s stack.val else s)

/-- STACK_SCRUB_READ (R230 to R233): a quad's 64th uncorrectable word in the pass fails the stack. -/
def execStackScrubRead (stack : Fin 8) (access : Option B4) (bad : List (Nat × Nat)) (s : State) :
    Host.Outcome State Fault Refusal :=
  let k := stack.val
  .next (if !s.on || !unitIn s (uStack k) then s else
    let g := access.getD (s.stack k).granule
    let s1 := match granuleDpa s k g with
      | some dpa => ((bad.take 8).zipIdx).foldl (fun s c =>
          readWord s { stack := k, granule := g, word := c.2, slice := c.1.2 % 72, foundBy := b2n access.isNone,
                       dpa := dpa + 32 * c.2 } c.1.1) s
      | none => s
    let s2 := if (s1.stack k).quadBad.any fun _ n => decide (64 ≤ n) then stackFailed s1 k else s1
    if access.isNone then scrubNext s2 k else s2)

/-- RESERVED_REBUILD_COMPLETE (R246, R247): the LOST plots beyond the limit are withdrawn. -/
def execReservedRebuildComplete (die : Fin 2) (s : State) : Host.Outcome State Fault Refusal :=
  let d := die.val
  .next (if !s.on || !s.dram.rebuilding.contains d then s else
    let gone := (plotsOf s d).filter fun n => decide ((plotAt s n).state = .lost ∧ mapLimit s d ≤ n % 512)
    let s1 := gone.foldl (fun s n =>
      (plotLost s n 3).modDram fun m =>
        { m with plots := m.plots.erase n, slots := m.slots.keep fun _ j => decide (j ≠ n) }) s
    checkQuotas (s1.modDram fun m => { m with rebuilding := m.rebuilding.filter fun j => decide (j ≠ d) }))

/-- The lowest-numbered LOST plot of the die (R247). -/
def nextLost (s : State) (die : Nat) : Option Nat := (plotsOf s die).find? fun n => decide ((plotAt s n).state = .lost)

/-- PLOT_ZEROING_COMPLETE (R225, R247). -/
def execPlotZeroingComplete (die : Fin 2) (s : State) : Host.Outcome State Fault Refusal :=
  let d := die.val
  .next (if !s.on || s.dram.rebuilding.contains d then s else match nextLost s d with
    | none => s
    | some n =>
      let s1 := fillDpa s (dpaOf n 0) (2 ^ 30) 0
      if (plotAt s n).released then modPlot s1 n fun _ => { state := .dirty, owner := 16 }
      else plotLost (modPlot s1 n fun p => { p with state := .assigned }) n 2)

/-- The RATE of a move (R376). -/
def moveRate (rate : Nat) : Nat := if rate = 0 then 1000 else rate
/-- A RATE outside R376. -/
def rateBad (rate : Nat) : Bool := decide (rate ≠ 0 ∧ (rate < 500 ∨ 2500 < rate))

/-- Plots of a die at or above a limit are all FREE. -/
def freeAbove (s : State) (die limit : Nat) : Bool :=
  (plotsOf s die).all fun n => decide (n % 512 < limit) || decide ((plotAt s n).state = .free)

/-- STACK_REMOVE (R248, R376, R504). -/
def stackRemove (q : Req) (k rate : Nat) (_ : Who) (s : State) : Answer :=
  let die := stackDie k
  let n := (mapOf s die).length
  refuseOr [(!s.full, NOT_READY), (q.bodyBad || decide (8 ≤ k) || rateBad rate, INVALID),
    (!(mapOf s die).contains k || decide (n < 2) || !freeAbove s die (plotsPerStack s * (n - 1)) ||
      (s.dram.moves.get? die).isSome, IN_USE),
    (emergency s, DEFERRED_EMERGENCY)]
    (.later ACCEPTED (s.modDram fun d => { d with moves := d.moves.set die { stack := k, adding := false, rate := moveRate rate } })
      (.stackRemove k))

def execStackRemove (q : Req) (stack : B1) (rate : B4) (s : State) : Host.Outcome State Fault Refusal :=
  .next (serve q ⟨0x0406, 8, .operator, none, []⟩ (stackRemove q stack rate) s)

/-- The stack is free to return: nothing drains or tests it (R535, R536). -/
def stackIdle (s : State) (k : Nat) : Bool :=
  let u := (s.units.getD (uStack k) {}).state
  decide (u = .out ∨ u = .inService)
/-- STACK_RESTORE (R249, R376, R504): of a stack that is not in its die's map; one in the fault log stays out (R538). -/
def stackRestore (q : Req) (k rate : Nat) (_ : Who) (s : State) : Answer :=
  let die := stackDie k
  refuseOr [(!s.full, NOT_READY), (q.bodyBad || decide (8 ≤ k) || rateBad rate, INVALID),
    ((mapOf s die).contains k || !stackIdle s k || (s.dram.moves.get? die).isSome, IN_USE),
    (emergency s, DEFERRED_EMERGENCY), ((s.stack k).failed || heldOut s (uStack k), DEVICE_FAULT)]
    (.later ACCEPTED (s.modDram fun d => { d with moves := d.moves.set die { stack := k, adding := true, rate := moveRate rate } })
      (.stackRestore k))

def execStackRestore (q : Req) (stack : B1) (rate : B4) (s : State) : Host.Outcome State Fault Refusal :=
  .next (serve q ⟨0x0407, 8, .operator, none, []⟩ (stackRestore q stack rate) s)

/-- Plots that enter a die's map are zeroed (R249). -/
def zeroFrom (s : State) (die limit : Nat) : State :=
  s.modDram fun d =>
    { d with bytes := d.bytes.filter fun c => !decide (c.1 / 2 ^ 39 = die ∧ limit ≤ c.1 % 2 ^ 39 / 2 ^ 30),
             poison := d.poison.filter fun w => !decide (32 * w / 2 ^ 39 = die ∧ limit ≤ 32 * w % 2 ^ 39 / 2 ^ 30) }

/-- A stack and its inline pipe leave or return to service. -/
def stackUnits (s : State) (k : Nat) (x : UnitState) : State :=
  modUnit (modUnit s (uStack k) fun u => { u with state := x }) (uPipe k) fun u => { u with state := x }
/-- STACK_MOVE_COMPLETE (R248, R249): the map changes and the request completes; a removed stack's drain ends at once. -/
def execStackMoveComplete (die : Fin 2) (s : State) : Host.Outcome State Fault Refusal :=
  let d := die.val
  .next (if !s.on then s else match s.dram.moves.get? d with
    | none => s
    | some m =>
      let s1 := s.modDram fun r => { r with moves := r.moves.erase d }
      let old := mapOf s d
      let s2 := if m.adding then
          zeroFrom (setMap (stackUnits s1 m.stack .inService)
            d ((List.range 8).filter fun j => old.contains j || decide (j = m.stack))) d (mapLimit s d)
        else dropBeyond (setMap (stackUnits s1 m.stack .out) d (old.filter fun j => decide (j ≠ m.stack))) d
      match opWith s2 (fun o => match o with
          | .stackRemove k => decide (k = m.stack)
          | .stackRestore k => decide (k = m.stack)
          | _ => false) with
      | some n => finishOp s2 n OK []
      | none => s2)

end Sys2Proof.Machine
end

