-- ==== Sys2Proof/Machine/HostDma.lean ====
section
/-! DEFINITION. Host DMA reads: splitting, tags, waiting and delivery (10 R329 to R333). -/

namespace Sys2Proof.Machine

/-- Max_Payload_Size and Max_Read_Request_Size in bytes (R329). -/
def sizeOf128 (k : Nat) : Nat := 128 * 2 ^ k

/-- A read split into requests that cross no boundary of `m` bytes: (address, bytes, offset) (R329). -/
def splitReads (m addr len off : Nat) : List (Nat × Nat × Nat) :=
  if len = 0 ∨ m = 0 then []
  else (List.range ((addr % m + len - 1) / m + 1)).map fun k =>
    let lo := max addr ((addr / m + k) * m)
    let hi := min (addr + len) ((addr / m + k + 1) * m)
    (lo, hi - lo, off + (lo - addr))

/-- Non-posted requests the port may have outstanding (R329). -/
def readLimit (h : HostPort) : Nat := if h.flit then 8192 else if h.tag10 then 768 else 256
/-- Request tags there are: 14, 10 or 8 bits (PRESUMED: PCIe). -/
def tagSpace (h : HostPort) : Nat := if h.flit then 16384 else if h.tag10 then 1024 else 256
/-- The first request tag from `k` up, wrapping, among `fuel`, that is neither outstanding nor quarantined. -/
def freeReadTag (t : Tbl HostRead) (n : Nat) : Nat → Nat → Option Nat
  | 0, _ => none
  | fuel + 1, k => if (t.get? (k % n)).isSome then freeReadTag t n fuel (k + 1) else some (k % n)
/-- Requests outstanding; a quarantined tag's request is not. -/
def readsOut (h : HostPort) : Nat := h.reads.count fun _ r => !r.quarantined

/-- One request is issued where a tag is free and the limit leaves room (R329); the tag is an open choice. -/
def issueRead (s : State) (p : Nat) (w : WaitRead) : Option State :=
  let h := s.port p
  if readLimit h ≤ readsOut h then none
  else (freeReadTag h.reads (tagSpace h) (tagSpace h) (Config.choice s.free)).map fun t =>
    ((({ s with free := s.free + 1 }).modPort p fun h =>
      { h with
        reads := h.reads.set t
          { issued := s.lc, missing := w.length, op := some w.op, inst := w.inst, quarantined := false, length := w.length,
            offset := w.offset } }).emit (.hostRead p t w.inst w.addr w.length))

/-- The waiting requests are issued in order while tags last; what is left waits. -/
def issueAll (p : Nat) : List WaitRead → State → List WaitRead × State
  | [], s => ([], s)
  | w :: l, s => match issueRead s p w with
    | none => (w :: l, s)
    | some s' => issueAll p l s'

/-- The port's waiting requests are issued as far as R329 lets them; none goes to a host whose driver is gone (R345). -/
def pumpReads (s : State) (p : Nat) : State :=
  if !(s.port p).driverPresent then s
  else match issueAll p (s.port p).readWait s with
    | (l, s') => s'.modPort p fun h => { h with readWait := l }

/-- An operation's host data is requested, piece by piece (R329). -/
def requestReads (s : State) (p op inst : Nat) (buffers : List (Nat × Nat)) : State :=
  let m := sizeOf128 (s.port p).mrrs
  let pieces := (buffers.foldl (fun (acc : Nat × List (Nat × Nat × Nat)) b =>
    (acc.1 + b.2, acc.2 ++ splitReads m b.1 b.2 acc.1)) (0, [])).2
  pumpReads (s.modPort p fun h =>
    { h with readWait := h.readWait ++ pieces.map fun x =>
        { op := op, inst := inst, addr := x.1, length := x.2.1, offset := x.2.2 } }) p

/-- The reads of an operation that has ended serve nobody; those not issued go (R331, R332). -/
def dropReads (s : State) (op : Nat) : State :=
  { s with ports := s.ports.mapV fun _ h =>
      { h with reads := h.reads.mapV fun _ r => if r.op = some op then { r with op := none } else r,
               readWait := h.readWait.filter fun w => decide (w.op ≠ op) } }

/-- The reads of an instance belong to an old generation: their data is discarded (R338, R339). -/
def staleReads (s : State) (inst : Nat) : State :=
  { s with ports := s.ports.mapV fun _ h =>
      { h with reads := h.reads.mapV fun _ r => if r.inst = inst then { r with op := none, stale := true } else r,
               readWait := h.readWait.filter fun w => decide (w.inst ≠ inst) } }

/-- Completion timeout of a port, in ns (R332). -/
def readTimeout (h : HostPort) : Nat :=
  match h.ctoValue with
  | 1 => 90000
  | 2 => 9000000
  | 5 => 50000000
  | 6 => 200000000
  | 9 => 800000000
  | 10 => 3000000000
  | 13 => 12000000000
  | 14 => 60000000000
  | _ => 40000000

end Sys2Proof.Machine
end

