-- ==== Sys2Proof/Machine/Storage.lean ====
section
/-! DEFINITION. The storage face's shared operations: namespaces and their media, completions, power states, and how a
storage command starts and ends (12 R396 to R414). -/

namespace Sys2Proof.Machine

/-! ### Results (R267, R406, R408) -/

/-- How a storage command ends. -/
inductive IoResult
  | ok | range | hostError | hostTimeout | hostPoison | poisoned | source | write | notReady | aborted | fault | invalid
  deriving DecidableEq, Repr

/-- The NVMe status: type in [10:8], code in [7:0] (R406). -/
def IoResult.nvme : IoResult → Nat
  | .ok => 0 | .range => 0x080 | .hostError => 0x004 | .hostTimeout => 0x004 | .hostPoison => 0x004 | .poisoned => 0x281 | .source => 0x281
  | .write => 0x280 | .notReady => 0x082 | .aborted => 0x007 | .fault => 0x006 | .invalid => 0x002
/-- The bulk STATUS (R267, R408). -/
def IoResult.bulk : IoResult → Nat
  | .ok => 0 | .range => 8 | .hostError => 0x0C | .hostTimeout => 6 | .hostPoison => 5 | .poisoned => 5 | .source => 0x0C | .write => 0x0C
  | .notReady => 7 | .aborted => 1 | .fault => 4 | .invalid => 8

/-! ### Namespaces (R403 to R405) -/

/-- The pipeline of a namespace (12 table). -/
def Namespace.pipe (n : Namespace) : Nat := if n.backing = 1 then n.port else if n.backing = 2 then 4 else 5
/-- The medium of a namespace that is not in stacked memory. -/
def Namespace.medium (n : Namespace) : Medium := if n.backing = 1 then .root n.port else .fabric n.target

/-- The backing serves now: the pipeline in service, its root port's link or its target up, no LOST plot (R397, R406). -/
def backingUp (s : State) (n : Namespace) : Bool :=
  unitIn s (uStor n.pipe) &&
    (if n.backing = 1 then (s.pipe n.port).link
     else if n.backing = 2 then ((s.stor.targets.get? n.target).map FabricTarget.up).getD false
     else (slotsOf n.base (512 * n.size)).all fun k => match slotPlot s n.owner k with
       | some p => decide ((plotAt s p).state ≠ .lost)
       | none => true)

/-- Data unit by data unit, the blocks of a namespace encrypted or decrypted from a first LBA (R404). -/
def xtsBlocks (f : Bytes → Nat → Bytes → Bytes) (key : Bytes) : Nat → Nat → Bytes → Bytes
  | 0, _, _ => []
  | n + 1, lba, bs => padTo 512 (f key lba (bs.take 512)) ++ xtsBlocks f key n (lba + 1) (bs.drop 512)

/-- What the key slot of a namespace gives a command (R404, R482): none needed, a key, or why not. -/
inductive NsKey
  | plain
  | key (k : Bytes)
  | violation
  | invalid
  deriving DecidableEq, Repr

/-- The key check of a namespace for a direction: 0 encrypt, 1 decrypt. -/
def nsKey (s : State) (n : Namespace) (dir : Nat) : NsKey :=
  if n.backing = 3 ∨ !n.encrypt then .plain
  else match keyCheck s n.owner n.keySlot 0 2 dir with
    | .ok k => .key k.key
    | .violation => .violation
    | .invalid => .invalid

/-- Owner of an instance. -/
def instOwner (s : State) (i : Nat) : Owner := ((s.insts.get? i).map Instance.part).getD 16

/-- A command names an NSID its controller does not have (R405): counted when the namespace is another partition's. -/
def nsViolation (s : State) (inst nsid : Nat) : State :=
  match s.stor.spaces.get? nsid with
  | some n => if n.owner ≠ instOwner s inst then
      refViolation s (mkTag (instOwner s inst) inst) 7 nsid (if n.backing = 1 then 0x4C0 + n.port else 0xFFF) 0xFFFF
    else s
  | none => s

/-- The namespace attached to an instance's controller. -/
def attachedNs (s : State) (inst nsid : Nat) : Option Namespace :=
  (s.stor.spaces.get? nsid).bind fun n => if n.attached.contains inst then some n else none

/-- The namespaces attached to an instance's controller, by rising NSID. -/
def attachedAll (s : State) (inst : Nat) : List (Nat × Namespace) := s.stor.spaces.keep fun _ n => n.attached.contains inst

/-! ### Power states (R334, R412 to R414) -/

/-- The pipelines of root ports that serve a host port's instances (R334). -/
def servesPort (s : State) (p port : Nat) : Bool :=
  s.stor.spaces.any fun _ n => decide (n.backing = 1 ∧ n.port = p) &&
    n.attached.any fun i => decide (((s.insts.get? i).map Instance.port) = some port)

/-- The LTR latency field of a state (R334). -/
def ltrField (ps : Nat) : Nat :=
  2 ^ 15 + (match ps with
    | 0 => 1 * 1024 + 125
    | 1 => 1 * 1024 + 625
    | 2 => 2 * 1024 + 195
    | 3 => 3 * 1024 + 61
    | _ => 3 * 1024 + 305)

/-- The LTR message of a port after a change of a pipeline that serves it (R334). -/
def sendLtr (s : State) (p port : Nat) : State :=
  if (s.port port).ltrEnable && servesPort s p port then
    let ps := ((List.range 4).filter fun k => servesPort s k port).foldl (fun m k => min m (s.pipe k).ps) 4
    s.emit (.pcieMessage port 0x10 (ltrField ps + 2 ^ 16 * ltrField ps))
  else s

/-- The state that pipeline `p` takes (R414, R379). -/
def pipeTarget (s : State) (p : Nat) : Nat :=
  let k := s.pipe p
  if 0 < k.bulk ∨ k.bulkEnd.isSome then 0
  else min k.deepest ((s.stor.spaces.keep fun _ n => decide (n.backing = 1 ∧ n.port = p)).foldl
    (fun m e => e.2.attached.foldl (fun m i => min m (s.ctrl i).ps) m) 4)

/-- Pipeline `p` changes state where R414 says so, with its LTR messages. -/
def updatePipe (s : State) (p : Nat) : State :=
  let ps := pipeTarget s p
  if (s.pipe p).ps = ps then s
  else sendLtr (sendLtr (s.modPipe p fun k => { k with ps := ps }) p 0) p 1
/-- Every root-port pipeline takes the state of R414. -/
def updatePipes (s : State) : State := (List.range 4).foldl updatePipe s

/-- Bulk-class work for a pipeline arrives: it holds the pipeline in PS0 (R414). -/
def bulkBegin (s : State) (p : Nat) : State :=
  if p < 4 then updatePipes (s.modPipe p fun k => { k with bulk := k.bulk + 1, bulkEnd := none }) else s
/-- Bulk-class work completes; the hold lasts 1 ms after the last (R414). -/
def bulkDone (s : State) (p : Nat) : State :=
  if p < 4 then s.modPipe p fun k =>
    { k with bulk := k.bulk - 1, bulkEnd := if k.bulk ≤ 1 then some s.lc else k.bulkEnd } else s

/-- I/O commands that a controller has outstanding (R413). -/
def ioOutstanding (s : State) (inst : Nat) : Nat := s.stor.ops.count fun _ o => decide (o.inst = inst) && !o.bulk

/-- An I/O command is submitted: a state that APST reached ends (R413). -/
def wakeCtrl (s : State) (inst : Nat) : State :=
  if (s.ctrl inst).ps = (s.ctrl inst).pmPs then s
  else updatePipes (s.modCtrl inst fun c => { c with ps := c.pmPs, idleSince := s.lc })

/-! ### NVMe completions (R398, R400) -/

/-- The 16 bytes of a completion entry. -/
def NvmeCqe.bytes (e : NvmeCqe) (phase : Bool) : Bytes :=
  le 4 e.dw0 ++ zeros 4 ++ le 2 e.sqHead ++ le 2 e.sqid ++ le 2 e.cid ++ le 2 (b2n phase + 2 * e.status)

/-- A completion queue is full. -/
def NvmeCq.full (c : NvmeCq) : Bool := decide ((c.tail + 1) % (c.size + 1) = c.head)

/-- A completion entry is written and its vector signalled. -/
def putCqe (s : State) (inst cqid : Nat) (e : NvmeCqe) : State :=
  match (s.ctrl inst).cqs.get? cqid with
  | none => s
  | some c =>
    let port := ((s.insts.get? inst).map Instance.port).getD 0
    let s1 := hostWrite s port inst (c.base + 16 * c.tail) (e.bytes c.phase)
    let t := (c.tail + 1) % (c.size + 1)
    let s2 := s1.modCtrl inst fun k =>
      { k with cqs := k.cqs.set cqid { c with tail := t, phase := if t = 0 then !c.phase else c.phase } }
    if c.ien then msix s2 port inst c.vector else s2

/-- A completion is posted, or waits while its queue is full. -/
def postCqe (s : State) (inst cqid : Nat) (e : NvmeCqe) : State :=
  match (s.ctrl inst).cqs.get? cqid with
  | none => s
  | some c =>
    if c.full || !((s.ctrl inst).wait.getD cqid []).isEmpty then
      s.modCtrl inst fun k => { k with wait := k.wait.set cqid (k.wait.getD cqid [] ++ [e]) }
    else putCqe s inst cqid e

/-- Waiting completions are posted while the queue has room, in order. -/
def drainCq (inst cqid : Nat) : List NvmeCqe → State → List NvmeCqe × State
  | [], s => ([], s)
  | e :: l, s => match (s.ctrl inst).cqs.get? cqid with
    | some c => if c.full then (e :: l, s) else drainCq inst cqid l (putCqe s inst cqid e)
    | none => ([], s)

/-- A failed command joins the error log, newest first, up to 64 (R398). -/
def logNvme (c : Controller) (sqid cid status : Nat) : Controller :=
  if status = 0 then c
  else { c with errorCount := wrap64 c.errorCount 1,
                errorLog := ((wrap64 c.errorCount 1, sqid, cid, status) :: c.errorLog).take 64 }

/-- A command of a controller's queue completes with a status and Dword 0. -/
def completeNvme (s : State) (inst sq cid status dw0 : Nat) : State :=
  match (s.ctrl inst).sqs.get? sq with
  | none => s
  | some q => postCqe (s.modCtrl inst fun c => logNvme c sq cid status) inst q.cqid
      { dw0 := dw0, sqid := sq, sqHead := q.head, cid := cid, status := status }

/-! ### Bulk completions (R291, R407, R408) -/

/-- Key of an instance's bulk queue. -/
def bulkKey (inst db : Nat) : Nat := 16 * inst + db

/-- A bulk completion record is written, SEQ last, and signalled (R291, R407, R408). -/
def completeBulk (s : State) (key index status tag : Nat) : State :=
  match s.stor.bulk.get? key with
  | none => s
  | some b =>
    let port := ((s.insts.get? b.inst).map Instance.port).getD 0
    let n := wrap32 (b.completed + 1)
    let s1 := s.modStor fun t => { t with bulk := t.bulk.set key { b with completed := n } }
    msixUnlessFF (hostWrite s1 port b.inst (b.cqAddr + 16 * ((n + 2 ^ 32 - 1) % 2 ^ b.log2))
      (le 4 index ++ le 1 status ++ zeros 3 ++ le 4 tag ++ le 4 n)) port b.inst b.vector

/-! ### How a command ends -/

/-- A controller that shuts down has completed its commands: Flush goes to the SSDs and SHST reads 0b10 (R396). -/
def shutdownEnd (s : State) (inst : Nat) : State :=
  if (s.ctrl inst).shst = 1 ∧ ioOutstanding s inst = 0 then
    ((attachedAll s inst).foldl (fun s e =>
      if e.2.backing = 1 then s.emit (.media (.root e.2.port) e.2.source 0x10000 .flush 0 0 []) else s) s).modCtrl inst
      fun c => { c with shst := 2 }
  else s

/-- The host writes of a read's data to its buffers. -/
def scatterHost (s : State) (port inst : Nat) : List (Nat × Nat) → Bytes → State
  | [], _ => s
  | (a, n) :: l, bs => scatterHost (hostWrite s port inst a (bs.take n)) port inst l (bs.drop n)

/-- A read's data goes to its buffer, in host memory or plot space (R408): the result and the state after. -/
def deliver (s : State) (o : IoOp) (data : Bytes) : IoResult × State :=
  let port := ((s.insts.get? o.inst).map Instance.port).getD 0
  if o.space = 1 then (.ok, scatterHost s port o.inst o.buffers data)
  else match o.buffers with
    | (a, n) :: _ => match writePlot s (instOwner s o.inst) a (padTo n data) with
      | (.deviceFault, _) => (.fault, s)
      | (.done, s') => (.ok, s')
      | (.violation, _) => (.ok, violation s a (mkTag (instOwner s o.inst) o.inst) 2 n 0xFFF 0xFFFF)
    | [] => (.ok, s)

/-- Blocks read and written, for log 0x02. -/
def smartCount (c : Controller) (o : IoOp) : Controller :=
  match o.kind with
  | .read => { c with smart := (c.smart.set 1 (c.smart.getD 1 0 + 1)).set 3 (c.smart.getD 3 0 + o.nlb) }
  | .write => { c with smart := (c.smart.set 2 (c.smart.getD 2 0 + 1)).set 4 (c.smart.getD 4 0 + o.nlb) }
  | .writeFua => { c with smart := (c.smart.set 2 (c.smart.getD 2 0 + 1)).set 4 (c.smart.getD 4 0 + o.nlb) }
  | _ => c

/-- A command that was begun before a controller reset reports to nobody (R396). -/
def IoOp.mute (o : IoOp) : Bool := decide (o.gen = 0x10000)

/-- A fetch of a direct-feed engine (R287). -/
def IoOp.feed (o : IoOp) : Bool := decide (0x400 ≤ o.inst)
/-- The descriptor's status after a fetch (R287). -/
def IoResult.feed (r : IoResult) : Nat := if r = .ok then 0 else if r = .poisoned then 5 else 0x0C

/-- A storage pipeline's OPS_STARTED or OPS_COMPLETED (R522). -/
def bumpIo (s : State) (o : IoOp) (event : Nat) : State :=
  if o.pipe < 6 then bump s (0x198 + o.pipe) event 1
    { tag := some (workTag (((s.insts.get? o.inst).map Instance.part).getD 16) o.inst), kind := some (if o.bulk then 1 else 0) }
  else s

/-- A storage command's work is over: its entry goes, its pipeline counts it (R379, R414). -/
def closeIo (s : State) (t : Nat) (o : IoOp) : State :=
  let s1 := bumpIo (s.modStor fun k => { k with ops := k.ops.erase t }) o 0x03
  let s2 := if o.pipe < 6 then s1.modPipe o.pipe fun p => { p with completed := wrap64 p.completed 1 } else s1
  if o.bulk then bulkDone s2 o.pipe else s2

/-- A storage command ends with a result; a read that succeeds delivers its data first, a fetch of a direct-feed engine
hands it to its descriptor. -/
def finishIo (s : State) (t : Nat) (r : IoResult) (data : Bytes) : State :=
  match s.stor.ops.get? t with
  | none => s
  | some o =>
    if o.feed then
      (closeIo s t o).modLink fun l => { l with runs := l.runs.modify t fun d => { d with stage := .fetched r.feed data } }
    else
      let d := if o.mute then (r, s) else if r = .ok ∧ o.kind = .read then deliver s o data else (r, s)
      let st := if o.bulk then d.1.bulk else d.1.nvme
      let s3 := dropReads (recordDone (closeIo d.2 t o) t st) t
      if o.mute then s3
      else if o.bulk then completeBulk s3 o.queue o.id st o.hostTag
      else
        let s4 := completeNvme (s3.modCtrl o.inst fun c => if d.1 = .ok then smartCount c o else c) o.inst o.queue o.id st 0
        let s5 := if ioOutstanding s4 o.inst = 0 then s4.modCtrl o.inst fun c => { c with idleSince := s.lc } else s4
        shutdownEnd s5 o.inst

/-! ### How a command starts -/

/-- A range of plot space filled with zeros, plot by plot. -/
def zeroPlots (s : State) (o : Owner) (a len : Nat) : State :=
  (slotsOf a len).foldl (fun s k =>
    let lo := max a (k * 2 ^ 30)
    let hi := min (a + len) ((k + 1) * 2 ^ 30)
    match translate s o lo with
    | some (n, off) => fillDpa s (dpaOf n off) (hi - lo) 0
    | none => s) s

/-- Every plot of a range takes writes (R245, R247). -/
def plotsWritable (s : State) (o : Owner) (a len : Nat) : Bool :=
  (slotsOf a len).all fun k => ((slotPlot s o k).map (plotWritable s)).getD false

/-- The data of a write: gathered from host memory, or read from the partition's plots (R408). -/
def writeData (s : State) (o : IoOp) : PlotRead :=
  if o.space = 1 then .bytes ((List.range (512 * o.nlb)).map fun k => o.data.read k)
  else match o.buffers with
    | (a, n) :: _ => readPlot s (instOwner s o.inst) a n
    | [] => .bytes []

/-- The deallocated blocks of a MEMORY namespace read as zero or as before: an open choice. -/
def deallocate (s : State) (n : Namespace) (rs : List (Nat × Nat)) : State :=
  rs.foldl (fun s r =>
    let s' := { s with free := s.free + 1 }
    if Config.choice s.free % 2 = 0 then zeroPlots s' n.owner (n.base + 512 * r.1) (512 * r.2) else s') s

/-- A command on a MEMORY namespace runs at once (R406). -/
def startMemory (s : State) (t : Nat) (o : IoOp) (n : Namespace) : State :=
  let a := n.base + 512 * o.slba
  let len := 512 * o.nlb
  match o.kind with
  | .read => match readPlot s n.owner a len with
    | .bytes bs => finishIo s t .ok bs
    | .poisoned => finishIo (countPoison s n.owner a len POISONED) t .poisoned []
    | .violation => finishIo (violation s a (mkTag n.owner o.inst) 1 len 0xFFF 0xFFFF) t .ok (zeros len)
  | .writeZeroes => if guarded s n.owner a len || !translates s n.owner a len then
      finishIo (violation s a (mkTag n.owner o.inst) 2 len 0xFFF 0xFFFF) t .ok []
    else if !plotsWritable s n.owner a len then finishIo s t .fault []
    else finishIo (zeroPlots s n.owner a len) t .ok []
  | .deallocate => finishIo (deallocate s n o.ranges) t .ok []
  | .flush => finishIo s t .ok []
  | _ => match writeData s o with
    | .poisoned => finishIo (match o.buffers with
        | (b, m) :: _ => countPoison s (instOwner s o.inst) b m POISONED
        | [] => s) t .poisoned []
    | .violation => finishIo (violation s (o.buffers.headD (0, 0)).1 (mkTag n.owner o.inst) 1 len 0xFFF 0xFFFF) t .ok []
    | .bytes bs => match writePlot s n.owner a bs with
      | (.done, s') => finishIo s' t .ok []
      | (.deviceFault, _) => finishIo s t .fault []
      | (.violation, _) => finishIo (violation s a (mkTag n.owner o.inst) 2 len 0xFFF 0xFFFF) t .ok []

/-- The command's start is noted. -/
def markStarted (s : State) (t : Nat) (outstanding : Nat) : State :=
  s.modStor fun k => { k with ops := k.ops.modify t fun o => { o with started := true, waiting := none, nlb :=
    if o.kind = .flush ∨ o.kind = .deallocate then outstanding else o.nlb } }

/-- Data on its way to a medium: encrypted where the namespace says so (R404). -/
def sealed (key : NsKey) (lba nlb : Nat) (bs : Bytes) : Bytes :=
  match key with
  | .key k => xtsBlocks Config.xtsEncrypt k nlb lba bs
  | _ => bs

/-- A command goes to a medium outside the block (R402). -/
def startMedium (s : State) (t : Nat) (o : IoOp) (n : Namespace) (key : NsKey) : State :=
  let put (kind : IoKind) (lba nlb : Nat) (data : Bytes) (s : State) : State :=
    s.emit (.media n.medium n.source t kind (n.base + lba) nlb data)
  match o.kind with
  | .read => markStarted (put .read o.slba o.nlb [] s) t 1
  | .flush => markStarted (put .flush 0 0 [] s) t 1
  | .deallocate => if o.ranges.isEmpty then finishIo s t .ok []
    else markStarted (o.ranges.foldl (fun s r => put .deallocate r.1 r.2 [] s) s) t o.ranges.length
  | .writeZeroes => markStarted (match key with
      | .key _ => put .write o.slba o.nlb (sealed key o.slba o.nlb (zeros (512 * o.nlb))) s
      | _ => put .writeZeroes o.slba o.nlb [] s) t 1
  | k => match writeData s o with
    | .poisoned => finishIo (match o.buffers with
        | (b, m) :: _ => countPoison s (instOwner s o.inst) b m POISONED
        | [] => s) t .poisoned []
    | .violation =>
      finishIo (violation s (o.buffers.headD (0, 0)).1 (mkTag n.owner o.inst) 1 (512 * o.nlb) 0xFFF 0xFFFF) t .ok []
    | .bytes bs => markStarted (put k o.slba o.nlb (sealed key o.slba o.nlb bs) s) t 1

/-- A Flush of every attached namespace (R398): one to each medium; MEMORY namespaces are done at once. -/
def startFlushAll (s : State) (t : Nat) (o : IoOp) : State :=
  let ns := (attachedAll s o.inst).filter fun e => decide (e.2.backing ≠ 3) && backingUp s e.2
  if ns.isEmpty then finishIo s t .ok []
  else markStarted (ns.foldl (fun s e => s.emit (.media e.2.medium e.2.source t .flush 0 0 [])) s) t ns.length

/-- A bulk FILL or COPY (R408, R238): a malformed range is refused, one that the partition does not reach is a violation and changes
nothing. -/
def startNear (s : State) (t : Nat) (o : IoOp) : State :=
  let p := instOwner s o.inst
  let a := (o.buffers.headD (0, 0)).1
  let len := (o.buffers.headD (0, 0)).2
  let tag := mkTag p o.inst
  if o.kind = .fill then
    if !wordRange a len || !onePlot a len then finishIo s t .invalid []
    else if !translates s p a len || guarded s p a len then finishIo (violation s a tag 3 len 0xFFF 0xFFFF) t .ok []
    else match fillPlots s p a len o.operand with
      | (st, s') => finishIo s' t (if st = OK then .ok else .fault) []
  else if !wordRange a len || !wordRange o.operand len || overlap a len o.operand len then finishIo s t .invalid []
  else if !translates s p a len || !translates s p o.operand len || guarded s p a len then
    finishIo (violation s (copyMiss s p a o.operand len) tag 3 len 0xFFF 0xFFFF) t .ok []
  else match copyPlots p (len / 32) a o.operand s with
    | (st, s') => finishIo s' t (if st = OK then .ok else .fault) []

/-- A command starts: at its medium, or it waits for its backing up to 2 s (R406). -/
def startIo (s : State) (t : Nat) : State :=
  match s.stor.ops.get? t with
  | none => s
  | some o =>
    if o.kind = .fill ∨ o.kind = .copy then startNear s t o
    else if o.kind = .flush ∧ o.nsid = 0xFFFFFFFF then startFlushAll s t o
    else match s.stor.spaces.get? o.nsid with
      | none => finishIo s t .fault []
      | some n =>
        if !backingUp s n then
          s.modStor fun k => { k with ops := k.ops.modify t fun o => { o with waiting := some (o.waiting.getD s.lc) } }
        else if o.kind = .flush ∨ o.kind = .deallocate then
          (if n.backing = 3 then startMemory s t o n else startMedium s t o n .plain)
        else
          match nsKey s n (if o.kind = .read then 1 else 0) with
          | .invalid => finishIo s t .invalid []
          | .violation =>
            finishIo (refViolation s (mkTag n.owner o.inst) 3 n.keySlot 0xFFF 0xFFFF) t .ok (zeros (512 * o.nlb))
          | k => if n.backing = 3 then startMemory s t o n else startMedium s t o n k

/-- Whether a kind changes blocks. -/
def IoKind.writes : IoKind → Bool
  | .read => false
  | .flush => false
  | _ => true

/-- An earlier command of the same queue on overlapping blocks, one of the two a write (R26). -/
def conflicts (a b : IoOp) : Bool :=
  decide (a.nsid = b.nsid) && (a.kind.writes || b.kind.writes) &&
    (if a.kind = .deallocate ∨ b.kind = .deallocate then true else overlap a.slba a.nlb b.slba b.nlb)

/-- The command is a cipher job (R404). -/
def usesCipher (s : State) (o : IoOp) : Bool :=
  decide (o.kind ≠ .flush ∧ o.kind ≠ .deallocate) && ((s.stor.spaces.get? o.nsid).map Namespace.encrypt).getD false

/-- The command may start (R25 to R27, R409): its data is there, an engine takes it (R492), and its queue's
order lets it. -/
def mayStart (s : State) (o : IoOp) : Bool :=
  !o.started && decide (o.missing = 0) && !(usesCipher s o && noEngine s) &&
    (s.stor.ops.map Prod.snd).all fun e =>
      !(decide (e.inst = o.inst) && decide (e.bulk = o.bulk) && decide (e.queue = o.queue) && decide (e.seq < o.seq)) ||
        (if o.bulk then !(o.ordered || decide (o.kind = .flush))
         else (e.started || e.waiting.isSome) && !conflicts e o)

/-- Every command that may start does, in the order of fetch. -/
def pumpIo (s : State) : State :=
  (sortBy (fun e : Nat × IoOp => e.2.seq) s.stor.ops).foldl (fun s e =>
    match s.stor.ops.get? e.1 with
    | some o => if mayStart s o then startIo s e.1 else s
    | none => s) s

/-- A storage command is fetched into the tracker: it asks for its host data, and starts when it may. -/
def beginIo (s : State) (o : IoOp) : State :=
  match allocTag s (instOwner s o.inst) (if o.bulk then .bulk else .nvme) o.queue o.inst with
  | none => s
  | some (t, s1) =>
    let s2 := s1.modStor fun k => { k with ops := k.ops.set t { o with seq := k.nextSeq }, nextSeq := k.nextSeq + 1 }
    let s3 := bumpIo (if o.bulk then bulkBegin s2 o.pipe else wakeCtrl s2 o.inst) o 0x02
    pumpIo (if o.missing = 0 then s3
      else requestReads s3 (((s.insts.get? o.inst).map Instance.port).getD 0) t o.inst o.buffers)

end Sys2Proof.Machine
end

