-- ==== Sys2Proof/Machine/Nvme.lean ====
section
/-! DEFINITION. The NVMe controller of each instance: registers, admin commands, I/O commands (12 R394 to R402, R411). -/

namespace Sys2Proof.Machine

/-! ### The instance page -/

/-- The tag of a physical function's own accesses (R16). -/
def pfTag (s : State) (port : Nat) : Nat := if s.boot.opPort = port then 0x10400 + port else 0x400 + port
/-- The page belongs to an instance of the port. -/
def pageOf (s : State) (port inst : Nat) : Bool := decide (((s.insts.get? inst).map Instance.port) = some port)
/-- A write to a page that is no instance's of the port (R29, R335). -/
def pageViolation (s : State) (port inst off len kind : Nat) : State :=
  violation s (16384 * inst + off) (pfTag s port) kind len 0xFFF port

/-- What a doorbell write to an instance page does now (R338, R341): acts, is recorded, or is ignored. -/
inductive Bell
  | act | record | ignore | violation
  deriving DecidableEq, Repr

/-- How the page takes a doorbell write. -/
def bell (s : State) (port inst : Nat) : Bell :=
  if !s.on then .ignore
  else match s.insts.get? inst with
    | none => .violation
    | some i => if i.port ≠ port then .violation
      else match i.state with
        | .running => .act
        | .frozen => .record
        | _ => .ignore

/-- A doorbell write at an offset of the page, acting by `f` (R338, R341). -/
def doorbellWrite (s : State) (port inst off value : Nat) (f : State → State) : State :=
  match bell s port inst with
  | .act => f s
  | .record => s.modInst inst fun i => { i with doorbells := i.doorbells.set off value }
  | .ignore => s
  | .violation => if s.on then pageViolation s port inst off 4 6 else s

/-! ### Asynchronous events (R398) -/

/-- The types of asynchronous events: 0 error, 1 SMART, 2 notice. -/
def aerType (dw0 : Nat) : Nat := dw0 % 8

/-- An event is reported with an outstanding request, or waits for one; a type reported is masked until its log is read. -/
def aerEvent (s : State) (inst dw0 : Nat) : State :=
  let c := s.ctrl inst
  if !c.rdy then s
  else if c.aerMasked.contains (aerType dw0) then s
  else match c.aers with
    | cid :: l => completeNvme (s.modCtrl inst fun c => { c with aers := l, aerMasked := aerType dw0 :: c.aerMasked })
        inst 0 cid 0 dw0
    | [] => s.modCtrl inst fun c => { c with aerPend := c.aerPend ++ [dw0] }

/-! ### Doorbells (R395) -/

/-- A submission queue's tail (R395): an unknown queue or a value past its size is reported as an error event. -/
def sqDoorbell (s : State) (inst qid tail : Nat) : State :=
  match (s.ctrl inst).sqs.get? qid with
  | none => aerEvent s inst 0x010000
  | some q =>
    if q.size < tail then aerEvent s inst 0x010100
    else touchCtx (s.modCtrl inst fun c => { c with sqs := c.sqs.set qid { q with tail := tail } }) (cxNvme inst qid)

/-- A completion queue's head (R395): waiting completions follow. -/
def cqDoorbell (s : State) (inst qid head : Nat) : State :=
  match (s.ctrl inst).cqs.get? qid with
  | none => aerEvent s inst 0x010000
  | some q =>
    if q.size < head then aerEvent s inst 0x010100
    else
      let s1 := s.modCtrl inst fun c => { c with cqs := c.cqs.set qid { q with head := head } }
      match drainCq inst qid ((s1.ctrl inst).wait.getD qid []) s1 with
      | (l, s2) => s2.modCtrl inst fun c => { c with wait := if l.isEmpty then c.wait.erase qid else c.wait.set qid l }

def execNvmeSqDoorbell (port : Fin 2) (inst qid tail : B2) (s : State) : Host.Outcome State Fault Refusal :=
  .next (doorbellWrite s port inst (0x3000 + 8 * qid) tail fun s => sqDoorbell s inst qid (tail % 65536))

def execNvmeCqDoorbell (port : Fin 2) (inst qid head : B2) (s : State) : Host.Outcome State Fault Refusal :=
  .next (doorbellWrite s port inst (0x3004 + 8 * qid) head fun s => cqDoorbell s inst qid (head % 65536))

/-! ### CC (R396, R397) -/

/-- CC fields that are not accepted (R395). -/
def ccBad (cc : Nat) : Bool := decide (bitsOf cc 6 4 ≠ 0 ∨ bitsOf cc 10 7 ≠ 0 ∨ 1 < bitsOf cc 13 11)
/-- CC with its reserved bits zero (R395). -/
def ccMask (cc : Nat) : Nat := bitsOf cc 23 4 * 16 + cc % 2

/-- CC.EN goes to 1 (R396, R397). -/
def enableCtrl (s : State) (inst cc : Nat) : State :=
  s.modCtrl inst fun c =>
    let c := { c with cc := ccMask cc, quickset := !s.full, mqes := if s.full then 0xFFF else 0xFF }
    if ccBad cc then { c with cfs := true }
    else { c with
      rdy := true
      shst := 0
      sqs := c.sqs.set 0 { size := bitsOf c.aqa 11 0, base := c.asq, cqid := 0, prio := 0 }
      cqs := c.cqs.set 0 { size := bitsOf c.aqa 27 16, base := c.acq, vector := 0, ien := true }
      grantSq := if s.full then 64 else 4
      grantCq := if s.full then 64 else 4
      idleSince := s.lc }

/-- The command goes on after a reset: a write whose host data is there, or what has started at a medium (R339). -/
def IoOp.survives (o : IoOp) : Bool := o.started || (o.kind.writes && decide (o.missing = 0))

/-- The commands that satisfy `p` are discarded where R339 says so (R339, R396). -/
def dropIo (s : State) (p : IoOp → Bool) : State :=
  (s.stor.ops.keep fun _ o => p o && !o.survives).foldl (fun s e =>
    let s1 := dropReads (recordDone (s.modStor fun k => { k with ops := k.ops.erase e.1 }) e.1 ABORTED) e.1
    if e.2.bulk then bulkDone s1 e.2.pipe else s1) s

/-- The NVMe commands of a controller at a reset by CC.EN report to nobody from now on (R396). -/
def dropNvme (s : State) (inst : Nat) : State :=
  let p (o : IoOp) : Bool := decide (o.inst = inst) && !o.bulk
  pumpIo ((dropIo s p).modStor fun k => { k with ops := k.ops.mapV fun _ o => if p o then { o with gen := 0x10000 } else o })

/-- The controller's queues are deleted, with their contexts (R396). -/
def deleteQueues (s : State) (inst : Nat) : State :=
  (((s.ctrl inst).sqs.map Prod.fst).foldl (fun s q => dropCtx s (cxNvme inst q)) s).modCtrl inst fun c =>
    { c with sqs := [], cqs := [], wait := [] }

/-- A controller after a reset by CC.EN: AQA, ASQ, ACQ, MQES and the error log stay (R396). -/
def resetFields (c : Controller) (cc now : Nat) : Controller :=
  { mqes := c.mqes, cc := cc, aqa := c.aqa, asq := c.asq, acq := c.acq, quickset := c.quickset,
    errorLog := c.errorLog, errorCount := c.errorCount, smart := c.smart, idleSince := now }

/-- CC.EN goes to 0 (R396). -/
def disableCtrl (s : State) (inst cc : Nat) : State :=
  updatePipes ((deleteQueues (dropNvme s inst) inst).modCtrl inst fun c => resetFields c (ccMask cc) s.lc)

/-- A shutdown notification (R396). -/
def shutCtrl (s : State) (inst cc : Nat) : State :=
  shutdownEnd (s.modCtrl inst fun c => { c with cc := ccMask cc, shst := if c.rdy then 1 else 2 }) inst

/-- A write of CC does what the change of EN and SHN says (R396). -/
def writeCc (s : State) (inst cc : Nat) : State :=
  let c := s.ctrl inst
  if bitOf cc 0 && !bitOf c.cc 0 then enableCtrl s inst cc
  else if !bitOf cc 0 && bitOf c.cc 0 then disableCtrl s inst cc
  else if (bitsOf cc 15 14 = 1 ∨ bitsOf cc 15 14 = 2) ∧ c.shst = 0 then shutCtrl s inst cc
  else s.modCtrl inst fun c => { c with cc := ccMask cc }

/-- A write of CC that takes one of its three rows, through the page (R319, R395). -/
def ccWrite (s : State) (port inst cc : Nat) (row : Bool) : State :=
  if !s.on || !row then s
  else if pageOf s port inst then writeCc s inst cc
  else pageViolation s port inst 0x2014 4 6

def execControllerEnable (port : Fin 2) (inst : B2) (cc : B4) (s : State) : Host.Outcome State Fault Refusal :=
  .next (ccWrite s port inst cc (bitOf cc 0 && !bitOf (s.ctrl inst).cc 0))

def execControllerReset (port : Fin 2) (inst : B2) (cc : B4) (s : State) : Host.Outcome State Fault Refusal :=
  .next (ccWrite s port inst cc (!bitOf cc 0))

def execShutdownNotification (port : Fin 2) (inst : B2) (cc : B4) (s : State) : Host.Outcome State Fault Refusal :=
  .next (ccWrite s port inst cc (decide (bitOf cc 0 = bitOf (s.ctrl inst).cc 0) &&
    decide (bitsOf cc 15 14 = 1 ∨ bitsOf cc 15 14 = 2)))

/-! ### Fetching (R336, R384, R396, R401) -/

/-- A queue holds a command. -/
def NvmeSq.some_ (q : NvmeSq) : Bool := decide (q.head ≠ q.tail)

/-- Under weighted round robin no queue of a higher strict class waits: the admin queue first, then urgent queues (R401). -/
def turnOf (c : Controller) (sq : Nat) : Bool :=
  decide (bitsOf c.cc 13 11 ≠ 1) ||
    (decide (sq = 0) || !((c.sqs.get? 0).map NvmeSq.some_).getD false) &&
    (decide (sq = 0) || decide (((c.sqs.get? sq).map NvmeSq.prio) = some 0) ||
      !(c.sqs.any fun k q => decide (k ≠ 0 ∧ q.prio = 0) && q.some_))

/-- The controller fetches the next command of the queue now. -/
def nvmeFetches (s : State) (inst sq : Nat) : Bool :=
  let c := s.ctrl inst
  s.on && s.quick && functionFetches s inst && c.rdy && !c.cfs && decide (c.shst = 0) && turnOf c sq &&
    ((c.sqs.get? sq).map NvmeSq.some_).getD false && (decide (sq = 0) || resident s (cxNvme inst sq)) &&
    mayFetch s (instOwner s inst)

/-- The command is taken from its queue (R400). -/
def takeNvme (s : State) (inst sq : Nat) : State :=
  touchCtx (s.modCtrl inst fun c =>
    { c with sqs := c.sqs.modify sq fun q => { q with head := (q.head + 1) % (q.size + 1) } }) (cxNvme inst sq)

/-- A command of the controller: fetched where it may be, refused on the wrong kind of queue, else `f`. -/
def nvmeCmd (s : State) (c : NvmeCmd) (admin : Bool) (f : State → State) : State :=
  if !nvmeFetches s c.inst c.sq then s
  else
    let s1 := takeNvme s c.inst c.sq
    if admin = decide (c.sq = 0) then f s1 else completeNvme s1 c.inst c.sq c.cid 0x001 0

/-- An admin command's answer. -/
def adminDone (c : NvmeCmd) (status dw0 : Nat) (s : State) : State := completeNvme s c.inst c.sq c.cid status dw0

/-- Data of an admin command goes to the buffer that its PRPs describe. -/
def writePrp (s : State) (c : NvmeCmd) (data : Bytes) : State :=
  scatterHost s (((s.insts.get? c.inst).map Instance.port).getD 0) c.inst c.prp data
/-- Data of an admin command, then its completion. -/
def adminData (c : NvmeCmd) (data : Bytes) (s : State) : State := adminDone c 0 0 (writePrp s c data)

/-! ### Queues (R398, R400) -/

/-- I/O submission queues of the device's controllers whose instance satisfies `p` (R400). -/
def ioQueues (s : State) (p : Nat → Bool) : Nat :=
  (s.stor.ctrls.map fun e => if p e.1 then e.2.sqs.count fun q _ => decide (q ≠ 0) else 0).sum
/-- Queues that a partition holds: I/O submission queues and bulk queues (R400). -/
def queuesHeld (s : State) (p : Nat) : Nat :=
  ioQueues s (fun i => decide (instOwner s i = p)) + s.stor.bulk.count fun _ b => decide (instOwner s b.inst = p)
/-- Another queue fits the partition's quota and the device (R400). -/
def queueRoom (s : State) (p : Nat) : Bool :=
  decide (queuesHeld s p < ((s.parts.get? p).map Partition.queueQuota).getD 0 ∧
    ioQueues s (fun _ => true) + s.stor.bulk.length < 16384)

/-- Create I/O Submission Queue (R400). -/
def createSq (c : NvmeCmd) (qid size : Nat) (pc : Bool) (prio cqid : Nat) (s : State) : State :=
  let k := s.ctrl c.inst
  if qid = 0 ∨ k.grantSq < qid ∨ (k.sqs.get? qid).isSome then adminDone c 0x101 0 s
  else if !queueRoom s (instOwner s c.inst) || !ctxRoom s then adminDone c 0x101 0 s
  else if size = 0 ∨ k.mqes < size then adminDone c 0x102 0 s
  else if cqid = 0 ∨ (k.cqs.get? cqid).isNone then adminDone c 0x100 0 s
  else if !pc || decide (bitsOf k.cc 19 16 ≠ 6) then adminDone c 0x002 0 s
  else adminDone c 0 0 (addCtx (s.modCtrl c.inst fun k =>
    { k with sqs := k.sqs.set qid { size := size, base := (c.prp.headD (0, 0)).1, cqid := cqid, prio := prio } })
    (cxNvme c.inst qid) (instOwner s c.inst) (((s.insts.get? c.inst).map Instance.port).getD 0) false)

def execCreateIoSq (c : NvmeCmd) (qid size : B2) (pc : Bool) (prio : BitVec 2) (cqid : B2) (s : State) :
    Host.Outcome State Fault Refusal :=
  .next (nvmeCmd s c true (createSq c qid size pc prio.toNat cqid))

/-- The commands of one submission queue end as aborted, with their completions. -/
def abortQueue (s : State) (inst qid : Nat) : State :=
  ((s.stor.ops.keep fun _ o => decide (o.inst = inst ∧ o.queue = qid) && !o.bulk && !o.mute).map Prod.fst).foldl
    (fun s t => finishIo s t .aborted []) s

/-- Delete I/O Submission Queue (R398): its commands complete first. -/
def deleteSq (c : NvmeCmd) (qid : Nat) (s : State) : State :=
  if qid = 0 ∨ ((s.ctrl c.inst).sqs.get? qid).isNone then adminDone c 0x101 0 s
  else adminDone c 0 0 (pumpIo (dropCtx ((abortQueue s c.inst qid).modCtrl c.inst fun k =>
    { k with sqs := k.sqs.erase qid }) (cxNvme c.inst qid)))

def execDeleteIoSq (c : NvmeCmd) (qid : B2) (s : State) : Host.Outcome State Fault Refusal :=
  .next (nvmeCmd s c true (deleteSq c qid))

/-- Create I/O Completion Queue (R398). -/
def createCq (c : NvmeCmd) (qid size : Nat) (pc ien : Bool) (vector : Nat) (s : State) : State :=
  let k := s.ctrl c.inst
  if qid = 0 ∨ k.grantCq < qid ∨ (k.cqs.get? qid).isSome then adminDone c 0x101 0 s
  else if size = 0 ∨ k.mqes < size then adminDone c 0x102 0 s
  else if ((s.insts.get? c.inst).map Instance.vectorCount).getD 0 ≤ vector then adminDone c 0x108 0 s
  else if !pc || decide (bitsOf k.cc 23 20 ≠ 4) then adminDone c 0x002 0 s
  else adminDone c 0 0 (s.modCtrl c.inst fun k =>
    { k with cqs := k.cqs.set qid { size := size, base := (c.prp.headD (0, 0)).1, vector := vector, ien := ien } })

def execCreateIoCq (c : NvmeCmd) (qid size : B2) (pc ien : Bool) (vector : B2) (s : State) :
    Host.Outcome State Fault Refusal :=
  .next (nvmeCmd s c true (createCq c qid size pc ien vector))

/-- Delete I/O Completion Queue (R398): refused while a submission queue uses it. -/
def deleteCq (c : NvmeCmd) (qid : Nat) (s : State) : State :=
  let k := s.ctrl c.inst
  if qid = 0 ∨ (k.cqs.get? qid).isNone then adminDone c 0x101 0 s
  else if k.sqs.any fun _ q => decide (q.cqid = qid) then adminDone c 0x10C 0 s
  else adminDone c 0 0 (s.modCtrl c.inst fun k => { k with cqs := k.cqs.erase qid, wait := k.wait.erase qid })

def execDeleteIoCq (c : NvmeCmd) (qid : B2) (s : State) : Host.Outcome State Fault Refusal :=
  .next (nvmeCmd s c true (deleteCq c qid))

/-! ### Logs and Identify (R394, R398, R412) -/

/-- Bytes put over a structure at an offset. -/
def put (off : Nat) (bs whole : Bytes) : Bytes := whole.take off ++ bs ++ whole.drop (off + bs.length)
/-- Bytes that NVMe requires and the spec does not give. -/
def openBytes (which inst off n : Nat) : Bytes := (List.range n).map fun k => Config.nvmeByte which inst (off + k)

/-- Log 0x01: 64 entries, newest first. -/
def errorPage (c : Controller) : Bytes :=
  padTo 4096 (c.errorLog.flatMap fun e => le 8 e.1 ++ le 2 e.2.1 ++ le 2 e.2.2.1 ++ le 2 (2 * e.2.2.2) ++ zeros 50)
/-- Log 0x02, controller scope: the counts the model keeps; what the spec gives no value for stays open. -/
def smartPage (s : State) (inst : Nat) : Bytes :=
  let c := s.ctrl inst
  let units (k : Nat) : Nat := (c.smart.getD k 0 + 999) / 1000
  openBytes 2 inst 0 6 ++ zeros 26 ++ le 16 (units 3) ++ le 16 (units 4) ++ le 16 (c.smart.getD 1 0) ++
    le 16 (c.smart.getD 2 0) ++ openBytes 2 inst 96 112 ++ zeros 304
/-- Log 0x05: the commands of R398. -/
def effectsPage : Bytes :=
  ((List.range 256).flatMap fun o =>
    le 4 (b2n ([0x00, 0x01, 0x02, 0x04, 0x05, 0x06, 0x08, 0x09, 0x0A, 0x0C].contains o))) ++
  ((List.range 256).flatMap fun o =>
    le 4 (if o = 1 ∨ o = 8 ∨ o = 9 then 3 else b2n ([0x00, 0x02].contains o))) ++ zeros 2048

/-- Reading a log page clears the mask of its event type; an event that waits follows. -/
def unmaskAer (s : State) (inst type : Nat) : State :=
  let s1 := s.modCtrl inst fun c => { c with aerMasked := c.aerMasked.filter fun t => decide (t ≠ type) }
  match (s1.ctrl inst).aerPend.find? fun d => decide (aerType d = type) with
  | some d => if (s1.ctrl inst).aers.isEmpty then s1
    else aerEvent (s1.modCtrl inst fun c => { c with aerPend := c.aerPend.erase d }) inst d
  | none => s1

/-- Get Log Page (R398). -/
def getLog (c : NvmeCmd) (lid numd offset : Nat) (s : State) : State :=
  let page := if lid = 1 then some (errorPage (s.ctrl c.inst)) else if lid = 2 then some (smartPage s c.inst)
    else if lid = 5 then some effectsPage else none
  match page with
  | none => adminDone c 0x109 0 s
  | some p =>
    if (lid = 2 ∧ c.nsid ≠ 0 ∧ c.nsid ≠ 0xFFFFFFFF) ∨ offset % 4 ≠ 0 ∨ p.length < offset then adminDone c 0x002 0 s
    else
      let s1 := adminData c (padTo (4 * (numd + 1)) (p.drop offset)) s
      if lid = 1 then unmaskAer s1 c.inst 0 else if lid = 2 then unmaskAer s1 c.inst 1 else s1

def execGetLogPage (c : NvmeCmd) (lid : B1) (numd : B4) (offset : B8) (s : State) : Host.Outcome State Fault Refusal :=
  .next (nvmeCmd s c true (getLog c lid numd offset))

/-- The power state descriptor of a state (R412). -/
def powerDescriptor (k : Nat) : Bytes :=
  let r := match k with
    | 0 => (900, 0, 0, 0)
    | 1 => (600, 0, 10, 20)
    | 2 => (300, 0, 50, 200)
    | 3 => (150, 2, 1000, 2000)
    | _ => (50, 2, 5000, 10000)
  le 2 r.1 ++ zeros 1 ++ le 1 r.2.1 ++ le 4 r.2.2.1 ++ le 4 r.2.2.2 ++ zeros 20

/-- Identify Controller (R394, R398, R412). -/
def identifyCtrl (inst : Nat) : Bytes :=
  let o := openBytes 1 inst
  let base := put 4 (o 4 70) (put 78 (o 78 2) (put 84 (o 84 12) (put 260 (o 260 2) (put 266 (o 266 4)
    (put 768 (o 768 256) (zeros 4096))))))
  [(0, le 2 0x1FA7 ++ le 2 0x1FA7), (77, le 1 8), (80, le 4 0x00020000), (111, le 1 1), (258, le 1 3), (259, le 1 3),
   (262, le 1 63), (263, le 1 4), (265, le 1 1), (512, le 1 0x66 ++ le 1 0x44), (516, le 4 4096), (520, le 2 0x0C),
   (525, le 1 1), (2048, (List.range 5).flatMap powerDescriptor)].foldl (fun w f => put f.1 f.2 w)
    base

/-- Identify Namespace of an attached NSID (R398, R399). -/
def identifyNs (n : Namespace) : Bytes :=
  put 130 (le 1 9) (put 64 (le 2 7) (put 24 (le 1 0x10) (le 8 n.size ++ le 8 n.size ++ le 8 n.size ++ zeros 4072)))

/-- Identify Namespace Identification Descriptors: one descriptor, its value open. -/
def nsDescriptors (nsid : Nat) : Bytes := le 1 3 ++ le 1 16 ++ zeros 2 ++ openBytes 3 nsid 4 16 ++ zeros 4076

/-- Identify (R398, R405). -/
def identify (c : NvmeCmd) (cns : Nat) (s : State) : State :=
  let n := attachedNs s c.inst c.nsid
  let known := decide (1 ≤ c.nsid ∧ c.nsid ≤ 4096)
  let zero (s : State) : State := adminData c (zeros 4096) (nsViolation s c.inst c.nsid)
  if cns = 0 then
    if !known then adminDone c 0x00B 0 s
    else match n with
      | some n => adminData c (identifyNs n) s
      | none => zero s
  else if cns = 1 then adminData c (identifyCtrl c.inst) s
  else if cns = 2 then
    if 0xFFFFFFFE ≤ c.nsid then adminDone c 0x00B 0 s
    else adminData c (padTo 4096 (((attachedAll s c.inst).filter fun e => decide (c.nsid < e.1)).flatMap fun e => le 4 e.1)) s
  else if cns = 3 then
    if !known then adminDone c 0x00B 0 s
    else match n with
      | some _ => adminData c (nsDescriptors c.nsid) s
      | none => zero s
  else adminDone c 0x002 0 s

def execIdentify (c : NvmeCmd) (cns : B1) (s : State) : Host.Outcome State Fault Refusal :=
  .next (nvmeCmd s c true (identify c cns))

/-! ### Abort (R411) -/

/-- Abort: a command in flight ends as aborted, its completion before the Abort's own. -/
def abortNvme (c : NvmeCmd) (sqid cid : Nat) (s : State) : State :=
  match (s.stor.ops.find? fun e => decide (e.2.inst = c.inst ∧ e.2.queue = sqid ∧ e.2.id = cid) && !e.2.bulk && !e.2.mute) with
  | some e => if sqid = 0 then adminDone c 0 1 s else adminDone c 0 0 (pumpIo (finishIo s e.1 .aborted []))
  | none => adminDone c 0 1 s

def execNvmeAbort (c : NvmeCmd) (sqid cid : B2) (s : State) : Host.Outcome State Fault Refusal :=
  .next (nvmeCmd s c true (abortNvme c sqid cid))

/-! ### Features (R399, R413) -/

/-- The bytes that host memory gave a command. -/
def hostBytes : HostData → Option Bytes
  | .data bs => some bs
  | _ => none

/-- Set Features (R399). -/
def setFeature (c : NvmeCmd) (fid : Nat) (save : Bool) (v : Nat) (host : HostData) (s : State) : State :=
  let keep (k v : Nat) (s : State) : State :=
    adminDone c 0 0 (s.modCtrl c.inst fun x => { x with features := x.features.set k v })
  if save then adminDone c 0x10D 0 s
  else if fid = 0x02 then
    if 4 < v % 32 ∨ bitsOf v 7 5 ≠ 0 then adminDone c 0x002 0 s
    else adminDone c 0 0 (updatePipes (s.modCtrl c.inst fun x =>
      { x with ps := v % 32, pmPs := v % 32, idleSince := s.lc }))
  else if fid = 0x07 then
    if v % 65536 = 65535 ∨ v / 65536 = 65535 then adminDone c 0x002 0 s
    else if (s.ctrl c.inst).sqs.any (fun q _ => decide (q ≠ 0)) || (s.ctrl c.inst).cqs.any (fun q _ => decide (q ≠ 0)) then
      adminDone c 0x00C 0 s
    else
      let top := if (s.ctrl c.inst).quickset then 4 else 64
      let a := min (v % 65536 + 1) top
      let b := min (v / 65536 % 65536 + 1) top
      adminDone c 0 (a - 1 + 65536 * (b - 1)) (s.modCtrl c.inst fun x => { x with grantSq := a, grantCq := b })
  else if fid = 0x09 then
    if ((s.insts.get? c.inst).map Instance.vectorCount).getD 0 ≤ v % 65536 then adminDone c 0x002 0 s
    else keep (0x900 + v % 65536) v s
  else if fid = 0x0C then
    match hostBytes host with
    | none => adminDone c 0x004 0 s
    | some bs => adminDone c 0 0 (s.modCtrl c.inst fun x =>
        { x with features := x.features.set 0x0C (v % 2), apst := (chunks 8 32 (padTo 256 bs)).map ofLe })
  else if fid = 0x01 ∨ fid = 0x06 ∨ fid = 0x08 ∨ fid = 0x0B then keep fid v s
  else adminDone c 0x002 0 s

def execSetFeatures (c : NvmeCmd) (fid : B1) (save : Bool) (dw11 : B4) (host : HostData) (s : State) :
    Host.Outcome State Fault Refusal :=
  .next (nvmeCmd s c true (setFeature c fid save dw11 host))

/-- Get Features (R399). -/
def getFeature (c : NvmeCmd) (fid : Nat) (s : State) : State :=
  let k := s.ctrl c.inst
  if fid = 0x02 then adminDone c 0 k.pmPs s
  else if fid = 0x06 then adminDone c 0 1 s
  else if fid = 0x07 then adminDone c 0 (k.grantSq - 1 + 65536 * (k.grantCq - 1)) s
  else if fid = 0x0C then
    adminDone c 0 (k.features.getD 0x0C 0) (writePrp s c (padTo 256 (k.apst.flatMap (le 8))))
  else if fid = 0x09 then adminDone c 0 (k.features.getD 0x900 0) s
  else if fid = 0x01 ∨ fid = 0x08 ∨ fid = 0x0B then adminDone c 0 (k.features.getD fid 0) s
  else adminDone c 0x002 0 s

def execGetFeatures (c : NvmeCmd) (fid : B1) (s : State) : Host.Outcome State Fault Refusal :=
  .next (nvmeCmd s c true (getFeature c fid))

/-- Asynchronous Event Request (R398): answered by the next event; at most AERL + 1 wait. -/
def asyncRequest (c : NvmeCmd) (s : State) : State :=
  let k := s.ctrl c.inst
  if 4 ≤ k.aers.length then adminDone c 0x105 0 s
  else match k.aerPend.find? fun d => !k.aerMasked.contains (aerType d) with
    | some d => adminDone c 0 d (s.modCtrl c.inst fun x =>
        { x with aerPend := x.aerPend.erase d, aerMasked := aerType d :: x.aerMasked })
    | none => s.modCtrl c.inst fun x => { x with aers := x.aers ++ [c.cid] }

def execAsynchronousEventRequest (c : NvmeCmd) (s : State) : Host.Outcome State Fault Refusal :=
  .next (nvmeCmd s c true (asyncRequest c))

/-! ### I/O commands (R398, R405, R406) -/

/-- The buffers that PRPs describe, cut to `len` bytes; none where they describe less. -/
def cutBuffers : List (Nat × Nat) → Nat → Option (List (Nat × Nat))
  | [], len => if len = 0 then some [] else none
  | (a, n) :: l, len =>
    if len = 0 then some []
    else if len ≤ n then some [(a, len)]
    else (cutBuffers l (len - n)).map fun r => (a, n) :: r

/-- A command that ends as it is fetched. -/
def ioEnd (c : NvmeCmd) (status : Nat) (s : State) : State := completeNvme (wakeCtrl s c.inst) c.inst c.sq c.cid status 0

/-- An operation of an NVMe command. -/
def nvmeOp (s : State) (c : NvmeCmd) (kind : IoKind) (slba nlb : Nat) : IoOp :=
  { kind := kind, inst := c.inst, bulk := false, queue := c.sq, id := c.cid, nsid := c.nsid, slba := slba, nlb := nlb,
    pipe := ((s.stor.spaces.get? c.nsid).map Namespace.pipe).getD 6,
    gen := ((s.insts.get? c.inst).map Instance.gen).getD 0 }

/-- A command on an NSID (R405): malformed, not attached, or `f` with its namespace. -/
def onNamespace (c : NvmeCmd) (zeroRead : Nat) (f : Namespace → State → State) (s : State) : State :=
  if c.nsid = 0 ∨ 4096 < c.nsid then ioEnd c 0x00B s
  else match attachedNs s c.inst c.nsid with
    | some n => f n s
    | none =>
      let s1 := nsViolation s c.inst c.nsid
      ioEnd c 0 (if zeroRead = 0 then s1 else writePrp s1 c (zeros zeroRead))

/-- A Read or Write of blocks (R398): its range, its size, its buffer, then the operation. -/
def blockIo (c : NvmeCmd) (kind : IoKind) (slba nlb : Nat) (n : Namespace) (s : State) : State :=
  if 2048 < nlb then ioEnd c 0x002 s
  else if n.size < slba + nlb then ioEnd c 0x080 s
  else match cutBuffers c.prp (512 * nlb) with
    | none => ioEnd c 0x002 s
    | some bufs => beginIo s { nvmeOp s c kind slba nlb with
        buffers := bufs
        missing := if kind = .read then 0 else 512 * nlb }

def execNvmeRead (c : NvmeCmd) (slba : B8) (nlb : B4) (s : State) : Host.Outcome State Fault Refusal :=
  .next (nvmeCmd s c false (onNamespace c (512 * nlb) (blockIo c .read slba nlb)))

/-- A write acts as if FUA were set once Volatile Write Cache was written 0 (R399). -/
def writeKind (s : State) (inst : Nat) (fua : Bool) : IoKind :=
  if fua || decide ((s.ctrl inst).features.getD 0x06 1 % 2 = 0) then .writeFua else .write

def execNvmeWrite (c : NvmeCmd) (slba : B8) (nlb : B4) (fua : Bool) (s : State) : Host.Outcome State Fault Refusal :=
  .next (nvmeCmd s c false (onNamespace c 0 (blockIo c (writeKind s c.inst fua) slba nlb)))

/-- Flush (R398, R406): of one namespace, or of every one attached. -/
def execNvmeFlush (c : NvmeCmd) (s : State) : Host.Outcome State Fault Refusal :=
  .next (nvmeCmd s c false fun s =>
    if c.nsid = 0xFFFFFFFF then beginIo s (nvmeOp s c .flush 0 0)
    else onNamespace c 0 (fun _ s => beginIo s (nvmeOp s c .flush 0 0)) s)

/-- Write Zeroes of up to 65,536 blocks (R398). -/
def execWriteZeroes (c : NvmeCmd) (slba : B8) (nlb : B4) (s : State) : Host.Outcome State Fault Refusal :=
  .next (nvmeCmd s c false (onNamespace c 0 fun n s =>
    if 65536 < nlb then ioEnd c 0x002 s
    else if n.size < slba + nlb then ioEnd c 0x080 s
    else beginIo s (nvmeOp s c .writeZeroes slba nlb)))

/-- The ranges of a Dataset Management list, 16 bytes each. -/
def dsmRanges (count : Nat) (bs : Bytes) : List (Nat × Nat) :=
  (chunks 16 count bs).map fun r => (fieldAt r 8 8, fieldAt r 4 4)

/-- Dataset Management (R398): Deallocate of up to 256 ranges; any other attribute has no effect. -/
def execDatasetManagement (c : NvmeCmd) (deallocate : Bool) (count : B2) (host : HostData) (s : State) :
    Host.Outcome State Fault Refusal :=
  .next (nvmeCmd s c false (onNamespace c 0 fun n s =>
    match hostBytes host with
    | none => ioEnd c 0x004 s
    | some bs =>
      let rs := dsmRanges count (padTo (16 * count) bs)
      if 256 < count then ioEnd c 0x002 s
      else if rs.any fun r => decide (n.size < r.1 + r.2) then ioEnd c 0x080 s
      else if deallocate then beginIo s { nvmeOp s c .deallocate 0 0 with ranges := rs }
      else ioEnd c 0 s))

end Sys2Proof.Machine
end

