-- ==== Sys2Proof/Machine/Bulk.lean ====
section
/-! DEFINITION. Bulk queues, media answers, host read completions, backings, power states and the storage requests of the
mailbox (12 R402 to R414, 10 R331 to R333, 11 R379). -/

namespace Sys2Proof.Machine

/-! ### Bulk queues (R407 to R409) -/

/-- BULK_DOORBELL (R407, R291). -/
def execBulkDoorbell (port : Fin 2) (inst : B2) (doorbell : Fin 16) (posted : B4) (s : State) :
    Host.Outcome State Fault Refusal :=
  .next (doorbellWrite s port inst (0x0A00 + 4 * doorbell.val) posted fun s =>
    touchCtx (s.modStor fun k => { k with bulk := k.bulk.modify (bulkKey inst doorbell.val) fun b =>
      { b with posted := posted } }) (cxBulk inst doorbell.val))

/-- The queue's next command is fetched now. -/
def bulkFetches (s : State) (inst db : Nat) : Bool :=
  match s.stor.bulk.get? (bulkKey inst db) with
  | none => false
  | some b => s.on && s.quick && functionFetches s inst && decide (wrap32 b.posted ≠ b.fetched) &&
      resident s (cxBulk inst db) && mayFetch s (instOwner s inst)

/-- The operation that a bulk command describes. -/
def bulkOp (s : State) (inst db index : Nat) (kind : IoKind) (c : BulkCmd) : IoOp :=
  { kind := kind, inst := inst, bulk := true, queue := bulkKey inst db, id := index, hostTag := c.tag, nsid := c.nsid,
    slba := c.slba, nlb := c.nlb, space := c.space, operand := c.operand, ordered := bitOf c.flags 0,
    pipe := if kind = .fill ∨ kind = .copy then 6 else ((s.stor.spaces.get? c.nsid).map Namespace.pipe).getD 6,
    buffers := [(c.addr, if kind = .fill ∨ kind = .copy then c.len else 512 * c.nlb)],
    missing := if (kind = .write) ∧ c.space = 1 then 512 * c.nlb else 0,
    gen := ((s.insts.get? inst).map Instance.gen).getD 0 }

/-- A bulk command is fetched, and completed with a status at once or begun (R408). -/
def bulkCmd (s : State) (inst db : Nat) (kind : IoKind) (c : BulkCmd) (check : State → Option (IoResult × State)) : State :=
  if !bulkFetches s inst db then s
  else
    let key := bulkKey inst db
    let index := ((s.stor.bulk.get? key).map BulkQueue.fetched).getD 0
    let s1 := touchCtx (s.modStor fun k => { k with bulk := k.bulk.modify key fun b =>
      { b with fetched := wrap32 (b.fetched + 1) } }) (cxBulk inst db)
    if c.bad || decide (2 ≤ c.flags) then completeBulk s1 key index IoResult.invalid.bulk c.tag
    else match check s1 with
      | some (r, s2) => completeBulk s2 key index r.bulk c.tag
      | none => beginIo s1 (bulkOp s1 inst db index kind c)

/-- What stops a command on blocks at its fetch (R408): a field out of range, an NSID not reached, blocks beyond SIZE, a
plot-space buffer not reached. -/
def blockCheck (inst : Nat) (c : BulkCmd) (buffer write : Bool) (s : State) : Option (IoResult × State) :=
  let o := instOwner s inst
  let len := 512 * c.nlb
  if c.nlb < 1 ∨ 2097152 < c.nlb then some (.invalid, s)
  else if buffer && !(decide (c.space = 1 ∧ c.addr % 4 = 0) || decide (c.space = 2 ∧ c.addr % 32 = 0)) then some (.invalid, s)
  else match attachedNs s inst c.nsid with
    | none => if c.nsid = 0 ∨ 4096 < c.nsid then some (.invalid, s) else some (.ok, nsViolation s inst c.nsid)
    | some n =>
      if n.size < c.slba + c.nlb then some (.invalid, s)
      else if buffer && decide (c.space = 2) && (!translates s o c.addr len || (!write && guarded s o c.addr len)) then
        some (.ok, violation s c.addr (mkTag o inst) (if write then 1 else 2) len 0xFFF 0xFFFF)
      else none

def execBulkRead (inst : B2) (doorbell : Fin 16) (c : BulkCmd) (s : State) : Host.Outcome State Fault Refusal :=
  .next (bulkCmd s inst doorbell.val .read c (blockCheck inst c true false))

def execBulkWrite (inst : B2) (doorbell : Fin 16) (c : BulkCmd) (s : State) : Host.Outcome State Fault Refusal :=
  .next (bulkCmd s inst doorbell.val .write c (blockCheck inst c true true))

def execBulkWriteZeroes (inst : B2) (doorbell : Fin 16) (c : BulkCmd) (s : State) : Host.Outcome State Fault Refusal :=
  .next (bulkCmd s inst doorbell.val .writeZeroes c (blockCheck inst c false true))

/-- FLUSH accepts NSID 0xFFFF_FFFF and behaves as ORDERED (R408, R409). -/
def execBulkFlush (inst : B2) (doorbell : Fin 16) (c : BulkCmd) (s : State) : Host.Outcome State Fault Refusal :=
  .next (bulkCmd s inst doorbell.val .flush c fun s =>
    if c.nsid = 0xFFFFFFFF then none
    else if c.nsid = 0 ∨ 4096 < c.nsid then some (.invalid, s)
    else if (attachedNs s inst c.nsid).isNone then some (.ok, nsViolation s inst c.nsid)
    else none)

def execBulkFill (inst : B2) (doorbell : Fin 16) (c : BulkCmd) (s : State) : Host.Outcome State Fault Refusal :=
  .next (bulkCmd s inst doorbell.val .fill c fun _ => none)

def execBulkCopy (inst : B2) (doorbell : Fin 16) (c : BulkCmd) (s : State) : Host.Outcome State Fault Refusal :=
  .next (bulkCmd s inst doorbell.val .copy c fun _ => none)

/-! ### Media answers and backings (R406) -/

/-- The result that a medium reports: 0 OK, 1 uncorrectable block, 2 write fault, 3 device fault. -/
def mediaResult (r : Nat) : IoResult := if r = 0 then .ok else if r = 1 then .source else if r = 2 then .write else .fault

/-- The data of a read from a medium, decrypted where the namespace says so (R404). -/
def unsealed (s : State) (o : IoOp) (data : Bytes) : Bytes :=
  match s.stor.spaces.get? o.nsid with
  | none => data
  | some n => match nsKey s n 1 with
    | .key k => xtsBlocks Config.xtsDecrypt k o.nlb o.slba (padTo (512 * o.nlb) data)
    | _ => padTo (512 * o.nlb) data

/-- STORAGE_COMPLETION (R406): a command sent to several media ends with the last of them, or with the first failure. -/
def execStorageCompletion (op : B2) (result : B1) (data : Bytes) (s : State) : Host.Outcome State Fault Refusal :=
  .next (if !s.on then s else match s.stor.ops.get? op with
    | none => s
    | some o =>
      if !o.started then s
      else if (o.kind = .flush ∨ o.kind = .deallocate) ∧ result = 0 ∧ 1 < o.nlb then
        s.modStor fun k => { k with ops := k.ops.set op { o with nlb := o.nlb - 1 } }
      else pumpIo (finishIo s op (mediaResult result) (unsealed s o data)))

/-- BACKING_WAIT_TIMEOUT (R406): 2 s have passed. -/
def execBackingWaitTimeout (op : B2) (s : State) : Host.Outcome State Fault Refusal :=
  .next (match (s.stor.ops.get? op).bind IoOp.waiting with
    | some t => if s.on && decide (t + 2000000000 ≤ s.lc) then pumpIo (finishIo s op .notReady []) else s
    | none => s)

/-- Commands that ran on a medium when it went away wait for it to return (R406). -/
def restartOn (s : State) (p : Namespace → Bool) : State :=
  s.modStor fun k => { k with
    ops := k.ops.mapV fun _ o =>
      match k.spaces.get? o.nsid with
      | some n => if o.started && p n then { o with started := false, waiting := some s.lc } else o
      | none => o }

/-- A storage root port's link goes down (R43, R406). -/
def storLinkDown (s : State) (p : Nat) : State :=
  if !(s.pipe p).link then s
  else restartOn (s.modPipe p fun k => { k with link := false, speed := 0, width := 0 })
    fun n => decide (n.backing = 1 ∧ n.port = p)
/-- STORAGE_LINK_DOWN (R406). -/
def execStorageLinkDown (port : Fin 4) (s : State) : Host.Outcome State Fault Refusal := .next (storLinkDown s port.val)

/-- The long operation of a FABRIC_TARGET_ADD. -/
def targetOp (s : State) (t : Nat) : Option Nat :=
  opWith s fun d => match d with | .fabricTarget k _ => decide (k = t) | _ => false

/-- BACKING_RECONNECT (R406, R379). -/
def execBackingReconnect (fabric : Bool) (index : B2) (up : Bool) (speed width : B1) (s : State) :
    Host.Outcome State Fault Refusal :=
  .next (if !s.on || !up then s
    else if fabric then
      if (s.stor.targets.get? index).isNone then s
      else
        let s1 := s.modStor fun k => { k with targets := k.targets.modify index fun t => { t with up := true } }
        pumpIo (match targetOp s1 index with
          | some n => finishOp s1 n OK (le 2 index ++ zeros 6)
          | none => s1)
    else if 4 ≤ index || !unitIn s (uStor index) || s.clk.down.contains 24 then s
    else pumpIo (s.modPipe index fun k => { k with link := true, speed := speed, width := width }))

/-- FABRIC_TARGET_TIMEOUT (R379): 10 s have passed without a connection. -/
def execFabricTargetTimeout (target : B2) (s : State) : Host.Outcome State Fault Refusal :=
  .next (match targetOp s target with
    | none => s
    | some n => match (s.longOps.get? n).map LongOp.data with
      | some (.fabricTarget _ since) =>
        if s.on && decide (since + 10000000000 ≤ s.lc) then
          finishOp (s.modStor fun k => { k with targets := k.targets.erase target }) n LINK_DOWN []
        else s
      | _ => s)

/-! ### Completions of host reads (R331 to R333) -/

/-- A host read's bytes reach the operation that needs them, which starts once every byte is there; those of a Bramble
transaction (65,536 + its tag) answer it. -/
def feedOp (s : State) (t off : Nat) (bs : Bytes) : State :=
  if 65536 ≤ t then s.emit (.bramble (t - 65536) bs)
  else pumpIo (s.modStor fun k => { k with ops := k.ops.modify t fun o =>
    { o with data := o.data.writeN off bs, missing := o.missing - bs.length } })

/-- A read ends in failure: its operation ends with it (R331, R332). -/
def failOp (s : State) (op : Option Nat) (r : IoResult) : State :=
  match op with
  | some t => pumpIo (finishIo s t r [])
  | none => s

/-- A late completion (R333): discarded, counted and logged; the tag is free once nothing is missing. -/
def lateCompletion (s : State) (p tag : Nat) (r : HostRead) (n : Nat) : State :=
  pumpReads (s.modPort p fun h =>
    { h with
      lateCount := sat32 h.lateCount 1
      aer := 0x10 :: h.aer
      reads := if r.missing ≤ n then h.reads.erase tag else h.reads.set tag { r with missing := r.missing - n } }) p

/-- A read that is whole hands its data over; until then its bytes are kept with it (R331). -/
def execHostCompletion (port : Fin 2) (tag : B2) (answer : HostData) (bytes : B4) (s : State) :
    Host.Outcome State Fault Refusal :=
  let p := port.val
  .next (match (s.port p).reads.get? tag with
    | none => s
    | some r =>
      if r.quarantined then lateCompletion s p tag r bytes
      else
        let free (s : State) : State := pumpReads (s.modPort p fun h => { h with reads := h.reads.erase tag }) p
        match answer with
        | .data bs =>
          let got := padTo (min bytes r.missing) bs
          let s1 := if r.missing ≤ bytes then free s
            else s.modPort p fun h => { h with reads := h.reads.set tag { r with missing := r.missing - bytes } }
          match r.op with
          | some t => if r.stale then s1 else feedOp s1 t (r.offset + (r.length - r.missing)) got
          | none => s1
        | .refused => failOp (free s) r.op .hostError
        | .poisoned => failOp (free s) r.op .hostPoison
        | .timeout => s)

/-- COMPLETION_TIMEOUT (R332). -/
def execCompletionTimeout (port : Fin 2) (tag : B2) (s : State) : Host.Outcome State Fault Refusal :=
  let p := port.val
  .next (match (s.port p).reads.get? tag with
    | none => s
    | some r =>
      if r.quarantined || decide (s.lc < r.issued + readTimeout (s.port p)) then s
      else failOp (s.modPort p fun h =>
        { h with
          reads := h.reads.set tag { r with quarantined := true, op := none }
          aer := 0x0E :: h.aer
          ctoCount := sat32 h.ctoCount 1 }) r.op .hostTimeout)

/-- TAG_QUARANTINE_EXPIRY (R333): twice the timeout has passed since the issue. -/
def execTagQuarantineExpiry (port : Fin 2) (tag : B2) (s : State) : Host.Outcome State Fault Refusal :=
  let p := port.val
  .next (match (s.port p).reads.get? tag with
    | none => s
    | some r =>
      if r.quarantined && decide (r.issued + 2 * readTimeout (s.port p) ≤ s.lc) then
        pumpReads (s.modPort p fun h => { h with reads := h.reads.erase tag }) p
      else s)

/-! ### Power states (R413, R414) -/

/-- The APST entry of a state: target and idle time in ms (R413). -/
def apstEntry (c : Controller) : Option (Nat × Nat) :=
  (c.apst[c.ps]?).bind fun e =>
    if c.features.getD 0x0C 0 % 2 = 1 ∧ bitsOf e 31 8 ≠ 0 ∧ c.ps < bitsOf e 7 3 ∧ bitsOf e 7 3 ≤ 4 then
      some (bitsOf e 7 3, bitsOf e 31 8) else none

/-- APST_TRANSITION (R413). -/
def execApstTransition (inst : B2) (s : State) : Host.Outcome State Fault Refusal :=
  .next (match apstEntry (s.ctrl inst) with
    | none => s
    | some (ps, ms) =>
      if !s.on || !(s.ctrl inst).rdy || decide (ioOutstanding s inst ≠ 0) ||
          decide (s.lc < (s.ctrl inst).idleSince + ms * 1000000) then s
      else updatePipes (s.modCtrl inst fun c => { c with ps := ps, idleSince := s.lc }))

/-- PIPELINE_HOLD_EXPIRY (R414): 1 ms after the last bulk-class work. -/
def execPipelineHoldExpiry (pipeline : Fin 4) (s : State) : Host.Outcome State Fault Refusal :=
  .next (match (s.pipe pipeline.val).bulkEnd with
    | none => s
    | some t =>
      if decide (s.lc < t + 1000000) || decide ((s.pipe pipeline.val).bulk ≠ 0) then s
      else updatePipes (s.modPipe pipeline.val fun k => { k with bulkEnd := none }))

/-! ### Requests (R379, R403, R407, R409) -/

/-- Two namespaces share blocks of one backing (R403). -/
def nsOverlap (a b : Namespace) : Bool :=
  decide (a.backing = b.backing ∧ a.port = b.port ∧ a.source = b.source ∧ a.target = b.target) &&
    (decide (a.backing ≠ 3) || decide (a.owner = b.owner)) &&
    (if a.backing = 3 then overlap a.base (512 * a.size) b.base (512 * b.size) else overlap a.base a.size b.base b.size)

/-- NAMESPACE_CREATE (R403). -/
def namespaceCreate (q : Req) (nsid owner backing port flags source target keySlot base size : Nat) (w : Who) (s : State) :
    Answer :=
  let o := ownerOr w owner
  let n : Namespace := { owner := o, backing := backing, port := port, encrypt := bitOf flags 0, source := source,
                         target := target, keySlot := keySlot, base := base, size := size }
  refuseOr [(q.bodyBad || ownerBad s w owner || decide (nsid < 1 ∨ 4096 < nsid ∨ backing < 1 ∨ 3 < backing ∨ 2 ≤ flags ∨
        size < 8 ∨ (backing = 1 ∧ 3 < port) ∨ (backing ≠ 1 ∧ port ≠ 0) ∨ (backing = 3 ∧ source ≠ 0) ∨
        (backing ≠ 2 ∧ target ≠ 0) ∨ (flags = 1 ∧ 16384 ≤ keySlot)) ||
      (decide (backing = 2) && (s.stor.targets.get? target).isNone) ||
      (decide (backing = 3) && (decide (base % 2 ^ 30 ≠ 0) || !translates s o base (512 * size))), INVALID),
    ((s.stor.spaces.get? nsid).isSome || s.stor.spaces.any fun _ m => nsOverlap n m, IN_USE)]
    (.ended ((if backing = 3 then zeroPlots s o base (512 * size) else s).modStor fun k =>
      { k with spaces := k.spaces.set nsid n }) OK [])

def execNamespaceCreate (q : Req) (nsid : B4) (owner backing port flags : B1) (source : B4) (target keySlot : B2)
    (base size : B8) (s : State) : Host.Outcome State Fault Refusal :=
  .next (serve q ⟨0x0701, 32, .operator, none, []⟩ (namespaceCreate q nsid owner backing port flags source target keySlot base size) s)

/-- NAMESPACE_DELETE (R379). -/
def namespaceDelete (q : Req) (nsid : Nat) (_ : Who) (s : State) : Answer :=
  match s.stor.spaces.get? nsid with
  | none => .refuse INVALID []
  | some n => refuseOr [(q.bodyBad, INVALID), (!n.attached.isEmpty, IN_USE)]
      (.ended (updatePipes ((if n.backing = 3 then zeroPlots s n.owner n.base (512 * n.size) else s).modStor fun k =>
        { k with spaces := k.spaces.erase nsid })) OK [])

def execNamespaceDelete (q : Req) (nsid : B4) (s : State) : Host.Outcome State Fault Refusal :=
  .next (serve q ⟨0x0702, 8, .operator, none, []⟩ (namespaceDelete q nsid) s)

/-- NAMESPACE_ATTACH (R379, R403). -/
def namespaceAttach (q : Req) (nsid inst : Nat) (_ : Who) (s : State) : Answer :=
  match s.stor.spaces.get? nsid, s.insts.get? inst with
  | some n, some i =>
    refuseOr [(decide (i.part ≠ n.owner), DENIED), (q.bodyBad, INVALID), (n.attached.contains inst, IN_USE)]
      (.ok (updatePipes (s.modStor fun k => { k with
        spaces := k.spaces.set nsid { n with attached := sortBy id (inst :: n.attached) } })))
  | _, _ => .refuse INVALID []

def execNamespaceAttach (q : Req) (nsid : B4) (inst : B2) (s : State) : Host.Outcome State Fault Refusal :=
  .next (serve q ⟨0x0703, 8, .operator, none, []⟩ (namespaceAttach q nsid inst) s)

/-- NAMESPACE_DETACH (R379): commands in flight complete, later ones are served as R405 states. -/
def namespaceDetach (q : Req) (nsid inst : Nat) (_ : Who) (s : State) : Answer :=
  match s.stor.spaces.get? nsid with
  | some n =>
    refuseOr [(q.bodyBad || !n.attached.contains inst, INVALID)]
      (.ok (updatePipes (s.modStor fun k => { k with
        spaces := k.spaces.set nsid { n with attached := n.attached.filter fun j => decide (j ≠ inst) } })))
  | none => .refuse INVALID []

def execNamespaceDetach (q : Req) (nsid : B4) (inst : B2) (s : State) : Host.Outcome State Fault Refusal :=
  .next (serve q ⟨0x0704, 8, .operator, none, []⟩ (namespaceDetach q nsid inst) s)

/-- FABRIC_TARGET_ADD (R379): it completes once the connection is made. -/
def fabricTargetAdd (q : Req) (port flags ownerEntry egressQueue dscp remoteIp localIp mac : Nat) (nqn : BufRef)
    (host : HostData) (w : Who) (s : State) : Answer :=
  let r := readBuf s w nqn host
  let cfg := le 1 port ++ le 1 flags ++ le 2 ownerEntry ++ le 2 egressQueue ++ le 1 dscp ++ zeros 1 ++ le 16 remoteIp ++
    le 16 localIp ++ le 6 mac ++ zeros 2
  refuseOr [(decide (bufStatus r = DENIED), DENIED),
    (q.bodyBad || decide (8 ≤ port ∨ 2 ≤ flags ∨ 1024 ≤ ownerEntry ∨ 16384 ≤ egressQueue ∨ 64 ≤ dscp ∨ nqn.len < 1 ∨
      223 < nqn.len) || refBad nqn 1, INVALID),
    (!bufOk r, bufStatus r), ((s.stor.targets.firstFree 65535 1).isNone, NO_RESOURCES)]
    (match s.stor.targets.firstFree 65535 1 with
     | some t => .later ACCEPTED (s.modStor fun k =>
         { k with targets := k.targets.set t { port := port, config := cfg, nqn := bufBytes r } }) (.fabricTarget t s.lc)
     | none => .refuse NO_RESOURCES [])

def execFabricTargetAdd (q : Req) (port flags : B1) (ownerEntry egressQueue : B2) (dscp : B1) (remoteIp localIp : B16)
    (nextHopMac : B8) (nqn : BufRef) (host : HostData) (s : State) : Host.Outcome State Fault Refusal :=
  .next (serve q ⟨0x0705, 64, .operator, some nqn, []⟩
    (fabricTargetAdd q port flags ownerEntry egressQueue dscp remoteIp localIp nextHopMac nqn host) s)

/-- STORAGE_POWER_POLICY (R379). -/
def storagePowerPolicy (q : Req) (p deepest : Nat) (_ : Who) (s : State) : Answer :=
  refuseOr [(q.bodyBad || decide (4 ≤ p ∨ 4 < deepest), INVALID)]
    (.ok (updatePipes (s.modPipe p fun k => { k with deepest := deepest })))

def execStoragePowerPolicy (q : Req) (pipeline deepest : B1) (s : State) : Host.Outcome State Fault Refusal :=
  .next (serve q ⟨0x0706, 8, .operator, none, []⟩ (storagePowerPolicy q pipeline deepest) s)

/-- STORAGE_QUERY's body for a pipeline (R379). -/
def pipeBody (s : State) (p : Nat) : Bytes :=
  let k := s.pipe p
  le 1 k.ps ++ le 1 (b2n k.link) ++ le 1 k.speed ++ le 1 k.width ++
    le 4 (s.stor.spaces.count fun _ n => decide (n.pipe = p)) ++ le 8 k.completed
/-- STORAGE_QUERY's body for a namespace (R379). -/
def nsBody (s : State) (nsid : Nat) (n : Namespace) : Bytes :=
  le 1 n.backing ++ le 1 (ownerByte n.owner) ++ le 1 n.port ++ le 1 (b2n n.encrypt) ++ le 4 nsid ++ le 8 n.size ++
    le 2 n.attached.length ++ le 1 (b2n (backingUp s n)) ++ zeros 13

/-- STORAGE_QUERY (R379). -/
def storageQuery (q : Req) (kind p nsid : Nat) (w : Who) (s : State) : Answer :=
  if kind = 1 then
    refuseOr [(!w.op, DENIED), (q.bodyBad || decide (6 ≤ p), INVALID)] (.done s (pipeBody s p))
  else match s.stor.spaces.get? nsid with
    | some n => refuseOr [(!mayActOn w n.owner, DENIED), (q.bodyBad || decide (kind ≠ 2), INVALID)] (.done s (nsBody s nsid n))
    | none => .refuse INVALID []

def execStorageQuery (q : Req) (kind pipeline : B1) (nsid : B4) (s : State) : Host.Outcome State Fault Refusal :=
  .next (serve q ⟨0x0707, 8, .opOrTenant, none, []⟩ (storageQuery q kind pipeline nsid) s)

/-- BULK_QUEUE_CREATE (R400, R407). -/
def bulkQueueCreate (q : Req) (db log2 vector sqAddr cqAddr : Nat) (w : Who) (s : State) : Answer :=
  let key := bulkKey w.inst db
  refuseOr [(q.bodyBad || decide (16 ≤ db ∨ log2 < 6 ∨ 16 < log2) ||
      (decide (vector ≠ 0xFF) && (instVector s w.inst vector).isNone), INVALID),
    ((s.stor.bulk.get? key).isSome, IN_USE), (!queueRoom s w.owner || !ctxRoom s, NO_RESOURCES)]
    (.ok (addCtx (s.modStor fun k => { k with bulk := k.bulk.set key { inst := w.inst, doorbell := db, log2 := log2, vector := vector, sqAddr := sqAddr, cqAddr := cqAddr } })
      (cxBulk w.inst db) w.owner w.port false))

def execBulkQueueCreate (q : Req) (doorbell log2 vector : B1) (sqAddr cqAddr : B8) (s : State) :
    Host.Outcome State Fault Refusal :=
  .next (serve q ⟨0x0740, 32, .tenant, none, []⟩ (bulkQueueCreate q doorbell log2 vector sqAddr cqAddr) s)

/-- A bulk queue's commands in flight end as aborted, with their completions (R409). -/
def abortBulk (s : State) (key : Nat) : State :=
  ((s.stor.ops.keep fun _ o => o.bulk && decide (o.queue = key)).map Prod.fst).foldl
    (fun s t => finishIo s t .aborted []) s

/-- BULK_QUEUE_DELETE (R409). -/
def bulkQueueDelete (q : Req) (db : Nat) (w : Who) (s : State) : Answer :=
  let key := bulkKey w.inst db
  refuseOr [(q.bodyBad || decide (16 ≤ db) || (s.stor.bulk.get? key).isNone, INVALID)]
    (.ended (pumpIo (dropCtx ((abortBulk s key).modStor fun k => { k with bulk := k.bulk.erase key }) (cxBulk w.inst db)))
      OK [])

def execBulkQueueDelete (q : Req) (doorbell : B1) (s : State) : Host.Outcome State Fault Refusal :=
  .next (serve q ⟨0x0741, 8, .tenant, none, []⟩ (bulkQueueDelete q doorbell) s)

end Sys2Proof.Machine
end

