-- ==== Sys2Proof/Machine/Launch.lean ====
section
/-! DEFINITION. Launch Tables: arming, changeover, due entries, late policies and counts (02 R51 to R62, 11 R371, R373). -/

namespace Sys2Proof.Machine

/-- Key of a slot: OWNER_KIND, UNIT, SLOT (R55, R371). -/
def slotKey (kind unit slot : Nat) : Nat := 65536 * kind + 256 * unit + slot

/-- The owner of a slot (R62). -/
def slotOwner (s : State) (key : Nat) : Owner :=
  ((s.link.streams.find? fun e => decide (e.2.launch = some key)).map fun e => e.2.owner).getD 16

/-! ### Tables (R56, R57) -/

/-- One entry as its 16 bytes spell it. -/
def parseEntry (b : Bytes) : LaunchEntry :=
  { offset := fieldAt b 0 8, action := fieldAt b 8 2, policy := fieldAt b 10 1, arg := fieldAt b 12 4 }
/-- A table as its bytes spell it. -/
def parseTable (b : Bytes) : LaunchTable :=
  { base := fieldAt b 0 8, period := fieldAt b 8 8, latePolicy := fieldAt b 18 1, rollForward := bitOf (fieldAt b 19 1) 0,
    kind := fieldAt b 20 4, entries := (chunks 16 (fieldAt b 16 2) (b.drop 32)).map parseEntry }

/-- OFFSET values rise strictly and stay below PERIOD in a cyclic table. -/
def offsetsOk (period : Nat) : List LaunchEntry → Bool
  | [] => true
  | [e] => decide (period = 0 ∨ e.offset < period)
  | e :: f :: l => decide (e.offset < f.offset) && offsetsOk period (f :: l)

/-- The action codes and arguments that an owner runs (R292, R457, R299, R531). -/
def actionOk (kind : Nat) (e : LaunchEntry) : Bool :=
  if kind = 1 then decide (e.action = 1 ∧ e.arg < 0x10000)
  else if kind = 2 then decide (e.action = 1 ∧ e.arg ≤ 1)
  else if kind = 3 then decide (e.action = 1)
  else if kind = 4 then
    if e.action = 1 then decide (e.arg < 0x10000 ∧ e.arg % 256 < 4)
    else if e.action = 2 then decide (e.arg = 0)
    else decide (e.action = 3 ∧ e.arg < 0x1000)
  else true

/-- A table that R56, R57 and its owner admit. -/
def tableOk (kind len : Nat) (b : Bytes) : Bool :=
  let t := parseTable b
  let n := fieldAt b 16 2
  decide (1 ≤ n ∧ n ≤ 256 ∧ len = 32 + 16 * n) && decide (t.period = 0 ∨ (64 ≤ t.period ∧ t.period ≤ 2 ^ 40)) &&
    (decide (kind = 5) || decide (t.latePolicy ≤ 2)) && decide (fieldAt b 19 1 < 2) && decide (t.kind = kind) &&
    decide (fieldAt b 24 8 = 0) &&
    ((chunks 16 n (b.drop 32)).all fun e => decide (fieldAt e 11 1 = 0)) &&
    (t.entries.all fun e => decide (e.policy ≤ (if kind = 5 then 4 else 3)) && actionOk kind e) && offsetsOk t.period t.entries

/-! ### Changeover and due entries (R57 to R61) -/

/-- BASE after a changeover (R59). -/
def rollBase (t : LaunchTable) (at_ : Nat) : Nat :=
  if t.rollForward ∧ 0 < t.period ∧ t.base < at_ then t.base + (at_ - t.base + t.period - 1) / t.period * t.period
  else t.base
/-- The current cycle at a changeover (R59). -/
def currentCycle (t : LaunchTable) (at_ : Nat) : Nat := if t.period = 0 then 0 else (at_ - t.base) / t.period

/-- The staged table becomes active (R58, R59): the entries of the current cycle that are due already come first, and are
late; entries of earlier cycles are passed over. -/
def takeOver (sl : LaunchSlot) : LaunchSlot :=
  match sl.staged with
  | none => sl
  | some t =>
    let t1 := { t with base := rollBase t sl.changeover }
    { sl with active := some t1, staged := none, changeover := 0, halted := false, index := 0,
              cycle := currentCycle t1 sl.changeover }

/-- The next entry of the active table and its due time (R57). -/
def launchNext (sl : LaunchSlot) : Option (Nat × LaunchEntry) :=
  match sl.active with
  | none => none
  | some t => if sl.halted then none else (t.entries[sl.index]?).map fun e => (t.base + sl.cycle * t.period + e.offset, e)

/-- The entry after the next one. -/
def launchAdvance (sl : LaunchSlot) : LaunchSlot :=
  match sl.active with
  | none => sl
  | some t =>
    if sl.index + 1 = t.entries.length ∧ 0 < t.period then { sl with index := 0, cycle := sl.cycle + 1 }
    else { sl with index := sl.index + 1 }

/-- The late policy of an entry: 0 RUN_LATE, 1 SKIP, 2 HALT, 3 SLIP (R56, R61). -/
def policyOf (sl : LaunchSlot) (e : LaunchEntry) : Nat :=
  if e.policy = 0 then (sl.active.map LaunchTable.latePolicy).getD 0 else e.policy - 1

/-- HALT: the table is idle until the next changeover, and its owner is told (R61). -/
def launchHalt (s : State) (key index : Nat) : State :=
  sendEvent (s.modSlot key fun l => { l with halted := true }) (.only (slotOwner s key)) 0x01F3
    (key / 65536 + 256 * (key / 256 % 256) + 65536 * (key % 256)) 0 index

/-- A late entry is counted (R61, R62). -/
def countLate (s : State) (key : Nat) : State := s.modSlot key fun l => { l with late := sat32 l.late 1 }
/-- A skipped entry is counted (R61, R62). -/
def countSkip (s : State) (key : Nat) : State := s.modSlot key fun l => { l with skip := sat32 l.skip 1 }

/-- The due entry of a slot that `want` accepts runs on time, or follows its late policy (R51, R61); `slack` is the bound
of R51. A slot without such an entry stays as it is. -/
def launchRun (s : State) (key slack : Nat) (want : LaunchEntry → Bool) (run : Nat → LaunchEntry → State → State) : State :=
  match launchNext (s.slot key) with
  | none => s
  | some (due, e) =>
    if s.lc < due || !want e then s
    else
      let s1 := s.modSlot key launchAdvance
      if s.lc ≤ due + slack then run due e s1
      else match policyOf (s.slot key) e with
        | 0 => run due e (countLate s1 key)
        | 1 => countSkip s1 key
        | _ => launchHalt s1 key (s.slot key).index

/-- LAUNCH_CHANGEOVER (R58, R59). -/
def execLaunchChangeover (kind unit slot : B1) (s : State) : Host.Outcome State Fault Refusal :=
  .next (let key := slotKey kind unit slot
    if (s.slot key).staged.isNone ∨ s.lc < (s.slot key).changeover then s else s.modSlot key takeOver)

/-- The slot exists, and Ialdo may name it (R55, R371). -/
def slotNamed (kind unit slot : Nat) : Bool :=
  if kind = 1 then decide (unit < 2 ∧ slot < 64)
  else if kind = 2 then decide (unit < 8 ∧ slot = 0)
  else decide ((kind = 3 ∨ kind = 4) ∧ unit < 2 ∧ slot = 0)

/-- LAUNCH_ARM's own statement (R371, R58, R60). -/
def launchArm (q : Req) (changeover kind unit slot : Nat) (table : BufRef) (host : HostData) (w : Who) (s0 : State) : Answer :=
  let key := slotKey kind unit slot
  let s := if (s0.slot key).staged.isSome ∧ (s0.slot key).changeover ≤ s0.lc then s0.modSlot key takeOver else s0
  let r := readBuf s w table host
  let replaced := b2n (s.slot key).staged.isSome
  refuseOr [(slotNamed kind unit slot && !mayActOn w (slotOwner s key), DENIED),
    (q.bodyBad || !slotNamed kind unit slot || decide ((changeover = 0) ≠ (table.len = 0)), INVALID)]
    (if table.len = 0 then
      .done (s.modSlot key fun l => { l with staged := none, changeover := 0 }) (le 1 replaced ++ zeros 7)
    else refuseOr [(refBad table 48, INVALID), (!bufOk r, bufStatus r), (!tableOk kind table.len (bufBytes r), INVALID),
        (decide (changeover < s.lc + 10000), TIME_PASSED)]
      (.done (s.modSlot key fun l => { l with staged := some (parseTable (bufBytes r)), changeover := changeover })
        (le 1 replaced ++ zeros 7)))

def execLaunchArm (q : Req) (changeover : B8) (kind unit slot : B1) (table : BufRef) (host : HostData) (s : State) :
    Host.Outcome State Fault Refusal :=
  .next (serve q ⟨0x0140, 32, .opOrTenant, some table, []⟩ (launchArm q changeover kind unit slot table host) s)

/-- LAUNCH_COUNTS's own statement (R62, R373). -/
def launchCounts (q : Req) (kind unit slot flags : Nat) (w : Who) (s : State) : Answer :=
  let key := slotKey kind unit slot
  let l := s.slot key
  refuseOr [(slotNamed kind unit slot && !mayActOn w (slotOwner s key), DENIED),
    (q.bodyBad || !slotNamed kind unit slot || decide (2 ≤ flags), INVALID)]
    (.done (if flags = 1 then s.modSlot key fun l => { l with late := 0, skip := 0 } else s)
      (le 4 l.late ++ le 4 l.skip ++ le 1 (if l.active.isNone then 0 else if l.halted then 2 else 1)
        ++ le 1 (b2n l.staged.isSome) ++ zeros 6))

def execLaunchCounts (q : Req) (kind unit slot flags : B1) (s : State) : Host.Outcome State Fault Refusal :=
  .next (serve q ⟨0x0141, 8, .opOrTenant, none, []⟩ (launchCounts q kind unit slot flags) s)

end Sys2Proof.Machine
end

