-- ==== Sys2Proof/Machine/LinkOps.lean ====
section
/-! DEFINITION. Sending on a ZAL port: credits, the replay buffer and what waits (08 R254 to R268). -/

namespace Sys2Proof.Machine

/-- STATUS codes of the link (R267) that differ from those of R360. -/
def dfOK : Nat := 0
def dfABORTED : Nat := 1
def dfALREADY : Nat := 2
def dfNOSUCH : Nat := 3
def dfFAULT : Nat := 4
def dfPOISONED : Nat := 5
def dfTIMEOUT : Nat := 6
def dfLINKDOWN : Nat := 7
def dfINVALID : Nat := 8
def dfDECRYPT : Nat := 9
def dfDECOMPRESS : Nat := 0x0A
def dfLENGTH : Nat := 0x0B
def dfSOURCE : Nat := 0x0C
def dfSKIPPED : Nat := 0x0D

/-- Requester of a ZAL port's accelerator (R12, R263). -/
def reqZal (p : Nat) : Nat := 0x410 + p
/-- The tag of an accelerator's request (R263). -/
def zalTag (s : State) (p : Nat) : Nat := mkTag (s.zal p).owner (reqZal p)

/-- Cells that the device advertises on a channel (R262). -/
def advertised (vc : Nat) : Nat := if vc = 0 then 2048 else if vc = 1 then 2048 else if vc = 2 then 4096 else 256
/-- Cells of a message's data (R266). -/
def cellsOf (m : ZalMsg) : Nat := (m.data.length + 15) / 16
/-- Credits that a message takes (R264). -/
def cost (m : ZalMsg) : Nat := 1 + cellsOf m
/-- Flits that a message takes: each message starts in a new flit. -/
def flitsOf (t : ZalTx) : Nat := if t.vc < 4 ∧ 29 < cost t.msg then 2 else 1
/-- A non-posted request of the device (R267, R280). -/
def nonPosted (t : ZalTx) : Bool := decide ((t.vc = 2 ∧ t.msg.op = 0x11) ∨ (t.vc = 0 ∧ t.msg.op = 0x05))
/-- Requests of the device outstanding (R268, R280): a timed-out one no longer is. -/
def devWaiting (z : ZalPort) : Nat := z.devOut.count fun _ r => !r.timedOut

/-- The message or record may be sent now (R258, R264, R268). -/
def canSend (z : ZalPort) (t : ZalTx) : Bool :=
  decide (z.link = .up) && decide (z.unacked.length + flitsOf t ≤ 512) &&
    (decide (t.vc = 4) || (z.inService && decide (cost t.msg ≤ z.credits.getD t.vc 0))) &&
    (!nonPosted t || decide (devWaiting z < min 4096 z.peerLimit))

/-- The DRAFT of a stream has left the port (R283). -/
def draftSent (s : State) (p : Nat) (m : ZalMsg) : State :=
  { s with sessions := s.sessions.mapV fun _ y =>
      if y.params.speculative ∧ y.params.verifier = p ∧ y.params.streamId = fieldAt m.data 0 4 then
        { y with awaited := y.awaited.map fun a => { a with sentAt := a.sentAt.getD s.lc } }
      else y }

/-- Lanes that a map names; a narrow map names fewer than 10 (R262). -/
def mapLanes (m : Nat) : List Nat := ((List.range 10).map fun i => bitsOf m (4 * i + 3) (4 * i)).filter fun l => decide (l ≠ 15)
/-- The direction runs on 8 lanes (R293). -/
def narrow (m : Nat) : Bool := decide ((mapLanes m).length < 10)

/-- What leaving the port does to the port: sequence numbers, replay buffer, credits, requests, maps. -/
def sentPort (lc : Nat) (t : ZalTx) (z : ZalPort) : ZalPort :=
  let z1 := { z with
    unacked := z.unacked ++ (List.range (flitsOf t)).map fun k => (z.txSeq + k) % 4096
    txSeq := (z.txSeq + flitsOf t) % 4096
    ackAt := if z.unacked.isEmpty then lc else z.ackAt }
  if t.vc = 4 then
    if t.msg.op = 3 then
      { z1 with txMap := z.txNext.getD z.txMap, txNarrow := narrow (z.txNext.getD z.txMap), txNext := none }
    else if t.msg.op = 1 then { z1 with initSent := true }
    else z1
  else
    let z2 := { z1 with credits := z.credits.set t.vc (z.credits.getD t.vc 0 - cost t.msg) }
    if nonPosted t then { z2 with
      devOut := z2.devOut.set t.msg.tag
        { issued := lc, timeout := z.timeout, op := t.op, flush := decide (t.msg.op = 0x11), timedOut := false } }
    else if t.vc = 1 ∧ (t.msg.op ≠ 0x08 ∨ t.msg.last = true) then
      { z2 with accOut := z2.accOut.erase (16 * t.msg.tag + t.msg.gen) }
    else z2

/-- The message or record leaves the port. -/
def putTx (s : State) (p : Nat) (t : ZalTx) : State :=
  let s1 := s.modZal p (sentPort s.lc t)
  if t.vc = 4 then s1.emit (.zalControl p t.msg.op t.msg.addr)
  else
    let s2 := s1.emit (.zal p t.vc t.msg)
    if t.vc = 3 then draftSent s2 p t.msg else s2

/-- What waits is sent in order on each channel; the first that must wait holds its channel. -/
def pumpList (p : Nat) : List ZalTx → List Nat → State → List ZalTx × State
  | [], _, s => ([], s)
  | t :: l, blocked, s =>
    if blocked.contains t.vc || !canSend (s.zal p) t then
      match pumpList p l (t.vc :: blocked) s with
      | (r, s') => (t :: r, s')
    else pumpList p l blocked (putTx s p t)

/-- The port sends what it may. -/
def pumpTx (s : State) (p : Nat) : State :=
  match pumpList p (s.zal p).txWait [] (s.modZal p fun z => { z with txWait := [] }) with
  | (l, s') => s'.modZal p fun z => { z with txWait := l }

/-- A message or record is handed to the port; one for a port out of service is discarded (R282). -/
def zalSend (s : State) (p : Nat) (t : ZalTx) : State :=
  if t.vc ≠ 4 ∧ (s.zal p).inService = false then s
  else pumpTx (s.modZal p fun z => { z with txWait := z.txWait ++ [t] }) p

/-- A response to a request of the accelerator. -/
def zalReply (s : State) (p op tag gen status aux addr : Nat) (last : Bool) (data : Bytes) : State :=
  zalSend s p { vc := 1, msg := { op := op, gen := gen, last := last, status := status, tag := tag, aux := aux, addr := addr,
                                  data := data } }

/-- A protocol error is counted (R268). -/
def zalError (s : State) (p : Nat) : State := s.modZal p fun z => { z with protocolErrors := sat32 z.protocolErrors 1 }

/-- The first tag from `k` up that no request of the device has outstanding (R268, R280). -/
def devTag (z : ZalPort) (k : Nat) : Nat := (z.devOut.firstFree 65536 k).getD 0

/-! ### A message arrives (R264, R268) -/

/-- Credits come back as the message's buffer is freed; REQ credits are withheld while the owner's partition holds its
full tracker quota (R23, R264) or is being reset (R516). -/
def returnCredits (s : State) (p vc : Nat) : State :=
  if vc = 0 ∧ (mayFetch s (s.zal p).owner = false ∨ partResetting s (s.zal p).owner = true) then s
  else s.modZal p fun z => { z with granted := z.granted.set vc (advertised vc) }

/-- What the accelerator's message is on the wire. -/
def msgOf (op : Nat) (m : ZalReq) : ZalMsg :=
  { op := op, gen := m.gen.toNat, status := m.status, tag := m.tag, aux := m.aux, addr := m.addr, data := m.data }

/-- A message of the accelerator reaches the port on channel `vc`: one with more cells than it has credits does not
come; a malformed one is counted; a request takes a place, unless it is beyond the limit or its tag is outstanding. -/
def arrive (s : State) (p vc op cells : Nat) (m : ZalReq) (bad : Bool) (f : State → State) : State :=
  let z := (returnCredits s p vc).zal p
  if !z.inService || decide (z.granted.getD vc 0 < 1 + m.cells) then s
  else if vc = 0 ∧ op ≠ 0x05 ∧ mayFetch s z.owner = false then s
  else
    let s1 := returnCredits (s.modZal p fun z =>
      { z with granted := z.granted.set vc (z.granted.getD vc 0 - (1 + m.cells)) }) p vc
    if bad || m.bad || decide (m.cells ≠ cells) then zalError s1 p
    else if vc = 0 then
      if 4096 ≤ z.accOut.length ∨ (z.accOut.get? (16 * m.tag + m.gen.toNat)).isSome then zalError s1 p
      else f (s1.modZal p fun z => { z with
        accDone := z.accDone.erase m.tag
        accOut := z.accOut.set (16 * m.tag + m.gen.toNat) { msg := msgOf op m, copy := z.copy, op := none } })
    else f s1

end Sys2Proof.Machine
end

