-- ==== Sys2Proof/Machine/Crc.lean ====
section
/-! DEFINITION. The checksums that the spec defines: the CRC-64 of R255 and R303, and Ethernet's CRC-32 (13 R416). -/

namespace Sys2Proof.Machine

/-- `f` applied `n` times. -/
def times {α : Type} (f : α → α) : Nat → α → α
  | 0, a => a
  | n + 1, a => times f n (f a)

/-- One bit of the CRC-64 register, most significant bit first (R255). -/
def crc64Bit (c : Nat) : Nat :=
  if c.testBit 63 then (2 * c % 2 ^ 64) ^^^ 0x42F0E1EBA9EA3693 else 2 * c % 2 ^ 64
/-- The register after bytes. -/
def crc64Run (c : Nat) (bs : Bytes) : Nat := bs.foldl (fun c b => times crc64Bit 8 (c ^^^ b.toNat * 2 ^ 56)) c
/-- The register before the first byte: all ones; also its final XOR. -/
def crc64Init : Nat := 0xFFFF_FFFF_FFFF_FFFF
/-- CRC-64 of bytes (R255). -/
def crc64 (bs : Bytes) : Nat := crc64Run crc64Init bs ^^^ crc64Init

/-- One bit of the CRC-32 register of IEEE 802.3, least significant bit first (PRESUMED: R416 names the standard). -/
def crc32Bit (c : Nat) : Nat := if c.testBit 0 then (c / 2) ^^^ 0xEDB88320 else c / 2
/-- The frame check sequence of a frame (R416). -/
def crc32 (bs : Bytes) : Nat :=
  bs.foldl (fun c b => times crc32Bit 8 (c ^^^ b.toNat)) 0xFFFFFFFF ^^^ 0xFFFFFFFF

end Sys2Proof.Machine
end

