-- ==== Sys2Proof/Machine/Frame.lean ====
section
/-! DEFINITION. Ethernet frames: tags, the form of 13 R416, its checksums, and their insertion on transmit (R439). -/

namespace Sys2Proof.Machine

/-- The `n` bytes of a number, most significant first (wire order). -/
def be (n v : Nat) : Bytes := (le n v).reverse
/-- The field of `n` bytes at `off`, most significant first. -/
def beAt (d : Bytes) (off n : Nat) : Nat := ofLe ((d.drop off).take n).reverse

/-- A VLAN tag stands at `off` (R415: 802.1Q or 802.1ad). -/
def tagAt (d : Bytes) (off : Nat) : Bool := decide (beAt d off 2 = 0x8100 ∨ beAt d off 2 = 0x88A8)
/-- VLAN tags in front of the EtherType, at most two. -/
def tagsOf (d : Bytes) : Nat := if tagAt d 12 then (if tagAt d 16 then 2 else 1) else 0
/-- Outer tag control information, 0 where untagged. -/
def outerTci (d : Bytes) : Nat := if tagAt d 12 then beAt d 14 2 else 0
/-- Outer VID; 0 stands for untagged and priority-tagged frames (R419). -/
def outerVid (d : Bytes) : Nat := outerTci d % 4096
/-- Priority: the PCP of the outer tag (R417). -/
def framePrio (d : Bytes) : Nat := outerTci d / 2 ^ 13
/-- DEI of the outer tag. -/
def frameDei (d : Bytes) : Bool := bitOf (outerTci d) 12
/-- Destination and source MAC. -/
def dstMac (d : Bytes) : Bytes := d.take 6
def srcMac (d : Bytes) : Bytes := (d.drop 6).take 6
/-- EtherType behind the tags. -/
def etherType (d : Bytes) : Nat := beAt d (12 + 4 * tagsOf d) 2
/-- First byte behind the EtherType. -/
def l3At (d : Bytes) : Nat := 14 + 4 * tagsOf d

/-- What the form of R416 holds. -/
structure Form where
  /-- IPv6. -/
  v6 : Bool
  /-- offset of the IP header. -/
  l3 : Nat
  /-- offset of the TCP or UDP header. -/
  l4 : Nat
  /-- offset of the first byte behind the IP packet. -/
  stop : Nat
  /-- protocol: 6 or 17. -/
  proto : Nat
  src : Bytes
  dst : Bytes
  dscp : Nat
  /-- ECN bits. -/
  ecn : Nat
  deriving DecidableEq, Repr

/-- The form of R416: up to two tags, IPv4 without options or IPv6 without extension headers, TCP or UDP, no fragment. -/
def formOf (d : Bytes) : Option Form :=
  let l := l3At d
  if etherType d = 0x0800 ∧ beAt d l 1 = 0x45 ∧ beAt d (l + 6) 2 &&& 0x3FFF = 0 ∧ l + 28 ≤ d.length ∧
      (beAt d (l + 9) 1 = 6 ∨ beAt d (l + 9) 1 = 17) then
    some { v6 := false, l3 := l, l4 := l + 20, stop := l + beAt d (l + 2) 2, proto := beAt d (l + 9) 1,
           src := (d.drop (l + 12)).take 4, dst := (d.drop (l + 16)).take 4, dscp := beAt d (l + 1) 1 / 4,
           ecn := beAt d (l + 1) 1 % 4 }
  else if etherType d = 0x86DD ∧ beAt d l 1 / 16 = 6 ∧ l + 48 ≤ d.length ∧ (beAt d (l + 6) 1 = 6 ∨ beAt d (l + 6) 1 = 17) then
    some { v6 := true, l3 := l, l4 := l + 40, stop := l + 40 + beAt d (l + 4) 2, proto := beAt d (l + 6) 1,
           src := (d.drop (l + 8)).take 16, dst := (d.drop (l + 24)).take 16, dscp := beAt d l 2 / 64 % 64,
           ecn := beAt d l 2 / 16 % 4 }
  else none

/-- The sum of big-endian 16-bit words; an odd last byte is the high half of its word. -/
def sum16 : Bytes → Nat
  | [] => 0
  | [a] => 256 * a.toNat
  | a :: b :: l => 256 * a.toNat + b.toNat + sum16 l
/-- The ones' complement sum of a sum of words. -/
def ones (n : Nat) : Nat := if n = 0 then 0 else (n - 1) % 65535 + 1
/-- The Internet checksum of words whose plain sum is `n` (PRESUMED: RFC 1071). -/
def checksumOf (n : Nat) : Nat := 0xFFFF - ones n
/-- The pseudo-header's sum (PRESUMED: RFC 793, 768, 8200). -/
def pseudoSum (f : Form) : Nat := sum16 f.src + sum16 f.dst + f.proto + (f.stop - f.l4) % 65536 + (f.stop - f.l4) / 65536
/-- The TCP or UDP bytes. -/
def segment (d : Bytes) (f : Form) : Bytes := (d.drop f.l4).take (f.stop - f.l4)

/-- The IPv4 header checksum is right; an IPv6 header has none (DEDUCED: reads 0). -/
def ipv4Ok (d : Bytes) (f : Form) : Bool := !f.v6 && decide (ones (sum16 ((d.drop f.l3).take 20)) = 0xFFFF)
/-- The TCP or UDP checksum is right; a UDP checksum of 0 over IPv4 is none (PRESUMED: RFC 768). -/
def l4Ok (d : Bytes) (f : Form) : Bool :=
  decide (f.stop ≤ d.length) &&
    ((decide (f.proto = 17 ∧ beAt d (f.l4 + 6) 2 = 0) && !f.v6) ||
      decide (ones (pseudoSum f + sum16 (segment d f)) = 0xFFFF))
/-- FLAGS [2:0] of a delivery (R416, R438). -/
def csumFlags (d : Bytes) : Nat :=
  match formOf d with
  | none => 0
  | some f => 1 + 2 * b2n (ipv4Ok d f) + 4 * b2n (l4Ok d f)

/-- Bytes `bs` put at `off`. -/
def putAt (d : Bytes) (off : Nat) (bs : Bytes) : Bytes := d.take off ++ bs ++ d.drop (off + bs.length)

/-- The frame with its IPv4 header checksum inserted at an L3 offset; where no IPv4 header stands there, the result is open
(DESIGN CHOICE: a free value of the frame's length). -/
def insertIpv4 (d : Bytes) (l3 : Nat) : Bytes :=
  let n := 4 * (beAt d l3 1 % 16)
  if beAt d l3 1 / 16 = 4 ∧ 20 ≤ n ∧ l3 + n ≤ d.length then
    let z := putAt d (l3 + 10) (zeros 2)
    putAt z (l3 + 10) (be 2 (checksumOf (sum16 ((z.drop l3).take n))))
  else padTo d.length (Config.openFrame 0 l3 0 d)

/-- The header of an IP packet at an L3 offset, as the checksum of its TCP or UDP segment needs it. -/
def headerAt (d : Bytes) (l3 l4 : Nat) : Option Form :=
  let v := beAt d l3 1 / 16
  let p := if v = 4 then beAt d (l3 + 9) 1 else beAt d (l3 + 6) 1
  let stop := if v = 4 then l3 + beAt d (l3 + 2) 2 else l3 + 40 + beAt d (l3 + 4) 2
  if (v = 4 ∨ v = 6) ∧ (p = 6 ∨ p = 17) ∧ l3 + 20 ≤ l4 ∧ stop ≤ d.length ∧ l4 + (if p = 6 then 20 else 8) ≤ stop then
    some { v6 := decide (v = 6), l3 := l3, l4 := l4, stop := stop, proto := p, dscp := 0, ecn := 0,
           src := if v = 4 then (d.drop (l3 + 12)).take 4 else (d.drop (l3 + 8)).take 16,
           dst := if v = 4 then (d.drop (l3 + 16)).take 4 else (d.drop (l3 + 24)).take 16 }
  else none

/-- The frame with its TCP or UDP checksum inserted; where no such packet stands at the offsets, the result is open. -/
def insertL4 (d : Bytes) (l3 l4 : Nat) : Bytes :=
  match headerAt d l3 l4 with
  | none => padTo d.length (Config.openFrame 1 l3 l4 d)
  | some f =>
    let at_ := l4 + (if f.proto = 6 then 16 else 6)
    let z := putAt d at_ (zeros 2)
    let c := checksumOf (pseudoSum f + sum16 (segment z f))
    putAt z at_ (be 2 (if f.proto = 17 ∧ c = 0 then 0xFFFF else c))

end Sys2Proof.Machine
end

