-- ==== Sys2Proof/Machine/TmOps.lean ====
section
/-! DEFINITION. Egress queues, what enters and leaves them, and packet rings' completions (13 R436 to R440, 14 R444 to
R448, R456). -/

namespace Sys2Proof.Machine

/-- Requester of an Ethernet port's DMA (R12). -/
def reqEth (p : Nat) : Nat := 0x4C8 + p
/-- Counted length of a frame of `n` bytes, FCS included (R444). -/
def counted (s : State) (p n : Nat) : Nat := ((n : Int) + (s.eth p).overhead).toNat
/-- Bytes of a frame with its FCS. -/
def TxFrame.bytes (f : TxFrame) : Nat := f.data.length + 4
/-- Bytes that a queue holds. -/
def EgressQueue.held (q : EgressQueue) : Nat := (q.frames.map TxFrame.bytes).foldl (· + ·) 0
/-- Bytes that the egress buffer of a die holds (R446). -/
def egressHeld (s : State) (die : Nat) : Nat :=
  ((s.pkt.queues.keep fun _ q => decide (q.port / 4 = die)).map fun e => e.2.held).foldl (· + ·) 0
/-- Speed of a port in Gb/s. -/
def portRate (s : State) (p : Nat) : Nat :=
  match (s.eth p).speed with
  | 1 => 100
  | 2 => 200
  | 3 => 400
  | _ => 100

/-- `a / b`, rounded up. -/
def ceilDiv (a b : Nat) : Nat := (a + b - 1) / b

/-- The head frame of a queue is tagged (R448). -/
def tagHead (s : State) (n : Nat) : State :=
  s.modQueue n fun q =>
    match q.frames with
    | [] => q
    | f :: _ => { q with ftag := max ((s.eth q.port).vtime.getD q.cls 0) q.ftag + ceilDiv (counted s q.port f.bytes * 65536) q.weight }

/-- A frame is tail-dropped (R446). -/
def tailDrops (s : State) (n : Nat) (f : TxFrame) : Bool :=
  let q := s.queue n
  !q.enable || decide (1024 * q.limit < q.held + f.bytes) || decide (64 * 2 ^ 20 < egressHeld s (q.port / 4) + f.bytes)

/-- A frame enters a queue, and is tagged where it is the head; false where it is tail-dropped and counted (R446, R458). -/
def enqueue (s : State) (n : Nat) (f : TxFrame) : Bool × State :=
  if tailDrops s n f then
    (false, s.modQueue n fun q => { q with dropFrames := wrap64 q.dropFrames 1, dropBytes := wrap64 q.dropBytes f.bytes })
  else
    let s1 := s.modQueue n fun q => { q with
      frames := q.frames ++ [f], enqFrames := wrap64 q.enqFrames 1, enqBytes := wrap64 q.enqBytes f.bytes }
    (true, if (s.queue n).frames.isEmpty then tagHead s1 n else s1)

/-- The frame's source MAC and outer VID stand in a valid owner-table entry of the owner on the port (R440). -/
def sourceOk (s : State) (o : Owner) (p : Nat) (d : Bytes) : Bool :=
  s.pkt.owners.any fun k e => decide (k / 1024 = p ∧ e.owner = o ∧ e.mac = srcMac d ∧ e.vid = outerVid d)

/-- The frame may enter the queue as the owner's (R440). -/
def mayEnter (s : State) (o : Owner) (n : Nat) (d : Bytes) : Bool :=
  decide ((s.queue n).owner = o) && sourceOk s o (s.queue n).port d

/-! ### Packet rings -/

/-- Frames of a ring wait in an egress queue. -/
def ringBusy (s : State) (r : Nat) : Bool :=
  s.pkt.queues.any fun _ q => q.frames.any fun f => match f.origin with
    | .ring k _ _ _ => decide (k = r)
    | _ => false

/-- A packet ring ends, with its context, its held frames and its part as an exception ring. -/
def dropRing (s : State) (r : Nat) : State :=
  let s1 := (dropCtx s (cxRing r)).modPkt fun k =>
    { k with rings := k.rings.erase r, held := k.held.filter fun d => decide (d.1 ≠ r)
             excRings := k.excRings.keep fun _ x => decide (x ≠ r) }
  match (s.pkt.rings.get? r).bind PktRing.deleting with
  | some n => finishOp s1 n OK []
  | none => s1

/-- A RING_DELETE whose ring has drained completes (R436). -/
def settleRing (s : State) (r : Nat) : State :=
  if (((s.pkt.rings.get? r).bind PktRing.deleting).isSome && !ringBusy s r) then dropRing s r else s

/-- The port of a ring's instance. -/
def pktPort (s : State) (x : PktRing) : Nat := ((s.insts.get? x.inst).map Instance.port).getD 0

/-- Completion record n of a ring is written, SEQ last, and signalled (R291, R436). -/
def ringRecord (s : State) (r : Nat) (size : Nat) (body : Nat → Bytes) : State :=
  match s.pkt.rings.get? r with
  | none => s
  | some x =>
    let n := wrap64 x.completed 1
    let s1 := s.modPkt fun k => { k with rings := k.rings.set r { x with completed := n } }
    msixUnlessFF (hostWrite s1 (pktPort s x) x.inst (x.cqAddr + size * ((n + 2 ^ 64 - 1) % 2 ^ x.log2)) (body n))
      (pktPort s x) x.inst x.vector

/-- A TX completion entry (R439). -/
def txEntry (index status tag n : Nat) : Bytes := le 4 index ++ le 1 status ++ zeros 3 ++ le 4 tag ++ le 4 n

/-- The status of R360 that the tracker records for a TX frame's. -/
def txRecorded (st : Nat) : Nat :=
  if st = 0 then OK else if st = 1 then ABORTED else if st = 5 then POISONED else if st = 6 then TIMEOUT
  else if st = 0x0C then HOST_ERROR else if st = 0x0D then OK else INVALID

/-- A TX frame ends with a status of R267: its completion is recorded and, unless its ring is being deleted, written. -/
def txDone (s : State) (ring index tag op status : Nat) : State :=
  let s1 := recordDone s op (txRecorded status)
  settleRing (if ((s.pkt.rings.get? ring).bind PktRing.deleting).isSome then s1
    else ringRecord s1 ring 16 (txEntry index status tag)) ring

/-- What the origin of a frame that leaves or is dropped learns. -/
def originDone (s : State) (o : TxOrigin) (status : Nat) : State :=
  match o with
  | .ring r i t op => txDone s r i t op status
  | .roce _ => s

/-- The head frame of a queue leaves it; the next one is tagged. -/
def dequeue (s : State) (n : Nat) : State :=
  tagHead (s.modQueue n fun q => { q with frames := q.frames.drop 1 }) n

/-- The TX frames of an instance that are still queued end as aborted (R341, R20). -/
def stopTx (s : State) (inst : Nat) : State :=
  let mine := fun (f : TxFrame) => match f.origin with
    | .ring r _ _ _ => decide (((s.pkt.rings.get? r).map PktRing.inst) = some inst)
    | _ => false
  let hit := s.pkt.queues.flatMap fun e => e.2.frames.filter mine
  let heads := (s.pkt.queues.keep fun _ q => (q.frames.head?.map mine).getD false).map Prod.fst
  let s1 := s.modPkt fun k => { k with queues := k.queues.mapV fun _ q =>
    { q with frames := q.frames.filter fun f => !mine f } }
  hit.foldl (fun s f => originDone s f.origin 1) (heads.foldl tagHead s1)

end Sys2Proof.Machine
end

