-- ==== Sys2Proof/Machine/RoceOps.lean ====
section
/-! DEFINITION. Queue pairs of the RoCEv2 engine: packets, requests of direct feed, acknowledgement and errors (13 R441,
R442). Packet formats, syndromes and the ICRC are those of the InfiniBand Architecture Specification, which R441 names
(PRESUMED from there). -/

namespace Sys2Proof.Machine

/-- The queue pair changed, where it exists. -/
def State.modQp (s : State) (n : Nat) (f : Qp → Qp) : State := s.modPkt fun k => { k with qps := k.qps.modify n f }

/-! ### Packets -/

/-- Base transport header: opcode, pad count, BECN, destination QP, acknowledge request, PSN. -/
def bth (op pad : Nat) (becn : Bool) (dest : Nat) (ack : Bool) (psn : Nat) : Bytes :=
  be 1 op ++ be 1 (16 * pad) ++ be 2 0xFFFF ++ be 1 (64 * b2n becn) ++ be 3 dest ++ be 1 (128 * b2n ack) ++ be 3 psn
/-- RDMA extended transport header. -/
def reth (addr rkey len : Nat) : Bytes := be 8 addr ++ be 4 rkey ++ be 4 len
/-- Acknowledge extended transport header. -/
def aeth (syndrome msn : Nat) : Bytes := be 1 syndrome ++ be 3 msn

/-- IP and UDP headers around `n` bytes of transport packet, ICRC included, with the ECN mark ECT(0). -/
def ipUdp (q : Qp) (qpn n : Nat) : Bytes :=
  let udp := be 2 (0xC000 + qpn % 16384) ++ be 2 4791 ++ be 2 (8 + n) ++ be 2 0
  if bitOf q.flags 0 then
    be 4 (6 * 2 ^ 28 + (4 * q.dscp + 2) * 2 ^ 20) ++ be 2 (8 + n) ++ be 1 17 ++ be 1 64 ++ padTo 16 q.localIp
      ++ padTo 16 q.remoteIp ++ udp
  else
    let h := be 1 0x45 ++ be 1 (4 * q.dscp + 2) ++ be 2 (28 + n) ++ be 2 0 ++ be 2 0x4000 ++ be 1 64 ++ be 1 17 ++ be 2 0
      ++ padTo 4 q.localIp ++ padTo 4 q.remoteIp
    putAt h 10 (be 2 (checksumOf (sum16 h))) ++ udp

/-- The ICRC over a packet from its IP header to the end of its payload: variant fields count as ones. -/
def icrc (v6 : Bool) (ip : Bytes) : Bytes :=
  let l4 := if v6 then 40 else 20
  let m := if v6 then putAt (putAt ip 0 (be 4 (beAt ip 0 4 ||| 0x0FFFFFFF))) 7 (be 1 0xFF)
    else putAt (putAt (putAt ip 1 (be 1 0xFF)) 8 (be 1 0xFF)) 10 (be 2 0xFFFF)
  le 4 (crc32 (be 8 0xFFFFFFFFFFFFFFFF ++ putAt (putAt m (l4 + 6) (be 2 0xFFFF)) (l4 + 12) (be 1 0xFF)))

/-- The Ethernet frame of a transport packet (R441, R442): its VLAN tag carries the queue's class as PCP. -/
def roceFrame (s : State) (q : Qp) (qpn : Nat) (pkt : Bytes) : Bytes :=
  let e := (s.pkt.owners.get? (1024 * q.port + q.entry))
  let mac := (e.map OwnerEntry.mac).getD (zeros 6)
  let vid := (e.map OwnerEntry.vid).getD 0
  let ip := ipUdp q qpn (pkt.length + 4) ++ pkt
  let tag := if vid = 0 then [] else be 2 0x8100 ++ be 2 ((s.queue q.queue).cls * 2 ^ 13 + vid)
  let f := padTo 6 q.mac ++ padTo 6 mac ++ tag ++ be 2 (if bitOf q.flags 0 then 0x86DD else 0x0800) ++ ip
    ++ icrc (bitOf q.flags 0) ip
  padTo (max 60 f.length) f

/-- A packet of a queue pair goes to its egress queue; a frame that R440 bars is a violation and is not sent. -/
def roceSend (s : State) (qpn : Nat) (pkt : Bytes) : State :=
  match s.pkt.qps.get? qpn with
  | none => s
  | some q =>
    let f := roceFrame s q qpn pkt
    if mayEnter s q.owner q.queue f ∧ (s.queue q.queue).port = q.port then
      (enqueue s q.queue { data := f, origin := .roce qpn }).2
    else refViolation s (mkTag q.owner (reqEth q.port)) 6 q.queue (reqEth q.port) 0xFFFF

/-- Packets of the queue pair's MTU that `n` bytes take; at least one. -/
def Qp.packets (q : Qp) (n : Nat) : Nat := if q.mtu = 0 then 1 else max 1 (ceilDiv n q.mtu)
/-- A PSN `k` further on. -/
def psnAdd (p k : Nat) : Nat := (p + k) % 2 ^ 24
/-- How far PSN `a` lies behind PSN `b`. -/
def psnSub (b a : Nat) : Nat := (b + 2 ^ 24 - a % 2 ^ 24) % 2 ^ 24

/-! ### Requests of the device -/

/-- Packets of a READ's answer received whole. -/
def QpMsg.got (m : QpMsg) (mtu : Nat) : Nat := if mtu = 0 then 0 else m.data.length / mtu
/-- The READ request for what is still missing of a message. -/
def readRequest (q : Qp) (m : QpMsg) : Bytes :=
  bth 0x0C 0 false q.remoteQpn true (psnAdd m.psn (m.got q.mtu)) ++
    reth (m.addr + m.data.length) m.rkey (m.length - m.data.length)
/-- Requests are sent, in order: those not sent yet, or all (go-back-N). -/
def sendRequests (s : State) (qpn : Nat) (again : Bool) : State :=
  match s.pkt.qps.get? qpn with
  | none => s
  | some q =>
    let go := q.unacked.filter fun m => again || !m.sent
    if go.isEmpty then s
    else go.foldl (fun s m => roceSend s qpn (readRequest q m))
      (s.modQp qpn fun q => { q with ackSince := s.lc, unacked := q.unacked.map fun m => { m with sent := true } })

/-- A descriptor's fetch ends with a link status and bytes. -/
def fetchDone (s : State) (t status : Nat) (bs : Bytes) : State :=
  s.modLink fun l => { l with runs := l.runs.modify t fun r =>
    if r.stage = .fetching then { r with stage := .fetched status bs } else r }
/-- A message's operation ends. -/
def msgDone (s : State) (m : QpMsg) (status : Nat) (bs : Bytes) : State :=
  match m.op with
  | some t => fetchDone s t status bs
  | none => s

/-- A queue pair ends, with its context; a destroy that waited for it completes. -/
def dropQp (s : State) (n : Nat) : State :=
  finishOps (dropCtx (s.modPkt fun k => { k with qps := k.qps.erase n }) (cxQp n)) OK fun o => match o.data with
    | .qpDestroy k => decide (k = n)
    | _ => false
/-- An RDMA_QP_DESTROY whose queue pair serves no operation any more completes (R442). -/
def settleQp (s : State) (n : Nat) : State :=
  match s.pkt.qps.get? n with
  | some q => if q.deleting.isSome && !(q.unacked.any fun m => m.op.isSome) then dropQp s n else s
  | none => s

/-- The queue pair enters the error state: its operations in flight end with a link status (R442). -/
def qpError (s : State) (n status : Nat) : State :=
  match s.pkt.qps.get? n with
  | none => s
  | some q => settleQp (q.unacked.foldl (fun s m => msgDone s m status [])
      (s.modQp n fun q => { q with error := true, unacked := [], writing := none, receiving := [] })) n

/-- An RDMA READ on a queue pair for a descriptor (R287, R441). -/
def rdmaRead (s : State) (qpn addr rkey len op : Nat) : State :=
  match s.pkt.qps.get? qpn with
  | none => fetchDone s op 7 []
  | some q =>
    if q.error || q.deleting.isSome then fetchDone s op 7 []
    else
      let m : QpMsg := { psn := q.psn, psns := q.packets len, kind := 2, addr := addr, rkey := rkey, data := [], length := len,
                         op := some op, sent := false }
      let s1 := touchCtx (s.modQp qpn fun q => { q with psn := psnAdd q.psn m.psns, unacked := q.unacked ++ [m] }) (cxQp qpn)
      if resident s1 (cxQp qpn) then sendRequests s1 qpn false else s1

/-- An operation that has ended no longer waits for its READ. -/
def roceForget (s : State) (op : Nat) : State :=
  let hit := (s.pkt.qps.keep fun _ q => q.unacked.any fun m => decide (m.op = some op)).map Prod.fst
  hit.foldl (fun s n => settleQp (s.modQp n fun q =>
    { q with unacked := q.unacked.map fun m => if m.op = some op then { m with op := none } else m }) n) s

end Sys2Proof.Machine
end

