-- ==== Sys2Proof/Machine/Df.lean ====
section
/-! DEFINITION. Direct feed: streams, descriptors and their stages (08 R285 to R292, 11 R378). -/

namespace Sys2Proof.Machine

/-! ### Descriptors (R286) -/

/-- A descriptor as its 64 bytes spell it. -/
def parseDesc (b : Bytes) : Descriptor :=
  let k := fieldAt b 0 1
  { srcKind := k, cipher := fieldAt b 1 1, codec := fieldAt b 2 1, ordered := bitOf (fieldAt b 3 1) 0,
    timed := bitOf (fieldAt b 3 1) 1, keySlot := fieldAt b 4 2, dstPort := fieldAt b 6 1,
    src := if k = 2 then fieldAt b 8 8 else fieldAt b 8 4,
    src2 := if k = 2 then 0 else fieldAt b 12 4,
    src3 := if k = 2 then 0 else fieldAt b 16 8,
    bytes := if k = 2 then fieldAt b 16 4 else fieldAt b 24 4,
    dstAddr := fieldAt b 32 8, rowBytes := fieldAt b 40 4, rows := fieldAt b 44 4, stride := fieldAt b 48 8,
    burst := fieldAt b 60 2 }

/-- A field of the descriptor breaks the tables of R286. -/
def descMalformed (b : Bytes) : Bool :=
  let d := parseDesc b
  decide (d.srcKind < 1 ∨ 3 < d.srcKind ∨ 2 < d.cipher ∨ 1 < d.codec ∨ 4 ≤ fieldAt b 3 1 ∨ 16384 ≤ d.keySlot ∨
      8 ≤ d.dstPort ∨ fieldAt b 7 1 ≠ 0) ||
    decide (d.srcKind = 1 ∧ (fieldAt b 28 4 ≠ 0 ∨ 512 * d.src2 < d.bytes)) ||
    decide (d.srcKind = 2 ∧ (fieldAt b 20 4 ≠ 0 ∨ fieldAt b 24 8 ≠ 0)) ||
    decide (d.srcKind = 3 ∧ (fieldAt b 11 1 ≠ 0 ∨ fieldAt b 28 4 ≠ 0)) ||
    decide (d.dstAddr % 32 ≠ 0 ∨ d.rowBytes % 32 ≠ 0 ∨ d.rowBytes < 32 ∨ d.rows < 1 ∨ 2 ^ 30 < d.rowBytes * d.rows ∨
      d.stride % 32 ≠ 0 ∨ d.stride < d.rowBytes) ||
    decide (fieldAt b 56 4 ≠ 0 ∨ fieldAt b 62 2 ≠ 0)

/-- The descriptor completes with INVALID_ARGUMENT at once (R286). -/
def descBad (st : DfStream) (b : Bytes) : Bool :=
  let d := parseDesc b
  descMalformed b || decide (d.cipher = 1 ∧ d.srcKind ≠ 1) ||
    ((decide (d.cipher = 2) || d.timed) && st.staging.isNone)

/-- Tag of the direct-feed engine that serves a stream (R11, R12). -/
def feedReq (s : State) (st : DfStream) : Nat :=
  0x4D8 + (match st.port with | some p => p / 4 | none => ((s.insts.get? st.inst).map Instance.port).getD 0)
def feedTag (s : State) (st : DfStream) : Nat := mkTag st.owner (feedReq s st)

/-- The resource of a descriptor that its partition does not own: class, number and unit of the violation (R286, R563). -/
def descForeign (s : State) (st : DfStream) (d : Descriptor) : Option (Nat × Nat × Nat) :=
  let ns := s.stor.spaces.get? d.src
  let qp := s.pkt.qps.get? (d.src % 2 ^ 24)
  if d.srcKind = 1 ∧ (ns.map Namespace.owner) ≠ some st.owner then
    some (7, d.src, (ns.map fun n => if n.backing = 1 then 0x4C0 + n.port else 0xFFF).getD 0xFFF)
  else if d.srcKind = 3 ∧ (qp.map Qp.owner) ≠ some st.owner then
    some (8, d.src % 2 ^ 24, (qp.map fun q => 0x4C8 + q.port).getD 0xFFF)
  else if d.cipher ≠ 0 ∧ ((s.sec.slots.get? d.keySlot).map KeySlot.owner) ≠ some st.owner then some (3, d.keySlot, 0xFFF)
  else if (s.zal d.dstPort).owner ≠ st.owner then some (9, d.dstPort, 0x410 + d.dstPort)
  else none

/-! ### The end of a descriptor (R290, R291) -/

/-- The status of R360 that the tracker records for a link status. -/
def dfRecorded (st : Nat) : Nat :=
  if st = 0 then OK else if st = 1 then ABORTED else if st = 4 then DEVICE_FAULT else if st = 5 then POISONED
  else if st = 6 then TIMEOUT else if st = 7 then LINK_DOWN else if st = 9 then DECRYPT_FAIL else INVALID

/-- A completion record of an instance's ring is written, SEQ last, and signalled (R291, R378). -/
def dfRecord (s : State) (n : Nat) (st : DfStream) (index status written : Nat) : State :=
  let port := ((s.insts.get? st.inst).map Instance.port).getD 0
  let k := wrap32 (st.completed + 1)
  let s1 := s.modLink fun l => { l with streams := l.streams.set n { st with completed := k } }
  msixUnlessFF (hostWrite s1 port st.inst (st.cqAddr + 16 * ((k + 2 ^ 32 - 1) % 2 ^ st.log2))
    (le 4 index ++ le 1 status ++ zeros 3 ++ le 4 written ++ le 4 k)) port st.inst st.vector

/-- A port's descriptor is answered by DF_DONE, unless the link has gone DOWN since (R282, R290). -/
def dfDone (s : State) (p t : Nat) (r : DfRun) (status written : Nat) : State :=
  match (s.zal p).accOut.get? (16 * r.zalTag + r.zalGen) with
  | some a => if a.op = some t then
      zalReply (s.modZal p fun z => { z with accDone := z.accDone.set r.zalTag r.zalGen }) p 0x0B r.zalTag r.zalGen status 0
        written false []
    else s
  | none => s

/-- The streams that close end once their last fetched descriptor has (R378). -/
def dfClosed (s : State) (n : Nat) : State :=
  match s.link.streams.get? n with
  | some st =>
    if st.closing && !(s.link.runs.any fun _ r => decide (r.stream = n)) then
      match opWith s fun d => match d with | .dfClose k => decide (k = n) | _ => false with
      | some o => finishOp (dropCtx (s.modLink fun l => { l with streams := l.streams.erase n }) (cxStream n)) o OK []
      | none => dropCtx (s.modLink fun l => { l with streams := l.streams.erase n }) (cxStream n)
    else s
  | none => s

/-- A direct-feed engine's OPS_STARTED or OPS_COMPLETED (R522). -/
def bumpDf (s : State) (n : Nat) (o : Owner) (event : Nat) : State :=
  let die := ((s.ctxs.get? (cxStream n)).map Context.die).getD 0
  bump s (0x1A0 + die) event 1 { tag := some (mkTag o (0x4D8 + die)), kind := some 2 }

/-- A descriptor ends: its completion is recorded and reported, once. -/
def dfComplete (s : State) (t status written : Nat) : State :=
  match s.link.runs.get? t with
  | none => s
  | some r =>
    let g := (s.track t).gen
    let s1 := bumpDf (recordDone (roceForget (s.modLink fun l => { l with runs := l.runs.erase t }) t) t (dfRecorded status)) r.stream
      (s.track t).owner 0x03
    match s1.link.streams.get? r.stream with
    | none => s1
    | some st => dfClosed (match st.port with
      | some p => dfDone s1 p t r status written
      | none => dfRecord s1 r.stream { st with done := st.done.set r.index (t, g) } r.index status written) r.stream

/-! ### Fetch (R287, R27, R292) -/

/-- Output bytes of a descriptor. -/
def outBytes (d : Descriptor) : Nat := d.rowBytes * d.rows
/-- The descriptor has its place in the staging range. -/
def DfStage.holds : DfStage → Bool
  | .waiting => false
  | .flushing _ _ => false
  | _ => true
/-- Bytes of a stream's staging range that TIMED descriptors hold (R292). -/
def stagedBytes (s : State) (n : Nat) : Nat :=
  ((s.link.runs.keep fun _ r => decide (r.stream = n) && r.desc.timed && r.stage.holds).map
    fun e => outBytes e.2.desc).foldl (· + ·) 0
/-- A waiting descriptor may start: ORDERED, once every earlier one of its stream has completed (R27); TIMED, once the
staging range has room (R292). -/
def dfMayStart (s : State) (r : DfRun) : Bool :=
  decide (r.stage = .waiting) &&
    (!r.desc.ordered || !(s.link.runs.any fun _ e => decide (e.stream = r.stream ∧ e.index < r.index))) &&
    (!r.desc.timed || match (s.link.streams.get? r.stream).bind DfStream.staging with
      | some (_, len) => decide (stagedBytes s r.stream + outBytes r.desc ≤ len)
      | none => true)

/-- The descriptor's stage changes. -/
def dfStage (s : State) (t : Nat) (g : DfStage) : State :=
  s.modLink fun l => { l with runs := l.runs.modify t fun r => { r with stage := g } }

/-- A descriptor's fetch starts (R287): storage pipelines, the partition's plots, or RDMA READ. -/
def dfFetch (s : State) (t : Nat) (r : DfRun) (st : DfStream) : State :=
  let s1 := dfStage s t .fetching
  let d := r.desc
  if d.srcKind = 1 then
    match s.stor.spaces.get? d.src with
    | none => dfStage s1 t (.fetched dfSOURCE [])
    | some n =>
      if n.size < d.src3 + d.src2 then dfStage s1 t (.fetched dfSOURCE [])
      else pumpIo (bulkBegin (s1.modStor fun k => { k with
        ops := k.ops.set t { kind := .read, inst := feedReq s st, bulk := true, queue := r.stream, id := r.index,
                             nsid := d.src, slba := d.src3, nlb := d.src2, pipe := n.pipe, seq := k.nextSeq }
        nextSeq := k.nextSeq + 1 }) n.pipe)
  else if d.srcKind = 2 then
    match readPlot s1 st.owner d.src d.bytes with
    | .bytes bs => dfStage s1 t (.fetched dfOK bs)
    | .poisoned => dfStage (countPoison s1 st.owner d.src d.bytes POISONED) t (.fetched dfPOISONED [])
    | .violation => dfStage (violation s1 d.src (feedTag s st) 1 d.bytes 0xFFF 0xFFFF) t (.fetched dfOK (zeros d.bytes))
  else rdmaRead s1 (d.src % 2 ^ 24) d.src3 d.src2 d.bytes t

/-- Every waiting descriptor that may start does, in the order of its stream. -/
def pumpDf (s : State) : State :=
  (sortBy (fun e : Nat × DfRun => e.2.index) s.link.runs).foldl (fun s e =>
    match s.link.runs.get? e.1 with
    | some r => match s.link.streams.get? r.stream with
      | some st => if dfMayStart s r then dfFetch s e.1 r st else s
      | none => s
    | none => s) s

/-- A descriptor ends, and what waited for it starts. -/
def dfEnd (s : State) (t status written : Nat) : State := pumpDf (dfComplete s t status written)

/-- A descriptor takes its tracker entry and starts, or completes at once (R286). -/
def dfBegin (s : State) (n : Nat) (st : DfStream) (b : Bytes) (zalTag zalGen : Nat) : State :=
  match allocTag s st.owner .descriptor n (if st.port.isSome then 0xFFFF else st.inst) with
  | none => s
  | some (t, s0) =>
    let s1 := bumpDf s0 n st.owner 0x02
    let d := parseDesc b
    let s2 := s1.modLink fun l => { l with
      streams := l.streams.modify n fun x => { x with fetched := wrap32 (x.fetched + 1) }
      runs := l.runs.set t { stream := n, desc := d, stage := .waiting, index := st.fetched, zalTag := zalTag, zalGen := zalGen } }
    let s3 := match st.port with
      | some p => s2.modZal p fun z => { z with accOut := z.accOut.modify (16 * zalTag + zalGen) fun a => { a with op := some t } }
      | none => s2
    if descBad st b then dfEnd s3 t dfINVALID 0
    else match descForeign s3 st d with
      | some (cls, k, target) => dfEnd (refViolation s3 (feedTag s st) cls k target 0xFFFF) t dfOK 0
      | none => pumpDf s3

/-! ### Decrypt, decompress, scatter (R287, R290, R292) -/

/-- What the decrypt stage gives: bytes, a link status, or a violation. -/
inductive Decrypted
  | bytes (bs : Bytes)
  | failed (status : Nat)
  | violation
  deriving DecidableEq, Repr

/-- The decrypt stage (R287, R482): XTS by namespace blocks, or GCM of IV, ciphertext and tag. -/
def dfDecrypt (s : State) (o : Owner) (d : Descriptor) (src : Bytes) : Decrypted :=
  let x := src.take d.bytes
  if d.cipher = 0 then .bytes x
  else match keyCheck s o d.keySlot 0 (if d.cipher = 1 then 2 else 0) 1 with
    | .violation => .violation
    | .invalid => .failed dfINVALID
    | .ok k =>
      if d.cipher = 1 then .bytes ((xtsBlocks Config.xtsDecrypt k.key ((d.bytes + 511) / 512) d.src3 x).take d.bytes)
      else if x.length < 28 then .failed dfDECRYPT
      else match Config.gcmOpen k.key (x.take 12) [] (x.drop 12) with
        | some p => .bytes p
        | none => .failed dfDECRYPT

/-- The decompress stage (R287). -/
def dfDecode (d : Descriptor) (x : Bytes) : Option Bytes := if d.codec = 0 then some x else Config.zstd x

/-- Accelerator addresses and bytes of one run of output, cut at 512-byte boundaries. -/
def cut512 (a : Nat) (bs : Bytes) : List (Nat × Bytes) :=
  if bs.isEmpty then [] else
    (List.range ((a % 512 + bs.length - 1) / 512 + 1)).map fun k =>
      let lo := max a ((a / 512 + k) * 512)
      (lo, (bs.drop (lo - a)).take ((a / 512 + k + 1) * 512 - lo))

/-- The DF_WRITE messages of an output (R287): row by row. -/
def dfWrites (d : Descriptor) (out : Bytes) : List (Nat × Bytes) :=
  (List.range d.rows).flatMap fun r => cut512 (d.dstAddr + r * d.stride) ((out.drop (r * d.rowBytes)).take d.rowBytes)

/-- Scatter: every DF_WRITE, then FLUSH (R287, R290). A destination port that is down ends the descriptor (R282). -/
def dfScatterOut (s : State) (t : Nat) (d : Descriptor) (out : Bytes) : State :=
  if !(s.zal d.dstPort).inService then dfEnd s t dfLINKDOWN 0
  else
    let put := out.take (outBytes d)
    let s1 := (dfWrites d put).foldl (fun s w => zalSend s d.dstPort
      { vc := 2, msg := { op := 0x10, gen := 0, tag := 0, aux := w.2.length - 1, addr := w.1, data := w.2 } }) s
    let s2 := dfStage s1 t (.flushing (if out.length = outBytes d then dfOK else dfLENGTH) put.length)
    pumpDf (zalSend s2 d.dstPort
      { vc := 2, op := t, msg := { op := 0x11, gen := 0, tag := devTag (s2.zal d.dstPort) (t % 32768) } })

/-- A TIMED descriptor's output is staged: it waits for its BURST entry, unless one is late already (R292). -/
def dfStaged (s : State) (t : Nat) (r : DfRun) (out : Bytes) : State :=
  if s.link.runs.any fun _ e => decide (e.stream = r.stream ∧ e.desc.burst = r.desc.burst) &&
      (match e.stage with | .staged _ => true | _ => false) then dfEnd s t dfINVALID 0
  else
    let s1 := dfStage s t (.staged out)
    match (s.link.streams.get? r.stream).bind fun st => st.lateBursts.find? fun b => decide (b.1 = r.desc.burst) with
    | none => s1
    | some b =>
      let s2 := s1.modLink fun l => { l with
        streams := l.streams.modify r.stream fun st => { st with lateBursts := st.lateBursts.erase b } }
      if b.2 = 0 then dfScatterOut s2 t r.desc out else dfEnd s2 t dfSKIPPED 0

/-- DF_SCATTER (R287): a fetched descriptor runs its later stages; one to decrypt waits for an engine (R492). -/
def execDfScatter (op : B2) (s : State) : Host.Outcome State Fault Refusal :=
  .next (match s.link.runs.get? op with
    | none => s
    | some r => match r.stage, s.link.streams.get? r.stream with
      | .fetched st data, some x =>
        if st ≠ 0 then dfEnd s op st 0
        else if r.desc.cipher ≠ 0 ∧ noEngine s then s
        else match dfDecrypt s x.owner r.desc data with
          | .violation => dfEnd (refViolation s (feedTag s x) 3 r.desc.keySlot 0xFFF 0xFFFF) op dfOK 0
          | .failed e => dfEnd s op e 0
          | .bytes plain => match dfDecode r.desc plain with
            | none => dfEnd s op dfDECOMPRESS 0
            | some out => if r.desc.timed then dfStaged s op r out else dfScatterOut s op r.desc out
      | _, _ => s)

/-- The stream that holds a Launch Table slot (R285). -/
def slotStream (s : State) (key : Nat) : Option Nat :=
  (s.link.streams.find? fun e => decide (e.2.launch = some key)).map Prod.fst

/-- The descriptor staged under a BURST_ID of a stream. -/
def stagedRun (s : State) (n id : Nat) : Option (Nat × DfRun × Bytes) :=
  s.link.runs.findSome? fun e => match e.2.stage with
    | .staged out => if e.2.stream = n ∧ e.2.desc.burst = id then some (e.1, e.2, out) else none
    | _ => none

/-- A BURST entry with nothing staged is late (R292): it waits, lets the next such descriptor be skipped, or halts. -/
def burstLate (s : State) (key n id policy index : Nat) : State :=
  let note (k : Nat) (s : State) : State := s.modLink fun l => { l with
    streams := l.streams.modify n fun st => { st with lateBursts := st.lateBursts ++ [(id, k)] } }
  match policy with
  | 0 => note 0 (countLate s key)
  | 1 => note 1 (countSkip s key)
  | _ => launchHalt s key index

/-- BURST (R292, R61): the slot's due entry releases the descriptor staged under its BURST_ID. -/
def execBurst (die : Fin 2) (slot : Fin 64) (s : State) : Host.Outcome State Fault Refusal :=
  let key := slotKey 1 die.val slot.val
  .next (match slotStream s key, launchNext (s.slot key) with
    | some n, some (due, e) =>
      if s.lc < due then s
      else
        let s1 := s.modSlot key launchAdvance
        let busy := ((s.link.streams.get? n).map fun st => st.lateBursts.any fun b => decide (b.2 = 0)).getD false
        match stagedRun s n (e.arg % 65536) with
        | none => burstLate s1 key n (e.arg % 65536) (policyOf (s.slot key) e) (s.slot key).index
        | some (t, r, out) =>
          if s.lc ≤ due ∧ busy = false then dfScatterOut s1 t r.desc out
          else match policyOf (s.slot key) e with
            | 0 => dfScatterOut (countLate s1 key) t r.desc out
            | 1 => countSkip s1 key
            | _ => launchHalt s1 key (s.slot key).index
    | _, _ => s)

/-! ### Submission by a host (R291) -/

/-- The stream of an instance's doorbell. -/
def streamOf (s : State) (inst db : Nat) : Option Nat :=
  (s.link.streams.find? fun e => e.2.port.isNone && decide (e.2.inst = inst ∧ e.2.doorbell = db)).map Prod.fst

/-- DF_DOORBELL (R291, R325). -/
def execDfDoorbell (port : Fin 2) (inst : B2) (doorbell : Fin 32) (posted : B4) (s : State) :
    Host.Outcome State Fault Refusal :=
  .next (doorbellWrite s port inst (0x0400 + 4 * doorbell.val) posted fun s =>
    match streamOf s inst doorbell.val with
    | some n => touchCtx (s.modLink fun l => { l with streams := l.streams.modify n fun st => { st with posted := posted } })
        (cxStream n)
    | none => s)

/-- The link status of a ring entry that could not be read (R331). -/
def hostFailure : HostData → Nat
  | .data _ => dfOK
  | .refused => dfSOURCE
  | .timeout => dfTIMEOUT
  | .poisoned => dfPOISONED

/-- The stream's next descriptor is fetched now. -/
def dfFetches (s : State) (n : Nat) (st : DfStream) : Bool :=
  s.on && s.full && st.port.isNone && !st.closing && functionFetches s st.inst && decide (wrap32 st.posted ≠ st.fetched) &&
    resident s (cxStream n) && mayFetch s st.owner

/-- DF_DESCRIPTOR_FETCH (R286, R291, R23). -/
def execDfDescriptorFetch (stream : B2) (host : HostData) (s : State) : Host.Outcome State Fault Refusal :=
  .next (match s.link.streams.get? stream with
    | none => s
    | some st =>
      if !dfFetches s stream st then s
      else
        let s1 := touchCtx s (cxStream stream)
        match host with
        | .data bs => dfBegin s1 stream st (padTo 64 bs) 0 0
        | h => dfRecord s1 stream { st with fetched := wrap32 (st.fetched + 1) } st.fetched (hostFailure h) 0)

/-! ### Requests (R285, R378) -/

/-- The owner of the stream that DF_STREAM_OPEN asks for: of the port, or of the instance. -/
def openOwner (s : State) (submitter port inst : Nat) : Owner :=
  if submitter = 1 then (s.zal port).owner else instOwner s inst

/-- DF_STREAM_OPEN's fields out of range or in contradiction (R378). -/
def openBad (s : State) (submitter port inst doorbell log2 vector flags sq cq base len ltDie ltSlot : Nat) : Bool :=
  decide (submitter < 1 ∨ 2 < submitter ∨ 4 ≤ flags) ||
    decide (submitter = 1 ∧ (8 ≤ port ∨ inst ≠ 0 ∨ doorbell ≠ 0 ∨ log2 ≠ 0 ∨ vector ≠ 0 ∨ sq ≠ 0 ∨ cq ≠ 0)) ||
    (decide (submitter = 2) && (decide (port ≠ 0 ∨ 32 ≤ doorbell ∨ log2 < 6 ∨ 16 < log2) ||
      match s.insts.get? inst with
      | none => true
      | some i => decide (vector ≠ 0xFF ∧ i.vectorCount ≤ vector))) ||
    (if bitOf flags 0 then decide (len = 0 ∨ len % 4096 ≠ 0) || !translates s (openOwner s submitter port inst) base len
      else decide (base ≠ 0 ∨ len ≠ 0)) ||
    (if bitOf flags 1 then decide (2 ≤ ltDie ∨ 64 ≤ ltSlot) else decide (ltDie ≠ 0 ∨ ltSlot ≠ 0))

/-- DF_STREAM_OPEN's own statement. -/
def dfStreamOpen (q : Req) (submitter port inst doorbell log2 vector flags sq cq base len ltDie ltSlot : Nat) (w : Who)
    (s : State) : Answer :=
  let o := openOwner s submitter port inst
  let key := slotKey 1 ltDie ltSlot
  let st : DfStream :=
    { owner := o, port := if submitter = 1 then some port else none, inst := inst, doorbell := doorbell, log2 := log2,
      vector := vector, sqAddr := sq, cqAddr := cq, staging := if bitOf flags 0 then some (base, len) else none,
      launch := if bitOf flags 1 then some key else none }
  refuseOr [(decide (1 ≤ submitter ∧ submitter ≤ 2) && !mayActOn w o, DENIED),
    (q.bodyBad || openBad s submitter port inst doorbell log2 vector flags sq cq base len ltDie ltSlot, INVALID),
    ((decide (submitter = 2) && (streamOf s inst doorbell).isSome) || (bitOf flags 1 && (slotStream s key).isSome), IN_USE)]
    (match s.link.streams.firstFree 4096 0 with
     | some n => if ctxRoom s then .done (addCtx (s.modLink fun l => { l with streams := l.streams.set n st }) (cxStream n) o
          (feedReq s st - 0x4D8) false) (le 2 n ++ zeros 6)
        else .refuse NO_RESOURCES []
     | none => .refuse NO_RESOURCES [])

def execDfStreamOpen (q : Req) (submitter port : B1) (inst : B2) (doorbell log2 vector flags : B1)
    (sqAddr cqAddr stagingBase stagingLength : B8) (ltDie ltSlot : B1) (s : State) : Host.Outcome State Fault Refusal :=
  .next (serve q ⟨0x060B, 64, .opOrTenant, none, []⟩
    (dfStreamOpen q submitter port inst doorbell log2 vector flags sqAddr cqAddr stagingBase stagingLength ltDie ltSlot) s)

/-- The stream exists and the sender may act on it (R365): DENIED, else INVALID_ARGUMENT. -/
def streamCheck (s : State) (w : Who) (n : Nat) : Bool :=
  ((s.link.streams.get? n).map fun st => mayActOn w st.owner).getD true

/-- DF_STREAM_CLOSE (R378): not yet fetched descriptors are dropped, fetched ones run to their end. -/
def dfStreamClose (q : Req) (n : Nat) (w : Who) (s : State) : Answer :=
  refuseOr [(!streamCheck s w n, DENIED), (q.bodyBad || (s.link.streams.get? n).isNone, INVALID),
    (((s.link.streams.get? n).map DfStream.closing).getD false, IN_USE)]
    (if s.link.runs.any fun _ r => decide (r.stream = n) then
      .later ACCEPTED (s.modLink fun l => { l with streams := l.streams.modify n fun st => { st with closing := true } })
        (.dfClose n)
    else .ended (dropCtx (s.modLink fun l => { l with streams := l.streams.erase n }) (cxStream n)) OK [])

def execDfStreamClose (q : Req) (stream : B2) (s : State) : Host.Outcome State Fault Refusal :=
  .next (serve q ⟨0x060C, 8, .opOrTenant, none, []⟩ (dfStreamClose q stream) s)

/-- A descriptor in flight is aborted (R19, R20): a fetch in progress is dropped; a FLUSH sent is aborted on the link, and
its tag waits for both answers (R21, R281). -/
def dfStop (s : State) (t : Nat) : State :=
  match s.link.runs.get? t with
  | none => s
  | some r =>
    let s1 := (match s.stor.ops.get? t with | some o => closeIo s t o | none => s)
    let p := r.desc.dstPort
    let s2 := match r.stage with
      | .flushing _ _ => match (s1.zal p).devOut.find? fun e => e.2.flush && decide (e.2.op = t) with
        | some (tag, f) =>
          if f.timedOut then s1
          else zalSend (s1.modZal p fun z => { z with devOut := z.devOut.modify tag fun x => { x with aborting := true } }) p
            { vc := 0, op := tag, msg := { op := 0x05, gen := 0, tag := devTag (s1.zal p) 32768, addr := tag } }
        | none => s1.modZal p fun z => { z with txWait := z.txWait.filter fun x => decide (x.msg.op ≠ 0x11 ∨ x.op ≠ t) }
      | _ => s1
    dfEnd s2 t dfABORTED 0

/-- The tag and generation of a ring's INDEX, in flight or ended. -/
def indexTag (s : State) (n : Nat) (st : DfStream) (index : Nat) : Option (Nat × Nat) :=
  match s.link.runs.find? fun e => decide (e.2.stream = n ∧ e.2.index = index) with
  | some e => some (e.1, (s.track e.1).gen)
  | none => st.done.get? index

/-- DF_ABORT (R291, R19). -/
def dfAbort (q : Req) (n index : Nat) (w : Who) (s : State) : Answer :=
  match s.link.streams.get? n with
  | none => .refuse INVALID []
  | some st => refuseOr [(!mayActOn w st.owner, DENIED), (q.bodyBad, INVALID)]
    (match indexTag s n st index with
     | none => .done s (le 2 NO_SUCH_OPERATION ++ zeros 6)
     | some (t, g) =>
       let a := abortAnswer s st.owner t g
       .done (if a.1 = ABORTED then dfStop s t else s) (le 2 a.1 ++ zeros 6))

def execDfAbort (q : Req) (stream : B2) (index : B4) (s : State) : Host.Outcome State Fault Refusal :=
  .next (serve q ⟨0x060D, 8, .opOrTenant, none, []⟩ (dfAbort q stream index) s)

end Sys2Proof.Machine
end

