-- ==== Sys2Proof/Machine/ExactMatch.lean ====
section
/-! DEFINITION. Exact-match tables: hashing, buckets and the flow cache (07 R239, 13 R428 to R433). -/

namespace Sys2Proof.Machine

/-- CRC-32C, reflected polynomial 0x1EDC_6F41, one bit at a time. -/
def crc32cBits : Nat → Nat → Nat
  | 0, c => c
  | n + 1, c => crc32cBits n (if c % 2 = 1 then (c / 2) ^^^ 0x82F63B78 else c / 2)
/-- CRC-32C of bytes from a register value, no inversion (R179 CRC32C). -/
def crc32cRaw (c : Nat) (bs : Bytes) : Nat := bs.foldl (fun c b => crc32cBits 8 (c ^^^ b.toNat)) c
/-- The hash of R429: final XOR with ones. -/
def crc32c (seed : Nat) (bs : Bytes) : Nat := crc32cRaw seed bs ^^^ 0xFFFF_FFFF

/-- The two buckets of a key (R429). -/
def bucketsOf (t : MatchTable) (key : Bytes) : Nat × Nat :=
  let b1 := crc32c t.seed1 key % 2 ^ t.log2
  let b2 := crc32c t.seed2 key % 2 ^ t.log2
  (b1, if b2 = b1 then b1 ^^^ 1 else b2)

/-- Entry size and entries of a bucket by key length (R239). -/
def entrySize (kl : Nat) : Nat := if kl ≤ 16 then 64 else 128
def entriesPer (kl : Nat) : Nat := if kl ≤ 16 then 4 else 2
/-- Key bytes padded to whole blocks of 16. -/
def keyBlocks (kl : Nat) (key : Bytes) : Bytes := padTo (16 * ((kl + 15) / 16)) key
/-- The header and key blocks of a valid entry (R239). -/
def entryHead (kl : Nat) (key : Bytes) : Bytes := le 1 0xA5 ++ le 1 kl ++ zeros 14 ++ keyBlocks kl key
/-- A valid entry's bytes: unused key-block bytes are zero (R239). -/
def entryBytes (kl : Nat) (key action : Bytes) : Bytes :=
  padTo (entrySize kl - 32) (entryHead kl key) ++ padTo 32 action
/-- The entries of a bucket's 256 bytes. -/
def entriesOf (kl : Nat) (bs : Bytes) : List Bytes := chunks256 (entrySize kl) (entriesPer kl) bs
where
  chunks256 (n : Nat) : Nat → Bytes → List Bytes
    | 0, _ => []
    | k + 1, bs => bs.take n :: chunks256 n k (bs.drop n)
/-- An entry holds the key. -/
def entryMatches (kl : Nat) (key e : Bytes) : Bool := decide (e.take (entryHead kl key).length = entryHead kl key)
/-- The action of an entry: its last 32 bytes. -/
def entryAction (kl : Nat) (e : Bytes) : Bytes := e.drop (entrySize kl - 32)

/-- The action of the lowest-numbered matching entry of a bucket (R239). -/
def bucketFind (kl : Nat) (key bs : Bytes) : Option Bytes :=
  ((entriesOf kl bs).find? (entryMatches kl key)).map (entryAction kl)

/-- What the stacks answer to a probe (R430): HIT with an action, MISS, or none where a bucket cannot be read. -/
def stackProbe (s : State) (t : MatchTable) (key : Bytes) : Option (Option Bytes) :=
  let b := bucketsOf t key
  match readPlot s t.owner (t.base + 256 * b.1) 256, readPlot s t.owner (t.base + 256 * b.2) 256 with
  | .bytes x, .bytes y => some ((bucketFind t.kl key x).orElse fun _ => bucketFind t.kl key y)
  | _, _ => none

/-! ### The flow cache (R431) -/

/-- The flow cache of a die. -/
def cacheOf (s : State) (die : Nat) : List FlowEntry := if die = 0 then s.pkt.cache0 else s.pkt.cache1
/-- The flow cache of a die replaced. -/
def setCache (s : State) (die : Nat) (l : List FlowEntry) : State :=
  s.modPkt fun k => if die = 0 then { k with cache0 := l } else { k with cache1 := l }
/-- The cached action of a key. -/
def cacheFind (s : State) (die table : Nat) (key : Bytes) : Option FlowEntry :=
  (cacheOf s die).find? fun e => decide (e.table = table ∧ e.key = key)
/-- A cache hit makes its entry the most recently used. -/
def cacheUse (s : State) (die : Nat) (e : FlowEntry) : State := setCache s die (e :: (cacheOf s die).filter fun x => decide (x ≠ e))
/-- The owner of a table. -/
def tableOwner (s : State) (t : Nat) : Owner := ((s.pkt.tables.get? t).map MatchTable.owner).getD 16
/-- The last element that satisfies `p` is removed: the least recently used one. -/
def dropLast (p : FlowEntry → Bool) (l : List FlowEntry) : List FlowEntry :=
  match l.reverse.find? p with
  | some e => l.filter fun x => decide (x ≠ e)
  | none => l
/-- A stack hit is installed (R431): within the owner's limit, otherwise in place of the owner's own least recently used
entry of the set, or not at all. -/
def cacheInstall (s : State) (die table : Nat) (key action : Bytes) : State :=
  let o := tableOwner s table
  let set := Config.cacheSet table key % 16384
  let l := cacheOf s die
  let own := fun (e : FlowEntry) => decide (tableOwner s e.table = o)
  let inSet := fun (e : FlowEntry) => decide (e.set = set)
  let limit := ((s.pkt.shares.get? o).map Share.cacheLimit).getD 16384
  let e : FlowEntry := { table := table, set := set, key := key, action := action }
  if limit ≤ (l.filter own).length then
    (if l.any fun x => own x && inSet x then setCache s die (e :: dropLast (fun x => own x && inSet x) l) else s)
  else if 16 ≤ (l.filter inSet).length then setCache s die (e :: dropLast inSet l)
  else setCache s die (e :: l)
/-- A key leaves both dies' caches, and probes of it in flight do not install it (R433). -/
def cachePurge (s : State) (table : Nat) (key : Bytes) : State :=
  let keep := fun (e : FlowEntry) => decide (e.table ≠ table ∨ e.key ≠ key)
  { s.modPkt fun k => { k with cache0 := k.cache0.filter keep, cache1 := k.cache1.filter keep } with
    cores := s.cores.mapV fun _ c => { c with
      handles := c.handles.mapV fun _ h => { h with stale := h.stale || (h.busy && decide (h.table = table ∧ h.key = key)) } } }

/-- Probes of a table in flight (R428). -/
def probesOf (s : State) (table : Nat) : Bool :=
  s.cores.any fun _ c => c.handles.any fun _ h => h.busy && decide (h.table = table)
/-- The table is gone, its flow-cache entries with it. -/
def dropTable (s : State) (table : Nat) : State :=
  s.modPkt fun k => { k with
    tables := k.tables.erase table, cache0 := k.cache0.filter fun e => decide (e.table ≠ table)
    cache1 := k.cache1.filter fun e => decide (e.table ≠ table) }
/-- A TABLE_DELETE whose table has no probe left in flight completes (R428). -/
def settleTable (s : State) (table : Nat) : State :=
  match (s.pkt.tables.get? table).bind MatchTable.deleting with
  | some n => if probesOf s table then s else finishOp (dropTable s table) n OK []
  | none => s

end Sys2Proof.Machine
end

