-- ==== Sys2Proof/Machine/Flags.lean ====
section
/-! DEFINITION. Integer arithmetic of the Knalys engines with its flags (04 R137, R138; 05 R145, R158). -/

namespace Sys2Proof.Machine

/-- What an integer operation gives: the `w`-bit pattern, the flags N, Z, C, V in bits 0 to 3, and which flags it sets. -/
structure Alu where
  val : Nat
  flags : Nat
  mask : Nat
  deriving DecidableEq, Repr

/-- A `w`-bit pattern as a signed number. -/
def signedOf (w a : Nat) : Int := if a < 2 ^ (w - 1) then a else (a : Int) - 2 ^ w
/-- The `w`-bit pattern of a number. -/
def patOf (w : Nat) (z : Int) : Nat := (z % 2 ^ w).toNat
/-- N and Z of a pattern. -/
def nzOf (w r : Nat) : Nat := b2n (decide (2 ^ (w - 1) ≤ r)) + 2 * b2n (decide (r = 0))

/-- N and Z from the result, C and V cleared (R145). -/
def aluLogic (w r : Nat) : Alu := { val := r, flags := nzOf w r, mask := 15 }
/-- N and Z from the result, C cleared, V unchanged: shifts and rotates (R145). -/
def aluShift (w r : Nat) : Alu := { val := r, flags := nzOf w r, mask := 7 }
/-- N and Z from the result, C cleared, V as given (R145). -/
def aluV (w r : Nat) (v : Bool) : Alu := { val := r, flags := nzOf w r + 8 * b2n v, mask := 15 }

/-- Addition with a carry in: C is the carry out of bit w − 1, V signed overflow (R137, R145). -/
def aluSum (w a b cin : Nat) : Alu :=
  let r := (a + b + cin) % 2 ^ w
  let z := signedOf w a + signedOf w b + cin
  { val := r, mask := 15,
    flags := nzOf w r + 4 * b2n (decide (2 ^ w ≤ a + b + cin)) + 8 * b2n (decide (signedOf w r ≠ z)) }

/-- The complement of a pattern. -/
def notW (w a : Nat) : Nat := 2 ^ w - 1 - a

/-! ### The FN codes of ALU-R and ALU-W: operands a and b, carry c (R158) -/

def opAdd (w a b _c : Nat) : Alu := aluSum w a b 0
def opSub (w a b _c : Nat) : Alu := aluSum w a (notW w b) 1
def opAnd (w a b _c : Nat) : Alu := aluLogic w (a &&& b)
def opOr (w a b _c : Nat) : Alu := aluLogic w (a ||| b)
def opXor (w a b _c : Nat) : Alu := aluLogic w (a ^^^ b)
def opAndn (w a b _c : Nat) : Alu := aluLogic w (a &&& notW w b)
def opSll (w a b _c : Nat) : Alu := aluShift w (if w ≤ b then 0 else a * 2 ^ b % 2 ^ w)
def opSrl (w a b _c : Nat) : Alu := aluShift w (if w ≤ b then 0 else a / 2 ^ b)
def opSra (w a b _c : Nat) : Alu := aluShift w (patOf w (signedOf w a / 2 ^ (min b (w - 1))))
def opRol (w a b _c : Nat) : Alu := aluShift w (a * 2 ^ (b % w) % 2 ^ w + a / 2 ^ (w - b % w))
def opRor (w a b _c : Nat) : Alu := aluShift w (a * 2 ^ (w - b % w) % 2 ^ w + a / 2 ^ (b % w))
def opMin (w a b _c : Nat) : Alu := aluLogic w (if signedOf w a ≤ signedOf w b then a else b)
def opMax (w a b _c : Nat) : Alu := aluLogic w (if signedOf w a ≤ signedOf w b then b else a)
def opMinu (w a b _c : Nat) : Alu := aluLogic w (min a b)
def opMaxu (w a b _c : Nat) : Alu := aluLogic w (max a b)
def opNeg (w a _b _c : Nat) : Alu := aluSum w 0 (notW w a) 1
def opClz (w a _b _c : Nat) : Alu := aluLogic w (if a = 0 then w else w - 1 - Nat.log2 a)
/-- Ones among the low `n` bits. -/
def popBits (a : Nat) : Nat → Nat
  | 0 => 0
  | n + 1 => b2n (a.testBit n) + popBits a n
def opPopc (w a _b _c : Nat) : Alu := aluLogic w (popBits a w)
def opBswap (w a _b _c : Nat) : Alu := aluLogic w (ofLe (le (w / 8) a).reverse)
def opAdc (w a b c : Nat) : Alu := aluSum w a b c
def opSbc (w a b c : Nat) : Alu := aluSum w a (notW w b) c

/-! ### Multiply and divide (R137, R138, R145) -/

def opMul (w a b _c : Nat) : Alu :=
  let z := signedOf w a * signedOf w b
  aluV w (a * b % 2 ^ w) (decide (signedOf w (a * b % 2 ^ w) ≠ z))
def opMulhs (w a b _c : Nat) : Alu := aluLogic w (patOf w (signedOf w a * signedOf w b / 2 ^ w))
def opMulhu (w a b _c : Nat) : Alu := aluLogic w (a * b / 2 ^ w)

/-- The signed division overflows: the most negative value by −1. -/
def divOverflow (w a b : Nat) : Bool := decide (a = 2 ^ (w - 1) ∧ b = 2 ^ w - 1)
def opDiv (w a b _c : Nat) : Alu :=
  aluV w (if b = 0 then 0 else patOf w ((signedOf w a).tdiv (signedOf w b))) (decide (b = 0) || divOverflow w a b)
def opRem (w a b _c : Nat) : Alu :=
  aluV w (if b = 0 then a else patOf w ((signedOf w a).tmod (signedOf w b))) (decide (b = 0) || divOverflow w a b)
def opDivu (w a b _c : Nat) : Alu := aluV w (if b = 0 then 0 else a / b) (decide (b = 0))
def opRemu (w a b _c : Nat) : Alu := aluV w (if b = 0 then a else a % b) (decide (b = 0))

/-- A condition code against the flags N, Z, C, V in bits 0 to 3 (R146). -/
def condHolds (cond flags : Nat) : Bool :=
  let n := bitOf flags 0
  let z := bitOf flags 1
  let c := bitOf flags 2
  let v := bitOf flags 3
  match cond with
  | 0 => z
  | 1 => !z
  | 2 => c
  | 3 => !c
  | 4 => n
  | 5 => !n
  | 6 => v
  | 7 => !v
  | 8 => c && !z
  | 9 => !c || z
  | 10 => n == v
  | 11 => n != v
  | 12 => !z && n == v
  | 13 => z || n != v
  | 14 => true
  | _ => false

end Sys2Proof.Machine
end

