-- ==== Sys2Proof/Machine/Operands.lean ====
section
/-! DEFINITION. How a Knalys syllable issues: registers visible at issue, immediates, results in flight, the bundle
that comes next (05 R140 to R156). -/

namespace Sys2Proof.Machine

/-- Number of a core in the state's table. -/
def coreNo : CoreId → Nat
  | .privet c k => 16 * c + k
  | .yew t => 1024 + t
/-- The core is a Yew sequencer. -/
def isYew : CoreId → Bool
  | .privet .. => false
  | .yew _ => true

/-- A general register as an issue reads it; g0 reads zero (R143). -/
def Core.reg (c : Core) (n : Nat) : W64 := if n = 0 then 0 else c.regs.getD n 0

/-- Writable bits of a special register (R130, R131, R144). -/
def specialMask (n : Nat) : Nat :=
  if n = 0x01 ∨ n = 0x11 then 0xF else if n = 0x12 then 0x7F else if n = 0x42 then 3 else 2 ^ 64 - 1

/-- One of the four words of the lane overflow mask replaced (R144). -/
def setLovf (m k v : Nat) : Nat :=
  m % 2 ^ (64 * k) + v * 2 ^ (64 * k) + m / 2 ^ (64 * (k + 1)) * 2 ^ (64 * (k + 1))

/-- A result reaches its register (R143, R145, R149). -/
def Core.apply (c : Core) (p : KnPending) : Core :=
  match p.target with
  | .reg n => { c with regs := c.regs.set n p.value }
  | .flags m => { c with flags := (c.flags &&& (15 ^^^ m)) ||| (p.value.toNat &&& m) }
  | .special n =>
    let v := p.value.toNat &&& specialMask n
    if n = 0x01 then { c with flags := v }
    else if n = 0x02 then { c with rptc := p.value }
    else if n = 0x11 then { c with amode := BitVec.ofNat 64 v }
    else if n = 0x12 then { c with fpstat := BitVec.ofNat 64 v }
    else if 0x14 ≤ n ∧ n ≤ 0x17 then { c with lovf := setLovf c.lovf (n - 0x14) v }
    else if n = 0x42 then { c with prvStat := v }
    else c
  | .tensor fp lovf =>
    { c with
      doneCount := wrap32 (c.doneCount + 1), lovf := c.lovf ||| lovf
      fpstat := c.fpstat ||| BitVec.ofNat 64 fp }

/-- Every result due by cycle `t` reaches its register, in the order of R149. -/
def Core.retire (c : Core) (t : Nat) : Core :=
  let c1 := (sortBy (fun p => 8 * p.due + p.slot) (c.pend.filter fun p => decide (p.due ≤ t))).foldl Core.apply c
  { c1 with pend := c.pend.filter fun p => decide (t < p.due) }

/-- The bundle after the current one (R151, R152). -/
def Core.next (c : Core) : Core :=
  match c.branch with
  | some (0, t) => { c with pc := t, branch := none }
  | some (n + 1, t) => { c with pc := (c.pc + 1) % c.region, branch := some (n, t) }
  | none => { c with pc := (c.pc + 1) % c.region }

/-- The core moves to cycle `t`: it retires what is due, and issues its first bundle, repeats the current one, or goes to
the next (R147, R151, R154). -/
def Core.advance (c : Core) (t : Nat) : Core :=
  if c.first then { c.retire t with first := false, cycle := t }
  else if t = c.cycle then c
  else if 0 < c.hidden then { c.retire t with hidden := c.hidden - 1, again := true, cycle := t }
  else { (c.retire t).next with imx := none, skip := false, again := false, waitUntil := none, cycle := t }

/-- Which slots a syllable may stand in (R141). -/
inductive SlotClass
  | any | control | compute | memory
  deriving DecidableEq, Repr
/-- The slot accepts the class. -/
def SlotClass.admits (k : SlotClass) (slot : Nat) : Bool :=
  match k with
  | .any => true
  | .control => decide (slot = 0)
  | .compute => decide (slot = 1 ∨ slot = 3)
  | .memory => decide (slot = 2)

/-- The syllable issues now: the core runs, its slot accepts the class, the slot issues in this cycle, and no wait, no END
and no DONE holds the next bundle (R141, R154, R162, R167, R168). -/
def canIssue (s : State) (i : Issue) (k : SlotClass) : Bool :=
  let c := s.core (coreNo i.core)
  s.on && c.running && k.admits i.slot && decide (c.cycle ≤ i.cycle) &&
    (if c.first then true
     else if i.cycle = c.cycle then !(c.skip && decide (i.slot ≠ 0)) && !(c.again && decide (i.slot = 0))
     else !(decide (0 < c.hidden) && decide (i.slot = 0)) &&
       (decide (0 < c.hidden) || (!c.ended && decide (c.waitUntil.getD 0 ≤ s.lc))))

/-- A syllable issues: `f` runs on the state whose core stands at the issue cycle. -/
def issueS (i : Issue) (k : SlotClass) (f : State → State) (s : State) : State :=
  if canIssue s i k then f (s.modCore (coreNo i.core) fun c => c.advance i.cycle) else s

/-- A syllable that acts on its core alone issues. -/
def issue (i : Issue) (k : SlotClass) (f : Core → Core) (s : State) : State :=
  issueS i k (fun s => s.modCore (coreNo i.core) f) s

/-- A value on its way to a general register; g0 discards it (R143, R147). -/
def Core.write (c : Core) (i : Issue) (lat : Nat) (rd : Nat) (v : Nat) : Core :=
  if rd = 0 then c
  else { c with pend := c.pend ++ [{ due := i.cycle + lat, slot := i.slot, target := .reg rd, value := BitVec.ofNat 64 v }] }
/-- Flags on their way, where the syllable carries .f (R145, R146). -/
def Core.writeFlags (c : Core) (i : Issue) (lat : Nat) (f : Bool) (flags mask : Nat) : Core :=
  if f then
    { c with
      pend := c.pend ++ [{ due := i.cycle + lat, slot := i.slot, target := .flags mask, value := BitVec.ofNat 64 flags }] }
  else c

/-- The 64-bit value of a `w`-bit result: a 32-bit one is sign-extended (R158). -/
def widen64 (w v : Nat) : Nat := if w = 32 then patOf 64 (signedOf 32 v) else v

/-- The result of an integer operation of width `w` goes to RD and the flags at its latency. -/
def Core.result (c : Core) (i : Issue) (lat rd : Nat) (f : Bool) (w : Nat) (r : Alu) : Core :=
  (c.write i lat rd (widen64 w r.val)).writeFlags i lat f r.flags r.mask

/-- The carry flag as visible. -/
def Core.carry (c : Core) : Nat := c.flags / 4 % 2

/-- A sign-extended pattern of `n` bits as a 64-bit pattern. -/
def sext64 (n v : Nat) : Nat := patOf 64 (signedOf n v)

/-- The immediate of an I-format syllable in a slot, extended by the bundle's IMX (R142, R153). -/
def Core.imm (c : Core) (slot imm : Nat) : Nat :=
  match c.imx with
  | some (t, hi) => if t = slot then sext64 32 ((hi * 2 ^ 14 + imm) % 2 ^ 32) else sext64 14 imm
  | none => sext64 14 imm

/-- A register-register operation: width, latency (R148, R158). -/
def aluRR (w lat : Nat) (op : Nat → Nat → Nat → Nat → Alu) (i : Issue) (rd ra rb : Nat) (f : Bool) (s : State) : State :=
  issue i .compute (fun c => c.result i lat rd f w
    (op w ((c.reg ra).toNat % 2 ^ w) ((c.reg rb).toNat % 2 ^ w) c.carry)) s

/-- A register-immediate operation (R158). -/
def aluRI (op : Nat → Nat → Nat → Nat → Alu) (i : Issue) (rd ra imm : Nat) (f : Bool) (s : State) : State :=
  issue i .compute (fun c => c.result i 1 rd f 64 (op 64 (c.reg ra).toNat (c.imm i.slot imm) c.carry)) s

/-- The core's owner's tag for a violation, and the unit that rejects it (R10, R12, R29). -/
def coreReq (k : CoreId) : Nat :=
  match k with
  | .privet c _ => 0x440 + c
  | .yew t => 0x480 + t / 9
/-- An access outside the core's windows (R29, R160, R166). -/
def coreViolation (s : State) (k : CoreId) (addr kind len : Nat) : State :=
  violation s addr (mkTag (s.core (coreNo k)).owner (coreReq k)) kind len (coreReq k) 0xFFFF

end Sys2Proof.Machine
end

