-- ==== Sys2Proof/Machine/Privet.lean ====
section
/-! DEFINITION. The Privet profile: packet and scratch windows, HX, PROBE, PRES, EMIT, DONE, the parse limit (05 R160 to
R165) and the completion of a probe (13 R430). -/

namespace Sys2Proof.Machine

/-- A byte of the current packet; beyond PRV_PKTLEN it is zero (R160). -/
def Core.packetByte (c : Core) (k : Nat) : Byte := if k < c.pktLen then c.packet.getD k 0 else 0
/-- Sticky bits of PRV_STAT set (R144). -/
def Core.stick (c : Core) (bits : Nat) : Core := { c with prvStat := c.prvStat ||| bits }

/-- `n` bits of the packet from bit `pos` on, most significant first (R163). -/
def packetBits (c : Core) : Nat → Nat → Nat
  | 0, _ => 0
  | n + 1, pos => b2n ((c.packetByte (pos / 8)).toNat.testBit (7 - pos % 8)) * 2 ^ n + packetBits c n (pos + 1)

/-- HX (R163). -/
def execHx (i : Issue) (rd ra : Fin 32) (imm : BitVec 14) (s : State) : Host.Outcome State Fault Refusal :=
  .next (if isYew i.core then s
    else issue i .memory (fun c =>
      let v := c.imm i.slot imm.toNat
      let w := bitsOf v 10 5 + 1
      let pos := ((c.reg ra).toNat + bitsOf v 4 0) * 8 + bitsOf v 13 11
      let c1 := c.write i 2 rd (packetBits c w pos)
      if 8 * c.pktLen < pos + w then c1.stick 1 else c1) s)

/-- The four probe handles of a core. -/
def Core.handle (c : Core) (h : Nat) : ProbeHandle := c.handles.getD h {}
/-- A range lies in the core's scratch (R160, R164). -/
def inScratch (a n : Nat) : Bool := decide (a + n ≤ 4096)

/-- PROBE's effect at issue: discarded while its handle is busy; a probe of a table the owner does not hold, or outside
scratch, is a violation and reads no key (R164, R430). -/
def probeIssue (k : CoreId) (t : Nat) (ra rb fn : Nat) (s : State) : State :=
  let c := s.core (coreNo k)
  let hn := fn / 64
  let tn := fn % 64
  let a := (c.reg ra).toNat
  let d := (c.reg rb).toNat
  let put := fun (s : State) (h : ProbeHandle) => s.modCore (coreNo k) fun c => { c with handles := c.handles.set hn h }
  let void : ProbeHandle := { busy := true, table := 64, issued := t }
  let s := if (c.handle hn).busy then s
    else bump s (uCluster (coreNo k / 16)) 0x42 1 { tag := some (mkTag c.owner (coreReq k)) }
  if (c.handle hn).busy then s.modCore (coreNo k) fun c => c.stick 2
  else match s.pkt.tables.get? tn with
    | none => put (refViolation s (mkTag c.owner (coreReq k)) 4 tn (coreReq k) 0xFFFF) void
    | some tb =>
      if tb.owner ≠ c.owner then put (refViolation s (mkTag c.owner (coreReq k)) 4 tn (coreReq k) 0xFFFF) void
      else if !inScratch a tb.kl then put (coreViolation s k a 1 tb.kl) void
      else if !inScratch d 32 then put (coreViolation s k d 1 32) void
      else put s { busy := true, table := tn, key := c.scratch.readN a tb.kl, dst := d, issued := t }

/-- PROBE (R164). -/
def execProbe (i : Issue) (ra rb : Fin 32) (fn : BitVec 8) (s : State) : Host.Outcome State Fault Refusal :=
  .next (if isYew i.core then s else issueS i .memory (probeIssue i.core i.cycle ra rb fn.toNat) s)

/-- A probe completes with DONE, HIT, FAULT and FLOWCACHE, and its action, where it hit, is in scratch (R164). -/
def Core.probed (c : Core) (hn : Nat) (hit fault cached : Bool) (action : Bytes) : Core :=
  let h := c.handle hn
  { c with
    handles := c.handles.set hn { h with done := true, hit := hit, fault := fault, flowCache := cached, busy := false }
    scratch := if hit then c.scratch.writeN h.dst (padTo 32 action) else c.scratch }

/-- PROBE_COMPLETE (R430): the flow cache, then both buckets; a late stack probe ends with FAULT (R164). -/
def execProbeComplete (core : Fin 1024) (handle : Fin 4) (late : Bool) (s : State) : Host.Outcome State Fault Refusal :=
  .next (
    let c := s.core core
    let h := c.handle handle
    let die := core.val / 512
    let fin := fun (s : State) (hit fault cached : Bool) (action : Bytes) =>
      settleTable (s.modCore core fun c => c.probed handle hit fault cached action) h.table
    if !s.on || !h.busy then s
    else match s.pkt.tables.get? h.table with
      | none => fin s false false false []
      | some t =>
        match cacheFind s die h.table h.key with
        | some e => fin (bump (cacheUse s die e) (uCluster (core.val / 16)) 0x43 1
            { tag := some (mkTag c.owner (0x440 + core.val / 16)) }) true false true e.action
        | none =>
          if late then fin s false true false []
          else match stackProbe s t h.key with
            | none => fin (countPoison s t.owner (t.base + 256 * (bucketsOf t h.key).1) 256 POISONED) false true false []
            | some none => fin s false false false []
            | some (some a) => fin (if t.cache && !h.stale then cacheInstall s die h.table h.key a else s) true false false a)

/-- The status word of a handle (R164). -/
def ProbeHandle.status (h : ProbeHandle) : Nat :=
  if h.busy then 0 else b2n h.done + 2 * b2n h.hit + 4 * b2n h.fault + 8 * b2n h.flowCache
/-- PRES (R164). -/
def execPres (i : Issue) (rd : Fin 32) (handle : Fin 4) (s : State) : Host.Outcome State Fault Refusal :=
  .next (if isYew i.core then s else issue i .memory (fun c => c.write i 3 rd (c.handle handle).status) s)
/-- EMIT (R165). -/
def execEmit (i : Issue) (rb : Fin 32) (word : Fin 8) (s : State) : Host.Outcome State Fault Refusal :=
  .next (if isYew i.core then s
    else issue i .memory (fun c => { c with metadata := c.metadata.set word (c.reg rb) }) s)
/-- The packet ends once the current bundle has issued; results in flight are discarded when the core takes its next
packet (R162). -/
def Core.finish (c : Core) (status : Nat) : Core := { c with ended := true, status := some status }
/-- DONE (R162). -/
def execDone (i : Issue) (status : BitVec 8) (s : State) : Host.Outcome State Fault Refusal :=
  .next (if isYew i.core then s else issue i .control (fun c => c.finish status.toNat) s)
/-- PARSE_LIMIT: a packet that has not reached DONE after 16,384 cycles ends as with DONE 255 (R162); the event itself says
that they have passed. -/
def execParseLimit (core : Fin 1024) (s : State) : Host.Outcome State Fault Refusal :=
  .next (if s.on && (s.core core).running && !(s.core core).ended then s.modCore core fun c => c.finish 255 else s)

end Sys2Proof.Machine
end

