-- ==== Sys2Proof/Machine/YewOps.lean ====
section
/-! DEFINITION. Yew tiles: geometry, slot maps, slips, SRAM regions and the shadow, landing buffers, steps (03 R71 to R111,
06 R186). -/

namespace Sys2Proof.Machine

/-! ### Geometry and slot maps (R77 to R84) -/

/-- Column and row offsets of a slot in its group's block (R77). -/
def slotOffset : Nat → Nat × Nat
  | 0 => (0, 0) | 1 => (1, 0) | 2 => (2, 0) | 3 => (2, 1) | 4 => (2, 2) | 5 => (1, 2) | 6 => (0, 2) | 7 => (0, 1)
  | _ => (1, 1)
/-- Die of a tile. -/
def tileDie (t : Nat) : Nat := t / 72
/-- Column and row of a physical tile (R77). -/
def tilePos (t : Nat) : Nat × Nat :=
  let g := t / 9 % 8
  (3 * (g % 4) + (slotOffset (t % 9)).1, 3 * (g / 4) + (slotOffset (t % 9)).2)
/-- The TILE byte of a slip record (R111). -/
def tileCode (t : Nat) : Nat := 128 * tileDie t + 16 * (t / 9 % 8) + t % 9

/-- The physical tile that serves a logical slot of a group (R83). -/
def physOf (s : State) (g slot : Nat) : Nat := if (s.group g).renamed = some slot then 9 * g + 8 else 9 * g + slot
/-- The logical slot that a physical tile serves (R83). -/
def logicalOf (s : State) (t : Nat) : Option Nat :=
  let r := (s.group (t / 9)).renamed
  if t % 9 = 8 then r else if r = some (t % 9) then none else some (t % 9)

/-- TCLK divider of the current clock: 3, 4 or 6 (R40, R53). -/
def divOf (code : Nat) : Nat := if code = 0 then 3 else if code = 1 then 4 else 6
/-- TCLK cycles since cold reset (R519), 6 ÷ divider of them per nanosecond. -/
def tclkNow (s : State) : Nat := s.power.tclkCycles + (s.lc - s.power.tclkSince) * 6 / divOf s.clk.tclkDiv
/-- Nanoseconds that `n` TCLK cycles take, rounded up. -/
def tclkNs (s : State) (n : Nat) : Nat := (n * divOf s.clk.tclkDiv + 5) / 6

/-- Hops and bridge crossings of a send between two physical positions (R78, R80). -/
def routeOf (a b : Nat) : Nat × Nat :=
  let (xa, ya) := tilePos a
  let (xb, yb) := tilePos b
  let dy := max ya yb - min ya yb
  if tileDie a = tileDie b then (max xa xb - min xa xb + dy, 0)
  else if tileDie a = 0 then (11 - xa + xb + dy, 1)
  else (xa + (11 - xb) + dy, 1)
/-- TCLK cycles of a send of `len` bytes from its issue to its last byte (R79, R80, R84). -/
def sendCycles (s : State) (ga sa gb sb len : Nat) : Nat :=
  let r := routeOf (9 * ga + sa) (9 * gb + sb)
  let extra := if ga = gb ∧ sa = sb then 0
    else 2 * b2n (decide ((s.group ga).renamed = some sa)) + 2 * b2n (decide ((s.group gb).renamed = some sb))
  3 * r.1 + r.2 * (108 / divOf s.clk.tclkDiv) + 4 + extra + (len + 255) / 256 - 1

/-! ### Sessions of tiles -/

/-- The session that a tile's group hosts. -/
def tileSession (s : State) (t : Nat) : Option (Nat × YewSession) :=
  (s.group (t / 9)).session.bind fun h => (s.sessions.get? h).map fun v => (h, v)
/-- The physical tiles of a session, in session tile index order (R183). -/
def sessTiles (s : State) (v : YewSession) : List Nat :=
  v.groups.flatMap fun g => (List.range 8).map fun k => physOf s g k
/-- The lead tile (R183). -/
def leadTile (s : State) (v : YewSession) : Nat := (sessTiles s v).headD 0
/-- The owner of a tile: the partition of its session, otherwise its group's owner. -/
def tileOwner (s : State) (t : Nat) : Owner := ((tileSession s t).map fun p => p.2.part).getD (s.group (t / 9)).owner
/-- The tag of a group's gateway traffic (R81). -/
def gateTag (s : State) (t : Nat) : Nat := mkTag (tileOwner s t) (0x480 + t / 9)

/-! ### Slips (R105, R106, R111) -/

def slSHORT : Nat := 1
def slOVERRUN : Nat := 2
def slBUSY : Nat := 3
def slLATE : Nat := 4
def slPOISON : Nat := 5
def slDEVICE : Nat := 6
def slFREQUENCY : Nat := 7
def slSHADOW : Nat := 8

/-- The EPOCH section of the epoch in progress, or of the last one. -/
def YewSession.def_ (v : YewSession) : EpochDef :=
  v.epochs.getD (3 * v.variant + v.kind) { period := 0, margin := 0, endPoint := 0, rate0 := 0, rate1 := 0, batch := 1 }
/-- 100 ns before the end point of the epoch in progress (R107). -/
def YewSession.guard (v : YewSession) : Nat := v.epochStart + v.def_.endPoint - 100
/-- The session's slip line is set, and the record filled where it is empty (R106, R111); a slip raised by 100 ns before the
end point spoils the epoch (R107). -/
def sessionSlip (s : State) (h : Nat) (r : SlipRecord) : State :=
  s.modSession h fun v => { v with
    slipLine := true, firstSlip := some (v.firstSlip.getD r)
    spoiled := v.spoiled || (v.inEpoch && decide (s.lc ≤ v.guard)) }

/-- A tile raises a slip: cause, buffer, step, FILL and EXPECTED (R105, R106, R111). -/
def slipAt (s : State) (t cause buffer step fill expected : Nat) : State :=
  let s1 := s.modTile t fun x => { x with slips := sat32 x.slips 1 }
  match tileSession s t with
  | none => s1
  | some (h, v) => sessionSlip s1 h
      { time := s.lc, epoch := wrap32 v.epoch, tile := tileCode t, slot := (logicalOf s t).getD (t % 9), cause := cause,
        buffer := buffer, step := step, fill := fill, expected := expected }
/-- The entry of the tile's running step, or 0. -/
def stepEntry (s : State) (t : Nat) : Nat := ((s.tile t).step.map StepRun.entry).getD 0
/-- A slip during a step. -/
def slipNow (s : State) (t cause buffer fill expected : Nat) : State := slipAt s t cause buffer (stepEntry s t) fill expected

/-- The step's results are marked poisoned, and the tile slips with cause POISON (R98, R175). -/
def poisonTile (s : State) (t : Nat) : State :=
  slipNow (s.modTile t fun x => { x with poisonStep := true }) t slPOISON 0xFF 0 0

/-! ### SRAM regions and the shadow (R100, R102, R186) -/

/-- Size of a tile's SRAM. -/
def sramSize : Nat := 10485760
/-- The region of a tile that holds an address. -/
def regionOf (x : Tile) (a : Nat) : Option Region := x.regions.find? fun r => decide (r.base ≤ a ∧ a < r.base + r.length)
/-- A range touches a region of the class, while the tile serves a session. -/
def touches (s : State) (t a len : Nat) (c : RegionClass) : Bool :=
  (tileSession s t).isSome && (s.tile t).regions.any fun r => decide (r.cls = c) && overlap a len r.base r.length

/-- Total PERSIST bytes of a tile. -/
def persistBytes (x : Tile) : Nat := (x.regions.map fun r => if r.cls = .persist then r.length else 0).foldl (· + ·) 0
/-- Offset, among a tile's PERSIST bytes, of an address in a PERSIST region. -/
def persistOffset (a : Nat) : List Region → Option Nat
  | [] => none
  | r :: l =>
    if r.cls = .persist then
      (if r.base ≤ a ∧ a < r.base + r.length then some (a - r.base) else (persistOffset a l).map (· + r.length))
    else persistOffset a l
/-- Plot-space address of a session's shadow (R186), with WORK_BIAS (R194). -/
def shadowBase (s : State) (v : YewSession) : Nat :=
  ((s.models.get? v.params.model).map fun m => m.header.workBase + m.header.shadowOffset).getD 0 + v.params.workBias
/-- Plot-space address of the shadow byte of a tile's PERSIST byte. -/
def shadowAddr (s : State) (v : YewSession) (t a : Nat) : Option Nat :=
  let before := ((sessTiles s v).takeWhile fun u => decide (u ≠ t)).map fun u => persistBytes (s.tile u)
  (persistOffset a (s.tile t).regions).map fun o => shadowBase s v + 64 + before.foldl (· + ·) 0 + o

/-- PERSIST bytes of a write go through the gateways to the shadow; the group is busy with them at 768 B per TCLK cycle
(R81, R102). -/
def writeThrough (s : State) (t a : Nat) (data : Bytes) : State :=
  match tileSession s t with
  | none => s
  | some (_, v) =>
    if !touches s t a data.length .persist then s
    else
      let s1 := (data.zipIdx a).foldl (fun s c => match shadowAddr s v t c.2 with
        | some d => (writeRaw s v.part d [c.1]).2
        | none => s) s
      s1.modGroup (t / 9) fun g => { g with shadowAt := max g.shadowAt s.lc + tclkNs s ((data.length + 767) / 768) }

/-- Bytes enter a tile's SRAM: words covered whole lose their poison. -/
def sramPut (x : Tile) (a : Nat) (data : Bytes) : Tile :=
  { x with
    sram := x.sram.writeN a data
    poisoned := x.poisoned.filter fun w => !coversWord a data.length w }

/-- A write by the sequencer or its units (R100): discarded with an OVERRUN slip in a WEIGHT region, discarded in a STREAM
region, written through from a PERSIST region. -/
def sramStore (s : State) (t a : Nat) (data : Bytes) : State :=
  if touches s t a data.length .weight then slipNow s t slOVERRUN 0xFF 0 0
  else if touches s t a data.length .stream then s
  else writeThrough (s.modTile t fun x => sramPut x a data) t a data

/-- A range of SRAM holds a poisoned word (R98). -/
def sramBad (x : Tile) (a len : Nat) : Bool := x.poisoned.any fun w => decide (32 * w < a + len ∧ a < 32 * w + 32)
/-- A read by the step: a poisoned word marks its results and slips (R98). -/
def sramCheck (s : State) (t a len : Nat) : State := if sramBad (s.tile t) a len then poisonTile s t else s

/-! ### Landing buffers (R103, R104) -/

/-- The landing buffer that holds a whole range. -/
def landingOf (x : Tile) (a len : Nat) : Option (Nat × Landing) :=
  x.landing.find? fun p => decide (p.2.base ≤ a ∧ a + len ≤ p.2.base + p.2.length)

/-- A discarded arrival is counted and slips with cause OVERRUN (R104). -/
def discardArrival (s : State) (t buffer fill expected : Nat) : State :=
  slipNow (s.modTile t fun x => { x with discarded := sat32 x.discarded 1 }) t slOVERRUN buffer fill expected

/-- An arrival by mesh or gateway (R103, R104): data, the gateway reads behind it, the words of it that are poisoned. -/
def arriveAt (s : State) (t a : Nat) (data : Bytes) (reads : List (Nat × Nat × Nat)) (bad : List Nat) : State :=
  match landingOf (s.tile t) a data.length with
  | none => discardArrival s t 0xFF 0 0
  | some (k, b) =>
    if b.expected < b.fill + data.length then discardArrival s t k b.fill b.expected
    else
      let s1 := s.modTile t fun x =>
        let y := sramPut x a data
        { y with
          poisoned := bad ++ y.poisoned.filter fun w => !bad.contains w
          landing := y.landing.modify k fun l => { l with
            fill := l.fill + data.length
            lastReads := (if l.fill = 0 then [] else l.lastReads) ++ reads } }
      writeThrough s1 t a data

/-- FILL of the named buffers returns to zero (R103). -/
def releaseBuffers (x : Tile) (mask : Nat) : Tile :=
  { x with landing := x.landing.mapV fun k b => if mask.testBit k then { b with fill := 0 } else b }

/-! ### Steps (R168) -/

/-- A gateway command of the tile's step has not completed. -/
def gatePending (s : State) (t : Nat) : Bool := s.mesh.any fun m => m.gateway && decide (m.src = t)
/-- The step of a tile has finished: END has issued and every tensor command has completed (R168). -/
def stepFinished (s : State) (t : Nat) : Bool :=
  let x := s.tile t
  match x.step with
  | none => true
  | some r => (s.core (1024 + t)).ended && x.qMatrix.isEmpty && x.qVector.isEmpty && x.qSend.isEmpty && x.qGate.isEmpty
      && decide (r.busyUntil ≤ tclkNow s) && !gatePending s t
/-- A finished step releases its buffers, and the sequencer waits for its next entry (R103, R168). -/
def settleStep (s : State) (t : Nat) : State :=
  match (s.tile t).step with
  | none => s
  | some r =>
    if !stepFinished s t then s
    else (s.modTile t fun x => { releaseBuffers x r.release with step := none }).modCore (1024 + t) fun c =>
      { c.retire r.busyUntil with running := false, ended := false }

/-- A tile stops: nothing issues, nothing of its queues runs (R87). -/
def stopTile (s : State) (t : Nat) : State :=
  (s.modTile t fun x => { x with step := none, qMatrix := [], qVector := [], qSend := [], qGate := [] }).modCore (1024 + t)
    fun c => { c with running := false, ended := false, pend := [] }

end Sys2Proof.Machine
end

