-- ==== Sys2Proof/Machine/KnMem.lean ====
section
/-! DEFINITION. Knalys loads and stores over the windows of each profile (05 R158 to R160, R166), waits and END (R167,
R168), and custom syllables (R176 to R181). -/

namespace Sys2Proof.Machine

/-! ### Loads and stores -/

/-- An address aligned down to a multiple of `n` (R159). -/
def alignDown (a n : Nat) : Nat := a / n * n
/-- A core's data address: base plus immediate, modulo 2^64, aligned down. -/
def coreAddr (c : Core) (slot ra imm n : Nat) : Nat := alignDown (((c.reg ra).toNat + c.imm slot imm) % 2 ^ 64) n

/-- What a load of `n` bytes at an address reads, and the state after it (R29, R98, R160, R166). -/
def coreRead (s : State) (k : CoreId) (a n : Nat) : Bytes × State :=
  match k with
  | .privet _ _ =>
    let c := s.core (coreNo k)
    if a + n ≤ 4096 then (c.scratch.readN a n, s)
    else if 0x10000 ≤ a ∧ a + n ≤ 0x14000 then
      ((List.range n).map fun j => c.packetByte (a - 0x10000 + j),
        if c.pktLen < a - 0x10000 + n then s.modCore (coreNo k) fun c => c.stick 1 else s)
    else (zeros n, coreViolation s k a 1 n)
  | .yew t =>
    if a + n ≤ sramSize then ((s.tile t).sram.readN a n, sramCheck s t a n)
    else (zeros n, coreViolation s k a 1 n)

/-- A store of bytes at an address (R29, R100, R160, R166). -/
def coreStore (s : State) (k : CoreId) (a : Nat) (data : Bytes) : State :=
  match k with
  | .privet _ _ =>
    if a + data.length ≤ 4096 then s.modCore (coreNo k) fun c => { c with scratch := c.scratch.writeN a data }
    else if 0x10000 ≤ a ∧ a + data.length ≤ 0x14000 then s
    else coreViolation s k a 2 data.length
  | .yew t =>
    if a + data.length ≤ sramSize then sramStore s t a data else coreViolation s k a 2 data.length

/-- A load of `n` bytes, sign-extended or zero-extended, at latency 3 (R148, R159). -/
def loadOp (n : Nat) (signed : Bool) (i : Issue) (rd ra imm : Nat) (s : State) : State :=
  issueS i .memory (fun s =>
    let a := coreAddr (s.core (coreNo i.core)) i.slot ra imm n
    let r := coreRead s i.core a n
    r.2.modCore (coreNo i.core) fun c =>
      c.write i 3 rd (if signed then sext64 (8 * n) (ofLe r.1) else ofLe r.1)) s

/-- A store of the low `n` bytes of the RD register (R148, R159). -/
def storeOp (n : Nat) (i : Issue) (rd ra imm : Nat) (s : State) : State :=
  issueS i .memory (fun s =>
    let c := s.core (coreNo i.core)
    coreStore s i.core (coreAddr c i.slot ra imm n) (le n (c.reg rd).toNat)) s

/-- LDB (R158, R159). -/
def execLdb (i : Issue) (rd ra : Fin 32) (imm : BitVec 14) (s : State) : Host.Outcome State Fault Refusal :=
  .next (loadOp 1 true i rd ra imm.toNat s)
/-- LDBU (R158, R159). -/
def execLdbu (i : Issue) (rd ra : Fin 32) (imm : BitVec 14) (s : State) : Host.Outcome State Fault Refusal :=
  .next (loadOp 1 false i rd ra imm.toNat s)
/-- LDH (R158, R159). -/
def execLdh (i : Issue) (rd ra : Fin 32) (imm : BitVec 14) (s : State) : Host.Outcome State Fault Refusal :=
  .next (loadOp 2 true i rd ra imm.toNat s)
/-- LDHU (R158, R159). -/
def execLdhu (i : Issue) (rd ra : Fin 32) (imm : BitVec 14) (s : State) : Host.Outcome State Fault Refusal :=
  .next (loadOp 2 false i rd ra imm.toNat s)
/-- LDW (R158, R159). -/
def execLdw (i : Issue) (rd ra : Fin 32) (imm : BitVec 14) (s : State) : Host.Outcome State Fault Refusal :=
  .next (loadOp 4 true i rd ra imm.toNat s)
/-- LDWU (R158, R159). -/
def execLdwu (i : Issue) (rd ra : Fin 32) (imm : BitVec 14) (s : State) : Host.Outcome State Fault Refusal :=
  .next (loadOp 4 false i rd ra imm.toNat s)
/-- LDD (R158, R159). -/
def execLdd (i : Issue) (rd ra : Fin 32) (imm : BitVec 14) (s : State) : Host.Outcome State Fault Refusal :=
  .next (loadOp 8 false i rd ra imm.toNat s)
/-- STB (R158, R159). -/
def execStb (i : Issue) (rd ra : Fin 32) (imm : BitVec 14) (s : State) : Host.Outcome State Fault Refusal :=
  .next (storeOp 1 i rd ra imm.toNat s)
/-- STH (R158, R159). -/
def execSth (i : Issue) (rd ra : Fin 32) (imm : BitVec 14) (s : State) : Host.Outcome State Fault Refusal :=
  .next (storeOp 2 i rd ra imm.toNat s)
/-- STW (R158, R159). -/
def execStw (i : Issue) (rd ra : Fin 32) (imm : BitVec 14) (s : State) : Host.Outcome State Fault Refusal :=
  .next (storeOp 4 i rd ra imm.toNat s)
/-- STD (R158, R159). -/
def execStd (i : Issue) (rd ra : Fin 32) (imm : BitVec 14) (s : State) : Host.Outcome State Fault Refusal :=
  .next (storeOp 8 i rd ra imm.toNat s)

/-! ### Waits and END -/

/-- LWAIT: the next bundle waits until the Launch Counter copy reaches RA (R167). -/
def execLwait (i : Issue) (ra : Fin 32) (s : State) : Host.Outcome State Fault Refusal :=
  .next (if !isYew i.core then s
    else issue i .control (fun c => { c with waitUntil := some (c.reg ra).toNat }) s)
/-- LWAITS: as LWAIT, until YEW_STEPBASE + WAIT21 ns (R167). -/
def execLwaits (i : Issue) (wait : BitVec 21) (s : State) : Host.Outcome State Fault Refusal :=
  .next (if !isYew i.core then s
    else issue i .control (fun c => { c with waitUntil := some (c.stepBase + wait.toNat) }) s)
/-- END: the step issues no further bundle; it has finished once its tensor commands have completed (R168). -/
def execEndStep (i : Issue) (s : State) : Host.Outcome State Fault Refusal :=
  .next (if !isYew i.core then s else issue i .control (fun c => { c with ended := true }) s)

/-! ### Custom syllables (R176 to R181) -/

/-- A micro-operation word's fields: UOP, DST, SA, SB, P0, P1 (R178). -/
structure Uop where
  uop : Nat
  dst : Nat
  sa : Nat
  sb : Nat
  p0 : Nat
  p1 : Nat
  deriving DecidableEq, Repr
/-- The fields of a word (R178). -/
def Uop.ofWord (w : Nat) : Uop :=
  { uop := bitsOf w 31 26, dst := bitsOf w 25 23, sa := bitsOf w 22 20, sb := bitsOf w 19 17, p0 := bitsOf w 16 11,
    p1 := bitsOf w 10 5 }

/-- The 64 bytes of a decode table's entry for opcode 0x70 + k (R177). -/
def decodeEntry (table : Bytes) (k : Nat) : Bytes := (table.drop (64 * k)).take 64
/-- VALID of an entry. -/
def entryValid (e : Bytes) : Bool := bitOf (fieldAt e 0 1) 0
/-- Word of micro-operation i. -/
def entryUop (e : Bytes) (i : Nat) : Uop := Uop.ofWord (fieldAt e (8 + 4 * i) 4)
/-- COUNT of an entry. -/
def entryCount (e : Bytes) : Nat := fieldAt e 1 1
/-- LATENCY of an entry. -/
def entryLatency (e : Bytes) : Nat := fieldAt e 2 1
/-- FLAGS of an entry. -/
def entryFlags (e : Bytes) : Nat := bitsOf (fieldAt e 0 1) 2 1
/-- The entry's width. -/
def entryWidth (e : Bytes) : Nat := if bitOf (fieldAt e 0 1) 3 then 32 else 64

/-- Latency of a micro-operation (R179). -/
def uopLatency (u : Nat) : Nat := if u = 0x19 ∨ u = 0x1A ∨ u = 0x1C then 3 else if u = 0x1B then 2 else 1

/-- A rotation of a 64-bit value left by 31, of (x × 0x9E37_79B9_7F4A_7C15) (R179 HMIX). -/
def hmix (x : Nat) : Nat :=
  let h := x * 0x9E3779B97F4A7C15 % 2 ^ 64
  h * 2 ^ 31 % 2 ^ 64 + h / 2 ^ 33

/-- A micro-operation on operands of width w (R179). -/
def runUop (w : Nat) (u : Uop) (a b : Nat) : Alu :=
  let m := 2 ^ (u.p1 + 1)
  match u.uop with
  | 0x00 => opAdd w a b 0 | 0x01 => opSub w a b 0 | 0x02 => opAnd w a b 0 | 0x03 => opOr w a b 0
  | 0x04 => opXor w a b 0 | 0x05 => opAndn w a b 0 | 0x06 => opSll w a b 0 | 0x07 => opSrl w a b 0
  | 0x08 => opSra w a b 0 | 0x09 => opRol w a b 0
  | 0x0A => opSll w a u.p0 0 | 0x0B => opSrl w a u.p0 0 | 0x0C => opSra w a u.p0 0 | 0x0D => opRol w a u.p0 0
  | 0x0E => aluLogic w (a / 2 ^ u.p0 % m % 2 ^ w)
  | 0x0F => aluLogic w (patOf w (signedOf (u.p1 + 1) (a / 2 ^ u.p0 % m)))
  | 0x10 => aluLogic w ((a % 2 ^ u.p0 + b % m * 2 ^ u.p0 + a / 2 ^ (u.p0 + u.p1 + 1) * 2 ^ (u.p0 + u.p1 + 1)) % 2 ^ w)
  | 0x11 => opMin w a b 0 | 0x12 => opMax w a b 0 | 0x13 => opMinu w a b 0 | 0x14 => opMaxu w a b 0
  | 0x15 => opClz w a b 0 | 0x16 => opPopc w a b 0 | 0x17 => opBswap w a b 0
  | 0x18 => aluLogic w (if b ≠ 0 then a else 0)
  | 0x19 => opMul w a b 0 | 0x1A => opMulhu w a b 0
  | 0x1B => aluLogic w (crc32cRaw (a % 2 ^ 32) (le 8 b) % 2 ^ w)
  | 0x1C => aluLogic w (hmix (a ^^^ b) % 2 ^ w)
  | _ => aluLogic w 0

/-- The sources and results of a running entry: RA, RB, IMM9, zero, t0 to t3, then RD's result. -/
structure UopEnv where
  srcs : Tbl Nat
  out : Alu
  deriving DecidableEq, Repr
/-- One micro-operation of an entry (R178). -/
def stepUop (w : Nat) (v : UopEnv) (u : Uop) : UopEnv :=
  if u.uop = 0x3F then v
  else
    let r := runUop w u (v.srcs.getD u.sa 0 % 2 ^ w) (v.srcs.getD u.sb 0 % 2 ^ w)
    if u.dst = 4 then { v with out := r } else { v with srcs := v.srcs.set (4 + u.dst) r.val }

/-- All the micro-operations of an entry on the operands as read at issue (R178, R180). -/
def runEntry (e : Bytes) (ra rb imm : Nat) : Alu :=
  let w := entryWidth e
  let v := ((List.range (entryCount e)).map (entryUop e)).foldl (stepUop w)
    { srcs := [(0, ra), (1, rb), (2, imm)], out := aluLogic w 0 }
  if entryFlags e = 1 then { v.out with flags := nzOf w v.out.val, mask := 15 } else v.out

/-- The decode table that a core's program runs under (R176). -/
def decodeOf (s : State) (k : CoreId) (n : Nat) : Bytes :=
  let c := s.core (coreNo k)
  if isYew k then c.decode.getD n [] else decodeEntry (s.decode.getD c.owner []) n

/-- The entry serves the profile (R177 PROFILE). -/
def entryProfile (e : Bytes) (yew : Bool) : Bool := bitOf (fieldAt e 3 1) (b2n yew)

/-- CUSTOM (R176 to R181): an opcode without a valid entry for the profile, or .f on an entry without flags, is refused at
load and never issues (R157). -/
def execCustom (i : Issue) (k : Fin 16) (rd ra rb : Fin 32) (imm : BitVec 9) (f : Bool) (s : State) :
    Host.Outcome State Fault Refusal :=
  .next (
    let e := decodeOf s i.core k
    if !entryValid e || !entryProfile e (isYew i.core) || (f && decide (entryFlags e = 0)) then s
    else issue i .compute (fun c => c.result i (entryLatency e) rd f (entryWidth e)
      (runEntry e (c.reg ra).toNat (c.reg rb).toNat (sext64 9 imm.toNat))) s)

end Sys2Proof.Machine
end

