-- ==== Sys2Proof/Machine/Scalar.lean ====
section
/-! DEFINITION. The Knalys syllables that both profiles share: control, integer arithmetic, special registers, loads and
stores (05 R141 to R159), with the YEW_LBFILL and YEW_QSTAT views of a tile (R144). -/

namespace Sys2Proof.Machine

/-- NOP (R141). -/
def execNop (i : Issue) (s : State) : Host.Outcome State Fault Refusal := .next (issue i .any id s)

/-! ### Control (R151 to R156) -/

/-- A taken branch: two delay bundles, then the target modulo the region (R151, R152). -/
def Core.taken (c : Core) (t : Int) : Core := { c with branch := some (2, (t % (c.region : Int)).toNat) }
/-- The link address b + 3 on its way to g31 (R152). -/
def Core.link (c : Core) (i : Issue) : Core := c.write i 1 31 (c.pc + 3)
/-- B (R146, R151, R152). -/
def execB (i : Issue) (cond : BitVec 4) (off : BitVec 21) (s : State) : Host.Outcome State Fault Refusal :=
  .next (issue i .control (fun c => if condHolds cond.toNat c.flags then c.taken (c.pc + off.toInt) else c) s)
/-- JAL (R151, R152). -/
def execJal (i : Issue) (off : BitVec 21) (s : State) : Host.Outcome State Fault Refusal :=
  .next (issue i .control (fun c => (c.link i).taken (c.pc + off.toInt)) s)
/-- JR (R151, R152). -/
def execJr (i : Issue) (ra : Fin 32) (s : State) : Host.Outcome State Fault Refusal :=
  .next (issue i .control (fun c => c.taken (c.reg ra).toNat) s)
/-- JALR (R151, R152). -/
def execJalr (i : Issue) (ra : Fin 32) (s : State) : Host.Outcome State Fault Refusal :=
  .next (issue i .control (fun c => (c.link i).taken (c.reg ra).toNat) s)
/-- Slots 1 to 3 of the bundle issue `n` times (R154). -/
def Core.repeat_ (c : Core) (n : Nat) : Core := { c with hidden := n - 1, skip := decide (n = 0) }
/-- RPT (R154). -/
def execRpt (i : Issue) (count : BitVec 16) (s : State) : Host.Outcome State Fault Refusal :=
  .next (issue i .control (fun c => c.repeat_ count.toNat) s)
/-- RPTR (R154). -/
def execRptr (i : Issue) (s : State) : Host.Outcome State Fault Refusal :=
  .next (issue i .control (fun c => c.repeat_ (min c.rptc.toNat 65535)) s)
/-- IMX (R153). -/
def execImx (i : Issue) (target : BitVec 2) (hi : BitVec 18) (s : State) : Host.Outcome State Fault Refusal :=
  .next (issue i .control (fun c => { c with imx := some (target.toNat, hi.toNat) }) s)

/-! ### ALU-R and ALU-W (R158) -/

/-- ADD (R145, R158). -/
def execAdd (i : Issue) (rd ra rb : Fin 32) (f : Bool) (s : State) : Host.Outcome State Fault Refusal :=
  .next (aluRR 64 1 opAdd i rd ra rb f s)

/-- SUB (R145, R158). -/
def execSub (i : Issue) (rd ra rb : Fin 32) (f : Bool) (s : State) : Host.Outcome State Fault Refusal :=
  .next (aluRR 64 1 opSub i rd ra rb f s)

/-- AND (R145, R158). -/
def execKnAnd (i : Issue) (rd ra rb : Fin 32) (f : Bool) (s : State) : Host.Outcome State Fault Refusal :=
  .next (aluRR 64 1 opAnd i rd ra rb f s)

/-- OR (R145, R158). -/
def execKnOr (i : Issue) (rd ra rb : Fin 32) (f : Bool) (s : State) : Host.Outcome State Fault Refusal :=
  .next (aluRR 64 1 opOr i rd ra rb f s)

/-- XOR (R145, R158). -/
def execXor (i : Issue) (rd ra rb : Fin 32) (f : Bool) (s : State) : Host.Outcome State Fault Refusal :=
  .next (aluRR 64 1 opXor i rd ra rb f s)

/-- ANDN (R145, R158). -/
def execAndn (i : Issue) (rd ra rb : Fin 32) (f : Bool) (s : State) : Host.Outcome State Fault Refusal :=
  .next (aluRR 64 1 opAndn i rd ra rb f s)

/-- SLL (R145, R158). -/
def execSll (i : Issue) (rd ra rb : Fin 32) (f : Bool) (s : State) : Host.Outcome State Fault Refusal :=
  .next (aluRR 64 1 opSll i rd ra rb f s)

/-- SRL (R145, R158). -/
def execSrl (i : Issue) (rd ra rb : Fin 32) (f : Bool) (s : State) : Host.Outcome State Fault Refusal :=
  .next (aluRR 64 1 opSrl i rd ra rb f s)

/-- SRA (R145, R158). -/
def execSra (i : Issue) (rd ra rb : Fin 32) (f : Bool) (s : State) : Host.Outcome State Fault Refusal :=
  .next (aluRR 64 1 opSra i rd ra rb f s)

/-- ROL (R145, R158). -/
def execRol (i : Issue) (rd ra rb : Fin 32) (f : Bool) (s : State) : Host.Outcome State Fault Refusal :=
  .next (aluRR 64 1 opRol i rd ra rb f s)

/-- ROR (R145, R158). -/
def execRor (i : Issue) (rd ra rb : Fin 32) (f : Bool) (s : State) : Host.Outcome State Fault Refusal :=
  .next (aluRR 64 1 opRor i rd ra rb f s)

/-- MIN (R145, R158). -/
def execKnMin (i : Issue) (rd ra rb : Fin 32) (f : Bool) (s : State) : Host.Outcome State Fault Refusal :=
  .next (aluRR 64 1 opMin i rd ra rb f s)

/-- MAX (R145, R158). -/
def execKnMax (i : Issue) (rd ra rb : Fin 32) (f : Bool) (s : State) : Host.Outcome State Fault Refusal :=
  .next (aluRR 64 1 opMax i rd ra rb f s)

/-- MINU (R145, R158). -/
def execMinu (i : Issue) (rd ra rb : Fin 32) (f : Bool) (s : State) : Host.Outcome State Fault Refusal :=
  .next (aluRR 64 1 opMinu i rd ra rb f s)

/-- MAXU (R145, R158). -/
def execMaxu (i : Issue) (rd ra rb : Fin 32) (f : Bool) (s : State) : Host.Outcome State Fault Refusal :=
  .next (aluRR 64 1 opMaxu i rd ra rb f s)

/-- NEG (R145, R158). -/
def execNeg (i : Issue) (rd ra : Fin 32) (f : Bool) (s : State) : Host.Outcome State Fault Refusal :=
  .next (aluRR 64 1 opNeg i rd ra 0 f s)

/-- CLZ (R145, R158). -/
def execClz (i : Issue) (rd ra : Fin 32) (f : Bool) (s : State) : Host.Outcome State Fault Refusal :=
  .next (aluRR 64 1 opClz i rd ra 0 f s)

/-- POPC (R145, R158). -/
def execPopc (i : Issue) (rd ra : Fin 32) (f : Bool) (s : State) : Host.Outcome State Fault Refusal :=
  .next (aluRR 64 1 opPopc i rd ra 0 f s)

/-- BSWAP (R145, R158). -/
def execBswap (i : Issue) (rd ra : Fin 32) (f : Bool) (s : State) : Host.Outcome State Fault Refusal :=
  .next (aluRR 64 1 opBswap i rd ra 0 f s)

/-- ADC (R145, R158). -/
def execAdc (i : Issue) (rd ra rb : Fin 32) (f : Bool) (s : State) : Host.Outcome State Fault Refusal :=
  .next (aluRR 64 1 opAdc i rd ra rb f s)

/-- SBC (R145, R158). -/
def execSbc (i : Issue) (rd ra rb : Fin 32) (f : Bool) (s : State) : Host.Outcome State Fault Refusal :=
  .next (aluRR 64 1 opSbc i rd ra rb f s)

/-- ADDW (R145, R158). -/
def execAddw (i : Issue) (rd ra rb : Fin 32) (f : Bool) (s : State) : Host.Outcome State Fault Refusal :=
  .next (aluRR 32 1 opAdd i rd ra rb f s)

/-- SUBW (R145, R158). -/
def execSubw (i : Issue) (rd ra rb : Fin 32) (f : Bool) (s : State) : Host.Outcome State Fault Refusal :=
  .next (aluRR 32 1 opSub i rd ra rb f s)

/-- ANDW (R145, R158). -/
def execAndw (i : Issue) (rd ra rb : Fin 32) (f : Bool) (s : State) : Host.Outcome State Fault Refusal :=
  .next (aluRR 32 1 opAnd i rd ra rb f s)

/-- ORW (R145, R158). -/
def execOrw (i : Issue) (rd ra rb : Fin 32) (f : Bool) (s : State) : Host.Outcome State Fault Refusal :=
  .next (aluRR 32 1 opOr i rd ra rb f s)

/-- XORW (R145, R158). -/
def execXorw (i : Issue) (rd ra rb : Fin 32) (f : Bool) (s : State) : Host.Outcome State Fault Refusal :=
  .next (aluRR 32 1 opXor i rd ra rb f s)

/-- ANDNW (R145, R158). -/
def execAndnw (i : Issue) (rd ra rb : Fin 32) (f : Bool) (s : State) : Host.Outcome State Fault Refusal :=
  .next (aluRR 32 1 opAndn i rd ra rb f s)

/-- SLLW (R145, R158). -/
def execSllw (i : Issue) (rd ra rb : Fin 32) (f : Bool) (s : State) : Host.Outcome State Fault Refusal :=
  .next (aluRR 32 1 opSll i rd ra rb f s)

/-- SRLW (R145, R158). -/
def execSrlw (i : Issue) (rd ra rb : Fin 32) (f : Bool) (s : State) : Host.Outcome State Fault Refusal :=
  .next (aluRR 32 1 opSrl i rd ra rb f s)

/-- SRAW (R145, R158). -/
def execSraw (i : Issue) (rd ra rb : Fin 32) (f : Bool) (s : State) : Host.Outcome State Fault Refusal :=
  .next (aluRR 32 1 opSra i rd ra rb f s)

/-- ROLW (R145, R158). -/
def execRolw (i : Issue) (rd ra rb : Fin 32) (f : Bool) (s : State) : Host.Outcome State Fault Refusal :=
  .next (aluRR 32 1 opRol i rd ra rb f s)

/-- RORW (R145, R158). -/
def execRorw (i : Issue) (rd ra rb : Fin 32) (f : Bool) (s : State) : Host.Outcome State Fault Refusal :=
  .next (aluRR 32 1 opRor i rd ra rb f s)

/-- MINW (R145, R158). -/
def execMinw (i : Issue) (rd ra rb : Fin 32) (f : Bool) (s : State) : Host.Outcome State Fault Refusal :=
  .next (aluRR 32 1 opMin i rd ra rb f s)

/-- MAXW (R145, R158). -/
def execMaxw (i : Issue) (rd ra rb : Fin 32) (f : Bool) (s : State) : Host.Outcome State Fault Refusal :=
  .next (aluRR 32 1 opMax i rd ra rb f s)

/-- MINUW (R145, R158). -/
def execMinuw (i : Issue) (rd ra rb : Fin 32) (f : Bool) (s : State) : Host.Outcome State Fault Refusal :=
  .next (aluRR 32 1 opMinu i rd ra rb f s)

/-- MAXUW (R145, R158). -/
def execMaxuw (i : Issue) (rd ra rb : Fin 32) (f : Bool) (s : State) : Host.Outcome State Fault Refusal :=
  .next (aluRR 32 1 opMaxu i rd ra rb f s)

/-- NEGW (R145, R158). -/
def execNegw (i : Issue) (rd ra : Fin 32) (f : Bool) (s : State) : Host.Outcome State Fault Refusal :=
  .next (aluRR 32 1 opNeg i rd ra 0 f s)

/-- CLZW (R145, R158). -/
def execClzw (i : Issue) (rd ra : Fin 32) (f : Bool) (s : State) : Host.Outcome State Fault Refusal :=
  .next (aluRR 32 1 opClz i rd ra 0 f s)

/-- POPCW (R145, R158). -/
def execPopcw (i : Issue) (rd ra : Fin 32) (f : Bool) (s : State) : Host.Outcome State Fault Refusal :=
  .next (aluRR 32 1 opPopc i rd ra 0 f s)

/-- BSWAPW (R145, R158). -/
def execBswapw (i : Issue) (rd ra : Fin 32) (f : Bool) (s : State) : Host.Outcome State Fault Refusal :=
  .next (aluRR 32 1 opBswap i rd ra 0 f s)

/-- ADCW (R145, R158). -/
def execAdcw (i : Issue) (rd ra rb : Fin 32) (f : Bool) (s : State) : Host.Outcome State Fault Refusal :=
  .next (aluRR 32 1 opAdc i rd ra rb f s)

/-- SBCW (R145, R158). -/
def execSbcw (i : Issue) (rd ra rb : Fin 32) (f : Bool) (s : State) : Host.Outcome State Fault Refusal :=
  .next (aluRR 32 1 opSbc i rd ra rb f s)

/-! ### Multiply and divide (R148, R158) -/

/-- MUL (R138, R145, R158). -/
def execMul (i : Issue) (rd ra rb : Fin 32) (f : Bool) (s : State) : Host.Outcome State Fault Refusal :=
  .next (aluRR 64 3 opMul i rd ra rb f s)

/-- MULHS (R138, R145, R158). -/
def execMulhs (i : Issue) (rd ra rb : Fin 32) (f : Bool) (s : State) : Host.Outcome State Fault Refusal :=
  .next (aluRR 64 3 opMulhs i rd ra rb f s)

/-- MULHU (R138, R145, R158). -/
def execMulhu (i : Issue) (rd ra rb : Fin 32) (f : Bool) (s : State) : Host.Outcome State Fault Refusal :=
  .next (aluRR 64 3 opMulhu i rd ra rb f s)

/-- MULW (R138, R145, R158). -/
def execMulw (i : Issue) (rd ra rb : Fin 32) (f : Bool) (s : State) : Host.Outcome State Fault Refusal :=
  .next (aluRR 32 3 opMul i rd ra rb f s)

/-- DIV (R138, R145, R158). -/
def execDiv (i : Issue) (rd ra rb : Fin 32) (f : Bool) (s : State) : Host.Outcome State Fault Refusal :=
  .next (aluRR 64 18 opDiv i rd ra rb f s)

/-- DIVU (R138, R145, R158). -/
def execDivu (i : Issue) (rd ra rb : Fin 32) (f : Bool) (s : State) : Host.Outcome State Fault Refusal :=
  .next (aluRR 64 18 opDivu i rd ra rb f s)

/-- REM (R138, R145, R158). -/
def execRem (i : Issue) (rd ra rb : Fin 32) (f : Bool) (s : State) : Host.Outcome State Fault Refusal :=
  .next (aluRR 64 18 opRem i rd ra rb f s)

/-- REMU (R138, R145, R158). -/
def execRemu (i : Issue) (rd ra rb : Fin 32) (f : Bool) (s : State) : Host.Outcome State Fault Refusal :=
  .next (aluRR 64 18 opRemu i rd ra rb f s)

/-- DIVW (R138, R145, R158). -/
def execDivw (i : Issue) (rd ra rb : Fin 32) (f : Bool) (s : State) : Host.Outcome State Fault Refusal :=
  .next (aluRR 32 18 opDiv i rd ra rb f s)

/-- DIVUW (R138, R145, R158). -/
def execDivuw (i : Issue) (rd ra rb : Fin 32) (f : Bool) (s : State) : Host.Outcome State Fault Refusal :=
  .next (aluRR 32 18 opDivu i rd ra rb f s)

/-- REMW (R138, R145, R158). -/
def execRemw (i : Issue) (rd ra rb : Fin 32) (f : Bool) (s : State) : Host.Outcome State Fault Refusal :=
  .next (aluRR 32 18 opRem i rd ra rb f s)

/-- REMUW (R138, R145, R158). -/
def execRemuw (i : Issue) (rd ra rb : Fin 32) (f : Bool) (s : State) : Host.Outcome State Fault Refusal :=
  .next (aluRR 32 18 opRemu i rd ra rb f s)

/-! ### Immediate forms (R153, R158) -/

/-- ADDI (R145, R153, R158). -/
def execAddi (i : Issue) (rd ra : Fin 32) (imm : BitVec 14) (f : Bool) (s : State) :
    Host.Outcome State Fault Refusal :=
  .next (aluRI opAdd i rd ra imm.toNat f s)

/-- ANDI (R145, R153, R158). -/
def execAndi (i : Issue) (rd ra : Fin 32) (imm : BitVec 14) (f : Bool) (s : State) :
    Host.Outcome State Fault Refusal :=
  .next (aluRI opAnd i rd ra imm.toNat f s)

/-- ORI (R145, R153, R158). -/
def execOri (i : Issue) (rd ra : Fin 32) (imm : BitVec 14) (f : Bool) (s : State) :
    Host.Outcome State Fault Refusal :=
  .next (aluRI opOr i rd ra imm.toNat f s)

/-- XORI (R145, R153, R158). -/
def execXori (i : Issue) (rd ra : Fin 32) (imm : BitVec 14) (f : Bool) (s : State) :
    Host.Outcome State Fault Refusal :=
  .next (aluRI opXor i rd ra imm.toNat f s)

/-- SLLI (R145, R153, R158). -/
def execSlli (i : Issue) (rd ra : Fin 32) (imm : BitVec 14) (f : Bool) (s : State) :
    Host.Outcome State Fault Refusal :=
  .next (aluRI opSll i rd ra imm.toNat f s)

/-- SRLI (R145, R153, R158). -/
def execSrli (i : Issue) (rd ra : Fin 32) (imm : BitVec 14) (f : Bool) (s : State) :
    Host.Outcome State Fault Refusal :=
  .next (aluRI opSrl i rd ra imm.toNat f s)

/-- SRAI (R145, R153, R158). -/
def execSrai (i : Issue) (rd ra : Fin 32) (imm : BitVec 14) (f : Bool) (s : State) :
    Host.Outcome State Fault Refusal :=
  .next (aluRI opSra i rd ra imm.toNat f s)

/-- RORI (R145, R153, R158). -/
def execRori (i : Issue) (rd ra : Fin 32) (imm : BitVec 14) (f : Bool) (s : State) :
    Host.Outcome State Fault Refusal :=
  .next (aluRI opRor i rd ra imm.toNat f s)

/-- MOVI (R158). -/
def execMovi (i : Issue) (rd : Fin 32) (imm : BitVec 19) (f : Bool) (s : State) : Host.Outcome State Fault Refusal :=
  .next (issue i .compute (fun c => c.result i 1 rd f 64 (aluLogic 64 (sext64 19 imm.toNat))) s)
/-- CSEL (R146, R158). -/
def execCsel (i : Issue) (rd ra rb : Fin 32) (cond : BitVec 4) (f : Bool) (s : State) : Host.Outcome State Fault Refusal :=
  .next (issue i .compute (fun c => c.result i 1 rd f 64
    (aluLogic 64 (if condHolds cond.toNat c.flags then (c.reg ra).toNat else (c.reg rb).toNat))) s)

/-! ### Special registers (R144) -/

/-- Index, within its session, of the group that a tile belongs to, and the logical slot it serves: YEW UNITID. -/
def yewUnit (s : State) (t : Nat) : Nat :=
  let g := t / 9
  let slot := if t % 9 = 8 then (s.group g).renamed.getD 8 else t % 9
  let k := ((s.group g).session.bind fun h => (s.sessions.get? h).map fun v => v.groups.idxOf g).getD 0
  slot % 8 + 8 * (k % 16)

/-- YEW_QSTAT of a tile (R144). -/
def qstat (t : Tile) (c : Core) : Nat :=
  t.qMatrix.length + 2 ^ 8 * t.qVector.length + 2 ^ 16 * t.qSend.length + 2 ^ 24 * t.qGate.length + 2 ^ 32 * c.doneCount

/-- A special register as MFS reads it, where its profile has it (R144). -/
def specialValue (s : State) (k : CoreId) (n : Nat) : Option Nat :=
  let c := s.core (coreNo k)
  if n = 0x00 then some c.pc
  else if n = 0x01 then some c.flags
  else if n = 0x02 then some c.rptc.toNat
  else if n = 0x03 then some s.lc
  else match k with
    | .privet _ j =>
      if n = 0x04 then some j
      else if n = 0x40 then some c.pktLen
      else if n = 0x41 then some c.pktPort
      else if n = 0x42 then some c.prvStat
      else if n = 0x43 then some (16384 - (c.cycle - c.started))
      else none
    | .yew t =>
      if n = 0x04 then some (yewUnit s t)
      else if n = 0x10 then some c.stepBase
      else if n = 0x11 then some c.amode.toNat
      else if n = 0x12 then some c.fpstat.toNat
      else if n = 0x13 then some (qstat (s.tile t) c)
      else if 0x14 ≤ n ∧ n ≤ 0x17 then some (c.lovf / 2 ^ (64 * (n - 0x14)) % 2 ^ 64)
      else if 0x20 ≤ n ∧ n ≤ 0x3F then some ((((s.tile t).landing.get? (n - 0x20)).map Landing.fill).getD 0)
      else none

/-- MFS; a number that the profile does not have is refused at load and never issues (R144, R157). -/
def execMfs (i : Issue) (rd : Fin 32) (n : BitVec 8) (f : Bool) (s : State) : Host.Outcome State Fault Refusal :=
  .next (if (specialValue s i.core n.toNat).isNone then s
    else issueS i .compute (fun s => s.modCore (coreNo i.core) fun c => c.result i 1 rd f 64
      (aluLogic 64 ((specialValue s i.core n.toNat).getD 0 % 2 ^ 64))) s)

/-- The special registers that MTS may write (R144). -/
def specialWritable (yew : Bool) (n : Nat) : Bool :=
  decide (n = 0x01 ∨ n = 0x02) ||
    (if yew then decide (n = 0x11 ∨ n = 0x12 ∨ (0x14 ≤ n ∧ n ≤ 0x17)) else decide (n = 0x42))
/-- MTS (R144, R145, R155); an MTS to another register is refused at load and never issues (R157). -/
def execMts (i : Issue) (n : BitVec 8) (ra : Fin 32) (s : State) : Host.Outcome State Fault Refusal :=
  .next (if !specialWritable (isYew i.core) n.toNat then s
    else issue i .compute (fun c => { c with
      pend := c.pend ++ [{ due := i.cycle + 1, slot := i.slot, target := .special n.toNat, value := c.reg ra }] }) s)

end Sys2Proof.Machine
end

