-- ==== Sys2Proof/Machine/Program.lean ====
section
/-! DEFINITION. The load check of Knalys programs (05 R141, R142, R157) and of decode tables (R177 to R180). -/

namespace Sys2Proof.Machine

/-! ### Decode tables (R177 to R180) -/

/-- Cycle at which micro-operation `i` of an entry can first be read by a later one. -/
def uopReady (e : Bytes) (i : Nat) : Nat := i + uopLatency (entryUop e i).uop
/-- Whether a source names a temporary that an earlier micro-operation writes too late (R180): the last writer counts. -/
def sourceEarly (e : Bytes) (i src : Nat) : Bool :=
  decide (4 ≤ src) && (List.range i).any fun j =>
    let u := entryUop e j
    decide (u.uop ≠ 0x3F ∧ u.dst + 4 = src ∧ i < uopReady e j)
/-- The sources that a micro-operation reads: A alone, or A and B. -/
def usesB (u : Nat) : Bool := !(decide ((0x0A ≤ u ∧ u ≤ 0x0F) ∨ (0x15 ≤ u ∧ u ≤ 0x17)))
/-- Whether a micro-operation uses P0, and P1. -/
def usesP0 (u : Nat) : Bool := decide (0x0A ≤ u ∧ u ≤ 0x10)
def usesP1 (u : Nat) : Bool := decide (0x0E ≤ u ∧ u ≤ 0x10)
/-- A micro-operation word that R178 to R180 admit at place `i` of `n`. -/
def uopOk (e : Bytes) (n i : Nat) : Bool :=
  let w := fieldAt e (8 + 4 * i) 4
  let u := entryUop e i
  if u.uop = 0x3F then decide (w = 0xFC000000 ∧ i + 1 ≠ n)
  else decide (u.uop ≤ 0x1C ∧ u.dst ≤ 4 ∧ w % 32 = 0) && decide ((u.dst = 4) ↔ (i + 1 = n)) &&
    (usesB u.uop || decide (u.sb = 0)) && (usesP0 u.uop || decide (u.p0 = 0)) && (usesP1 u.uop || decide (u.p1 = 0)) &&
    !sourceEarly e i u.sa && !(usesB u.uop && sourceEarly e i u.sb)
/-- An entry that R177 to R180 admit. -/
def decodeEntryOk (e : Bytes) : Bool :=
  let n := entryCount e
  if !entryValid e then e.all fun b => decide (b = 0)
  else decide (fieldAt e 0 1 < 16 ∧ entryFlags e ≠ 3 ∧ 1 ≤ n ∧ n ≤ 8) && decide (1 ≤ entryLatency e ∧ entryLatency e ≤ 16) &&
    decide (fieldAt e 3 1 < 4 ∧ fieldAt e 4 4 = 0) && decide (ofLe (e.drop 40) = 0 ∧ ofLe ((e.drop (8 + 4 * n)).take (32 - 4 * n)) = 0) &&
    ((List.range n).all (uopOk e n)) && decide (n - 1 + uopLatency (entryUop e (n - 1)).uop ≤ entryLatency e)
/-- A decode table that R177 to R180 admit. -/
def decodeTableOk (t : Bytes) : Bool := decide (t.length = 1024) && (List.range 16).all fun k => decodeEntryOk (decodeEntry t k)

/-! ### Syllables (R141, R142, R157) -/

/-- Major opcode of a syllable. -/
def sylMajor (w : Nat) : Nat := bitsOf w 31 25
/-- A syllable in I format (R142). -/
def isIFormat (m : Nat) : Bool :=
  decide ((0x18 ≤ m ∧ m ≤ 0x1F) ∨ (0x40 ≤ m ∧ m ≤ 0x46) ∨ (0x48 ≤ m ∧ m ≤ 0x4B) ∨ m = 0x50)
/-- A special register that MFS may read in the profile (R144). -/
def specialReadable (yew : Bool) (n : Nat) : Bool :=
  decide (n ≤ 4) || (if yew then decide ((0x10 ≤ n ∧ n ≤ 0x17) ∨ (0x20 ≤ n ∧ n ≤ 0x3F)) else decide (0x40 ≤ n ∧ n ≤ 0x43))
/-- A custom syllable with a valid entry for the profile, and flags where it carries .f (R157). -/
def customOk (yew : Bool) (table : Bytes) (k : Nat) (f : Bool) : Bool :=
  let e := decodeEntry table k
  entryValid e && entryProfile e yew && !(f && decide (entryFlags e = 0))

/-- A syllable that its slot and profile accept and whose reserved fields are zero. -/
def sylOk (yew : Bool) (table : Bytes) (slot w : Nat) : Bool :=
  let m := sylMajor w
  let f := bitOf w 24
  let rd := bitsOf w 23 19
  let ra := bitsOf w 18 14
  let rb := bitsOf w 13 9
  let fn := bitsOf w 8 0
  let low := w % 2 ^ 25
  if m = 0x00 then decide (low = 0)
  else if slot = 0 then
    if m = 0x01 then true
    else if m = 0x02 then decide (bitsOf w 24 21 = 0)
    else if m = 0x03 ∨ m = 0x04 ∨ (m = 0x08 ∧ yew) then decide (bitsOf w 24 19 = 0 ∧ bitsOf w 13 0 = 0)
    else if m = 0x05 then decide (low < 2 ^ 16)
    else if m = 0x06 ∨ (m = 0x0A ∧ yew) then decide (low = 0)
    else if m = 0x07 then decide (bitsOf w 22 18 = 0 ∧ bitsOf w 24 23 ≠ 0)
    else if m = 0x09 ∧ yew then decide (low < 2 ^ 21)
    else decide (m = 0x0B ∧ yew = false ∧ low < 2 ^ 8)
  else if slot = 2 then
    if isIFormat m then decide (m < 0x18 ∨ 0x40 ≤ m) && !f && (decide (m ≠ 0x50) || !yew)
    else if m = 0x52 then !yew && !f && decide (rd = 0 ∧ fn < 256)
    else if m = 0x53 then !yew && !f && decide (ra = 0 ∧ rb = 0 ∧ fn < 4)
    else if m = 0x54 then !yew && !f && decide (rd = 0 ∧ ra = 0 ∧ fn < 8)
    else decide (m = 0x58) && yew && !f && decide (rd = 0 ∧ fn < 4)
  else
    if m = 0x10 ∨ m = 0x11 then decide (fn ≤ 0x14) && (!decide (fn = 0x0F ∨ (0x10 ≤ fn ∧ fn ≤ 0x12)) || decide (rb = 0))
    else if m = 0x12 then decide (fn ≤ 3)
    else if m = 0x13 then decide (fn ≤ 7)
    else if 0x18 ≤ m ∧ m ≤ 0x20 then true
    else if m = 0x22 then decide (fn < 16)
    else if m = 0x23 then decide (ra = 0 ∧ rb = 0 ∧ fn < 256) && specialReadable yew fn
    else if m = 0x24 then decide (rd = 0 ∧ rb = 0 ∧ fn < 256) && !f && specialWritable yew fn
    else decide (0x70 ≤ m ∧ m ≤ 0x7F) && customOk yew table (m - 0x70) f

/-- Syllable `k` of a bundle (R140). -/
def sylOf (b k : Nat) : Nat := b / 2 ^ (32 * k) % 2 ^ 32
/-- A branch syllable in slot 0 (R151). -/
def isBranch (b : Nat) : Bool := let m := sylMajor (sylOf b 0); decide (1 ≤ m ∧ m ≤ 4)
/-- A syllable that may not stand in a delay bundle (R157). -/
def notDelay (b : Nat) : Bool := let m := sylMajor (sylOf b 0); decide ((1 ≤ m ∧ m ≤ 4) ∨ (8 ≤ m ∧ m ≤ 0x0B))
/-- A bundle alone: its syllables and the target of its IMX (R153, R157). -/
def bundleOk (yew : Bool) (table : Bytes) (b : Nat) : Bool :=
  ((List.range 4).all fun k => sylOk yew table k (sylOf b k)) &&
    (decide (sylMajor (sylOf b 0) ≠ 7) || isIFormat (sylMajor (sylOf b (bitsOf (sylOf b 0) 24 23))))
/-- No bundle that R157 bars stands in a delay position. -/
def delaysOk : List Nat → Bool
  | b :: c :: d :: l => !(isBranch b && (notDelay c || notDelay d)) && delaysOk (c :: d :: l)
  | [b, c] => !(isBranch b && notDelay c)
  | _ => true

/-- The bundles of a program's bytes (R140). -/
def bundlesOf (bs : Bytes) : List Nat := go (bs.length / 16) bs
where
  go : Nat → Bytes → List Nat
    | 0, _ => []
    | n + 1, bs => ofLe (bs.take 16) :: go n (bs.drop 16)
/-- The program passes the load check (R157) for a region of `size` bundles. -/
def programOk (yew : Bool) (table : Bytes) (size : Nat) (bs : Bytes) : Bool :=
  let l := bundlesOf bs
  decide (bs.length % 16 = 0 ∧ l.length ≤ size) && l.all (bundleOk yew table) && delaysOk l
/-- The program holds a custom syllable (R176). -/
def programCustom (bs : Bytes) : Bool :=
  (bundlesOf bs).any fun b => decide (0x70 ≤ sylMajor (sylOf b 1)) || decide (0x70 ≤ sylMajor (sylOf b 3))
/-- A program store region holds the program, and zeros beyond it (R157): first bundle, size, bundles. -/
def putProgram (store : Tbl Nat) (base size : Nat) (l : List Nat) : Tbl Nat :=
  (l.zipIdx base).foldl (fun t p => if p.1 = 0 then t else t.set p.2 p.1)
    (store.keep fun k _ => decide (k < base ∨ base + size ≤ k))

end Sys2Proof.Machine
end

