-- ==== Sys2Proof/Machine/Float.lean ====
section
/-! DEFINITION. Number formats and arithmetic: floating point, MX blocks, chunk sums and special functions (04). -/

namespace Sys2Proof.Machine

/-- A value of any floating-point format: a NaN, an infinity, or the exact number `±m × 2^e`. -/
inductive Num
  | nan (signalling : Bool)
  | inf (neg : Bool)
  | fin (neg : Bool) (m : Nat) (e : Int)
  deriving DecidableEq, Repr

/-- An IEEE 754-2019 binary format: exponent and mantissa bits (R112, R117). -/
structure Fmt where
  e : Nat
  m : Nat
  deriving DecidableEq, Repr

def fp32 : Fmt := ⟨8, 23⟩
def bf16 : Fmt := ⟨8, 7⟩
def half : Fmt := ⟨5, 10⟩
/-- Exponent bias of a format. -/
def Fmt.bias (f : Fmt) : Nat := 2 ^ (f.e - 1) - 1
/-- The pattern of +∞. -/
def Fmt.inf (f : Fmt) : Nat := (2 ^ f.e - 1) * 2 ^ f.m
/-- The sign bit. -/
def Fmt.sign (f : Fmt) (neg : Bool) : Nat := b2n neg * 2 ^ (f.e + f.m)
/-- The canonical NaN (R127): 0x7FC0_0000, 0x7FC0, 0x7E00. -/
def Fmt.nan (f : Fmt) : Nat := f.inf + 2 ^ (f.m - 1)

/-! ### Flags (R131) -/

def fIV : Nat := 1
def fDZ : Nat := 2
def fOF : Nat := 4
def fUF : Nat := 8
def fNX : Nat := 16
def fSAT : Nat := 32
def fIO : Nat := 64
/-- A flag where a condition holds. -/
def flagIf (b : Bool) (f : Nat) : Nat := if b then f else 0

/-- A result pattern and the flags its operation sets. -/
abbrev Flagged := Nat × Nat

/-- The value of a pattern; under FTZ a subnormal counts as a zero of its sign (R129). -/
def unpack (f : Fmt) (ftz : Bool) (w : Nat) : Num :=
  let neg := w.testBit (f.e + f.m)
  let ex := w / 2 ^ f.m % 2 ^ f.e
  let fr := w % 2 ^ f.m
  if ex = 2 ^ f.e - 1 then (if fr = 0 then .inf neg else .nan (!fr.testBit (f.m - 1)))
  else if ex = 0 then .fin neg (if ftz then 0 else fr) (1 - f.bias - f.m)
  else .fin neg (fr + 2 ^ f.m) ((ex : Int) - f.bias - f.m)

/-- `m × 2^e` rounded to a multiple of `2^q`, to nearest even or toward zero: the quotient, and whether it is inexact. -/
def roundAt (rtz : Bool) (m : Nat) (e q : Int) : Nat × Bool :=
  if q ≤ e then (m * 2 ^ (e - q).toNat, false)
  else
    let d := (q - e).toNat
    let k := m / 2 ^ d
    let r := m % 2 ^ d
    (if !rtz && (decide (2 ^ d < 2 * r) || (decide (2 * r = 2 ^ d) && decide (k % 2 = 1))) then k + 1 else k, decide (r ≠ 0))

/-- `±m × 2^e` rounded to a format, with tininess detected after rounding (R125, R129). -/
def pack (f : Fmt) (rtz ftz neg : Bool) (m : Nat) (e : Int) : Flagged :=
  if m = 0 then (f.sign neg, 0)
  else
    let top : Int := e + Nat.log2 m
    let emin : Int := 1 - f.bias
    let q := max top emin - f.m
    let r := roundAt rtz m e q
    let bits := (q + f.m + f.bias - 1).toNat * 2 ^ f.m + r.1
    let tiny := decide (top < emin) && !(decide (top + 1 = emin) && decide ((roundAt rtz m e (top - f.m)).1 = 2 ^ (f.m + 1)))
    if f.inf ≤ bits then (f.sign neg + (if rtz then f.inf - 1 else f.inf), fOF ||| fNX)
    else if ftz && decide (0 < bits ∧ bits < 2 ^ f.m) then (f.sign neg, fUF ||| fNX)
    else (f.sign neg + bits, flagIf r.2 fNX ||| flagIf (r.2 && tiny) fUF)

/-- A NaN operand is signalling. -/
def Num.signals : Num → Bool
  | .nan b => b
  | _ => false
/-- A NaN. -/
def Num.isNan : Num → Bool
  | .nan _ => true
  | _ => false

/-- The exact sum of two finite values; an exact zero is −0 only where both are −0. -/
def addFin (n1 : Bool) (m1 : Nat) (e1 : Int) (n2 : Bool) (m2 : Nat) (e2 : Int) : Bool × Nat × Int :=
  let e := min e1 e2
  let x : Int := m1 * 2 ^ (e1 - e).toNat
  let y : Int := m2 * 2 ^ (e2 - e).toNat
  let z := (if n1 then -x else x) + (if n2 then -y else y)
  (if z = 0 then n1 && n2 else decide (z < 0), z.natAbs, e)

/-- The product of two values: ∞ × 0 gives none (R125). -/
def mulNum : Num → Num → Option Num
  | .fin n1 m1 e1, .fin n2 m2 e2 => some (.fin (n1 != n2) (m1 * m2) (e1 + e2))
  | .inf n1, .inf n2 => some (.inf (n1 != n2))
  | .inf n1, .fin n2 m _ => if m = 0 then none else some (.inf (n1 != n2))
  | .fin n1 m _, .inf n2 => if m = 0 then none else some (.inf (n1 != n2))
  | _, _ => some (.nan false)

/-- The sum of two values that are no NaN, rounded to FP32: ∞ − ∞ is invalid. -/
def addNum (ftz : Bool) : Num → Num → Flagged
  | .inf n1, .inf n2 => if n1 = n2 then (fp32.sign n1 + fp32.inf, 0) else (fp32.nan, fIV)
  | .inf n1, _ => (fp32.sign n1 + fp32.inf, 0)
  | _, .inf n2 => (fp32.sign n2 + fp32.inf, 0)
  | .fin n1 m1 e1, .fin n2 m2 e2 => let r := addFin n1 m1 e1 n2 m2 e2; pack fp32 false ftz r.1 r.2.1 r.2.2
  | _, _ => (fp32.nan, 0)

/-- FMA of FP32 patterns with a single rounding (R125, R127, R129). -/
def fmaOp (ftz : Bool) (a b c : Nat) : Flagged :=
  let x := unpack fp32 ftz a
  let y := unpack fp32 ftz b
  let z := unpack fp32 ftz c
  let iv := flagIf (x.signals || y.signals || z.signals) fIV
  match mulNum x y with
  | none => (fp32.nan, fIV)
  | some p => if p.isNan || z.isNan then (fp32.nan, iv) else addNum ftz p z

/-- The pattern of 1.0. -/
def one32 : Nat := 0x3F80_0000
/-- The pattern with its sign changed. -/
def negate (a : Nat) : Nat := a ^^^ 0x8000_0000
/-- FP32 addition, subtraction and multiplication, as FMA with an exact factor or addend (R125). -/
def faddOp (ftz : Bool) (a b : Nat) : Flagged := fmaOp ftz a one32 b
def fsubOp (ftz : Bool) (a b : Nat) : Flagged := fmaOp ftz a one32 (negate b)
def fmulOp (ftz : Bool) (a b : Nat) : Flagged := fmaOp ftz a b 0x8000_0000

/-- A key that rises with the value of a pattern that is no NaN, −0 below +0 (R128). -/
def orderKey (a : Nat) : Int := if 0x8000_0000 ≤ a then -(a - 0x8000_0000 : Int) - 1 else a
/-- A subnormal input counts as zero under FTZ. -/
def flushIn (ftz : Bool) (a : Nat) : Nat := if ftz && decide (a / 2 ^ 23 % 256 = 0) then a / 2 ^ 31 * 2 ^ 31 else a
/-- minimumNumber and maximumNumber (R128). -/
def minMax (ftz max_ : Bool) (a b : Nat) : Flagged :=
  let x := unpack fp32 ftz a
  let y := unpack fp32 ftz b
  let iv := flagIf (x.signals || y.signals) fIV
  let a' := flushIn ftz a
  let b' := flushIn ftz b
  if x.isNan && y.isNan then (fp32.nan, iv)
  else if x.isNan then (b', iv)
  else if y.isNan then (a', iv)
  else if (decide (orderKey a' ≤ orderKey b')) = max_ then (b', iv) else (a', iv)

/-! ### Conversions (R132) -/

/-- BF16 or binary16 widened to FP32, exact (R117, R126). -/
def widen (f : Fmt) (ftz : Bool) (w : Nat) : Flagged :=
  match unpack f ftz w with
  | .nan s => (fp32.nan, flagIf s fIV)
  | .inf n => (fp32.sign n + fp32.inf, 0)
  | .fin n m e => ((pack fp32 false false n m e).1, 0)

/-- FP32 narrowed to BF16 or binary16. -/
def narrowTo (f : Fmt) (ftz rtz halfSat : Bool) (w : Nat) : Flagged :=
  match unpack fp32 ftz w with
  | .nan s => (f.nan, flagIf s fIV)
  | .inf n => (f.sign n + f.inf, 0)
  | .fin n m e =>
    let r := pack f rtz ftz n m e
    if halfSat && r.2.testBit 2 then (f.sign n + f.inf - 1, fSAT ||| fNX) else r

/-- FP32 to a signed integer of `w` bits, as its two's-complement pattern. -/
def toInt (w : Nat) (ftz rtz : Bool) (a : Nat) : Flagged :=
  match unpack fp32 ftz a with
  | .nan _ => (0, fIV)
  | .inf n => (if n then 2 ^ (w - 1) else 2 ^ (w - 1) - 1, fIV ||| fSAT)
  | .fin n m e =>
    let r := roundAt rtz m e 0
    if n then (if 2 ^ (w - 1) < r.1 then (2 ^ (w - 1), fIV ||| fSAT) else ((2 ^ w - r.1) % 2 ^ w, flagIf r.2 fNX))
    else if 2 ^ (w - 1) ≤ r.1 then (2 ^ (w - 1) - 1, fIV ||| fSAT) else (r.1, flagIf r.2 fNX)

/-- INT32 to FP32, rounded to nearest even. -/
def ofInt32 (a : Nat) : Flagged :=
  if 2 ^ 31 ≤ a then pack fp32 false false true (2 ^ 32 - a) 0 else pack fp32 false false false a 0

/-! ### MX elements and blocks (R113 to R116, R133, R134, R170) -/

/-- The MX element formats by their code (R170). -/
structure MxFmt where
  /-- element width. -/
  w : Nat
  /-- mantissa bits. -/
  m : Nat
  /-- exponent bias. -/
  bias : Nat
  /-- pattern of the largest finite magnitude. -/
  top : Nat
  /-- emax. -/
  emax : Nat
  deriving DecidableEq, Repr

/-- The table of R114 by format code; MXINT8 is no float and has its own cases. -/
def mxFmt : Nat → MxFmt
  | 0 => ⟨4, 1, 1, 0x7, 2⟩
  | 1 => ⟨6, 2, 3, 0x1F, 4⟩
  | 2 => ⟨6, 3, 1, 0x1F, 2⟩
  | 3 => ⟨8, 3, 7, 0x7E, 8⟩
  | 4 => ⟨8, 2, 15, 0x7B, 15⟩
  | _ => ⟨8, 6, 0, 0x7F, 0⟩

/-- The value of an MX element, unscaled (R114, R115). -/
def mxElem (fmt code : Nat) : Num :=
  if fmt = 4 then unpack ⟨5, 2⟩ false code
  else if fmt = 5 then (if 128 ≤ code then .fin true (256 - code) (-6) else .fin false code (-6))
  else
    let f := mxFmt fmt
    let neg := code.testBit (f.w - 1)
    let mag := code % 2 ^ (f.w - 1)
    if fmt = 3 ∧ mag = 0x7F then .nan false
    else if mag < 2 ^ f.m then .fin neg mag (1 - f.bias - f.m)
    else .fin neg (mag % 2 ^ f.m + 2 ^ f.m) ((mag / 2 ^ f.m : Nat) - (f.bias : Int) - f.m)

/-- `±m × 2^e` converted to an MX element (R132). -/
def toMx (fmt : Nat) (rtz nonsat neg : Bool) (m : Nat) (e : Int) : Flagged :=
  let f := mxFmt fmt
  if fmt = 5 then
    let r := roundAt rtz m e (-6)
    let lim := if neg then 128 else 127
    if lim < r.1 then (if neg then 0x80 else 0x7F, fSAT ||| fNX)
    else ((if neg then 256 - r.1 else r.1) % 256, flagIf r.2 fNX)
  else
    let sgn := b2n neg * 2 ^ (f.w - 1)
    let top : Int := e + Nat.log2 m
    let q : Int := max top (1 - f.bias) - f.m
    let r := roundAt rtz m e q
    let bits := (q + f.m + f.bias - 1).toNat * 2 ^ f.m + r.1
    if m = 0 then (sgn, 0)
    else if bits ≤ f.top then (sgn + bits, flagIf r.2 fNX)
    else if nonsat && (decide (fmt = 3) || decide (fmt = 4)) then
      if rtz then (sgn + f.top, fOF ||| fNX)
      else if fmt = 4 then (sgn + 0x7C, fOF ||| fNX) else (0x7F, fOF ||| fNX)
    else (sgn + f.top, fSAT ||| fNX)

/-- The block scale of 32 FP32 values (R133). -/
def mxScale (ftz : Bool) (fmt : Nat) (xs : List Nat) : Nat :=
  let amax := (xs.map fun x => flushIn ftz x % 2 ^ 31).foldl max 0
  if fp32.inf ≤ amax then 0xFF
  else match unpack fp32 ftz amax with
    | .fin _ m e => if m = 0 then 0 else ((max ((e + Nat.log2 m : Int) - (mxFmt fmt).emax) (-127)) + 127).toNat
    | _ => 0xFF

/-- 32 FP32 values as one MX block: its scale, its elements and the flags set (R133, R134). -/
def mxBlock (ftz rtz nonsat : Bool) (fmt : Nat) (xs : List Nat) : Nat × List Nat × Nat :=
  let sc := mxScale ftz fmt xs
  let iv := (xs.map fun x => flagIf (unpack fp32 ftz x).signals fIV).foldl (· ||| ·) 0
  if sc = 0xFF then (sc, xs.map fun _ => 0, iv)
  else
    let es := xs.map fun x => match unpack fp32 ftz x with
      | .fin n m e => toMx fmt rtz nonsat n m (e - ((sc : Int) - 127))
      | _ => (0, 0)
    (sc, es.map Prod.fst, (es.map Prod.snd).foldl (· ||| ·) iv)

/-- Elements of `w` bits packed as one little-endian bit field (R113). -/
def packBits (w : Nat) : List Nat → Nat
  | [] => 0
  | x :: xs => x % 2 ^ w + 2 ^ w * packBits w xs
/-- `n` elements of `w` bits of a little-endian bit field. -/
def unpackBits (w : Nat) : Nat → Nat → List Nat
  | 0, _ => []
  | n + 1, v => v % 2 ^ w :: unpackBits w n (v / 2 ^ w)

/-! ### Chunk sums and accumulation (R119 to R123) -/

/-- What the products of a chunk add up to. -/
inductive ChunkSum
  | invalid
  | nan
  | inf (neg : Bool)
  | fin (neg : Bool) (m : Nat) (e : Int)
  deriving DecidableEq, Repr

/-- One more product of a chunk. An element that is NaN comes before ∞ × 0, and that before ∞ − ∞ (R120). -/
def ChunkSum.add : ChunkSum → Option Num → ChunkSum
  | .invalid, _ => .invalid
  | .nan, _ => .nan
  | _, none => .invalid
  | _, some (.nan _) => .nan
  | .inf n, some (.inf k) => if n = k then .inf n else .invalid
  | .inf n, some (.fin ..) => .inf n
  | .fin .., some (.inf k) => .inf k
  | .fin n m e, some (.fin k m2 e2) => let r := addFin n m e k m2 e2; .fin r.1 r.2.1 r.2.2

/-- A chunk's result in FP32 (R119 to R121): pairs of elements, the exponent of both scales, whether an exact zero takes
the sign of its products. -/
def chunkSum (ftz signedZero : Bool) (scale : Int) (ps : List (Num × Num)) : Flagged :=
  if ps.any fun p => p.1.isNan || p.2.isNan then
    (fp32.nan, flagIf (ps.any fun p => p.1.signals || p.2.signals) fIV)
  else match ps.foldl (fun (s : ChunkSum) p => ChunkSum.add s (mulNum p.1 p.2)) (ChunkSum.fin signedZero 0 0) with
    | .invalid => (fp32.nan, fIV)
    | .nan => (fp32.nan, 0)
    | .inf n => (fp32.sign n + fp32.inf, 0)
    | .fin n m e => pack fp32 false ftz (n && decide (signedZero ∨ m ≠ 0)) m (e + scale)

/-- An MX chunk (R119, R120): format and scale byte of each operand, element patterns. -/
def mxChunk (ftz : Bool) (fa sa fw sw : Nat) (as ws : List Nat) : Flagged :=
  if sa = 0xFF ∨ sw = 0xFF then (fp32.nan, 0)
  else chunkSum ftz false ((sa : Int) + sw - 254) ((as.map (mxElem fa)).zip (ws.map (mxElem fw)))

/-- Whether a product of a chunk is −0. -/
def halfFmt (code : Nat) : Fmt := if code = 8 then bf16 else half
/-- A BF16 or binary16 chunk (R121). -/
def halfChunk (ftz : Bool) (fa fw : Nat) (as ws : List Nat) : Flagged :=
  chunkSum ftz true 0 ((as.map (unpack (halfFmt fa) ftz)).zip (ws.map (unpack (halfFmt fw) ftz)))

/-- A signed byte. -/
def sbyte (b : Nat) : Int := if b < 128 then b else (b : Int) - 256
/-- An INT8 chunk (R122): the exact sum. -/
def intChunk (as ws : List Nat) : Int := ((as.zip ws).map fun p => sbyte p.1 * sbyte p.2).foldl (· + ·) 0
/-- A 32-bit pattern as a signed number. -/
def sword (a : Nat) : Int := if a < 2 ^ 31 then a else (a : Int) - 2 ^ 32
/-- An integer accumulator element plus a chunk sum: it wraps and sets IO where it does not fit (R122). -/
def intAcc (acc : Nat) (c : Int) : Flagged :=
  let z := sword acc + c
  ((z % 2 ^ 32).toNat, flagIf (decide (z < -(2 ^ 31) ∨ 2 ^ 31 ≤ z)) fIO)

/-! ### Special functions (R135, R136) -/

/-- The largest number below `2^k` whose square is at most `n`, built from `r` down from bit `k - 1`. -/
def isqrt (n : Nat) : Nat → Nat → Nat
  | 0, r => r
  | k + 1, r => if (r + 2 ^ k) * (r + 2 ^ k) ≤ n then isqrt n k (r + 2 ^ k) else isqrt n k r

/-- A square root rounded to nearest even: of `num / den × 2^e`, `e` even. -/
def rootPack (ftz : Bool) (num den : Nat) (e : Int) : Flagged :=
  let n := num * 2 ^ 80 / den
  let r := isqrt n 60 0
  pack fp32 false ftz false (2 * r + b2n (decide (r * r ≠ n ∨ num * 2 ^ 80 % den ≠ 0))) (e / 2 - 41)

/-- Operation codes of the open part of the special functions. -/
def spEXP2 : Nat := 0
def spLOG2 : Nat := 1
def spRCP : Nat := 2
def spRSQRT : Nat := 3
def spTANH : Nat := 4
def spSIGMOID : Nat := 5

/-- The open result of a function, a 32-bit pattern. -/
def spOpen (op : Nat) (ftz : Bool) (a : Nat) : Nat := (Config.special op ftz (BitVec.ofNat 32 a)).toNat

/-- A correctly rounded normal result moved by −1, 0 or +1 ulp, as the open function says; NX where it moved (R135). -/
def nudge (op : Nat) (ftz : Bool) (a : Nat) (r : Flagged) : Flagged :=
  let mag := r.1 % 2 ^ 31
  if mag ≤ 2 ^ 23 ∨ fp32.inf - 1 ≤ mag then r
  else match spOpen op ftz a % 3 with
    | 1 => (r.1 + 1, r.2 ||| fNX)
    | 2 => (r.1 - 1, r.2 ||| fNX)
    | _ => r

/-- An open result: a subnormal one is flushed under FTZ; inexact unless it equals the exact result, where one exists. -/
def openRes (op : Nat) (ftz : Bool) (a : Nat) (exact_ : Option Nat) : Flagged :=
  let r := spOpen op ftz a
  let nx := exact_ ≠ some r
  let sub := decide (r / 2 ^ 23 % 256 = 0)
  if ftz && sub && decide (r % 2 ^ 31 ≠ 0) then (r / 2 ^ 31 * 2 ^ 31, fUF ||| fNX)
  else (r, flagIf nx fNX ||| flagIf (nx && sub) fUF)

/-- `±m × 2^e` as a whole number, where it is one. -/
def wholeOf (neg : Bool) (m : Nat) (e : Int) : Option Int :=
  if (roundAt true m e 0).2 then none else some (if neg then -((roundAt true m e 0).1 : Int) else (roundAt true m e 0).1)
/-- FP32 pattern of a whole number of small magnitude. -/
def whole32 (k : Int) : Nat := (pack fp32 false false (decide (k < 0)) k.natAbs 0).1

def exp2Op (ftz : Bool) (a : Nat) : Flagged :=
  match unpack fp32 ftz a with
  | .nan s => (fp32.nan, flagIf s fIV)
  | .inf n => (if n then 0 else fp32.inf, 0)
  | .fin n m e =>
    if m = 0 then (one32, 0)
    else if !n && decide (128 ≤ (roundAt true m e 0).1) then (fp32.inf, fOF ||| fNX)
    else if n && decide (150 ≤ (roundAt true m e 0).1) then (0, fUF ||| fNX)
    else openRes spEXP2 ftz a ((wholeOf n m e).map fun k => (pack fp32 false false false 1 k).1)

def log2Op (ftz : Bool) (a : Nat) : Flagged :=
  match unpack fp32 ftz a with
  | .nan s => (fp32.nan, flagIf s fIV)
  | .inf n => if n then (fp32.nan, fIV) else (fp32.inf, 0)
  | .fin n m e =>
    if m = 0 then (fp32.sign true + fp32.inf, fDZ)
    else if n then (fp32.nan, fIV)
    else if a = one32 then (0, 0)
    else openRes spLOG2 ftz a (if m = 2 ^ Nat.log2 m then some (whole32 (e + Nat.log2 m)) else none)

def rcpOp (ftz : Bool) (a : Nat) : Flagged :=
  match unpack fp32 ftz a with
  | .nan s => (fp32.nan, flagIf s fIV)
  | .inf n => (fp32.sign n, 0)
  | .fin n m e =>
    if m = 0 then (fp32.sign n + fp32.inf, fDZ)
    else nudge spRCP ftz a (pack fp32 false ftz n (2 * (2 ^ 60 / m) + b2n (decide (2 ^ 60 % m ≠ 0))) (-e - 61))

def rsqrtOp (ftz : Bool) (a : Nat) : Flagged :=
  match unpack fp32 ftz a with
  | .nan s => (fp32.nan, flagIf s fIV)
  | .inf n => if n then (fp32.nan, fIV) else (0, 0)
  | .fin n m e =>
    if m = 0 then (fp32.sign n + fp32.inf, fDZ)
    else if n then (fp32.nan, fIV)
    else nudge spRSQRT ftz a (if e % 2 = 0 then rootPack ftz 1 m (-e) else rootPack ftz 1 (2 * m) (-e + 1))

def sqrtOp (ftz : Bool) (a : Nat) : Flagged :=
  match unpack fp32 ftz a with
  | .nan s => (fp32.nan, flagIf s fIV)
  | .inf n => if n then (fp32.nan, fIV) else (fp32.inf, 0)
  | .fin n m e =>
    if m = 0 then (fp32.sign n, 0)
    else if n then (fp32.nan, fIV)
    else if e % 2 = 0 then rootPack ftz m 1 e else rootPack ftz (2 * m) 1 (e - 1)

def tanhOp (ftz : Bool) (a : Nat) : Flagged :=
  match unpack fp32 ftz a with
  | .nan s => (fp32.nan, flagIf s fIV)
  | .inf n => (fp32.sign n + one32, 0)
  | .fin n m _ => if m = 0 then (fp32.sign n, 0) else openRes spTANH ftz a none

def sigmoidOp (ftz : Bool) (a : Nat) : Flagged :=
  match unpack fp32 ftz a with
  | .nan s => (fp32.nan, flagIf s fIV)
  | .inf n => (if n then 0 else one32, 0)
  | .fin _ m _ => if m = 0 then (0x3F00_0000, 0) else openRes spSIGMOID ftz a none

/-! ### Reductions (R173) -/

/-- The FP32 sum of a list by a fixed tree, whose shape and leaf order are open: fuel, node number. -/
def treeSum (ftz : Bool) : Nat → Nat → List Nat → Flagged
  | 0, _, l => (l.headD 0, 0)
  | fuel + 1, node, l =>
    if l.length ≤ 1 then (l.headD 0, 0)
    else
      let k := 1 + Config.treeSplit node % (l.length - 1)
      let x := treeSum ftz fuel (2 * node) (l.take k)
      let y := treeSum ftz fuel (2 * node + 1) (l.drop k)
      let r := faddOp ftz x.1 y.1
      (r.1, x.2 ||| y.2 ||| r.2)

/-- VRSUM over all lanes. -/
def reduceSum (ftz : Bool) (l : List Nat) : Flagged :=
  treeSum ftz l.length 1 ((sortBy (fun p => Config.treeLeaf p.2) l.zipIdx).map Prod.fst)
/-- VRMAX over all lanes, by maximumNumber. -/
def reduceMax (ftz : Bool) (l : List Nat) : Flagged :=
  l.foldl (fun r a => let x := minMax ftz true r.1 a; (x.1, r.2 ||| x.2)) (l.headD 0, 0)

end Sys2Proof.Machine
end

