-- ==== Sys2Proof/Machine/Tensor.lean ====
section
/-! DEFINITION. Tensor commands: their queues, the matrix unit, the vector unit, sends and gateway transfers (05 R169 to
R175, 03 R73, R79, R81), and arrivals (03 R82, R104). -/

namespace Sys2Proof.Machine

/-! ### Matrix commands (R171, R172) -/

/-- Fields of a matrix command. -/
structure MatCmd where
  op : Nat
  wfmt : Nat
  afmt : Nat
  acc : Nat
  start : Bool
  int : Bool
  a : Nat
  w : Nat
  as_ : Nat
  ws : Nat
  rows : Nat
  deriving DecidableEq, Repr
/-- The table of R171. -/
def MatCmd.ofWord (c : Nat) : MatCmd :=
  { op := bitsOf c 3 0, wfmt := bitsOf c 7 4, afmt := bitsOf c 11 8, acc := bitsOf c 13 12, start := bitOf c 14,
    int := bitOf c 15, a := bitsOf c 39 16, w := bitsOf c 63 40, as_ := bitsOf c 87 64, ws := bitsOf c 111 88,
    rows := bitsOf c 118 112 }

/-- An MX format code. -/
def isMx (f : Nat) : Bool := decide (f ≤ 5)
/-- BF16 or binary16. -/
def isHalf (f : Nat) : Bool := decide (f = 8 ∨ f = 9)
/-- The pairings of R118; integer mode goes with INT8. -/
def pairOk (m : MatCmd) : Bool :=
  ((isMx m.wfmt && isMx m.afmt) || (isHalf m.wfmt && isHalf m.afmt)) && !m.int || (decide (m.wfmt = 10 ∧ m.afmt = 10) && m.int)
/-- K and N of the stationary block of a pairing (R73, R118). -/
def shapeOf (m : MatCmd) : Nat × Nat :=
  if m.wfmt = 0 ∧ m.afmt = 0 then (128, 64) else if isHalf m.wfmt then (32, 32) else (64, 64)
/-- Element width of a format in bits. -/
def fmtBits (f : Nat) : Nat := if isMx f then (mxFmt f).w else if isHalf f then 16 else 8
/-- Bytes of `n` elements. -/
def fmtBytes (f n : Nat) : Nat := n * fmtBits f / 8
/-- A range lies in SRAM and starts at a multiple of 32 (R171, R175). -/
def sramOk (a len : Nat) : Bool := decide (a + len ≤ sramSize ∧ a % 32 = 0)

/-- The sequencer accepts a matrix command (R122, R175). -/
def matrixOk (x : Tile) (c : Nat) : Bool :=
  let m := MatCmd.ofWord c
  let sh := shapeOf m
  if bitsOf c 127 119 ≠ 0 then false
  else if m.op = 3 then true
  else decide (m.op = 1 ∨ m.op = 2) && pairOk m && decide (1 ≤ m.rows ∧ m.rows ≤ 64) &&
    sramOk m.a (m.rows * fmtBytes m.afmt sh.1) &&
    (!isMx m.afmt || sramOk m.as_ (m.rows * (sh.1 / 32))) &&
    (decide (m.op = 2) || (sramOk m.w (fmtBytes m.wfmt (sh.1 * sh.2)) && (!isMx m.wfmt || sramOk m.ws (sh.1 / 32 * sh.2)))) &&
    (m.start || decide (x.accFloat.getD m.acc false ≠ m.int))

/-- Load cycles of a stationary block: 1,024 B per cycle (R73, R172). -/
def loadCycles (m : MatCmd) : Nat := (fmtBytes m.wfmt ((shapeOf m).1 * (shapeOf m).2) + 1023) / 1024

/-! ### Vector commands (R173) -/

/-- Fields of a vector command. -/
structure VecCmd where
  vop : Nat
  vd : Nat
  va : Nat
  vb : Nat
  vc : Nat
  srcb : Bool
  addr : Nat
  fmt : Nat
  imm : Nat
  deriving DecidableEq, Repr
/-- The fields as R173 places them. -/
def VecCmd.ofWord (c : Nat) : VecCmd :=
  { vop := bitsOf c 7 0, vd := bitsOf c 12 8, va := bitsOf c 17 13, vb := bitsOf c 22 18, vc := bitsOf c 27 23,
    srcb := bitOf c 28, addr := bitsOf c 55 32, fmt := bitsOf c 59 56, imm := bitsOf c 95 64 }

/-- A VOP of the table. -/
def vopNamed (v : Nat) : Bool :=
  decide ((1 ≤ v ∧ v ≤ 6) ∨ (0x10 ≤ v ∧ v ≤ 0x1B) ∨ (0x20 ≤ v ∧ v ≤ 0x24) ∨ v = 0x28 ∨ (0x30 ≤ v ∧ v ≤ 0x36) ∨ v = 0x38 ∨ v = 0x39)
/-- Bytes of 256 values of FP32, BF16 or binary16. -/
def vecBytes (f : Nat) : Nat := if f = 11 then 1024 else 512
/-- The sequencer accepts a vector command (R175). -/
def vectorOk (c : Nat) : Bool :=
  let v := VecCmd.ofWord c
  vopNamed v.vop && decide (bitsOf c 31 29 = 0 ∧ bitsOf c 63 60 = 0 ∧ bitsOf c 127 96 = 0) &&
    (if v.vop = 0x20 ∨ v.vop = 0x21 then
      (isHalf v.fmt || decide (v.fmt = 11)) && decide (v.addr + vecBytes v.fmt ≤ sramSize)
     else if v.vop = 0x28 then
      isMx v.fmt && decide (v.addr + fmtBytes v.fmt 256 ≤ sramSize) && decide (v.imm % 2 ^ 24 + 8 ≤ sramSize)
     else true)

/-! ### Send and gateway commands (R174) -/

/-- Fields of a send command: SRC, DST, DSLOT, DGROUP, LEN. -/
structure SendCmd where
  src : Nat
  dst : Nat
  slot : Nat
  group : Nat
  len : Nat
  deriving DecidableEq, Repr
/-- The fields as R174 places them. -/
def SendCmd.ofWord (c : Nat) : SendCmd :=
  { src := bitsOf c 23 0, dst := bitsOf c 47 24, slot := bitsOf c 50 48, group := bitsOf c 54 51, len := bitsOf c 87 64 }
/-- The sequencer accepts a send (R175). -/
def sendOk (v : YewSession) (c : Nat) : Bool :=
  let m := SendCmd.ofWord c
  decide (bitsOf c 63 55 = 0 ∧ bitsOf c 127 88 = 0) && decide (32 ≤ m.len ∧ m.len ≤ sramSize ∧ m.len % 32 = 0) &&
    decide (m.src + m.len ≤ sramSize ∧ m.dst + m.len ≤ sramSize) && decide (m.group < v.groups.length)
/-- Fields of a gateway command: OP, SRAM address, LEN, plot-space address. -/
structure GateCmd where
  op : Nat
  sram : Nat
  len : Nat
  addr : Nat
  deriving DecidableEq, Repr
/-- The fields as R174 places them. -/
def GateCmd.ofWord (c : Nat) : GateCmd :=
  { op := bitsOf c 1 0, sram := bitsOf c 25 2, len := bitsOf c 63 32, addr := bitsOf c 111 64 }
/-- The sequencer accepts a gateway command (R175). -/
def gateOk (c : Nat) : Bool :=
  let m := GateCmd.ofWord c
  decide (m.op ≤ 2 ∧ bitsOf c 31 26 = 0 ∧ bitsOf c 127 112 = 0 ∧ m.sram + m.len ≤ sramSize)

/-! ### TISS (R169, R175) -/

/-- The queue's commands. -/
def Tile.queue (x : Tile) (q : Nat) : List Nat :=
  if q = 0 then x.qMatrix else if q = 1 then x.qVector else if q = 2 then x.qSend else x.qGate
/-- The queue replaced. -/
def Tile.setQueue (x : Tile) (q : Nat) (l : List Nat) : Tile :=
  if q = 0 then { x with qMatrix := l } else if q = 1 then { x with qVector := l }
  else if q = 2 then { x with qSend := l } else { x with qGate := l }
/-- The mode that an accepted matrix command leaves its block in (R122, R171). -/
def Tile.setMode (x : Tile) (q c : Nat) : Tile :=
  let m := MatCmd.ofWord c
  if q = 0 ∧ (m.op = 3 ∨ m.start) then { x with accFloat := x.accFloat.set m.acc (!m.int) } else x
/-- The sequencer accepts the command (R175). -/
def tissOk (s : State) (t q c : Nat) : Bool :=
  match tileSession s t with
  | none => false
  | some (_, v) =>
    if q = 0 then matrixOk (s.tile t) c else if q = 1 then vectorOk c else if q = 2 then sendOk v c else gateOk c
/-- TISS (R169, R175): held while the queue holds 32 commands; a refused command is counted and poisons the step. -/
def execTiss (i : Issue) (q : Fin 4) (ra rb : Fin 32) (s : State) : Host.Outcome State Fault Refusal :=
  .next (match i.core with
    | .privet .. => s
    | .yew t =>
      if 32 ≤ ((s.tile t).queue q).length then s
      else issueS i .memory (fun s =>
        let k := s.core (1024 + t)
        let c := (k.reg ra).toNat + 2 ^ 64 * (k.reg rb).toNat
        if tissOk s t q c then s.modTile t fun x => (x.setQueue q (x.queue q ++ [c])).setMode q c
        else poisonTile (s.modTile t fun x => { x with refused := sat32 x.refused 1 }) t) s)

/-! ### Lanes in flight (R150) -/

/-- Zero lanes. -/
def zeroLanes (n : Nat) : List W32 := List.replicate n 0
/-- Results due by a cycle reach their files. -/
def Tile.settle (x : Tile) (now : Nat) : Tile :=
  let y := (sortBy LanePending.due (x.lanes.filter fun l => decide (l.due ≤ now))).foldl (fun (y : Tile) l =>
    if l.acc then { y with acc := y.acc.set l.index l.value } else { y with vregs := y.vregs.set l.index l.value }) x
  { y with lanes := x.lanes.filter fun l => decide (now < l.due) }
/-- An accumulator row as read in a cycle (R150). -/
def Tile.accRow (x : Tile) (idx now : Nat) : List W32 := (x.settle now).acc.getD idx (zeroLanes 64)
/-- A vector register as read in a cycle (R150). -/
def Tile.vreg (x : Tile) (n now : Nat) : List W32 := (x.settle now).vregs.getD n (zeroLanes 256)

/-- A tensor command of a tile completes in cycle `due`: its flags and lanes stick, DONE counts it (R131, R137, R144). -/
def tensorDone (s : State) (t due fp lovf : Nat) : State :=
  (s.modCore (1024 + t) fun c => { c with
    pend := c.pend ++ [{ due := due, slot := 4, target := .tensor fp lovf, value := 0 }] }).modTile t fun x =>
      { x with step := x.step.map fun r => { r with busyUntil := max r.busyUntil due } }

/-- FTZ, HALF_SAT, MX_NONSAT, CVT_RTZ as the tile's mode stands in a cycle (R130). -/
def amodeAt (s : State) (t now : Nat) : Nat := ((s.core (1024 + t)).retire now).amode.toNat

/-! ### The matrix unit (R119 to R123, R171, R172) -/

/-- 32 elements of a format at a byte of a list. -/
def elems32 (f : Nat) (bs : Bytes) (off : Nat) : List Nat :=
  unpackBits (fmtBits f) 32 (ofLe ((bs.drop off).take (fmtBytes f 32)))
/-- Place of block (k, column) of the stationary block. -/
def weightBlock (f k n blocks : Nat) : Nat := Config.stationaryBlock f k n % blocks

/-- One chunk of an FP32 sum: the first of a START command is written, every other is added (R123, R171). -/
def fpStep (ftz : Bool) (r : Flagged × Bool) (chunk : Flagged) : Flagged × Bool :=
  if r.2 then ((chunk.1, r.1.2 ||| chunk.2), false)
  else let x := faddOp ftz r.1.1 chunk.1; ((x.1, r.1.2 ||| chunk.2 ||| x.2), false)
/-- One INT8 chunk (R122). -/
def intStep (r : Flagged × Bool) (c : Int) : Flagged × Bool :=
  let x := intAcc (if r.2 then 0 else r.1.1) c
  ((x.1, r.1.2 ||| x.2), false)

/-- One accumulator element after a row: old value, activations with their scales, stationary block with its scales. -/
def matElem (m : MatCmd) (ftz : Bool) (old n : Nat) (arow ascale w ws : Bytes) : Flagged :=
  let sh := shapeOf m
  let kb := sh.1 / 32
  ((List.range kb).foldl (fun (r : Flagged × Bool) k =>
    let p := weightBlock m.wfmt k n (kb * sh.2)
    let a := elems32 m.afmt arow (k * fmtBytes m.afmt 32)
    let b := elems32 m.wfmt w (p * fmtBytes m.wfmt 32)
    if m.int then intStep r (intChunk a b)
    else if isMx m.wfmt then
      fpStep ftz r (mxChunk ftz m.afmt (ascale.getD k 0).toNat m.wfmt (ws.getD p 0).toNat a b)
    else fpStep ftz r (halfChunk ftz m.afmt m.wfmt a b)) ((old, 0), m.start)).1

/-- The rows that a command writes: row, new lanes and flags. Columns beyond N keep their values. -/
def matrixRows (x : Tile) (m : MatCmd) (ftz : Bool) (stream : Nat) (open_ : Option Nat) (w ws : Bytes) :
    List (Nat × List W32 × Nat) :=
  let sh := shapeOf m
  (List.range m.rows).map fun r =>
    let old := x.accRow (64 * m.acc + r) (stream + r)
    let arow := x.sram.readN (m.a + r * fmtBytes m.afmt sh.1) (fmtBytes m.afmt sh.1)
    let asc := x.sram.readN (m.as_ + r * (sh.1 / 32)) (sh.1 / 32)
    let es := (List.range sh.2).map fun n => match open_ with
      | some k => (Config.openResult 0x100 k (64 * r + n) % 2 ^ 32, 0)
      | none => matElem m ftz (old.getD n 0).toNat n arow asc w ws
    (r, es.map (fun e => BitVec.ofNat 32 e.1) ++ old.drop sh.2, (es.map Prod.snd).foldl (· ||| ·) 0)

/-- The tile's front matrix command starts (R169): it must be OP `op`, and its unit free. -/
def matrixFront (s : State) (t op start : Nat) : Option MatCmd :=
  match (s.tile t).qMatrix with
  | c :: _ => if s.on && decide ((MatCmd.ofWord c).op = op ∧ (s.tile t).matrixFree ≤ start) then some (MatCmd.ofWord c) else none
  | [] => none

/-- MMA and MMAK from the cycle `start`: reads, the rows in flight, occupancy and completion (R172). -/
def runMatrix (s : State) (t start : Nat) (m : MatCmd) (keep : Bool) : State :=
  let sh := shapeOf m
  let ftz := bitOf (amodeAt s t start) 0
  let blk := fmtBytes m.wfmt (sh.1 * sh.2)
  let scl := sh.1 / 32 * sh.2
  let s1 := sramCheck s t m.a (m.rows * fmtBytes m.afmt sh.1)
  let s2 := if isMx m.afmt then sramCheck s1 t m.as_ (m.rows * (sh.1 / 32)) else s1
  let s3 := if keep then s2 else sramCheck s2 t m.w blk
  let s4 := if keep || !isMx m.wfmt then s3 else sramCheck s3 t m.ws scl
  let x := s4.tile t
  let w := x.sram.readN m.w blk
  let ws := if isMx m.wfmt then x.sram.readN m.ws scl else []
  let load := if keep then 0 else loadCycles m + b2n (isMx m.wfmt)
  let fromStationary := match x.stationary with
    | some (f, a, b) => if f = m.wfmt ∧ a.length = blk then (none, a, b) else (some s4.free, [], [])
    | none => (some s4.free, [], [])
  let src := if keep then fromStationary else (none, w, ws)
  let rows := matrixRows x m ftz (start + load) src.1 src.2.1 src.2.2
  let s5 := ({ s4 with free := s4.free + 1 } : State).modTile t fun x =>
    let y := x.settle start
    { y with
      qMatrix := y.qMatrix.drop 1, matrixFree := start + load + m.rows
      stationary := if keep then y.stationary else some (m.wfmt, w, ws)
      lanes := y.lanes ++ rows.map fun r =>
        { due := start + load + r.1 + 9, acc := true, index := 64 * m.acc + r.1, value := r.2.1 } }
  tensorDone s5 t (start + load + m.rows + 8) ((rows.map fun r => r.2.2).foldl (· ||| ·) 0) 0

/-- MMA (R171, R172). -/
def execMma (tile : Fin 144) (start : B8) (s : State) : Host.Outcome State Fault Refusal :=
  .next (match matrixFront s tile 1 start with
    | some m => runMatrix s tile start m false
    | none => s)
/-- MMAK (R171, R172). -/
def execMmak (tile : Fin 144) (start : B8) (s : State) : Host.Outcome State Fault Refusal :=
  .next (match matrixFront s tile 2 start with
    | some m => runMatrix s tile start m true
    | none => s)
/-- ACLR: zeros to block ACC (R171). -/
def execAclr (tile : Fin 144) (start : B8) (s : State) : Host.Outcome State Fault Refusal :=
  .next (match matrixFront s tile 3 start with
    | some m => tensorDone (s.modTile tile fun x =>
        let y := x.settle start
        { y with
          qMatrix := y.qMatrix.drop 1, matrixFree := start + 1
          lanes := y.lanes ++ (List.range 64).map fun r =>
            { due := start + 1, acc := true, index := 64 * m.acc + r, value := zeroLanes 64 } }) tile (start + 1) 0 0
    | none => s)

/-! ### The vector unit (R125 to R138, R173) -/

/-- What a vector operation gives: lanes, FPSTAT flags, lanes that overflow. -/
structure VecOut where
  lanes : List Nat
  fp : Nat
  lovf : Nat
  deriving DecidableEq, Repr
/-- Lanes with the flags of floating-point operations. -/
def vecFp (l : List Flagged) : VecOut := { lanes := l.map Prod.fst, fp := (l.map Prod.snd).foldl (· ||| ·) 0, lovf := 0 }
/-- Lanes of integer operations; V marks a lane's overflow bit, where the operation sets V (R137, R138). -/
def vecInt (l : List Alu) : VecOut :=
  { lanes := l.map Alu.val, fp := 0,
    lovf := ((l.zipIdx).map fun p => if bitOf p.1.flags 3 && bitOf p.1.mask 3 then 2 ^ p.2 else 0).foldl (· + ·) 0 }

/-- The operands of a vector command in its start cycle: VA, VB or the immediate, VC. -/
structure VecArgs where
  cmd : VecCmd
  a : List Nat
  b : List Nat
  c : List Nat
  mode : Nat
  deriving DecidableEq, Repr
/-- FTZ of the command. -/
def VecArgs.ftz (v : VecArgs) : Bool := bitOf v.mode 0
/-- The operands read (R150, R173). -/
def vecArgs (s : State) (t start : Nat) (v : VecCmd) : VecArgs :=
  let x := s.tile t
  { cmd := v, a := (x.vreg v.va start).map BitVec.toNat, c := (x.vreg v.vc start).map BitVec.toNat, mode := amodeAt s t start,
    b := if v.srcb then List.replicate 256 v.imm else (x.vreg v.vb start).map BitVec.toNat }
/-- A floating-point operation on lanes of VA and VB. -/
def vecFp2 (v : VecArgs) (f : Bool → Nat → Nat → Flagged) : VecOut := vecFp ((v.a.zip v.b).map fun p => f v.ftz p.1 p.2)
/-- A floating-point operation on lanes of VA. -/
def vecFp1 (v : VecArgs) (f : Bool → Nat → Flagged) : VecOut := vecFp (v.a.map (f v.ftz))
/-- An integer operation on lanes of VA and VB. -/
def vecInt2 (v : VecArgs) (f : Nat → Nat → Nat → Nat → Alu) : VecOut := vecInt ((v.a.zip v.b).map fun p => f 32 p.1 p.2 0)
/-- A reduction: lane 0 of VD takes the result, the others keep theirs. -/
def vecReduce (old : List Nat) (r : Flagged) : VecOut := { lanes := r.1 :: old.drop 1, fp := r.2, lovf := 0 }

/-- The tile's front vector command starts (R169): it must be VOP `vop`, and its unit free. -/
def vectorFront (s : State) (t vop start : Nat) : Option VecCmd :=
  match (s.tile t).qVector with
  | c :: _ => if s.on && decide ((VecCmd.ofWord c).vop = vop ∧ (s.tile t).vectorFree ≤ start) then some (VecCmd.ofWord c) else none
  | [] => none
/-- The command leaves the queue; the unit is busy for its occupancy. -/
def vectorBusy (s : State) (t start occ : Nat) : State :=
  s.modTile t fun x => let y := x.settle start; { y with qVector := y.qVector.drop 1, vectorFree := start + occ }

/-- A vector command that writes VD runs (R173): occupancy, latency, operation. -/
def runVec (vop occ lat : Nat) (f : VecArgs → VecOut) (t start : Nat) (s : State) : State :=
  match vectorFront s t vop start with
  | none => s
  | some v =>
    let r := f (vecArgs s t start v)
    tensorDone ((vectorBusy s t start occ).modTile t fun x => { x with
      lanes := x.lanes ++ [{ due := start + lat, acc := false, index := v.vd, value := r.lanes.map (BitVec.ofNat 32) }] })
      t (start + lat) r.fp r.lovf

/-- VADD (R173). -/
def execVadd (tile : Fin 144) (start : B8) (s : State) : Host.Outcome State Fault Refusal :=
  .next (runVec 0x01 1 6 (fun v => vecFp2 v faddOp) tile start s)
/-- VSUB (R173). -/
def execVsub (tile : Fin 144) (start : B8) (s : State) : Host.Outcome State Fault Refusal :=
  .next (runVec 0x02 1 6 (fun v => vecFp2 v fsubOp) tile start s)
/-- VMUL (R173). -/
def execVmul (tile : Fin 144) (start : B8) (s : State) : Host.Outcome State Fault Refusal :=
  .next (runVec 0x03 1 6 (fun v => vecFp2 v fmulOp) tile start s)
/-- VFMA: VA × VB + VC (R173). -/
def execVfma (tile : Fin 144) (start : B8) (s : State) : Host.Outcome State Fault Refusal :=
  .next (runVec 0x04 1 6 (fun v => vecFp (((v.a.zip v.b).zip v.c).map fun p => fmaOp v.ftz p.1.1 p.1.2 p.2)) tile start s)
/-- VMIN, by R128 (R173). -/
def execVmin (tile : Fin 144) (start : B8) (s : State) : Host.Outcome State Fault Refusal :=
  .next (runVec 0x05 1 2 (fun v => vecFp2 v fun z => minMax z false) tile start s)
/-- VMAX, by R128 (R173). -/
def execVmax (tile : Fin 144) (start : B8) (s : State) : Host.Outcome State Fault Refusal :=
  .next (runVec 0x06 1 2 (fun v => vecFp2 v fun z => minMax z true) tile start s)
/-- VIADD (R173). -/
def execViadd (tile : Fin 144) (start : B8) (s : State) : Host.Outcome State Fault Refusal :=
  .next (runVec 0x10 1 4 (fun v => vecInt2 v opAdd) tile start s)
/-- VISUB (R173). -/
def execVisub (tile : Fin 144) (start : B8) (s : State) : Host.Outcome State Fault Refusal :=
  .next (runVec 0x11 1 4 (fun v => vecInt2 v opSub) tile start s)
/-- VIMUL (R173). -/
def execVimul (tile : Fin 144) (start : B8) (s : State) : Host.Outcome State Fault Refusal :=
  .next (runVec 0x12 1 4 (fun v => vecInt2 v opMul) tile start s)
/-- VAND (R173). -/
def execVand (tile : Fin 144) (start : B8) (s : State) : Host.Outcome State Fault Refusal :=
  .next (runVec 0x13 1 4 (fun v => vecInt2 v opAnd) tile start s)
/-- VOR (R173). -/
def execVor (tile : Fin 144) (start : B8) (s : State) : Host.Outcome State Fault Refusal :=
  .next (runVec 0x14 1 4 (fun v => vecInt2 v opOr) tile start s)
/-- VXOR (R173). -/
def execVxor (tile : Fin 144) (start : B8) (s : State) : Host.Outcome State Fault Refusal :=
  .next (runVec 0x15 1 4 (fun v => vecInt2 v opXor) tile start s)
/-- VSLL (R173). -/
def execVsll (tile : Fin 144) (start : B8) (s : State) : Host.Outcome State Fault Refusal :=
  .next (runVec 0x16 1 4 (fun v => vecInt2 v opSll) tile start s)
/-- VSRL (R173). -/
def execVsrl (tile : Fin 144) (start : B8) (s : State) : Host.Outcome State Fault Refusal :=
  .next (runVec 0x17 1 4 (fun v => vecInt2 v opSrl) tile start s)
/-- VSRA (R173). -/
def execVsra (tile : Fin 144) (start : B8) (s : State) : Host.Outcome State Fault Refusal :=
  .next (runVec 0x18 1 4 (fun v => vecInt2 v opSra) tile start s)
/-- VIDIV, by R138 (R173). -/
def execVidiv (tile : Fin 144) (start : B8) (s : State) : Host.Outcome State Fault Refusal :=
  .next (runVec 0x19 1 18 (fun v => vecInt2 v opDiv) tile start s)
/-- VIREM, by R138 (R173). -/
def execVirem (tile : Fin 144) (start : B8) (s : State) : Host.Outcome State Fault Refusal :=
  .next (runVec 0x1A 1 18 (fun v => vecInt2 v opRem) tile start s)
/-- VINEG, by R138 (R173). -/
def execVineg (tile : Fin 144) (start : B8) (s : State) : Host.Outcome State Fault Refusal :=
  .next (runVec 0x1B 1 18 (fun v => vecInt2 v opNeg) tile start s)

/-- VLD: 256 values of FP32, BF16 or binary16 from ADDR, widened (R126, R173). -/
def execVld (tile : Fin 144) (start : B8) (s : State) : Host.Outcome State Fault Refusal :=
  .next (match vectorFront s tile 0x20 start with
    | none => s
    | some v =>
      let s1 := sramCheck s tile v.addr (vecBytes v.fmt)
      let bs := (s1.tile tile).sram.readN v.addr (vecBytes v.fmt)
      runVec 0x20 1 5 (fun a => vecFp (if v.fmt = 11 then (unpackBits 32 256 (ofLe bs)).map fun w => (w, 0)
        else (unpackBits 16 256 (ofLe bs)).map (widen (halfFmt v.fmt) a.ftz))) tile start s1)

/-- A vector command that writes SRAM runs: bytes at addresses, flags, occupancy, latency. -/
def runVecStore (t start occ lat : Nat) (parts : List (Nat × Bytes)) (fp : Nat) (s : State) : State :=
  tensorDone (parts.foldl (fun s p => sramStore s t p.1 p.2) (vectorBusy s t start occ)) t (start + lat) fp 0

/-- VST: VA to ADDR, narrowed by R132 (R126, R173). -/
def execVst (tile : Fin 144) (start : B8) (s : State) : Host.Outcome State Fault Refusal :=
  .next (match vectorFront s tile 0x21 start with
    | none => s
    | some v =>
      let a := vecArgs s tile start v
      let l := a.a.map fun w => if v.fmt = 11 then (w, 0)
        else narrowTo (halfFmt v.fmt) a.ftz (bitOf a.mode 3) (bitOf a.mode 2) w
      runVecStore tile start 1 4 [(v.addr, le (vecBytes v.fmt) (packBits (if v.fmt = 11 then 32 else 16) (l.map Prod.fst)))]
        ((l.map Prod.snd).foldl (· ||| ·) 0) s)

/-- VACC: four accumulator rows into VD; lanes of rows beyond the block are open (R173). -/
def execVacc (tile : Fin 144) (start : B8) (s : State) : Host.Outcome State Fault Refusal :=
  .next (runVec 0x22 1 4 (fun v =>
    vecFp ((List.range 4).flatMap fun k =>
      let r := v.cmd.addr / 4 % 64 + k
      if r < 64 then ((s.tile tile).accRow (64 * (v.cmd.addr % 4) + r) start).map fun w => (w.toNat, 0)
      else (List.range 64).map fun n => (Config.openResult 0x101 r n % 2 ^ 32, 0))) tile start s)

/-- VCVTI: FP32 to INT32, by R132 (R173). -/
def execVcvti (tile : Fin 144) (start : B8) (s : State) : Host.Outcome State Fault Refusal :=
  .next (runVec 0x23 1 4 (fun v => vecFp1 v fun z => toInt 32 z (bitOf v.mode 3)) tile start s)
/-- VCVTF: INT32 to FP32, by R132 (R173). -/
def execVcvtf (tile : Fin 144) (start : B8) (s : State) : Host.Outcome State Fault Refusal :=
  .next (runVec 0x24 1 4 (fun v => vecFp1 v fun _ => ofInt32) tile start s)

/-- VQUANT: eight MX blocks of FMT from VA to ADDR, and their scales (R133, R134, R173). -/
def execVquant (tile : Fin 144) (start : B8) (s : State) : Host.Outcome State Fault Refusal :=
  .next (match vectorFront s tile 0x28 start with
    | none => s
    | some v =>
      let a := vecArgs s tile start v
      let blocks := (List.range 8).map fun k =>
        mxBlock a.ftz (bitOf a.mode 3) (bitOf a.mode 1) v.fmt ((a.a.drop (32 * k)).take 32)
      runVecStore tile start 2 8
        [(v.addr, blocks.flatMap fun b => le (fmtBytes v.fmt 32) (packBits (fmtBits v.fmt) b.2.1)),
         (v.imm % 2 ^ 24, blocks.map fun b => BitVec.ofNat 8 b.1)]
        ((blocks.map fun b => b.2.2).foldl (· ||| ·) 0) s)

/-- EXP2, by R135 (R173). -/
def execExp2 (tile : Fin 144) (start : B8) (s : State) : Host.Outcome State Fault Refusal :=
  .next (runVec 0x30 4 15 (fun v => vecFp1 v exp2Op) tile start s)
/-- LOG2, by R135 (R173). -/
def execVlog2 (tile : Fin 144) (start : B8) (s : State) : Host.Outcome State Fault Refusal :=
  .next (runVec 0x31 4 15 (fun v => vecFp1 v log2Op) tile start s)
/-- RCP, by R135 (R173). -/
def execRcp (tile : Fin 144) (start : B8) (s : State) : Host.Outcome State Fault Refusal :=
  .next (runVec 0x32 4 15 (fun v => vecFp1 v rcpOp) tile start s)
/-- RSQRT, by R135 (R173). -/
def execRsqrt (tile : Fin 144) (start : B8) (s : State) : Host.Outcome State Fault Refusal :=
  .next (runVec 0x33 4 15 (fun v => vecFp1 v rsqrtOp) tile start s)
/-- SQRT, by R135 (R173). -/
def execSqrt (tile : Fin 144) (start : B8) (s : State) : Host.Outcome State Fault Refusal :=
  .next (runVec 0x34 4 15 (fun v => vecFp1 v sqrtOp) tile start s)
/-- TANH, by R135 (R173). -/
def execTanh (tile : Fin 144) (start : B8) (s : State) : Host.Outcome State Fault Refusal :=
  .next (runVec 0x35 4 15 (fun v => vecFp1 v tanhOp) tile start s)
/-- SIGMOID, by R135 (R173). -/
def execSigmoid (tile : Fin 144) (start : B8) (s : State) : Host.Outcome State Fault Refusal :=
  .next (runVec 0x36 4 15 (fun v => vecFp1 v sigmoidOp) tile start s)
/-- VRSUM: all lanes into lane 0 (R173). -/
def execVrsum (tile : Fin 144) (start : B8) (s : State) : Host.Outcome State Fault Refusal :=
  .next (runVec 0x38 2 10 (fun v => vecReduce (((s.tile tile).vreg v.cmd.vd start).map BitVec.toNat) (reduceSum v.ftz v.a)) tile start s)
/-- VRMAX: all lanes into lane 0 (R173). -/
def execVrmax (tile : Fin 144) (start : B8) (s : State) : Host.Outcome State Fault Refusal :=
  .next (runVec 0x39 2 10 (fun v => vecReduce (((s.tile tile).vreg v.cmd.vd start).map BitVec.toNat) (reduceMax v.ftz v.a)) tile start s)

/-! ### Sends and gateway transfers (R79 to R82, R174, R237, R240) -/

/-- The front command of the send queue, or of the gateway queue. -/
def queueFront (s : State) (t q start : Nat) : Option Nat :=
  if s.on && decide (q = 3 ∨ (s.tile t).sendFree ≤ start) then ((s.tile t).queue q).head? else none

/-- SEND (R79, R174): the bytes travel to the logical slot's tile; a poisoned step sends nothing (R98). -/
def execSend (tile : Fin 144) (start : B8) (s : State) : Host.Outcome State Fault Refusal :=
  .next (match queueFront s tile 2 start, tileSession s tile with
    | some c, some (h, v) =>
      let m := SendCmd.ofWord c
      let s1 := sramCheck s tile m.src m.len
      let free := start + (m.len + 255) / 256
      let s2 := tensorDone (s1.modTile tile fun x => { x with qSend := x.qSend.drop 1, sendFree := free }) tile free 0 0
      let g := v.groups.getD m.group 0
      if (s1.tile tile).poisonStep then s2
      else { s2 with
        mesh := s2.mesh ++ [{
          dst := 9 * g + m.slot, addr := m.dst, data := (s1.tile tile).sram.readN m.src m.len, part := v.part
          arrive := start + sendCycles s (tile.val / 9) ((logicalOf s tile).getD 0) g m.slot m.len
          src := tile, session := h, reads := [], gateway := false, badWords := [] }] }
    | _, _ => s)

/-- A gateway address with the session's WORK_BIAS (R194). -/
def biased (s : State) (v : YewSession) (a : Nat) : Nat :=
  match s.models.get? v.params.model with
  | some m => if m.header.workBase ≤ a ∧ a < m.header.workBase + m.header.workSize then wrap64 a v.params.workBias else a
  | none => a

/-- Bytes of plot space as a gateway reads them, with the offsets of poisoned ones (R229). -/
def gateBytes (s : State) (o : Owner) (a len : Nat) : Bytes × List Nat :=
  let l := (List.range len).map fun k => match translate s o (a + k) with
    | some (n, off) => if wordBad s n off then (0, some k) else (plotByte s n off, none)
    | none => (0, none)
  (l.map Prod.fst, l.filterMap Prod.snd)

/-- SRAM words of an arrival at `a` whose offsets are given. -/
def wordsAt (a : Nat) (offs : List Nat) : List Nat := (offs.map fun k => (a + k) / 32).eraseDups

/-- A gateway transfer's answer travels to the tile: data, its poisoned offsets, the reads behind it. -/
def gateAnswer (s : State) (t start h : Nat) (v : YewSession) (m : GateCmd) (data : Bytes) (bad : List Nat)
    (reads : List (Nat × Nat × Nat)) : State :=
  { s with
    mesh := s.mesh ++ [{
      dst := 9 * (t / 9) + (logicalOf s t).getD 0, addr := m.sram, data := data, part := v.part, arrive := start, src := t
      session := h, reads := reads, gateway := true, badWords := wordsAt m.sram bad }] }

/-- The gateway command leaves its queue. -/
def gatePop (s : State) (t : Nat) : State := s.modTile t fun x => { x with qGate := x.qGate.drop 1 }
/-- A gateway access outside the partition's plots (R29, R174). -/
def gateViolation (s : State) (t a kind len : Nat) : State := violation s a (gateTag s t) kind len 0xFFF 0xFFFF

/-- GATEWAY_READ (R174): plots into SRAM; outside the partition's plots it delivers zeros (R29). -/
def execGatewayRead (tile : Fin 144) (start : B8) (s : State) : Host.Outcome State Fault Refusal :=
  .next (match queueFront s tile 3 start, tileSession s tile with
    | some c, some (h, v) =>
      let m := GateCmd.ofWord c
      let a := biased s v m.addr
      if m.op ≠ 0 then s
      else if !translates s v.part a m.len then
        gateAnswer (gateViolation (gatePop s tile) tile a 1 m.len) tile start h v m (zeros m.len) [] []
      else
        let r := gateBytes s v.part a m.len
        let s1 := if r.2.isEmpty then s else countPoison s v.part a m.len POISONED
        gateAnswer (gatePop s1 tile) tile start h v m r.1 r.2 [(a, m.sram, m.len)]
    | _, _ => s)

/-- GATEWAY_WRITE (R174): SRAM into plots. -/
def execGatewayWrite (tile : Fin 144) (start : B8) (s : State) : Host.Outcome State Fault Refusal :=
  .next (match queueFront s tile 3 start, tileSession s tile with
    | some c, some (_, v) =>
      let m := GateCmd.ofWord c
      let a := biased s v m.addr
      if m.op ≠ 1 then s
      else
        let s1 := sramCheck s tile m.sram m.len
        let s2 := match writePlot s1 v.part a ((s1.tile tile).sram.readN m.sram m.len) with
          | (.violation, _) => gateViolation s1 tile a 2 m.len
          | (_, s') => s'
        tensorDone (gatePop s2 tile) tile (start + 1) 0 0
    | _, _ => s)

/-- The entries of a GATHER page list, or none where the list is malformed (R240). -/
def pageList (s : State) (o : Owner) (v : YewSession) (a : Nat) : Option (List (Nat × Nat)) :=
  let h := (gateBytes s o a 16).1
  let n := fieldAt h 0 4
  if n < 1 ∨ 1024 < n ∨ fieldAt h 4 12 ≠ 0 then none
  else
    let es := (List.range n).map fun k => (gateBytes s o (a + 16 + 16 * k) 16).1
    if es.any fun e => decide (fieldAt e 12 4 ≠ 0) then none
    else some (es.map fun e => (biased s v (fieldAt e 0 8), fieldAt e 8 4))

/-- The reads of a GATHER in list order, cut at LEN: (plot address, SRAM address, length). -/
def gatherReads (sram : Nat) : Nat → List (Nat × Nat) → List (Nat × Nat × Nat)
  | _, [] => []
  | left, (a, n) :: l => if left = 0 then [] else (a, sram, min n left) :: gatherReads (sram + min n left) (left - min n left) l

/-- An entry that the page list admits: a multiple of 32 in address and length, 32 to 65,536 bytes, in the owner's plots. -/
def pageOk (s : State) (o : Owner) (e : Nat × Nat) : Bool :=
  decide (e.1 % 32 = 0 ∧ e.2 % 32 = 0 ∧ 32 ≤ e.2 ∧ e.2 ≤ 65536) && translates s o e.1 e.2

/-- GATEWAY_GATHER (R174, R240): the entries' bytes in list order up to LEN; a bad list delivers zeros and counts as
refused, an entry outside the plots as one violation of KIND 0x03 (R237). -/
def execGatewayGather (tile : Fin 144) (start : B8) (s : State) : Host.Outcome State Fault Refusal :=
  .next (match queueFront s tile 3 start, tileSession s tile with
    | some c, some (h, v) =>
      let m := GateCmd.ofWord c
      let a := biased s v m.addr
      let s1 := gatePop s tile
      if m.op ≠ 2 then s
      else if !translates s v.part a 16 then
        gateAnswer (gateViolation s1 tile a 3 m.len) tile start h v m (zeros m.len) [] []
      else match pageList s v.part v a with
        | none => gateAnswer (s1.modTile tile fun x => { x with refused := sat32 x.refused 1 }) tile start h v m (zeros m.len) [] []
        | some es =>
          if !es.all (pageOk s v.part) then
            gateAnswer (gateViolation s1 tile a 3 m.len) tile start h v m (zeros m.len) [] []
          else
            let reads := gatherReads m.sram m.len es
            let parts := reads.map fun r => (r.2.1 - m.sram, gateBytes s v.part r.1 r.2.2)
            gateAnswer s1 tile start h v m (parts.flatMap fun p => p.2.1) (parts.flatMap fun p => p.2.2.map (· + p.1)) reads
    | _, _ => s)

/-- MESH_ARRIVAL (R82, R103, R104): the oldest message that has reached the tile is written into its landing buffer; a
send of another session's tile is discarded as a violation. -/
def execMeshArrival (tile : Fin 144) (s : State) : Host.Outcome State Fault Refusal :=
  .next (match s.mesh.find? fun m => decide (physOf s (m.dst / 9) (m.dst % 9) = tile.val ∧ m.arrive ≤ tclkNow s) with
    | none => s
    | some m =>
      let s0 := settleStep ({ s with mesh := s.mesh.erase m } : State) tile
      if !s.on then s
      else if (s.group (m.dst / 9)).session ≠ some m.session then
        if m.gateway then s0
        else violation s0 m.addr (mkTag m.part (0x480 + m.src / 9)) 2 m.data.length (0x480 + m.dst / 9) 0xFFFF
      else
        let s1 := arriveAt s0 tile m.addr m.data m.reads m.badWords
        if m.gateway then tensorDone s1 tile (tclkNow s) 0 0 else s1)

end Sys2Proof.Machine
end

