-- ==== Sys2Proof/Machine/Model.lean ====
section
/-! DEFINITION. Model images: structure, load check, loading, unloading (06 R182 to R189) and their requests (11 R377). -/

namespace Sys2Proof.Machine

/-- Bytes of an owner's plot space, zeros where it does not translate. -/
def plotBytes (s : State) (o : Owner) (a len : Nat) : Bytes := (gateBytes s o a len).1

/-! ### Header and section table (R182, R183) -/

/-- The header as its 128 bytes spell it. -/
def parseHeader (b : Bytes) : ImageHeader :=
  { totalSize := fieldAt b 8 8, placements := fieldAt b 18 2, speculative := bitOf (fieldAt b 20 4) 2, mode := fieldAt b 24 1
    kinds := fieldAt b 25 1, maxDraft := fieldAt b 26 1, vocab := fieldAt b 28 4, context := fieldAt b 32 4
    loadBase := fieldAt b 48 8, workBase := fieldAt b 56 8, workSize := fieldAt b 64 8, shadowOffset := fieldAt b 72 8
    shadowSize := fieldAt b 80 8 }
/-- One section table entry. -/
def parseSection (b : Bytes) : Section :=
  { type := fieldAt b 0 2, placement := fieldAt b 2 2, variant := fieldAt b 4 1, kind := fieldAt b 5 1, tile := fieldAt b 6 2,
    offset := fieldAt b 8 8, length := fieldAt b 16 8 }

/-- A header that R182 and R187 admit at an address: raw bytes and address. -/
def headerOk (b : Bytes) (a : Nat) : Bool :=
  let h := parseHeader b
  let fl := fieldAt b 20 4
  decide (fieldAt b 0 4 = 0x4D49595A ∧ fieldAt b 4 2 = 1 ∧ fieldAt b 6 2 = 0x80) &&
    decide (h.totalSize % 4096 = 0 ∧ h.totalSize ≤ 2 ^ 38 ∧ 128 ≤ h.totalSize) &&
    decide (1 ≤ fieldAt b 16 2 ∧ fieldAt b 16 2 ≤ 4096 ∧ 1 ≤ h.placements ∧ h.placements ≤ 64) &&
    decide (fl < 8 ∧ bitOf fl 0 ∧ bitOf fl 1) && decide (h.mode = 1 ∨ h.mode = 2) &&
    decide (h.kinds < 8 ∧ bitOf h.kinds 0) && decide (bitOf h.kinds 2 = h.speculative) &&
    (if h.speculative then decide (1 ≤ h.maxDraft ∧ h.maxDraft ≤ 16) else decide (h.maxDraft = 0)) &&
    decide (fieldAt b 27 1 = 0 ∧ fieldAt b 36 4 = 0) && decide (2 ≤ h.vocab ∧ h.vocab ≤ 262144) &&
    decide (1 ≤ h.context ∧ h.context ≤ 1048576) && decide (fieldAt b 40 8 % 32 = 0) &&
    decide (fieldAt b 40 8 + 32 * fieldAt b 16 2 ≤ h.totalSize) && decide (h.loadBase = a ∧ a % 4096 = 0) &&
    decide (h.workBase % 4096 = 0 ∧ h.workSize % 4096 = 0 ∧ h.shadowOffset % 4096 = 0) &&
    decide (h.shadowOffset + h.shadowSize ≤ h.workSize) && !overlap h.workBase h.workSize a h.totalSize

/-- The image as it is checked: partition, address, header, sections, and the reader of its bytes. -/
structure Image where
  part : Nat
  base : Nat
  header : ImageHeader
  sections : List Section
  deriving DecidableEq, Repr

/-- The bytes of a section. -/
def secBytes (s : State) (m : Image) (x : Section) : Bytes := plotBytes s m.part (m.base + x.offset) x.length
/-- The section of a type and its index fields (R183, R184). -/
def findSec (m : Image) (type placement variant kind tile : Nat) : Option Section :=
  m.sections.find? fun x => decide (x.type = type ∧ x.placement = placement ∧ x.variant = variant ∧ x.kind = kind ∧ x.tile = tile)
/-- Its bytes, none where it is missing. -/
def findBytes (s : State) (m : Image) (type placement variant kind tile : Nat) : Bytes :=
  ((findSec m type placement variant kind tile).map (secBytes s m)).getD []

/-! ### Sections (R184 to R186) -/

/-- The groups of a placement. -/
def placementGroups (s : State) (m : Image) (p : Nat) : List Nat :=
  let b := findBytes s m 1 p 0xFF 0xFF 0xFFFF
  (List.range (fieldAt b 0 1)).map fun k => fieldAt b (8 + k) 1
/-- An EPOCH section as its bytes spell it. -/
def parseEpoch (b : Bytes) : EpochDef :=
  { period := fieldAt b 0 8, margin := fieldAt b 8 8, endPoint := fieldAt b 16 8, rate0 := fieldAt b 24 4,
    rate1 := fieldAt b 28 4, batch := fieldAt b 32 1 }
/-- The EPOCH section of a placement, variant and kind. -/
def epochOf (s : State) (m : Image) (p v k : Nat) : EpochDef := parseEpoch (findBytes s m 2 p v k 0xFFFF)
/-- Region classes by code. -/
def classOf (c : Nat) : RegionClass := if c = 1 then .weight else if c = 2 then .stream else if c = 3 then .epoch else .persist
/-- A REGIONS section as its bytes spell it. -/
def parseRegions (b : Bytes) : List Region :=
  (chunks 16 (b.length / 16) b).map fun e => { base := fieldAt e 0 4, length := fieldAt e 4 4, cls := classOf (fieldAt e 8 1) }
/-- The regions of a tile. -/
def regionsOf (s : State) (m : Image) (p t : Nat) : List Region := parseRegions (findBytes s m 4 p 0xFF 0xFF t)
/-- A LANDING section as its bytes spell it. -/
def parseLanding (b : Bytes) : List LandingDef :=
  (chunks 16 32 b).map fun e =>
    { base := fieldAt e 0 4, length := fieldAt e 4 4, expected := fieldAt e 8 4, valid := bitOf (fieldAt e 12 1) 0,
      deviceReleased := bitOf (fieldAt e 12 1) 1 }
/-- A STEPS section as its bytes spell it. -/
def parseSteps (b : Bytes) : List StepDef :=
  (chunks 24 (b.length / 24) b).map fun e =>
    { finish := fieldAt e 0 8, need := fieldAt e 8 4, release := fieldAt e 12 4, sendSlack := fieldAt e 16 1 }
/-- A SAMPLER section as its bytes spell it. -/
def parseSampler (b : Bytes) : SamplerDef :=
  { tokenBuf := fieldAt b 0 1, inputBuf := fieldAt b 1 1,
    sources := (chunks 16 (fieldAt b 2 2) (b.drop 16)).map fun e =>
      { tile := fieldAt e 0 2, addr := fieldAt e 4 4, first := fieldAt e 8 4, count := fieldAt e 12 4 } }

/-- Bytes `lo` to `hi − 1` are zero. -/
def zeroAt (b : Bytes) (lo hi : Nat) : Bool := ((b.drop lo).take (hi - lo)).all fun x => decide (x = 0)
/-- The list holds no element twice. -/
def distinct : List Nat → Bool
  | [] => true
  | a :: l => !l.contains a && distinct l

/-- The index fields of an entry are of its type, and name a placement, variant, kind and tile of the image (R183, R184). -/
def indexOk (m : Image) (groups : Nat → List Nat) (x : Section) : Bool :=
  let p := decide (x.placement < m.header.placements)
  let v := decide (x.variant < 3)
  let k := decide (x.kind < 3) && m.header.kinds.testBit x.kind
  let t := decide (x.tile < 8 * (groups x.placement).length)
  let nv := decide (x.variant = 0xFF)
  let nk := decide (x.kind = 0xFF)
  let nt := decide (x.tile = 0xFFFF)
  if x.type = 1 then p && nv && nk && nt
  else if x.type = 2 ∨ x.type = 0xB then p && v && k && nt
  else if x.type = 3 ∨ x.type = 4 ∨ x.type = 5 ∨ x.type = 8 then p && nv && nk && t
  else if x.type = 6 ∨ x.type = 7 then p && v && k && t
  else if x.type = 9 then (p || decide (x.placement = 0xFFFF)) && nv && nk && decide (x.tile < 2)
  else decide (x.type = 0xA ∧ x.placement = 0xFFFF) && nv && nk && nt

/-- Regions lie in SRAM at multiples of 32 and do not overlap (R187). -/
def regionsDisjoint : List Region → Bool
  | [] => true
  | r :: l => (l.all fun q => !overlap r.base r.length q.base q.length) && regionsDisjoint l

/-- A valid landing buffer lies in one EPOCH, STREAM or PERSIST region (R103, R187). -/
def landingIn (rs : List Region) (l : LandingDef) : Bool :=
  !l.valid || (decide (l.base % 32 = 0 ∧ l.length % 32 = 0 ∧ l.expected ≤ l.length) &&
    rs.any fun r => decide (r.cls ≠ .weight ∧ r.base ≤ l.base ∧ l.base + l.length ≤ r.base + r.length))

/-- The STEP and SAMPLE entries of a LAUNCH table (R187, R190): table, EPOCH section, kind, tile. -/
def launchShape (m : Image) (t : LaunchTable) (e : EpochDef) (kind tile : Nat) : Bool :=
  let draws := t.entries.filter fun x => decide (x.action = 3)
  let want := if tile ≠ 0 then 0 else if kind = 0 then 1 else if kind = 2 then m.header.maxDraft else 0
  decide (t.period = e.period ∧ 0 < t.period) &&
    t.entries.all (fun x => decide ((x.action = 1 ∧ x.arg < 8192) ∨ (x.action = 2 ∧ x.arg = 0) ∨ x.action = 3)) &&
    decide (((t.entries.filter fun x => decide (x.action = 2)).map LaunchEntry.offset) = [e.endPoint]) &&
    decide (draws.map LaunchEntry.arg = List.range want)

/-- One STEPS entry beside its LAUNCH entry (R84, R107, R185, R187): buffers that no step may release. -/
def stepOk (end_ keep : Nat) (p : LaunchEntry × StepDef) : Bool :=
  if p.1.action = 1 then
    decide (p.2.finish + 100 ≤ end_ ∧ 2 ≤ p.2.sendSlack) && decide (p.2.release &&& keep = 0)
  else decide (p.2.finish = 0 ∧ p.2.need = 0 ∧ p.2.release = 0 ∧ p.2.sendSlack = 0)

/-- The SAMPLER of a placement, variant and kind. -/
def samplerOf (s : State) (m : Image) (p v k : Nat) : SamplerDef := parseSampler (findBytes s m 0xB p v k 0xFFFF)
/-- The landing buffers that only the device releases, as a bitmap (R185). -/
def deviceBufs (d : SamplerDef) : Nat := 2 ^ d.tokenBuf ||| 2 ^ d.inputBuf

/-- Largest BATCH of a placement's PREFILL sections, or 0. -/
def prefillBatch (s : State) (m : Image) (p : Nat) : Nat :=
  if bitOf m.header.kinds 1 then ((List.range 3).map fun v => (epochOf s m p v 1).batch).foldl max 0 else 0

/-- The sources cover the vocabulary exactly once, from `k` up (R185): sources sorted by FIRST. -/
def coversVocab (vocab : Nat) : Nat → List SamplerSource → Bool
  | k, [] => decide (k = vocab)
  | k, x :: l => decide (x.first = k ∧ 0 < x.count) && coversVocab vocab (k + x.count) l

/-- A SAMPLER section that R185 admits. -/
def samplerOk (s : State) (m : Image) (x : Section) (groups : Nat → List Nat) : Bool :=
  let b := secBytes s m x
  let d := parseSampler b
  let n := fieldAt b 2 2
  let land := parseLanding (findBytes s m 5 x.placement 0xFF 0xFF 0)
  let buf := fun (k : Nat) => land[k]?.getD ({ base := 0, length := 0, expected := 0, valid := false, deviceReleased := false } : LandingDef)
  let need := 32 * max 1 (prefillBatch s m x.placement)
  decide (d.tokenBuf < 32 ∧ d.inputBuf < 32 ∧ d.tokenBuf ≠ d.inputBuf ∧ 1 ≤ n ∧ n ≤ 128 ∧ b.length = 16 + 16 * n) && zeroAt b 4 16 &&
    ((chunks 16 n (b.drop 16)).all fun e => decide (fieldAt e 2 2 = 0)) &&
    (d.sources.all fun q => decide (q.tile < 8 * (groups x.placement).length ∧ q.addr + 4 * q.count ≤ sramSize)) &&
    coversVocab m.header.vocab 0 (sortBy SamplerSource.first d.sources) &&
    (buf d.tokenBuf).valid && (buf d.tokenBuf).deviceReleased && (buf d.inputBuf).valid && (buf d.inputBuf).deviceReleased &&
    decide (32 ≤ (buf d.tokenBuf).length ∧ (buf d.tokenBuf).expected = 32) &&
    decide (need ≤ (buf d.inputBuf).length ∧ (buf d.inputBuf).expected = 0)

/-- The contents of a section that R57, R157 and R184 to R187 admit. -/
def contentOk (s : State) (m : Image) (groups : Nat → List Nat) (table : Bytes) (x : Section) : Bool :=
  let b := secBytes s m x
  if x.type = 1 then
    let n := fieldAt b 0 1
    let g := (List.range n).map fun k => fieldAt b (8 + k) 1
    decide (1 ≤ n ∧ n ≤ 16 ∧ b.length = 8 + n) && zeroAt b 1 8 && g.all (fun k => decide (k < 16)) && distinct g
  else if x.type = 2 then
    let e := parseEpoch b
    decide (b.length = 64 ∧ 64 ≤ e.period ∧ e.period ≤ 2 ^ 40 ∧ e.margin ≤ 1000000 ∧ e.endPoint < e.period) && zeroAt b 33 64 &&
      (if x.kind = 0 then decide (e.batch = 1) else if x.kind = 1 then decide (1 ≤ e.batch ∧ e.batch ≤ 64)
       else decide (e.batch = m.header.maxDraft))
  else if x.type = 3 then programOk true table 8192 b
  else if x.type = 4 then
    decide (b.length % 16 = 0 ∧ b.length ≤ 1024) &&
      ((chunks 16 (b.length / 16) b).all fun e => decide (1 ≤ fieldAt e 8 1 ∧ fieldAt e 8 1 ≤ 4) && zeroAt e 9 16) &&
      ((parseRegions b).all fun r => decide (r.base % 32 = 0 ∧ r.length % 32 = 0 ∧ r.base + r.length ≤ sramSize)) &&
      regionsDisjoint (parseRegions b)
  else if x.type = 5 then
    decide (b.length = 512) && ((chunks 16 32 b).all fun e => decide (fieldAt e 12 1 < 4) && zeroAt e 13 16) &&
      (parseLanding b).all (landingIn (regionsOf s m x.placement x.tile))
  else if x.type = 6 then
    tableOk 5 b.length b && launchShape m (parseTable b) (epochOf s m x.placement x.variant x.kind) x.kind x.tile
  else if x.type = 7 then
    let t := parseTable (findBytes s m 6 x.placement x.variant x.kind x.tile)
    let e := epochOf s m x.placement x.variant x.kind
    let keep := if x.tile = 0 then deviceBufs (samplerOf s m x.placement x.variant x.kind) else 0
    decide (b.length = 24 * t.entries.length) && ((chunks 24 t.entries.length b).all fun q => zeroAt q 17 24) &&
      (t.entries.zip (parseSteps b)).all (stepOk e.endPoint keep)
  else if x.type = 8 then
    decide (b.length = ((regionsOf s m x.placement x.tile).map fun r => if r.cls = .weight then r.length else 0).foldl (· + ·) 0)
  else if x.type = 9 then
    (slotsOf (m.base + x.offset) x.length).all fun k => decide (((slotPlot s m.part k).getD 0) / 512 = x.tile)
  else if x.type = 0xB then samplerOk s m x groups
  else true

/-- Section `i` breaks no rule of R183 to R187 beside the sections before it. -/
def sectionOk (s : State) (m : Image) (groups : Nat → List Nat) (table raw : Bytes) (i : Nat) (x : Section) : Bool :=
  let before := m.sections.take i
  zeroAt raw 24 32 && indexOk m groups x && decide (x.offset % 32 = 0 ∧ x.offset + x.length ≤ m.header.totalSize) &&
    (before.all fun y => !(decide (0 < x.length ∧ 0 < y.length) && overlap x.offset x.length y.offset y.length)) &&
    (decide (x.type = 9 ∨ x.type = 0xA) || before.all fun y =>
      !decide (y.type = x.type ∧ y.placement = x.placement ∧ y.variant = x.variant ∧ y.kind = x.kind ∧ y.tile = x.tile)) &&
    contentOk s m groups table x

/-- Every required section of a placement is there (R184). -/
def requiredOk (m : Image) (p groups : Nat) : Bool :=
  let kinds := (List.range 3).filter fun k => m.header.kinds.testBit k
  let vk := (List.range 3).flatMap fun v => kinds.map fun k => (v, k)
  (findSec m 1 p 0xFF 0xFF 0xFFFF).isSome &&
    (vk.all fun c => (findSec m 2 p c.1 c.2 0xFFFF).isSome && (findSec m 0xB p c.1 c.2 0xFFFF).isSome) &&
    (List.range (8 * groups)).all fun t =>
      (findSec m 3 p 0xFF 0xFF t).isSome && (findSec m 4 p 0xFF 0xFF t).isSome && (findSec m 5 p 0xFF 0xFF t).isSome &&
        (decide (m.header.mode ≠ 1) || (findSec m 8 p 0xFF 0xFF t).isSome) &&
        vk.all fun c => (findSec m 6 p c.1 c.2 t).isSome && (findSec m 7 p c.1 c.2 t).isSome

/-- PERSIST bytes of a placement (R186). -/
def placementPersist (s : State) (m : Image) (p groups : Nat) : Nat :=
  ((List.range (8 * groups)).map fun t =>
    ((regionsOf s m p t).map fun r => if r.cls = .persist then r.length else 0).foldl (· + ·) 0).foldl (· + ·) 0

/-- The image at an address, as its bytes spell it. -/
def imageAt (s : State) (part a : Nat) : Image :=
  let b := plotBytes s part a 128
  let h := parseHeader b
  { part := part, base := a, header := h,
    sections := (chunks 32 (fieldAt b 16 2) (plotBytes s part (a + fieldAt b 40 8) (32 * fieldAt b 16 2))).map parseSection }

/-- Why a load fails (R187): the first offending section, or none of them. -/
inductive ImageCheck
  | good
  | section_ (i : Nat)
  | other
  deriving DecidableEq, Repr

/-- The load check of R187. -/
def checkImage (s : State) (part a : Nat) : ImageCheck :=
  let b := plotBytes s part a 128
  if !translates s part a 128 || !headerOk b a || !translates s part a (parseHeader b).totalSize then .other
  else
    let m := imageAt s part a
    let gs := (List.range m.header.placements).map fun p => placementGroups s m p
    let groups := fun p => gs.getD p []
    let raws := chunks 32 m.sections.length (plotBytes s part (a + fieldAt b 40 8) (32 * m.sections.length))
    match ((m.sections.zip raws).zipIdx).find? fun e => !sectionOk s m groups (s.decode.getD part []) e.1.2 e.2 e.1.1 with
    | some e => .section_ e.2
    | none =>
      let ps := List.range m.header.placements
      if ps.all (fun p => requiredOk m p (groups p).length) &&
          decide (m.header.shadowSize = 64 + ((ps.map fun p => placementPersist s m p (groups p).length).foldl max 0)) then .good
      else .other

/-- Some byte of the range reads as poisoned. -/
def rangeBad (s : State) (o : Owner) (a len : Nat) : Bool :=
  match readPlot s o a len with | .poisoned => true | _ => false

/-! ### MODEL_LOAD and MODEL_UNLOAD (R187, R188) -/

/-- Images that a partition holds or is loading. -/
def modelsOf (s : State) (p : Nat) : Nat :=
  (s.models.count fun _ m => decide (m.part = p)) + s.longOps.count fun _ o => match o.data with
    | .modelLoad q _ _ => decide (q = p)
    | _ => false

/-- MODEL_LOAD's own statement: it runs to completion apart from the request (R187). The image's length is taken from its
header when the load begins, since writes to it are violations from then on (R188). -/
def modelLoad (q : Req) (addr : Nat) (w : Who) (s : State) : Answer :=
  refuseOr [(q.bodyBad, INVALID), (decide (8 ≤ modelsOf s w.owner), NO_RESOURCES), (!logRoom s w.owner 1, NO_RESOURCES)]
    (.later ACCEPTED s (.modelLoad w.owner addr (fieldAt (plotBytes s w.owner addr 128) 8 8)))
def execModelLoad (q : Req) (addr : B8) (s : State) : Host.Outcome State Fault Refusal :=
  .next (serve q ⟨0x0504, 8, .tenant, none, []⟩ (modelLoad q addr) s)

/-- The first free model handle. -/
def freeModel (s : State) : Nat := (Tbl.firstFree s.models (s.models.length + 1) 1).getD 1

/-- MODEL_LOAD_COMPLETE (R187, R188): the image is checked, measured and loaded, or refused. The operand is the
operation's number. -/
def execModelLoadComplete (op : B4) (s : State) : Host.Outcome State Fault Refusal :=
  .next (match (s.longOps.get? op).map LongOp.data with
    | some (.modelLoad part a total) =>
      if !s.on then s
      else match checkImage s part a with
        | .section_ i => finishOp s op INVALID (zeros 4 ++ le 2 i ++ zeros 2)
        | .other => let f := s.fresh 65536; finishOp f.2 op INVALID (zeros 4 ++ le 2 f.1 ++ zeros 2)
        | .good =>
          if rangeBad s part a total then finishOp (countPoison s part a total POISONED) op POISONED []
          else
            let m := imageAt s part a
            let h := freeModel s
            let custom := m.sections.any fun x => decide (x.type = 3) && programCustom (secBytes s m x)
            let s1 := measurePart s part 0x13 h (Config.sha256 (plotBytes s part a total))
            finishOp { s1 with models := s1.models.set h { part := part, header := m.header, sections := m.sections, usesCustom := custom } }
              op OK (le 4 h ++ zeros 4)
    | _ => s)

/-- MODEL_UNLOAD's own statement (R188). -/
def modelUnload (q : Req) (h : Nat) (w : Who) (s : State) : Answer :=
  match s.models.get? h with
  | none => refuseOr [(true, INVALID)] (.ok s)
  | some m =>
    refuseOr [(decide (m.part ≠ w.owner), DENIED), (q.bodyBad, INVALID),
      (s.sessions.any fun _ v => decide (v.params.model = h), IN_USE)] (.ok { s with models := s.models.erase h })
def execModelUnload (q : Req) (model : B4) (s : State) : Host.Outcome State Fault Refusal :=
  .next (serve q ⟨0x0505, 8, .tenant, none, []⟩ (modelUnload q model) s)

/-- A loaded model as an image. -/
def Model.image (m : Model) : Image := { part := m.part, base := m.header.loadBase, header := m.header, sections := m.sections }

end Sys2Proof.Machine
end

