-- ==== Sys2Proof/Machine/Sampler.lean ====
section
/-! DEFINITION. The sampler: logits, candidates, the draw and its DRBG (06 R207 to R211). -/

namespace Sys2Proof.Machine

/-! ### FP32 helpers of a draw -/

/-- The pattern of −∞. -/
def negInf : Nat := 0xFF80_0000
/-- A NaN counts as −∞ (R208). -/
def nanLow (z : Nat) : Nat := if (unpack fp32 false z).isNan then negInf else z
/-- A value as a multiple of 2^−149, exact for every non-negative finite FP32 number. -/
def units149 (w : Nat) : Nat :=
  match unpack fp32 false w with
  | .fin false m e => m * 2 ^ (e + 149).toNat
  | .inf false => 2 ^ 300
  | _ => 0
/-- FP32 quotient of two non-negative numbers, rounded to nearest even. -/
def quotient32 (num den : Nat) : Nat :=
  if den = 0 then fp32.inf
  else (pack fp32 false false false (num * 2 ^ 400 / den * 2 + b2n (decide (num * 2 ^ 400 % den ≠ 0))) (-401)).1
/-- Position of a value in descending order, equal numbers at one place. -/
def downKey (z : Nat) : Nat := (2 ^ 31 - orderKey (if z = 0x8000_0000 then 0 else z)).toNat

/-- A candidate: its token, its scaled logit, and p_i of step 6. -/
structure Candidate where
  token : Nat
  z : Nat
  p : Nat
  deriving DecidableEq, Repr

/-! ### Steps 1 to 8 of R208 -/

/-- Step 1 and 2: NaN logits, then every bias added to its token's logit. -/
def biased_ (bias : List (Nat × W32)) (t z : Nat) : Nat :=
  bias.foldl (fun (z : Nat) b => if b.1 = t then nanLow (faddOp false z b.2.toNat).1 else z) (nanLow z)
/-- Step 3: the lowest token among those that hold the largest logit, unless all are −∞ (R211). -/
def greedyDraw (zs : List (Nat × Nat)) : Option (Nat × Nat) :=
  ((sortBy (fun p => downKey p.2) zs).head?).filter fun p => decide (p.2 ≠ negInf)
/-- Step 4: a logit times 1 / TEMPERATURE. -/
def scaledLogit (inv z : Nat) : Nat := nanLow (fmulOp false z inv).1
/-- Step 5: the K largest values, ties with lower tokens first, without −∞. -/
def topCandidates (k : Nat) (zs : List (Nat × Nat)) : List (Nat × Nat) :=
  ((sortBy (fun p => downKey p.2) zs).take k).filter fun p => decide (p.2 ≠ negInf)
/-- Step 6: p_i of a candidate beside the largest value. -/
def weightOf (zmax z : Nat) : Nat :=
  if zmax = fp32.inf then (if z = fp32.inf then one32 else 0)
  else (exp2Op false (fmulOp false (fsubOp false z zmax).1 0x3FB8_AA3B).1).1
/-- Running sums in FP32, one per candidate. -/
def runningSums (sum : Nat) : List Candidate → List Nat
  | [] => []
  | c :: l => let s := (faddOp false sum c.p).1; s :: runningSums s l
/-- The sum of the last running sum, or 0. -/
def weightSum (l : List Candidate) : Nat := (runningSums 0 l).getLastD 0
/-- Step 7: candidates whose p_i is not below MIN_P × p_max. -/
def minPKept (minP : Nat) (l : List Candidate) : List Candidate :=
  if units149 minP = 0 then l
  else
    let pmax := l.foldl (fun (m : Nat) c => if units149 m < units149 c.p then c.p else m) 0
    l.filter fun c => decide (units149 (fmulOp false minP pmax).1 ≤ units149 c.p)
/-- Step 8: how many candidates the shortest prefix holds whose running sum reaches a goal. -/
def prefixLen (goal : Nat) : List Nat → Nat
  | [] => 0
  | r :: l => if goal ≤ units149 r then 1 else 1 + prefixLen goal l
/-- Step 8: the prefix for TOP_P; the sum is that of the candidates which step 7 left (DEDUCED). -/
def topPKept (topP : Nat) (l : List Candidate) : List Candidate :=
  if units149 one32 ≤ units149 topP then l
  else l.take (max 1 (prefixLen (units149 (fmulOp false topP (weightSum l)).1) (runningSums 0 l)))
/-- The candidates that step 8 leaves. -/
def keptCandidates (v : SessParams) (zs : List (Nat × Nat)) : List Candidate :=
  let inv := quotient32 (units149 one32 * 2 ^ 149) (units149 v.temperature.toNat * 2 ^ 149)
  let top := topCandidates (if v.topK = 0 then 1024 else v.topK) (zs.map fun p => (p.1, scaledLogit inv p.2))
  let zmax := (top.head?.map Prod.snd).getD 0
  topPKept v.topP.toNat (minPKept v.minP.toNat (top.map fun p => { token := p.1, z := p.2, p := weightOf zmax p.2 }))
/-- Step 9: the first candidate whose running sum exceeds the fraction `u` / 2^64 of the kept sum. -/
def pickCandidate (u total : Nat) : List (Candidate × Nat) → Option Candidate
  | [] => none
  | [c] => some c.1
  | c :: l => if u * units149 total < units149 c.2 * 2 ^ 64 then some c.1 else pickCandidate u total l

/-! ### The logits, the DRBG and a draw -/

/-- FP32 values of a tile's SRAM. -/
def sramWords (x : Tile) (a n : Nat) : List Nat := (List.range n).map fun k => fieldAt (x.sram.readN (a + 4 * k) 4) 0 4
/-- The sampler definition of the epoch in progress. -/
def YewSession.sampler (v : YewSession) : SamplerDef :=
  v.samplers.getD (3 * v.variant + v.kind) { tokenBuf := 0, inputBuf := 0, sources := [] }
/-- The physical tile of a session tile index. -/
def tileAt (s : State) (v : YewSession) (i : Nat) : Nat := physOf s (v.groups.getD (i / 8) 0) (i % 8)
/-- Every token's logit, bias added, in token order (steps 1 and 2). -/
def sessLogits (s : State) (v : YewSession) : List (Nat × Nat) :=
  (sortBy SamplerSource.first v.sampler.sources).flatMap fun q =>
    ((sramWords (s.tile (tileAt s v q.tile)) q.addr q.count).zipIdx q.first).map fun c => (c.2, biased_ v.params.bias c.2 c.1)
/-- The tile of the first source that holds a poisoned word (R98). -/
def poisonedSource (s : State) (v : YewSession) : Option Nat :=
  (v.sampler.sources.find? fun q => sramBad (s.tile (tileAt s v q.tile)) q.addr (4 * q.count)).map fun q => tileAt s v q.tile

/-- The next generate request must wait for a reseed, or the session stops first (R210). -/
def drbgSpent (v : YewSession) : Bool :=
  decide ((if v.params.tenantSeed then 2 ^ 48 else 65536) ≤ v.drbg.requests)
/-- 64 bits of DRBG output; the first byte is the lowest (DESIGN CHOICE). -/
def drbgWord (d : Drbg) : Nat := fieldAt (padTo 8 (Config.drbg d.seed d.requests)) 0 8

/-- A draw of a session (R208, R211), and the DRBG after it. -/
def drawOf (s : State) (v : YewSession) : Draw × Drbg :=
  let zs := sessLogits s v
  let none_ : Draw := { token := v.params.fallback, prob := 0, fallback := true }
  if v.params.temperature = 0 then
    ((match greedyDraw zs with
      | some p => { token := p.1, prob := BitVec.ofNat 32 one32, fallback := false }
      | none => none_), v.drbg)
  else
    let l := keptCandidates v.params zs
    match pickCandidate (drbgWord v.drbg) (weightSum l) (l.zip (runningSums 0 l)) with
    | none => (none_, v.drbg)
    | some c => ({ token := c.token, fallback := false,
                   prob := BitVec.ofNat 32 (quotient32 (units149 c.p) (units149 (weightSum l))) },
                 { v.drbg with requests := v.drbg.requests + 1 })

/-! ### SAMPLE, DRAW_COMPLETE and the DRBG's commands -/

/-- The next entry of a tile's Launch Table that is due. -/
def dueEntry (s : State) (t : Nat) : Option (Nat × LaunchEntry) :=
  (launchNext (s.slot (slotKey 5 t 0))).filter fun p => decide (p.1 ≤ s.lc)
/-- The tile's launch logic passes its next entry. -/
def passEntry (s : State) (t : Nat) : State := s.modSlot (slotKey 5 t 0) launchAdvance
/-- A due entry is counted as abandoned (R106, R190). -/
def abandonEntry (s : State) (t : Nat) : State := s.modTile t fun x => { x with abandoned := sat32 x.abandoned 1 }
/-- FILL of a landing buffer of a tile. -/
def setFill (s : State) (t b fill : Nat) : State :=
  s.modTile t fun x => { x with landing := x.landing.modify b fun l => { l with fill := fill } }

/-- SAMPLE (R190, R185, R208): a draw starts on the session's channel; it takes its logits now. -/
def execSample (session : B4) (s : State) : Host.Outcome State Fault Refusal :=
  .next (match s.sessions.get? session with
    | none => s
    | some v =>
      let t := leadTile s v
      match dueEntry s t with
      | some (_, e) =>
        if !s.on || !v.inEpoch || decide (v.state ≠ .running) || decide (e.action ≠ 3) then s
        else if v.slipLine then abandonEntry (passEntry s t) t
        else if v.drawing.isSome then slipAt (passEntry s t) t slBUSY 0xFF (s.slot (slotKey 5 t 0)).index 0 0
        else if drbgSpent v && decide (v.params.temperature ≠ 0) then s
        else
          let s1 := setFill (passEntry s t) t v.sampler.tokenBuf 0
          match poisonedSource s v with
          | some u => slipAt s1 u slPOISON 0xFF 0 0 0
          | none =>
            let d := drawOf s v
            s1.modSession session fun y => { y with drawing := some d.1, drbg := d.2 }
      | none => s)

/-- DRAW_COMPLETE (R208, R185, R209): the token and its PROB reach TOKEN_BUF. -/
def execDrawComplete (session : B4) (s : State) : Host.Outcome State Fault Refusal :=
  .next (match s.sessions.get? session with
    | none => s
    | some v => match v.drawing with
      | none => s
      | some d =>
        let t := leadTile s v
        let b := (s.tile t).landing.getD v.sampler.tokenBuf
          { base := 0, length := 0, expected := 0, fill := 0, deviceReleased := true, lastReads := [] }
        let data := le 4 d.token ++ le 4 d.prob.toNat ++ zeros 24
        let s1 := (s.modTile t fun x => sramPut x b.base data).modSession session fun y =>
          { y with drawing := none, draws := y.draws ++ [d] }
        let s2 := setFill (writeThrough s1 t b.base data) t v.sampler.tokenBuf 32
        if v.inEpoch && decide (v.guard < s.lc) then
          (slipAt s2 t slLATE 0xFF 0 0 0).modSession session fun y => { y with spoiled := true }
        else s2)

/-- DRBG_RESEED (R210, R475): after 65,536 generate requests, from the entropy source. -/
def execDrbgReseed (session : B4) (s : State) : Host.Outcome State Fault Refusal :=
  .next (match s.sessions.get? session with
    | none => s
    | some v =>
      if !s.on || v.params.tenantSeed || decide (v.drbg.requests < 65536) || noEntropy s then s
      else
        let d := s.draw 48
        d.2.modSession session fun y => { y with drbg := { seed := y.drbg.seed ++ d.1, requests := 0 } })

end Sys2Proof.Machine
end

