-- ==== Sys2Proof/Machine/Epochs.lean ====
section
/-! DEFINITION. Epochs of a token session: records, stops and closes, placements in tiles, start, steps and end (03 R86 to R110,
06 R190 to R202, R213 to R215). -/

namespace Sys2Proof.Machine

/-! ### The output ring (R197) -/

/-- Token records before their SEQ: token, flags, PROB, position. -/
structure Rec where
  token : Nat
  flags : Nat
  prob : W32
  position : Nat
  deriving DecidableEq, Repr

/-- The first 32 bytes of a record with its SEQ. -/
def OutRecord.bytes (r : OutRecord) : Bytes :=
  le 4 r.token ++ le 2 r.flags ++ zeros 2 ++ le 8 r.epoch ++ le 4 r.prob.toNat ++ le 4 r.position
/-- The host port of a session's INSTANCE. -/
def ringPort (s : State) (v : YewSession) : Nat := ((s.insts.get? v.params.inst).map Instance.port).getD 0
/-- CONSUMED: read from plot space at each emission; of a ring in host memory the value last read (R197). -/
def readConsumed (s : State) (v : YewSession) : Nat :=
  if v.params.ringInHost then v.consumed else fieldAt (plotBytes s v.part v.params.outRing 8) 0 8
/-- The ring takes another record now (R197, R198). -/
def ringTakes (s : State) (v : YewSession) : Bool :=
  decide (v.seq + 1 - readConsumed s v ≤ 2 ^ v.params.outLog2) &&
    (!v.params.ringInHost || mayDma s (ringPort s v) v.params.inst)
/-- Bytes go to a session's ring; the requester in plot space is the session's first group (DESIGN CHOICE: R12 lists none for
the sampler). -/
def ringPut (s : State) (v : YewSession) (off : Nat) (data : Bytes) : State :=
  let a := v.params.outRing + off
  if v.params.ringInHost then hostWrite s (ringPort s v) v.params.inst a data
  else match writePlot s v.part a data with
    | (.done, s') => s'
    | (.deviceFault, _) => s
    | (.violation, _) => violation s a (mkTag v.part (0x480 + v.groups.headD 0)) 2 data.length 0xFFF 0xFFFF
/-- Record n is written, its SEQ last. -/
def writeRecord (s : State) (h : Nat) (v : YewSession) (r : OutRecord) : State :=
  let off := 64 + 32 * (v.seq % 2 ^ v.params.outLog2)
  ringPut (ringPut (s.modSession h fun y => { y with seq := v.seq + 1, pend := y.pend.drop 1 }) v (off + 8) r.bytes) v off
    (le 8 (v.seq + 1))
/-- Pending records go to the ring while it takes them, oldest first. -/
def flushRing (h : Nat) : Nat → State → State
  | 0, s => s
  | n + 1, s => match s.sessions.get? h with
    | none => s
    | some v => match v.pend with
      | [] => s
      | r :: _ => if ringTakes s v then flushRing h n (writeRecord s h v r) else s

/-- A record is emitted (R196 to R198): whether the session is idle after it. -/
def emitOne (h : Nat) (force : Bool) (r : Rec) (s : State) : Bool × State :=
  match s.sessions.get? h with
  | none => (false, s)
  | some v =>
    let stop := decide (r.token ≠ 0xFFFF_FFFF) && v.params.stop.contains r.token
    let ctx := ((s.models.get? v.params.model).map fun m => m.header.context).getD 0
    let idle := force || stop || decide (v.params.maxNew ≠ 0 ∧ v.params.maxNew ≤ v.sinceFeed + 1) || decide (ctx ≤ r.position + 1)
    let o : OutRecord := { token := r.token, flags := r.flags + 8 * b2n stop + 16 * b2n idle, epoch := v.epoch, prob := r.prob,
                           position := r.position }
    (idle, flushRing h 257 (s.modSession h fun y =>
      { y with pend := y.pend ++ [o], emitted := y.emitted + 1, sinceFeed := y.sinceFeed + 1 }))
/-- Records are emitted in order, up to the one that makes the session idle. -/
def emitRecs (h : Nat) (force : Bool) : List Rec → State → Option Rec × State
  | [], s => (none, s)
  | r :: l, s =>
    let e := emitOne h (force && l.isEmpty) r s
    if e.1 then (some r, e.2) else emitRecs h force l e.2

/-- The records that a verdict confirms (R214). -/
def verdictRecs (d : Verdict) : List Rec :=
  ((d.drafts.take d.accepted).zipIdx (d.position + 1)).map (fun c =>
      ({ token := c.1.token, flags := 2 + b2n c.1.fallback, prob := c.1.prob, position := c.2 } : Rec))
    ++ [{ token := d.correction, flags := 4, prob := 0, position := d.position + d.accepted + 1 }]
/-- The session's verdict, where it has one, is emitted. -/
def emitVerdict (h : Nat) (force : Bool) (s : State) : Option Rec × State :=
  match (s.sessions.get? h).bind YewSession.verdict with
  | none => (none, s)
  | some d => emitRecs h force (verdictRecs d) (s.modSession h fun y => { y with verdict := none })

/-- The session is idle after a record: that token is its only consumed-to-be input, at its position, before any tokens fed
since; a session with fed tokens wakes (R192, R195, R198). -/
def goIdle (s : State) (h : Nat) (r : Rec) (fed : List Nat) : State :=
  s.modSession h fun y => { y with
    position := r.position, input := r.token :: fed, awaited := none, verdict := none
    state := if fed.isEmpty then .idle else .running
    nextStart := if fed.isEmpty then y.nextStart else s.lc + 10000 }

/-! ### Holds (R192, R197, R214) -/

/-- The next epoch is held for a verdict or for the ring. -/
def YewSession.waits (v : YewSession) : Bool := v.awaited.isSome || decide (256 ≤ v.pend.length)
/-- The cause of a hold has cleared: an epoch that has fallen due starts 2 µs later, and later ones keep the shift. -/
def afterHold (s : State) (h : Nat) (was : Bool) : State :=
  s.modSession h fun y =>
    if was ∧ !y.waits ∧ !y.inEpoch ∧ y.state = .running ∧ y.nextStart < s.lc then
      { y with nextStart := s.lc + 2000, shift := y.shift + (s.lc + 2000 - y.nextStart) }
    else y
/-- The first boundary of a session at or after a time, in PERIODs of its last table (R87, R95, R108). -/
def rollStart (v : YewSession) (t : Nat) : Nat :=
  if v.nextStart < t ∧ 0 < v.def_.period then v.nextStart + (t - v.nextStart + v.def_.period - 1) / v.def_.period * v.def_.period
  else v.nextStart
/-- Loading has ended: the next start is the next boundary. -/
def rollSession (s : State) (h : Nat) : State :=
  s.modSession h fun y => if y.inEpoch then y else
    { y with nextStart := rollStart y s.lc, shift := y.shift + (rollStart y s.lc - y.nextStart) }

/-! ### Stops and closes (R110, R199) -/

/-- The number of a session's long operation. -/
def sessionOp (s : State) (h : Nat) (close : Bool) : Option Nat :=
  opWith s fun d => match d with
    | .sessionClose k => close && decide (k = h)
    | .sessionReplace k _ => !close && decide (k = h)
    | _ => false
/-- A long operation that exists ends. -/
def endOp (s : State) (n : Option Nat) (status : Nat) (body : Bytes) : State :=
  match n with
  | some k => finishOp s k status body
  | none => s
/-- A group retires (R92). -/
def retireGroup (s : State) (g : Nat) : State :=
  unitFault ((modUnit s (uGroup g) fun u => { u with state := .failed }).modGroup g fun x =>
    { x with state := .retired, owner := 16, takeover := none, retireNext := false }) (uGroup g) (g / 8) DEVICE_FAULT 1
/-- A session leaves a group: a slot whose takeover was under way is on the spare at once, and a group due for retirement retires
(R564: the group hosts no session). -/
def leaveGroup (s : State) (g : Nat) : State :=
  let due := (s.group g).retireNext
  let s1 := s.modGroup g fun x =>
    { x with session := none, takeover := none, renamed := (x.takeover.map fun k => some k.slot).getD x.renamed }
  if due then retireGroup s1 g else s1
/-- Nothing more runs on a session's tiles. -/
def haltTiles (s : State) (v : YewSession) : State :=
  (sessTiles s v).foldl (fun (s : State) t => (stopTile s t).modSlot (slotKey 5 t 0) fun l => { l with active := none }) s
/-- Delivery after a close ends: records still pending are discarded (R199). -/
def endClose (s : State) (h : Nat) : State :=
  match s.sessions.get? h with
  | none => s
  | some v => endOp { s with sessions := s.sessions.erase h } (sessionOp s h true) OK (le 4 v.pend.length ++ zeros 4)
/-- A session leaves its groups, and its pending records are delivered (R199). -/
def beginClose (s : State) (h : Nat) : State :=
  match s.sessions.get? h with
  | none => s
  | some v =>
    let s1 := endOp (haltTiles s v) (sessionOp s h false) ABORTED []
    let s2 := ((s1.groups.keep fun _ g => decide (g.session = some h)).map Prod.fst).foldl leaveGroup s1
    let s3 := flushRing h 257 (s2.modSession h fun y =>
      { y with closeAt := some s.lc, inEpoch := false, state := .stopped, replacing := none })
    if ((s3.sessions.get? h).map fun y => y.pend.isEmpty).getD true then endClose s3 h else s3
/-- A session stops with a status (R199, R562); its groups stay bound until its close. -/
def stopSession (s : State) (h status : Nat) : State :=
  match s.sessions.get? h with
  | none => s
  | some v =>
    if v.state = .stopped then s
    else
      let s1 := endOp (haltTiles s v) (sessionOp s h false) status []
      let s2 := sendEvent (s1.modSession h fun y => { y with
        state := .stopped, stopStatus := status, inEpoch := false, slipLine := false, awaited := none, verdict := none
        drawing := none, replacing := none, displaced := false }) (.opAnd v.part) 0x05F0 h status v.epoch
      if v.closing then beginClose s2 h else s2
/-- Tokens that verdicts confirmed are emitted, then the session stops with VERIFIER_LOST (R215). -/
def verifierLost (s : State) (h : Nat) : State := stopSession (emitVerdict h false s).2 h VERIFIER_LOST

/-! ### A placement in its tiles (R87, R95, R195) -/

/-- The image of a session. -/
def sessImage (s : State) (v : YewSession) : Option Image := (s.models.get? v.params.model).map Model.image
/-- Indices 3 × variant + kind of an image's tables. -/
def tableKeys (m : Image) : List Nat := (List.range 9).filter fun k => m.header.kinds.testBit (k % 3)
/-- Bytes of a list of bytes put at the regions of a class, in order. -/
def putRegions (c : RegionClass) : List Region → Bytes → Tile → Tile
  | [], _, x => x
  | r :: l, b, x => if r.cls = c then putRegions c l (b.drop r.length) (sramPut x r.base (padTo r.length (b.take r.length)))
    else putRegions c l b x
/-- The landing buffers of a LANDING section, empty. -/
def landingTbl (l : List LandingDef) : Tbl Landing :=
  ((l.zipIdx).filter fun c => c.1.valid).map fun c =>
    (c.2, { base := c.1.base, length := c.1.length, expected := c.1.expected, fill := 0, deviceReleased := c.1.deviceReleased,
            lastReads := [] })
/-- Program, definitions, tables and weights of a session tile index go to a physical tile; its other memories stay. -/
def loadTile (s : State) (v : YewSession) (m : Image) (p i t : Nat) : State :=
  let regs := regionsOf s m p i
  let tbl := fun (ty k : Nat) => findBytes s m ty p (k / 3) (k % 3) i
  let s1 := s.modTile t fun x =>
    let y : Tile := { x with
      regions := regs, landing := landingTbl (parseLanding (findBytes s m 5 p 0xFF 0xFF i))
      store := putProgram [] 0 8192 (bundlesOf (findBytes s m 3 p 0xFF 0xFF i))
      tables := (tableKeys m).map fun k => (k, parseTable (tbl 6 k))
      steps := (tableKeys m).map fun k => (k, parseSteps (tbl 7 k)) }
    if m.header.mode = 1 then putRegions .weight regs (findBytes s m 8 p 0xFF 0xFF i) y else y
  (s1.modCore (1024 + t) fun c => { c with
    owner := v.part, decode := ((chunks 64 16 (s.decode.getD v.part [])).zipIdx).map fun e => (e.2, e.1) }).modSlot (slotKey 5 t 0)
    fun l => { l with active := none, staged := none, halted := false }
/-- PERSIST regions of a tile from the session's shadow (R95, R98). -/
def restorePersist (s : State) (v : YewSession) (t : Nat) : State :=
  match ((s.tile t).regions.find? fun r => decide (r.cls = .persist)).bind fun r => shadowAddr s v t r.base with
  | some a => let b := plotBytes s v.part a (persistBytes (s.tile t))
    s.modTile t fun x => putRegions .persist x.regions b x
  | none => s
/-- The core's registers as R87 leaves them on a spare; the special registers at their reset values (R130). -/
def freshCore (c : Core) : Core :=
  { c with regs := [], rptc := 0, flags := 0, amode := 0, fpstat := 0, lovf := 0, pend := [], running := false, ended := false }
/-- The tables of a session's placement. -/
def placed (s : State) (m : Image) (p : Nat) (v : YewSession) : YewSession :=
  { v with
    placement := p, groups := placementGroups s m p
    epochs := (tableKeys m).map fun k => (k, epochOf s m p (k / 3) (k % 3))
    samplers := (tableKeys m).map fun k => (k, samplerOf s m p (k / 3) (k % 3)) }
/-- Every tile of a session's placement is loaded (R195 step 3). -/
def loadPlacement (s : State) (h : Nat) : State :=
  match s.sessions.get? h with
  | none => s
  | some v => match sessImage s v with
    | none => s
    | some m => ((sessTiles s v).zipIdx).foldl (fun (s : State) c => loadTile s v m v.placement c.2 c.1) s

/-! ### Retirement and re-placement (R89, R90, R95, R564, R565) -/

/-- Column and row lie on the dimension-ordered route between two positions of a die (R78). -/
def onRoute (x y xa ya xb yb : Nat) : Bool :=
  decide ((y = ya ∧ min xa xb ≤ x ∧ x ≤ max xa xb) ∨ (x = xb ∧ min ya yb ≤ y ∧ y ≤ max ya yb))
/-- The placement on these groups crosses the mesh stop of a tile (R90). -/
def crosses (groups : List Nat) (t : Nat) : Bool :=
  let (x, y) := tilePos t
  let here := groups.filter fun g => decide (g / 8 = tileDie t)
  let far := groups.filter fun g => decide (g / 8 ≠ tileDie t)
  let tiles := fun (l : List Nat) => l.flatMap fun g => (List.range 9).map fun k => tilePos (9 * g + k)
  let gates := here.flatMap fun g => (List.range 3).map fun k => (3 * (g % 4) + k, if g % 8 < 4 then 0 else 5)
  let edge := if tileDie t = 0 then 11 else 0
  (tiles here).any fun a =>
    ((tiles here ++ gates).any fun b => onRoute x y a.1 a.2 b.1 b.2 || onRoute x y b.1 b.2 a.1 a.2) ||
      (!far.isEmpty && onRoute x y a.1 a.2 edge a.2) ||
      (tiles far).any fun b => onRoute x y edge b.2 a.1 a.2
/-- Mesh stops in the fault log (R91). -/
def faultyStops (s : State) : List Nat := (s.faultLog.filter fun e => decide (e.kind = 2)).map FaultEntry.unit
/-- The groups may carry a session of the partition (R89, R195). -/
def groupsFit (s : State) (part : Nat) (h : Option Nat) (gs : List Nat) : Bool :=
  gs.all fun g => decide ((s.group g).state = .assigned ∧ (s.group g).owner = part) &&
    (decide ((s.group g).session = none) || (h.isSome && decide ((s.group g).session = h)))
/-- The lowest-numbered placement for a partition's remaining groups; one that crosses a faulty mesh stop is none (R89, R90). -/
def nextPlacement (s : State) (h : Nat) (v : YewSession) (without : List Nat) : Option Nat :=
  (sessImage s v).bind fun m => (List.range m.header.placements).find? fun p =>
    let gs := placementGroups s m p
    groupsFit s v.part (some h) gs && (gs.all fun g => !without.contains g) && !(faultyStops s).any (crosses gs)
/-- The groups of a placement are bound to the session. -/
def bindGroups (s : State) (h : Nat) (gs : List Nat) : State :=
  gs.foldl (fun (s : State) g => s.modGroup g fun x => { x with session := some h }) s
/-- The session begins to load a placement (R95); a stopped one is held until then (R89). -/
def beginReplace (s : State) (h p : Nat) (displaced : Bool) : State :=
  match s.sessions.get? h with
  | none => s
  | some v =>
    let gs := ((sessImage s v).map fun m => placementGroups s m p).getD []
    let drop := fun (g : Nat) (x : Group) => if x.session = some h ∧ !v.groups.contains g then { x with session := none } else x
    bindGroups ({ s with groups := s.groups.mapV drop }.modSession h fun y =>
      { y with replacing := some p, replaceReady := false, displaced := y.displaced || displaced }) h gs
/-- A session stops at once with a slip of cause DEVICE on a tile, and is re-placed or ends with GROUP_RETIRED (R89). -/
def displace (s : State) (h t : Nat) : State :=
  let s1 := slipNow s t slDEVICE 0xFF 0 0
  match s1.sessions.get? h with
  | none => s1
  | some v =>
    let s2 := (sessTiles s1 v).foldl stopTile s1
    match nextPlacement s2 h v [] with
    | some p => beginReplace (endOp s2 (sessionOp s2 h false) GROUP_RETIRED []) h p true
    | none => stopSession s2 h GROUP_RETIRED
/-- A group of the placement being loaded retires: another placement is chosen, or none is loaded (DEDUCED from R89). -/
def rechoose (s : State) (h g : Nat) (v : YewSession) : State :=
  let s1 := endOp (s.modGroup g fun x => { x with session := none }) (sessionOp s h false) GROUP_RETIRED []
  match nextPlacement s1 h v [] with
  | some p => beginReplace s1 h p v.displaced
  | none => if v.displaced then stopSession s1 h GROUP_RETIRED
    else s1.modSession h fun y => { y with replacing := none, replaceReady := false }
/-- A group retires under its session (R89): a tile of it raises the slip. -/
def retireHosting (s : State) (g t : Nat) : State :=
  match (s.group g).session.bind fun h => (s.sessions.get? h).map fun v => (h, v) with
  | none => retireGroup s g
  | some (h, v) =>
    if v.state = .stopped ∨ v.state = .loading then retireGroup s g
    else if v.groups.contains g then displace (retireGroup s g) h t
    else rechoose (retireGroup s g) h g v

/-! ### The kind and the variant of an epoch (R191, R200) -/

/-- The variant of an epoch that starts at `t`: never faster than the clock, slower once a planned step down is announced, and
faster only 10 µs after a step up (R200). -/
def variantAt (s : State) (v : YewSession) (t : Nat) : Nat :=
  let now := if s.power.stepAt.isSome then max s.clk.tclkDiv (levelInForce s) else s.clk.tclkDiv
  if now < v.variant ∧ t < s.power.tclkSince + 10000 then v.variant else now
/-- The kind of the next epoch (R191). -/
def kindFor (v : YewSession) (m : Image) (variant : Nat) : Nat :=
  let batch := ((v.epochs.get? (3 * variant + 1)).map EpochDef.batch).getD 0
  if v.params.speculative ∧ v.input.length ≤ 1 ∧ v.position + m.header.maxDraft + 1 ≤ m.header.context then 2
  else if m.header.kinds.testBit 1 ∧ batch + 1 ≤ v.input.length then 1
  else 0
/-- The EPOCH section of a variant and kind. -/
def YewSession.at_ (v : YewSession) (variant kind : Nat) : EpochDef :=
  v.epochs.getD (3 * variant + kind) { period := 0, margin := 0, endPoint := 0, rate0 := 0, rate1 := 0, batch := 1 }

/-! ### EPOCH_START -/

/-- Slot `slot` of a group moves to its spare (R83, R86, R87). -/
def renameSlot (s : State) (g slot : Nat) : State :=
  (modUnit s (9 * g + slot) fun u => { u with state := .failed }).modGroup g fun x => { x with renamed := some slot, takeover := none }
/-- A copied tile's slot moves to the spare at a boundary: SRAM, store, definitions, tables and registers are the failing
tile's, its accumulators and vector registers are zero (R86). -/
def renameCopied (s : State) (g slot : Nat) : State :=
  let t := physOf s g slot
  let u := 9 * g + 8
  let x := s.tile t
  let s1 := s.modTile u fun y => { y with
    sram := x.sram, poisoned := x.poisoned, store := x.store, regions := x.regions, landing := x.landing, tables := x.tables
    steps := x.steps, acc := [], accFloat := [], vregs := [], lanes := [], stationary := none }
  let s2 := s1.modCore (1024 + u) fun c =>
    let d := s.core (1024 + t)
    { c with
      regs := d.regs, rptc := d.rptc, flags := d.flags, amode := d.amode, fpstat := d.fpstat, lovf := d.lovf, owner := d.owner
      decode := d.decode, pend := [], running := false, ended := false }
  renameSlot (stopTile (s2.modSlot (slotKey 5 u 0) fun _ => s.slot (slotKey 5 t 0)) t) g slot

/-- Nanoseconds that restoring the shadow takes at the gateway rate of `n` groups (R81, R565). -/
def restoreNs (s : State) (m : Image) (n : Nat) : Nat := tclkNs s ((m.header.shadowSize + 768 * n - 1) / (768 * n))
/-- The session switches to a loaded placement at a boundary (R95, R565): the epoch that falls due is held for the restore. -/
def switchPlacement (s : State) (h p : Nat) : State :=
  match s.sessions.get? h with
  | none => s
  | some v => match sessImage s v with
    | none => s
    | some m =>
      let gs := placementGroups s m p
      let left := v.groups.filter fun g => !gs.contains g
      let s1 := haltTiles s v
      let s2 := left.foldl leaveGroup s1
      let s3 := s2.modSession h fun y => { placed s m p y with
        replacing := none, replaceReady := false, displaced := false, rerun := false, addMargin := false }
      let s4 := loadPlacement s3 h
      let w := (s4.sessions.get? h).getD v
      let s5 := (sessTiles s4 w).foldl (fun (s : State) t => restorePersist s w t) s4
      let var := variantAt s w w.nextStart
      let per := max 1 (w.at_ var (kindFor w m var)).period
      let wait := max 1 ((restoreNs s m gs.length + per - 1) / per) * per
      endOp (s5.modSession h fun y => if v.state = .running then
        { y with nextStart := y.nextStart + wait, shift := y.shift + wait } else y) (sessionOp s5 h false) OK []

/-- Bytes of a region's word as R98 rewrites it; none where it waits for the next prefetch, or lies in no region. -/
def rewriteBytes (s : State) (v : YewSession) (t i w : Nat) : Option Bytes :=
  match regionOf (s.tile t) (32 * w) with
  | none => none
  | some r => match r.cls with
    | .weight => (sessImage s v).map fun m =>
        let off := ((((s.tile t).regions.takeWhile fun q => decide (q ≠ r)).filter fun q => decide (q.cls = .weight)).map Region.length).foldl (· + ·) 0
        ((findBytes s m 8 v.placement 0xFF 0xFF i).drop (off + (32 * w - r.base))).take 32
    | .stream => none
    | .epoch => some (zeros 32)
    | .persist => (shadowAddr s v t (32 * w)).map fun a => plotBytes s v.part a 32
/-- Poisoned words of a tile are rewritten before an abandoned epoch runs again (R98). -/
def rewritePoison (v : YewSession) (s : State) (c : Nat × Nat) : State :=
  (s.tile c.1).poisoned.foldl (fun (s : State) w => match rewriteBytes s v c.1 c.2 w with
    | some b => s.modTile c.1 fun x =>
        let y := sramPut x (32 * w) (padTo 32 b)
        { y with rewritten := if y.rewritten.contains w then y.rewritten else y.rewritten ++ [w] }
    | none => s) s

/-- The input records of an epoch of `n` tokens (R193). -/
def inputRecords (v : YewSession) (n : Nat) : Bytes :=
  ((v.input.take n).zipIdx v.position).flatMap fun c =>
    le 4 c.1 ++ le 4 c.2 ++ le 4 ((v.verdict.map Verdict.accepted).getD 0) ++ zeros 20
/-- The input records reach INPUT_BUF of the lead tile, and EXPECTED with them (R185, R193). -/
def writeInput (s : State) (v : YewSession) (n : Nat) : State :=
  let t := leadTile s v
  let data := inputRecords v n
  match (s.tile t).landing.get? v.sampler.inputBuf with
  | none => s
  | some b =>
    let s1 := s.modTile t fun x =>
      let y := sramPut x b.base data
      { y with landing := y.landing.set v.sampler.inputBuf { b with fill := data.length, expected := data.length } }
    writeThrough s1 t b.base data

/-- The epoch begins: the tables of its kind and variant become active with BASE at its start (R191 to R193). -/
def beginEpoch (s : State) (h start margin variant kind : Nat) (v : YewSession) : State :=
  let w : YewSession := { v with
    inEpoch := true, epochStart := start, variant := variant, kind := kind, slipLine := false, spoiled := false, rerun := false
    addMargin := false, draws := [], shift := v.shift + margin
    shadowDue := (v.groups.map fun g => (s.group g).shadowAt).foldl max 0 }
  let s1 := s.modSession h fun _ => w
  let s2 := ((sessTiles s1 w).zipIdx).foldl (rewritePoison w) s1
  let s3 := (sessTiles s2 w).foldl (fun (s : State) t => s.modSlot (slotKey 5 t 0) fun l => { l with
    active := ((s.tile t).tables.get? (3 * variant + kind)).map fun b => { b with base := start }
    index := 0, cycle := 0, halted := false }) s2
  writeInput s3 w (if kind = 1 then w.def_.batch else 1)

/-- What happens at an epoch boundary before the epoch itself: retirement (R564), a switch (R95), renaming (R86), and a copy
that has timed out (R86). -/
def boundary (s : State) (h : Nat) (v : YewSession) : State :=
  match v.groups.find? fun g => (s.group g).retireNext && v.replacing.isNone with
  | some g => retireHosting s g (physOf s g 0)
  | none => match v.replacing with
    | some p => if v.replaceReady then switchPlacement s h p else s
    | none => v.groups.foldl (fun (s : State) g => match (s.group g).takeover with
      | some k =>
        if k.sudden then s
        else if k.copied then renameCopied s g k.slot
        else if k.timedOut then (stopTile s (physOf s g k.slot)).modGroup g fun x =>
          { x with takeover := some { k with sudden := true, timedOut := false, since := s.lc } }
        else s
      | none => s) s
/-- Work that waits for an epoch boundary of the session. -/
def boundaryWork (s : State) (v : YewSession) : Bool :=
  v.replaceReady || v.groups.any fun g => ((s.group g).retireNext && v.replacing.isNone) ||
    (((s.group g).takeover.map fun k => !k.sudden && (k.copied || k.timedOut)).getD false)
/-- A spare of the session is being loaded, or its placement is (R87, R89). -/
def loadingHold (s : State) (v : YewSession) : Bool :=
  v.displaced || v.groups.any fun g => ((s.group g).takeover.map fun k => k.sudden).getD false

/-- EPOCH_START (R86, R87, R95, R108, R191 to R193, R197, R200 to R202, R214). -/
def execEpochStart (session : B4) (s : State) : Host.Outcome State Fault Refusal :=
  .next (match s.sessions.get? session with
    | none => s
    | some v =>
      if !s.on || v.inEpoch || v.closing || decide (v.state ≠ .running ∧ v.state ≠ .idle) || decide (s.lc < v.nextStart) ||
          decide (16 ≤ v.abandonedRun) then s
      else if boundaryWork s v then boundary s session v
      else if loadingHold s v || v.waits || decide (v.state ≠ .running) then s
      else if (v.verdict.map Verdict.stop).getD false then
        match emitVerdict session true s with
        | (some r, s1) => goIdle s1 session r v.input
        | (none, s1) => s1
      else if v.input.isEmpty then s.modSession session fun y => { y with state := .idle }
      else match sessImage s v with
        | none => s
        | some m =>
          let var := variantAt s v v.nextStart
          let kind := kindFor v m var
          let margin := if v.rerun || v.addMargin then (v.at_ var kind).margin else 0
          if s.lc < v.nextStart + margin then s else beginEpoch s session (v.nextStart + margin) margin var kind v)

/-! ### YEW_STEP (R105, R106, R168, R190) -/

/-- The first landing buffer named in NEED whose FILL is below EXPECTED. -/
def shortBuffer (x : Tile) (need : Nat) : Option (Nat × Landing) :=
  x.landing.find? fun p => need.testBit p.1 && decide (p.2.fill < p.2.expected)
/-- A step begins at a bundle (R168). -/
def startStep (s : State) (t due index : Nat) (d : StepDef) (pc : Nat) : State :=
  (s.modTile t fun x => { x with
    step := some { entry := index, release := d.release, due := due }, poisonStep := false }).modCore (1024 + t) fun c => { c with
      running := true, first := true, ended := false, again := false, skip := false, hidden := 0, branch := none, imx := none
      waitUntil := none, pc := pc, region := 8192, stepBase := due }
/-- The first STEP entry of a table. -/
def firstStep (l : LaunchSlot) : Nat :=
  ((l.active.map LaunchTable.entries).getD []).findIdx fun e => decide (e.action = 1)

/-- YEW_STEP: a STEP entry that is due (R105, R106). -/
def execYewStep (tile : Fin 144) (s : State) : Host.Outcome State Fault Refusal :=
  .next (let t := tile.val
    match tileSession s t, dueEntry s t with
    | some (_, v), some (due, e) =>
      if !s.on || !v.inEpoch || decide (v.state ≠ .running) || decide (e.action ≠ 1) then s
      else
        let index := (s.slot (slotKey 5 t 0)).index
        let s1 := settleStep (passEntry s t) t
        let x := s1.tile t
        let d := ((x.steps.getD (3 * v.variant + v.kind) [])[index]?).getD { finish := 0, need := 0, release := 0, sendSlack := 0 }
        if v.slipLine then abandonEntry s1 t
        else match shortBuffer x d.need with
          | some (k, b) => slipAt s1 t slSHORT k index b.fill b.expected
          | none =>
            if x.step.isSome then slipAt s1 t slBUSY 0xFF index 0 0
            else if index = firstStep (s.slot (slotKey 5 t 0)) ∧ due < v.shadowDue then slipAt s1 t slSHADOW 0xFF index 0 0
            else startStep s1 t due index d e.arg
    | _, _ => s)

/-! ### EPOCH_END (R107, R108, R196, R213) -/

/-- TCLK cycles counted at a Launch Counter value since the last divider change (R519). -/
def tclkAt (s : State) (t : Nat) : Nat := s.power.tclkCycles + (t - s.power.tclkSince) * 6 / divOf s.clk.tclkDiv
/-- A tile's step had finished by a Launch Counter value (R107). -/
def finishedBy (s : State) (t lc : Nat) : Bool :=
  match (s.tile t).step with
  | none => true
  | some r => stepFinished s t && decide (r.busyUntil ≤ tclkAt s lc)
/-- A draw or step that has not finished by 100 ns before the end point slips (R107, R209). -/
def lateSlips (s : State) (v : YewSession) : State :=
  let s1 := (sessTiles s v).foldl (fun (s : State) t => if finishedBy s t v.guard then s else slipNow s t slLATE 0xFF 0 0) s
  if v.drawing.isSome then slipAt s1 (leadTile s v) slLATE 0xFF 0 0 0 else s1

/-- The DRAFT record of R283. -/
def draftBytes (streamId : Nat) (a : Awaited) : Bytes :=
  le 4 streamId ++ zeros 4 ++ le 8 a.round ++ le 4 a.position ++ le 1 a.drafts.length ++ zeros 11 ++
    a.drafts.flatMap fun d => le 4 d.token ++ le 4 d.prob.toNat
/-- The draft of a session's round goes to its verifier's port, or waits there for credits (R213, R283). -/
def sendDraft (s : State) (v : YewSession) (a : Awaited) : State :=
  zalSend s v.params.verifier { vc := 3, msg := { op := 0x20, gen := 0, last := true, status := 0, tag := 0, aux := 0, addr := 0,
                                                  data := draftBytes v.params.streamId a } }

/-- Steps 2 and 4 of R196 for the session's kind: the epoch's tokens become input, records are emitted, a draft is queued. -/
def commitTokens (s : State) (h : Nat) (v : YewSession) : State :=
  let e := emitVerdict h false s
  let rest := v.input.drop (if v.kind = 1 then v.def_.batch else 1)
  match e.1 with
  | some r => goIdle e.2 h r rest
  | none =>
    let s1 := e.2
    if v.kind = 1 then s1.modSession h fun y => { y with input := rest, position := y.position + v.def_.batch }
    else if v.kind = 0 then
      let s2 := s1.modSession h fun y => { y with input := rest, position := y.position + 1 }
      match v.draws with
      | d :: _ =>
        if !rest.isEmpty then s2
        else
          let r : Rec := { token := d.token, flags := b2n d.fallback, prob := d.prob, position := v.position + 1 }
          let o := emitOne h false r (s2.modSession h fun y => { y with input := [d.token] })
          if o.1 then goIdle o.2 h r [] else o.2
      | [] => s2
    else
      let a : Awaited := { round := v.round, position := v.position, drafts := v.draws, sentAt := none }
      s1.modSession h fun y =>
        { y with input := rest, position := y.position + 1, round := wrap32 (y.round + 1), awaited := some a }
/-- The shadow header: the epoch completed and the next context position (R186, R196). -/
def writeHeader (s : State) (h epoch : Nat) : State :=
  match s.sessions.get? h with
  | none => s
  | some v => (writeRaw s v.part (shadowBase s v) (le 8 epoch ++ le 8 v.position ++ zeros 48)).2

/-- The commit of a completed epoch (R196). -/
def commitEpoch (s : State) (h : Nat) (v : YewSession) : State :=
  let s1 := s.modSession h fun y => { y with drbgSaved := y.drbg, abandonedRun := 0 }
  let s2 := writeHeader (commitTokens s1 h v) h v.epoch
  let s3 := s2.modSession h fun y => { y with epoch := v.epoch + 1 }
  match s3.sessions.get? h with
  | some y => match y.awaited with
    | some a => if v.kind = 2 then
        (if (s.zal v.params.verifier).inService then sendDraft s3 v a else verifierLost s3 h) else s3
    | none => s3
  | none => s3
/-- An epoch that did not complete is abandoned (R108, R110, R210). -/
def abandonEpoch (s : State) (h : Nat) : State :=
  s.modSession h fun y => { y with
    drbg := y.drbgSaved, draws := [], rerun := true, abandonedRun := y.abandonedRun + 1 }

/-- EPOCH_END (R107, R190): the end point of every tile of the session. -/
def execEpochEnd (session : B4) (s : State) : Host.Outcome State Fault Refusal :=
  .next (match s.sessions.get? session with
    | none => s
    | some v =>
      let tiles := sessTiles s v
      if !s.on || !v.inEpoch || decide (v.state ≠ .running) ||
          !(tiles.all fun t => ((dueEntry s t).map fun e => decide (e.2.action = 2)).getD false) then s
      else
        let late := tiles.any (fun t => !finishedBy s t v.guard) || v.drawing.isSome
        let s1 := tiles.foldl settleStep (tiles.foldl passEntry (lateSlips s v))
        let s2 := s1.modSession session fun y =>
          { y with inEpoch := false, nextStart := v.epochStart + v.def_.period, drawing := none }
        let s3 := if v.spoiled || late then abandonEpoch s2 session else commitEpoch s2 session v
        if v.closing then beginClose s3 session else s3)

/-! ### The other events of a session -/

/-- SESSION_SCHEDULE_FAULT (R110): 16 consecutive abandoned epochs. -/
def execSessionScheduleFault (session : B4) (s : State) : Host.Outcome State Fault Refusal :=
  .next (match s.sessions.get? session with
    | some v => if s.on && decide (16 ≤ v.abandonedRun) then stopSession s session SCHEDULE_FAULT else s
    | none => s)
/-- DRBG_REQUEST_LIMIT (R210): 2^48 requests on a tenant's seed. -/
def execDrbgRequestLimit (session : B4) (s : State) : Host.Outcome State Fault Refusal :=
  .next (match s.sessions.get? session with
    | some v => if s.on && v.params.tenantSeed && decide (2 ^ 48 ≤ v.drbg.requests) then stopSession s session SCHEDULE_FAULT else s
    | none => s)
/-- DRAFT (R213, R283): a draft that waits for credits is sent, where the port may send it. -/
def execDraft (session : B4) (s : State) : Host.Outcome State Fault Refusal :=
  .next (match s.sessions.get? session with
    | some v => if s.on && v.awaited.isSome then pumpTx s v.params.verifier else s
    | none => s)
/-- VERDICT_TIMEOUT (R215). -/
def execVerdictTimeout (session : B4) (s : State) : Host.Outcome State Fault Refusal :=
  .next (match s.sessions.get? session with
    | some v => match v.awaited.bind Awaited.sentAt with
      | some t => if s.on && decide (t + 1000000 * (if v.params.verdictTimeout = 0 then 10 else v.params.verdictTimeout) ≤ s.lc)
          then verifierLost s session else s
      | none => s
    | none => s)
/-- PENDING_RECORD_WRITE (R197, R199): CONSUMED is read again, and pending records go to the ring. -/
def execPendingRecordWrite (session : B4) (consumed : B8) (s : State) : Host.Outcome State Fault Refusal :=
  .next (match s.sessions.get? session with
    | some v =>
      if !s.on then s
      else
        let s1 := s.modSession session fun y => if y.params.ringInHost then { y with consumed := consumed } else y
        let s2 := flushRing session 257 s1
        match s2.sessions.get? session with
        | some y => if y.closeAt.isSome && y.pend.isEmpty then endClose s2 session else afterHold s2 session v.waits
        | none => s2
    | none => s)
/-- CLOSE_DELIVERY_TIMEOUT (R199): 10 ms of delivery after a close. -/
def execCloseDeliveryTimeout (session : B4) (s : State) : Host.Outcome State Fault Refusal :=
  .next (match (s.sessions.get? session).bind YewSession.closeAt with
    | some t => if s.on && decide (t + 10000000 ≤ s.lc) then endClose s session else s
    | none => s)

/-- A VERDICT is valid for the awaited round (R214, R284). -/
def verdictOk (s : State) (v : YewSession) (b : Bytes) : Bool :=
  let vocab := ((s.models.get? v.params.model).map fun m => m.header.vocab).getD 0
  match v.awaited with
  | none => false
  | some a => decide (fieldAt b 8 8 = a.round ∧ fieldAt b 16 1 ≤ a.drafts.length ∧ fieldAt b 20 4 < vocab ∧ fieldAt b 17 1 ≤ 1) &&
      zeroAt b 4 8 && zeroAt b 18 20 && zeroAt b 24 32
/-- A valid verdict (R214): the correction is the next input, and a hold for it clears. -/
def takeVerdict (s : State) (h : Nat) (b : Bytes) : State :=
  let was := ((s.sessions.get? h).map YewSession.waits).getD false
  afterHold (s.modSession h fun y => match y.awaited with
    | none => y
    | some a =>
      let d : Verdict := { accepted := fieldAt b 16 1, correction := fieldAt b 20 4, stop := bitOf (fieldAt b 17 1) 0,
                           drafts := a.drafts, position := a.position }
      { y with
        awaited := none, verdict := some d, position := a.position + d.accepted + 1
        input := if d.stop then y.input else d.correction :: y.input }) h was
/-- VERDICT (R214, R284). -/
def verdictIn (p : Nat) (b : Bytes) (s : State) : State :=
  match s.sessions.find? fun e => e.2.params.speculative && decide (e.2.params.verifier = p ∧ e.2.params.streamId = fieldAt b 0 4) &&
      decide (e.2.state ≠ .stopped ∧ e.2.state ≠ .loading) with
  | none => zalError s p
  | some (h, v) =>
    if verdictOk s v b then takeVerdict s h b
    else s.modSession h fun y => { y with verdictFaults := sat32 y.verdictFaults 1 }
/-- VERDICT arrives (R267). -/
def verdictMsg (p : Nat) (m : ZalReq) (s : State) : State :=
  if s.on then arrive s p 3 0x21 2 m (decide (m.aux ≠ 0 ∨ m.addr ≠ 0 ∨ m.status ≠ 0)) (verdictIn p m.data) else s
def execVerdict (port : Fin 8) (m : ZalReq) (s : State) : Host.Outcome State Fault Refusal := .next (verdictMsg port.val m s)

end Sys2Proof.Machine
end

