-- ==== Sys2Proof/Machine/Sessions.lean ====
section
/-! DEFINITION. Groups and sessions over the mailbox: assignment, open, feed, close, query, slips, reserves, replacement
(03 R92 to R95, 06 R194 to R205, 11 R377). -/

namespace Sys2Proof.Machine

/-! ### Groups (R92 to R94, R377) -/

/-- GROUP_ASSIGN's own statement (R93). -/
def groupAssign (q : Req) (part group : Nat) (_ : Who) (s : State) : Answer :=
  refuseOr [(q.bodyBad || decide (16 ≤ group) || !decide (part < 16) || !partExists s part, INVALID),
    (decide ((s.group group).state ≠ .free), IN_USE)]
    (.ok (s.modGroup group fun g => { g with state := .assigned, owner := part }))
def execGroupAssign (q : Req) (part group : B1) (s : State) : Host.Outcome State Fault Refusal :=
  .next (serve q ⟨0x0501, 8, .operator, none, []⟩ (groupAssign q part group) s)

/-- GROUP_RELEASE's own statement (R92, R94). -/
def groupRelease (q : Req) (group : Nat) (_ : Who) (s : State) : Answer :=
  refuseOr [(q.bodyBad || decide (16 ≤ group), INVALID),
    (decide ((s.group group).state ≠ .assigned) || (s.group group).session.isSome, IN_USE)]
    (.ok (s.modGroup group fun g => { g with state := .zeroing, owner := 16 }))
def execGroupRelease (q : Req) (group : B1) (s : State) : Host.Outcome State Fault Refusal :=
  .next (serve q ⟨0x0502, 8, .operator, none, []⟩ (groupRelease q group) s)

/-- The two bytes of a group (R377). -/
def groupBytes (s : State) (w : Who) (k : Nat) : Bytes :=
  let g := s.group k
  if !mayActOn w g.owner then [0xFF, 0xFF]
  else le 1 (g.state.code + 8 * b2n g.session.isSome + 16 * b2n g.renamed.isSome + 32 * b2n g.noSpare)
    ++ le 1 (ownerByte g.owner)
/-- GROUP_QUERY's own statement. -/
def groupQuery (q : Req) (w : Who) (s : State) : Answer :=
  refuseOr [(q.bodyBad, INVALID)] (.done s ((List.range 16).flatMap (groupBytes s w)))
def execGroupQuery (q : Req) (s : State) : Host.Outcome State Fault Refusal :=
  .next (serve q ⟨0x0503, 0, .opOrTenant, none, []⟩ (groupQuery q) s)

/-- A tile as clearing leaves it (R94): counts, health and the scrub stay; everything a partition's program put there goes. -/
def clearedTile (x : Tile) : Tile :=
  { slips := x.slips, abandoned := x.abandoned, refused := x.refused, discarded := x.discarded, corrected := x.corrected
    passCorrected := x.passCorrected, scrubWord := x.scrubWord, passes := x.passes, passAt := x.passAt, health := x.health
    rewritten := x.rewritten }
/-- GROUP_ZEROING_COMPLETE (R92, R94). -/
def execGroupZeroingComplete (group : Fin 16) (s : State) : Host.Outcome State Fault Refusal :=
  .next (let g := group.val
    if !s.on || decide ((s.group g).state ≠ .zeroing) then s
    else
      let s1 := ((List.range 9).map fun k => 9 * g + k).foldl (fun (s : State) t =>
        { s with
          tiles := s.tiles.set t (clearedTile (s.tile t)), cores := s.cores.erase (1024 + t)
          launch := s.launch.erase (slotKey 5 t 0) }) s
      modUnit (s1.modGroup g fun x => { x with state := .free, owner := 16 }) (uGroup g) fun u => { u with state := .inService })

/-! ### SESSION_OPEN (R194, R195, R204, R205, R207) -/

/-- TCLK in MHz of a variant (R183). -/
def variantMhz (v : Nat) : Nat := if v = 0 then 2000 else if v = 1 then 1500 else 1000
/-- STREAM_RATE of a die. -/
def EpochDef.rate (e : EpochDef) (die : Nat) : Nat := if die = 0 then e.rate0 else e.rate1
/-- Highest STREAM_RATE of any variant of a placement on a die (R205). -/
def placementRate (s : State) (m : Image) (p die : Nat) : Nat :=
  ((tableKeys m).map fun k => (epochOf s m p (k / 3) (k % 3)).rate die).foldl max 0
/-- A STREAM_RATE exceeds the gateway rate of the placement's groups (R81, R204). -/
def streamRateBad (s : State) (m : Image) (p : Nat) : Bool :=
  (tableKeys m).any fun k => [0, 1].any fun d => decide
    (768 * variantMhz (k / 3) * ((placementGroups s m p).filter fun g => decide (g / 8 = d)).length <
      (epochOf s m p (k / 3) (k % 3)).rate d)
/-- The stream reserve of a die (R205). -/
def reserveOf (s : State) (die : Nat) : Nat := s.reserve.getD die 3275000
/-- Rates admitted on a die, a session's own left out (R205). -/
def admitted (s : State) (die : Nat) (but : Option Nat) : Nat :=
  (s.sessions.map fun e => if some e.1 = but ∨ decide (((s.models.get? e.2.params.model).map fun m => m.header.mode) ≠ some 2) then 0
    else (e.2.epochs.map fun d => d.2.rate die).foldl max 0).foldl (· + ·) 0
/-- R205 refuses the placement. -/
def reserveShort (s : State) (m : Image) (p : Nat) (but : Option Nat) : Bool :=
  decide (m.header.mode = 2) && [0, 1].any fun d => decide (reserveOf s d < admitted s d but + placementRate s m p d)

/-- The descriptor as its 128 bytes spell it; the bias entries as read. -/
def parseParams (b bias : Bytes) : SessParams :=
  let fl := fieldAt b 6 1
  { model := fieldAt b 0 4, speculative := bitOf fl 0, tenantSeed := bitOf fl 1, ringInHost := bitOf fl 2
    verifier := fieldAt b 7 1, workBias := fieldAt b 8 8, start := fieldAt b 16 8, outRing := fieldAt b 24 8
    outLog2 := fieldAt b 32 1, inst := fieldAt b 34 2, streamId := fieldAt b 36 4, maxNew := fieldAt b 40 4
    fallback := fieldAt b 44 4, stop := (List.range 8).map fun k => fieldAt b (48 + 4 * k) 4
    temperature := BitVec.ofNat 32 (fieldAt b 80 4), topK := fieldAt b 84 2, topP := BitVec.ofNat 32 (fieldAt b 88 4)
    minP := BitVec.ofNat 32 (fieldAt b 92 4)
    bias := (chunks 8 (fieldAt b 104 2) bias).map fun e => (fieldAt e 0 4, BitVec.ofNat 32 (fieldAt e 4 4))
    verdictTimeout := fieldAt b 106 2 }
/-- A range of a partition's plots as bytes; none where some byte does not translate or reads as poisoned. -/
def plotRange (s : State) (part a len : Nat) : Option Bytes :=
  match readPlot s part a len with
  | .bytes b => some b
  | _ => if len = 0 then some [] else none
/-- The descriptor breaks R194, or its range, verifier or ring breaks R195. -/
def descriptorBad (s : State) (part : Nat) (m : Image) (b : Bytes) : Bool :=
  let fl := fieldAt b 6 1
  let temp := fieldAt b 80 4
  let work := m.header.workBase + fieldAt b 8 8
  let log2 := fieldAt b 32 1
  decide (8 ≤ fl) || decide (fieldAt b 33 1 ≠ 0 ∨ fieldAt b 86 2 ≠ 0) || !zeroAt b 116 128 ||
    decide (64 ≤ fieldAt b 4 2 ∧ fieldAt b 4 2 ≠ 0xFFFF) || decide (m.header.placements ≤ fieldAt b 4 2 ∧ fieldAt b 4 2 ≠ 0xFFFF) ||
    (bitOf fl 0 && (!m.header.speculative || decide (8 ≤ fieldAt b 7 1) || decide ((s.zal (fieldAt b 7 1)).owner ≠ part))) ||
    (!bitOf fl 0 && decide (fieldAt b 7 1 ≠ 0)) || decide (fieldAt b 8 8 % 4096 ≠ 0) ||
    decide (log2 < 6 ∨ 16 < log2) || decide (((s.insts.get? (fieldAt b 34 2)).map Instance.part) ≠ some part) ||
    decide (0x7F80_0000 ≤ temp) || decide (1024 < fieldAt b 84 2) || decide (fieldAt b 88 4 = 0 ∨ one32 < fieldAt b 88 4) ||
    decide (one32 < fieldAt b 92 4 ∧ fieldAt b 92 4 ≠ 0x8000_0000) || decide (1024 < fieldAt b 104 2) || decide (1000 < fieldAt b 106 2) ||
    !translates s part work m.header.workSize ||
    (s.models.any fun _ x => decide (x.part = part) && overlap work m.header.workSize x.header.loadBase x.header.totalSize) ||
    (!bitOf fl 2 && !translates s part (fieldAt b 24 8) (64 + 32 * 2 ^ log2)) ||
    (decide (fieldAt b 104 2 ≠ 0) && !translates s part (fieldAt b 96 8) (8 * fieldAt b 104 2)) ||
    (bitOf fl 1 && !translates s part (fieldAt b 108 8) 48)
/-- The placement that the descriptor names, or the lowest one that fits (R194). -/
def openPlacement (s : State) (part : Nat) (m : Image) (b : Bytes) : Option Nat :=
  if fieldAt b 4 2 = 0xFFFF then
    (List.range m.header.placements).find? fun p => groupsFit s part none (placementGroups s m p)
  else if groupsFit s part none (placementGroups s m (fieldAt b 4 2)) then some (fieldAt b 4 2) else none
/-- The first free sampler channel of a die (R207). -/
def freeChannel (s : State) (die : Nat) : Nat :=
  ((List.range 8).find? fun c => !s.sessions.any fun _ v => decide (v.channel = 8 * die + c ∧ v.closeAt = none)).getD 0 + 8 * die
/-- The first free session handle. -/
def freeSession (s : State) : Nat := (s.sessions.firstFree (s.sessions.length + 1) 1).getD 1
/-- The new session (R195), its groups bound. -/
def openSession (s : State) (part : Nat) (m : Image) (p : Nat) (prm : SessParams) (seed : Bytes) : Nat × State :=
  let h := freeSession s
  let gs := placementGroups s m p
  let v : YewSession :=
    { part := part, params := prm, placement := p, groups := gs, channel := freeChannel s (gs.headD 0 / 8)
      drbg := { seed := seed, requests := 0 } }
  (h, bindGroups { s with sessions := s.sessions.set h (placed s m p v) } h gs)

/-- SESSION_OPEN's own statement (R195, R511, R561). -/
def sessionOpen (q : Req) (b : Bytes) (w : Who) (s : State) : Answer :=
  match s.models.get? (fieldAt b 0 4) with
  | none => refuseOr [(true, INVALID)] (.ok s)
  | some mo =>
    let m := mo.image
    let part := w.owner
    let bias := plotRange s part (fieldAt b 96 8) (8 * fieldAt b 104 2)
    let seed := if bitOf (fieldAt b 6 1) 1 then plotRange s part (fieldAt b 108 8) 48 else some []
    let prm := parseParams b (bias.getD [])
    let p := openPlacement s part m b
    refuseOr [(decide (mo.part ≠ part), DENIED), (!s.full && decide (m.header.mode = 2), NOT_READY),
      (q.bodyBad || decide (b.length ≠ 128) || descriptorBad s part m b, INVALID), (bias.isNone || seed.isNone, POISONED),
      (prm.bias.any fun e => decide (m.header.vocab ≤ e.1), INVALID),
      (decide (fieldAt b 4 2 ≠ 0xFFFF) && streamRateBad s m (fieldAt b 4 2), INVALID), (p.isNone, IN_USE),
      (streamRateBad s m (p.getD 0), INVALID), (reserveShort s m (p.getD 0) none, NO_RESOURCES)]
      (let o := openSession s part m (p.getD 0) prm (seed.getD [])
       .later ACCEPTED o.2 (.sessionOpen o.1))
def execSessionOpen (q : Req) (descriptor : Bytes) (s : State) : Host.Outcome State Fault Refusal :=
  .next (serve q ⟨0x0506, 128, .tenant, none, if bitOf (fieldAt descriptor 6 1) 0 then [8] else []⟩ (sessionOpen q descriptor) s)

/-- The number of the SESSION_OPEN of a session. -/
def openOp (s : State) (h : Nat) : Option Nat := opWith s fun d => match d with | .sessionOpen k => decide (k = h) | _ => false
/-- PERSIST regions of a session's tiles and its shadow are zeroed (R195 step 2). -/
def zeroPersist (s : State) (v : YewSession) : State :=
  let s1 := (sessTiles s v).foldl (fun (s : State) t => (s.modTile t fun x => putRegions .persist x.regions [] x).modCore (1024 + t)
    fun c => { c with amode := 0, fpstat := 0, lovf := 0 }) s
  let size := ((s.models.get? v.params.model).map fun m => m.header.shadowSize).getD 0
  (writeRaw s1 v.part (shadowBase s1 v) (zeros size)).2

/-- SESSION_OPEN ends with a status and no session. -/
def openFails (s : State) (h status : Nat) : State :=
  let gone : State := { s with
    sessions := s.sessions.erase h
    groups := s.groups.mapV fun _ g => if g.session = some h then { g with session := none } else g }
  endOp gone (openOp s h) status []
/-- The session's DRBG is instantiated (R210) and the session is idle until it is fed (R195). -/
def openDone (s : State) (h : Nat) (v : YewSession) : State :=
  let e := if v.params.tenantSeed then (v.drbg.seed, s) else s.draw 48
  let s1 := loadPlacement (e.2.modSession h fun y => { y with
    state := .idle, drbg := { seed := e.1, requests := 0 }, drbgSaved := { seed := e.1, requests := 0 }
    variant := s.clk.tclkDiv, nextStart := if v.params.start = 0 then s.lc + 10000 else v.params.start }) h
  endOp (zeroPersist s1 v) (openOp s h) OK (le 4 h ++ le 1 v.channel ++ zeros 3)
/-- The session's load is complete: a draw from withdrawn entropy sources waits (R475). -/
def loadDone (s : State) (h : Nat) : State :=
  match s.sessions.get? h with
  | none => s
  | some v =>
    if v.state ≠ .loading then s
    else if v.groups.any fun g => decide ((s.group g).state ≠ .assigned) then openFails s h GROUP_RETIRED
    else if !v.params.tenantSeed && noEntropy s then
      (if s.sec.waiting.any fun d => decide (d.what = .session h) then s
      else s.modSec fun k => { k with waiting := k.waiting ++ [{ since := s.lc, what := .session h }] })
    else openDone s h v

/-- SESSION_LOAD_COMPLETE (R195): the PERSIST regions and the shadow are zero and the tiles are loaded. -/
def execSessionLoadComplete (session : B4) (s : State) : Host.Outcome State Fault Refusal :=
  .next (if s.on then loadDone s session else s)

/-! ### SESSION_FEED, _CLOSE, _QUERY, SLIP_READ (R195, R199, R377) -/

/-- The handle names no session of the device, or one still being loaded. -/
def noSession (s : State) (h : Nat) : Bool := ((s.sessions.get? h).map fun v => decide (v.state = .loading)).getD true
/-- The sender may not act on the session (R365). -/
def sessionDenied (s : State) (w : Who) (h : Nat) : Bool := ((s.sessions.get? h).map fun v => !mayActOn w v.part).getD false

/-- Input joins a session; an idle one wakes 10 µs later, its first epoch at START if that is later (R192, R195). -/
def feedSession (s : State) (toks : List Nat) (y : YewSession) : YewSession :=
  let at_ := if y.epochStart = 0 then max y.nextStart (s.lc + 10000) else s.lc + 10000
  if y.state = .idle then
    { y with
      input := y.input ++ toks, sinceFeed := 0, state := .running, nextStart := at_
      shift := y.shift + (if y.epochStart = 0 then 0 else at_ - y.nextStart) }
  else { y with input := y.input ++ toks, sinceFeed := 0 }
/-- SESSION_FEED's own statement (R195, R377). -/
def sessionFeed (q : Req) (h count addr : Nat) (w : Who) (s : State) : Answer :=
  match s.sessions.get? h with
  | none => refuseOr [(true, INVALID)] (.ok s)
  | some v =>
    let r := readSpace s w.owner addr (4 * count)
    let toks := (chunks 4 count (bufBytes r)).map fun e => fieldAt e 0 4
    let hd := (s.models.get? v.params.model).map fun m => (m.header.vocab, m.header.context)
    refuseOr [(decide (v.part ≠ w.owner), DENIED), (q.bodyBad || decide (count < 1 ∨ 1048576 < count) || noSession s h, INVALID),
      (!bufOk r, bufStatus r),
      ((toks.any fun t => decide ((hd.map Prod.fst).getD 0 ≤ t)) ||
        decide ((hd.map Prod.snd).getD 0 ≤ v.position + v.input.length + count), INVALID),
      (decide (v.state = .stopped) || v.closing, IN_USE)]
      (.done (s.modSession h (feedSession s toks)) (le 4 (v.input.length + count) ++ zeros 4))
def execSessionFeed (q : Req) (session count : B4) (addr : B8) (s : State) : Host.Outcome State Fault Refusal :=
  .next (let f := fun (w : Who) (s : State) => sessionFeed q session count addr w s
    let w := whoOf s q.mbx
    let s0 := if mbxFetches s q.mbx then (match f w s with
      | .refuse st _ => if st = POISONED then countPoison s w.owner addr (4 * count) POISONED else s
      | _ => s) else s
    serve q ⟨0x0507, 16, .tenant, none, []⟩ f s0)

/-- SESSION_CLOSE's own statement (R199): at once between epochs, otherwise at the end point of the epoch in progress. -/
def sessionClose (q : Req) (h : Nat) (w : Who) (s : State) : Answer :=
  refuseOr [(sessionDenied s w h, DENIED), (q.bodyBad || noSession s h, INVALID),
    (((s.sessions.get? h).map YewSession.closing).getD false, IN_USE)]
    (.later ACCEPTED (s.modSession h fun y => { y with closing := true }) (.sessionClose h))
/-- A close that awaits no end point begins. -/
def closeNow (h : Nat) (s : State) : State :=
  match s.sessions.get? h with
  | some v => if v.closing && !v.inEpoch && v.closeAt.isNone then beginClose s h else s
  | none => s
def execSessionClose (q : Req) (session : B4) (s : State) : Host.Outcome State Fault Refusal :=
  .next (closeNow session (serve q ⟨0x0508, 8, .opOrTenant, none, []⟩ (sessionClose q session) s))

/-- STATE of SESSION_QUERY (R377): HELD while an epoch that has fallen due is held. -/
def sessionState (s : State) (v : YewSession) : Nat :=
  if v.state = .stopped then 4 else if v.state = .idle then 2
  else if !v.inEpoch && decide (v.nextStart ≤ s.lc) && (v.waits || loadingHold s v) then 3 else 1
/-- SESSION_QUERY's own statement. -/
def sessionQuery (q : Req) (h : Nat) (w : Who) (s : State) : Answer :=
  match s.sessions.get? h with
  | none => refuseOr [(true, INVALID)] (.ok s)
  | some v =>
    refuseOr [(sessionDenied s w h, DENIED), (q.bodyBad || noSession s h, INVALID)]
      (.done s (le 4 h ++ le 4 v.params.model ++ le 2 v.placement ++ le 1 (sessionState s v) ++ le 1 v.variant ++ le 2 v.stopStatus
        ++ le 1 v.channel ++ zeros 1 ++ le 8 v.epoch ++ le 8 v.shift ++ le 8 v.position ++ le 8 v.emitted ++ le 4 v.input.length
        ++ le 4 v.verdictFaults ++ le 4 v.pend.length ++ zeros 4))
def execSessionQuery (q : Req) (session : B4) (s : State) : Host.Outcome State Fault Refusal :=
  .next (serve q ⟨0x0509, 8, .opOrTenant, none, []⟩ (sessionQuery q session) s)

/-- The 32 bytes of a first-slip record (R111); a partition's copy shows TILE as 0. -/
def slipBytes (op : Bool) (r : Option SlipRecord) : Bytes :=
  match r with
  | none => zeros 32
  | some r => le 8 r.time ++ le 4 r.epoch ++ le 1 (if op then r.tile else 0) ++ le 1 r.slot ++ le 1 r.cause ++ le 1 r.buffer
      ++ le 4 r.step ++ le 4 r.fill ++ le 4 r.expected ++ [1] ++ zeros 3
/-- A per-tile entry of SLIP_READ. -/
def tileSlips (op : Bool) (x : Tile) : Bytes :=
  le 4 x.slips ++ le 4 x.abandoned ++ le 4 x.refused ++ le 4 (if op then x.corrected else 0)
/-- A count summed over a session's tiles. -/
def sumTiles (s : State) (ts : List Nat) (f : Tile → Nat) : Nat := min ((ts.map fun t => f (s.tile t)).foldl (· + ·) 0) (2 ^ 32 - 1)
/-- SLIP_READ's own statement. -/
def slipRead (q : Req) (h flags : Nat) (out : BufRef) (w : Who) (s : State) : Answer :=
  match s.sessions.get? h with
  | none => refuseOr [(true, INVALID)] (.ok s)
  | some v =>
    let ts := sessTiles s v
    let body := slipBytes w.op v.firstSlip ++ le 4 (sumTiles s ts Tile.slips) ++ le 4 (sumTiles s ts Tile.abandoned)
      ++ le 4 (sumTiles s ts Tile.refused) ++ zeros 4
    let s1 := if flags = 1 then
      (ts.foldl (fun (s : State) t => s.modTile t fun x => { x with slips := 0, abandoned := 0, refused := 0 }) s).modSession h
        fun y => { y with firstSlip := none }
      else s
    refuseOr [(sessionDenied s w h, DENIED),
      (q.bodyBad || decide (2 ≤ flags) || noSession s h || (!refZero out && refBad out (16 * ts.length)), INVALID)]
      (if refZero out then .done s1 body
       else doneWithBuf s1 w out (ts.flatMap fun t => tileSlips w.op (s.tile t)) body)
def execSlipRead (q : Req) (session : B4) (flags : B1) (out : BufRef) (s : State) : Host.Outcome State Fault Refusal :=
  .next (serve q ⟨0x050A, 24, .opOrTenant, none, []⟩ (slipRead q session flags out) s)

/-- STREAM_RESERVE_SET's own statement (R205). -/
def streamReserveSet (q : Req) (die reserve : Nat) (_ : Who) (s : State) : Answer :=
  refuseOr [(q.bodyBad || decide (2 ≤ die ∨ 6222500 < reserve), INVALID), (decide (reserve < admitted s die none), IN_USE)]
    (.ok { s with reserve := s.reserve.set die reserve })
def execStreamReserveSet (q : Req) (die : B1) (reserve : B4) (s : State) : Host.Outcome State Fault Refusal :=
  .next (serve q ⟨0x050B, 8, .operator, none, []⟩ (streamReserveSet q die reserve) s)

/-! ### SESSION_REPLACE (R95, R565) -/

/-- SESSION_REPLACE's own statement. -/
def sessionReplace (q : Req) (h placement : Nat) (w : Who) (s : State) : Answer :=
  match s.sessions.get? h with
  | none => refuseOr [(true, INVALID)] (.ok s)
  | some v =>
    let m := (sessImage s v).getD { part := 0, base := 0, header := parseHeader [], sections := [] }
    refuseOr [(decide (v.part ≠ w.owner), DENIED),
      (q.bodyBad || noSession s h || decide (m.header.placements ≤ placement) || streamRateBad s m placement, INVALID),
      (decide (v.state = .stopped) || v.closing || v.replacing.isSome || !groupsFit s v.part (some h) (placementGroups s m placement), IN_USE),
      (reserveShort s m placement (some h), NO_RESOURCES)]
      (.later ACCEPTED (beginReplace s h placement false) (.sessionReplace h placement))
def execSessionReplace (q : Req) (session : B4) (placement : B2) (s : State) : Host.Outcome State Fault Refusal :=
  .next (serve q ⟨0x050C, 8, .tenant, none, []⟩ (sessionReplace q session placement) s)

/-- PLACEMENT_LOAD_COMPLETE (R89, R95, R565): the session switches at its next epoch boundary. -/
def execPlacementLoadComplete (session : B4) (s : State) : Host.Outcome State Fault Refusal :=
  .next (match s.sessions.get? session with
    | some v =>
      if !s.on || v.replacing.isNone || v.replaceReady then s
      else
        let s1 := s.modSession session fun y => { y with replaceReady := true }
        if v.displaced then rollSession s1 session else s1
    | none => s)

end Sys2Proof.Machine
end

