-- ==== Sys2Proof/Machine/Instance.lean ====
section
/-! DEFINITION. Instances: creation, reset, freeze, migration, dirty logs, and the loss of a host driver
(10 R335 to R348, 11 R369, R375). -/

namespace Sys2Proof.Machine

/-! ### Mailboxes and rings that end -/

/-- A mailbox's block returns to its Reset values and its session ends (R322, R355). -/
def resetMbx (s : State) (m : Nat) : State :=
  s.modMbx m fun b => { sessionNo := b.sessionNo + 1, protoErr := b.protoErr, lost := b.lost }

/-- A direct-feed stream ends. -/
def dropStream (s : State) (n : Nat) : State :=
  finishOps (dropCtx (s.modLink fun l => { l with streams := l.streams.erase n }) (cxStream n)) OK fun o => match o.data with
    | .dfClose k => decide (k = n)
    | _ => false

/-- Direct-feed streams of an instance. -/
def instStreams (s : State) (n : Nat) : List Nat :=
  (s.link.streams.keep fun _ t => t.port.isNone && decide (t.inst = n)).map Prod.fst
/-- Packet rings of an instance. -/
def instRings (s : State) (n : Nat) : List Nat := (s.pkt.rings.keep fun _ r => decide (r.inst = n)).map Prod.fst
/-- Bulk queues of an instance. -/
def instBulk (s : State) (n : Nat) : List Nat := (s.stor.bulk.keep fun _ b => decide (b.inst = n)).map Prod.fst

/-- Tracker entries of an instance's operations. -/
def instBusy (s : State) (n : Nat) : Bool := s.tracker.any fun _ e => e.held && decide (e.inst = n)

/-! ### Instance reset (R337 to R340) -/

/-- The operations INSTANCE_RESET and INSTANCE_DESTROY of an instance. -/
def isReset (n : Nat) (o : LongOp) : Bool := match o.data with | .instReset k => decide (k = n) | _ => false
/-- The operation INSTANCE_FREEZE of an instance. -/
def isFreeze (n : Nat) (o : LongOp) : Bool := match o.data with | .instFreeze k => decide (k = n) | _ => false

/-- The commit of an instance reset (R338, R339). -/
def startReset (s : State) (n : Nat) : State :=
  let s1 := (finishOps s ABORTED (isFreeze n)).modInst n fun i =>
    { i with gen := (i.gen + 1) % 65536, state := .resetting, freezing := false }
  let s2 := staleReads (dropIo s1 fun o => decide (o.inst = n)) n
  pumpIo (s2.modLink fun l => { l with streams := l.streams.mapV fun _ t =>
    if t.port.isNone ∧ t.inst = n then { t with posted := t.fetched } else t })

/-- Queues, streams and rings of an instance are deleted, its registers return to their Reset values (R340, R396). -/
def clearInst (s : State) (n : Nat) : State :=
  let s1 := (instStreams s n).foldl dropStream (deleteQueues s n)
  let s2 := (instRings s1 n).foldl dropRing s1
  let s3 := (instBulk s2 n).foldl (fun s k =>
    dropCtx (s.modStor fun t => { t with bulk := t.bulk.erase k }) (cxBulk n (k % 16))) s2
  resetMbx (s3.modCtrl n fun c =>
    { quickset := c.quickset, errorLog := c.errorLog, errorCount := c.errorCount, smart := c.smart, idleSince := s.lc }) n

/-- An instance is removed (R335). -/
def removeInst (s : State) (n : Nat) : State :=
  updatePipes { (clearInst s n).modStor fun k =>
    { k with ctrls := k.ctrls.erase n, spaces := k.spaces.mapV fun _ x => { x with attached := x.attached.filter fun i => decide (i ≠ n) } }
    with insts := s.insts.erase n }

/-- A reset ends (R340). -/
def endReset (s : State) (n : Nat) : State :=
  match s.insts.get? n with
  | none => s
  | some i =>
    if i.state ≠ .resetting then s
    else if i.destroying then finishOps (removeInst s n) OK (isReset n)
    else finishOps ((clearInst s n).modInst n fun i =>
      { i with state := if (s.port i.port).driverPresent && pasidOk s i then .running else .hostLost, doorbells := [] }) OK (isReset n)

/-- INSTANCE_RESET_COMPLETE (R340): every tracker entry of the old generation is free. -/
def execInstanceResetComplete (inst : B2) (s : State) : Host.Outcome State Fault Refusal :=
  .next (if instBusy s inst then s else endReset s inst)

/-- INST_CONTROL.RESET (R326, R337): ignored unless the instance runs. -/
def execInstControlReset (port : Fin 2) (inst : B2) (value : B4) (s : State) : Host.Outcome State Fault Refusal :=
  .next (if !s.on then s
    else if !pageOf s port.val inst then pageViolation s port.val inst 0x10 4 6
    else if bitOf value 0 && decide ((s.insts.get? inst).map Instance.state = some .running) then startReset s inst
    else s)

/-! ### A host driver gone and returned (R345 to R348) -/

/-- A session is closed as SESSION_CLOSE states (R346). -/
def closeSession (s : State) (h : Nat) : State := closeNow h (s.modSession h fun y => { y with closing := true })

/-- HOST_LOSS_POLICY STOP: token sessions of the port's instances close (R346). -/
def stopSessions (s : State) (p : Nat) : State :=
  ((s.sessions.keep fun _ y =>
    decide (((s.insts.get? y.params.inst).map Instance.port) = some p) &&
      ((s.parts.get? y.part).map Partition.stopPolicy).getD false && !y.closing).map Prod.fst).foldl closeSession s

/-- OPERATOR_ABSENT follows the driver of the port that holds operator authority (R348, R562). -/
def setAbsent (s : State) (absent : Bool) : State :=
  if s.boot.opAbsent = absent then s else readyChanged { s with boot := { s.boot with opAbsent := absent } }

/-- The port's driver is gone (R345). -/
def driverGone (s : State) (p : Nat) : State :=
  if !(s.port p).driverPresent then s.modPort p fun h => { h with beatSeen := false }
  else
    let s1 := s.modPort p fun h => { h with driverPresent := false, beatSeen := false }
    let s2 := ((s1.insts.keep fun _ i => decide (i.port = p) && decide (i.state = .running ∨ i.state = .resetting)).map
      Prod.fst).foldl startReset s1
    let s3 := stopSessions s2 p
    if s.boot.opPort = p then setAbsent s3 true else s3

/-- DRIVER_RETURN (R347, R348). -/
def execDriverReturn (port : Fin 2) (s : State) : Host.Outcome State Fault Refusal :=
  let p := port.val
  .next (let h := s.port p
    if !s.on || !h.linkUp || h.d3hot || !h.bme || !h.beatSeen || h.driverPresent then s
    else
      let s1 := s.modPort p fun h => { h with driverPresent := true }
      let s2 : State := { s1 with insts := s1.insts.mapV fun _ i =>
        if i.port = p ∧ i.state = .hostLost ∧ pasidOk s i = true then { i with state := .running } else i }
      pumpReads (if s.boot.opPort = p then setAbsent s2 false else s2) p)

/-! ### INSTANCE_CREATE, DESTROY, RESET, QUERY (R335, R369, R375) -/

/-- The fields of R369 that R335 refuses. -/
def instBad (s : State) (inst part port pasid base count : Nat) : Bool :=
  decide (1024 ≤ inst ∨ 2 ≤ port) || !partExists s part || decide (16 ≤ part) ||
    (decide (pasid ≠ 0xFFFFFFFF) && (decide (0xFFFFF < pasid) || !(s.port port).pasidEnable)) ||
    decide (count < 1 ∨ 66 < count ∨ 2048 < base + count)
/-- The vectors overlap another instance's of the port, or hold the physical function's mailbox vector (R335). -/
def vectorsHeld (s : State) (port base count : Nat) : Bool :=
  (s.insts.any fun _ i => decide (i.port = port) && overlap i.vectorBase i.vectorCount base count) ||
    ((s.mbx (0x400 + port)).enable && inRange (s.mbx (0x400 + port)).vector base count)
/-- A new instance. -/
def newInst (part port pasid base count : Nat) : Instance :=
  { part := part, port := port, pasid := if pasid = 0xFFFFFFFF then none else some pasid, vectorBase := base, vectorCount := count }

/-- INSTANCE_CREATE. -/
def instanceCreate (q : Req) (inst part port pasid base count : Nat) (_ : Who) (s : State) : Answer :=
  refuseOr [(q.bodyBad || instBad s inst part port pasid base count, INVALID),
    ((s.insts.get? inst).isSome || vectorsHeld s port base count, IN_USE)]
    (.ok { resetMbx s inst with insts := s.insts.set inst (newInst part port pasid base count) })

def execInstanceCreate (q : Req) (inst : B2) (part port : B1) (pasid : B4) (vectorBase : B2) (vectorCount : B1) (s : State) :
    Host.Outcome State Fault Refusal :=
  .next (serve q ⟨0x0301, 16, .operator, none, []⟩ (instanceCreate q inst part port pasid vectorBase vectorCount) s)

/-- The state of an instance, where it exists. -/
def instState (s : State) (n : Nat) : Option InstState := (s.insts.get? n).map Instance.state
/-- INSTANCE_FREEZE waits. -/
def freezing (s : State) (n : Nat) : Bool := ((s.insts.get? n).map Instance.freezing).getD false

/-- INSTANCE_DESTROY: an instance reset, then removal; one with nothing in flight is removed at once. -/
def instanceDestroy (q : Req) (n : Nat) (_ : Who) (s : State) : Answer :=
  refuseOr [(q.bodyBad || (instState s n).isNone, INVALID), (freezing s n || s.longOps.any fun _ o => isReset n o, IN_USE)]
    (match instState s n with
     | some .running => .later ACCEPTED ((startReset s n).modInst n fun i => { i with destroying := true }) (.instReset n)
     | some .resetting => .later ACCEPTED (s.modInst n fun i => { i with destroying := true }) (.instReset n)
     | _ => .ended (removeInst s n) OK [])

def execInstanceDestroy (q : Req) (inst : B2) (s : State) : Host.Outcome State Fault Refusal :=
  .next (serve q ⟨0x0302, 8, .operator, none, []⟩ (instanceDestroy q inst) s)

/-- INSTANCE_RESET (R337). -/
def instanceReset (q : Req) (n : Nat) (_ : Who) (s : State) : Answer :=
  refuseOr [(q.bodyBad || (instState s n).isNone, INVALID), (decide (instState s n ≠ some .running) || freezing s n, IN_USE)]
    (.later ACCEPTED (startReset s n) (.instReset n))

def execInstanceReset (q : Req) (inst : B2) (s : State) : Host.Outcome State Fault Refusal :=
  .next (serve q ⟨0x0303, 8, .operator, none, []⟩ (instanceReset q inst) s)

/-- One ring's 16 bytes in INSTANCE_QUERY (R375). -/
def ringEntry (r : Nat) (x : PktRing) : Bytes :=
  le 2 r ++ le 1 (b2n x.tx) ++ zeros 1 ++ le 4 x.noBuffer ++ le 8 x.completed

/-- INSTANCE_QUERY. -/
def instanceQuery (q : Req) (n : Nat) (out : BufRef) (w : Who) (s : State) : Answer :=
  match s.insts.get? n with
  | none => refuseOr [(!w.op, DENIED)] (.refuse INVALID [])
  | some i =>
    let rings := s.pkt.rings.keep fun _ r => decide (r.inst = n)
    let body := le 2 n ++ le 1 i.part ++ le 1 i.port ++ le 4 (i.pasid.getD 0xFFFFFFFF) ++ le 2 i.vectorBase ++ le 1 i.vectorCount
      ++ le 1 i.state.code ++ le 2 i.gen ++ le 2 rings.length
      ++ le 4 (((s.ctrl n).sqs.count fun k _ => decide (k ≠ 0)) + ((s.ctrl n).cqs.count fun k _ => decide (k ≠ 0)) + (instBulk s n).length)
      ++ le 4 (instStreams s n).length ++ zeros 8
    refuseOr [(!mayActOn w i.part, DENIED), (q.bodyBad || (!refZero out && refBad out (16 * rings.length)), INVALID)]
      (if refZero out then .done s body
      else doneWithBuf s w out (rings.flatMap fun e => ringEntry e.1 e.2) body)

def execInstanceQuery (q : Req) (inst : B2) (rings : BufRef) (s : State) : Host.Outcome State Fault Refusal :=
  .next (serve q ⟨0x0304, 24, .opOrTenant, none, []⟩ (instanceQuery q inst rings) s)

/-! ### Freeze and thaw (R341, R343) -/

/-- Storage operations of an instance in flight. -/
def instIo (s : State) (n : Nat) : List Nat := (s.stor.ops.keep fun _ o => decide (o.inst = n)).map Prod.fst
/-- Direct-feed descriptors of an instance in flight. -/
def instRuns (s : State) (n : Nat) : List Nat :=
  (s.link.runs.keep fun _ r => (instStreams s n).contains r.stream).map Prod.fst

/-- INSTANCE_FREEZE: fetching stops; operations in flight have up to 50 ms. -/
def instanceFreeze (q : Req) (n : Nat) (_ : Who) (s : State) : Answer :=
  refuseOr [(q.bodyBad || (instState s n).isNone, INVALID), (decide (instState s n ≠ some .running) || freezing s n, IN_USE)]
    (if instBusy s n then .later ACCEPTED (s.modInst n fun i => { i with freezing := true, freezeAt := s.lc }) (.instFreeze n)
    else .ended (s.modInst n fun i => { i with state := .frozen }) OK (zeros 8))

def execInstanceFreeze (q : Req) (inst : B2) (s : State) : Host.Outcome State Fault Refusal :=
  .next (serve q ⟨0x0305, 8, .operator, none, []⟩ (instanceFreeze q inst) s)

/-- Operations of an instance still in flight are aborted (R341). -/
def abortInst (s : State) (n : Nat) : State :=
  let s1 := (instIo s n).foldl (fun s t => finishIo s t .aborted []) s
  let s2 := stopTx ((instRuns s1 n).foldl dfStop s1) n
  ((s2.tracker.keep fun _ e => e.held && decide (e.inst = n)).map Prod.fst).foldl (fun s t => recordDone s t ABORTED) s2

/-- FREEZE_TIMEOUT (R341): the operations have finished, or 50 ms have passed and the rest are aborted. -/
def execFreezeTimeout (inst : B2) (s : State) : Host.Outcome State Fault Refusal :=
  .next (match s.insts.get? inst with
    | none => s
    | some i =>
      if !i.freezing || (instBusy s inst && decide (s.lc < i.freezeAt + 50000000)) then s
      else
        let n := s.tracker.count fun _ e => e.held && decide (e.inst = inst)
        let s1 := (abortInst s inst).modInst inst fun i => { i with state := .frozen, freezing := false }
        match (s1.longOps.find? fun e => isFreeze inst e.2).map Prod.fst with
        | some o => finishOp s1 o OK (le 4 n ++ zeros 4)
        | none => s1)

/-- A recorded doorbell value takes its place (R343). -/
def playDoorbell (n : Nat) (s : State) (e : Nat × Nat) : State :=
  let (off, v) := e
  if 0x3000 ≤ off then
    (if off % 8 = 0 then sqDoorbell s n ((off - 0x3000) / 8) (v % 65536) else cqDoorbell s n ((off - 0x3004) / 8) (v % 65536))
  else if inRange off 0x0A00 0x40 then
    touchCtx (s.modStor fun k => { k with bulk := k.bulk.modify (bulkKey n ((off - 0x0A00) / 4)) fun b => { b with posted := v } })
      (cxBulk n ((off - 0x0A00) / 4))
  else if inRange off 0x0400 0x80 then
    match streamOf s n ((off - 0x0400) / 4) with
    | some k => touchCtx (s.modLink fun l => { l with streams := l.streams.modify k fun t => { t with posted := v } }) (cxStream k)
    | none => s
  else
    (s.pkt.rings.keep fun _ r => decide (r.inst = n ∧ 0x0600 + 4 * r.doorbell = off)).foldl (fun s e =>
      touchCtx (s.modPkt fun k => { k with rings := k.rings.modify e.1 fun r => { r with posted := v } }) (cxRing e.1)) s

/-- INSTANCE_THAW. -/
def instanceThaw (q : Req) (n : Nat) (_ : Who) (s : State) : Answer :=
  refuseOr [(q.bodyBad || (instState s n).isNone, INVALID), (decide (instState s n ≠ some .frozen), IN_USE)]
    (let bells := ((s.insts.get? n).map Instance.doorbells).getD []
     .ok (bells.foldl (playDoorbell n) (s.modInst n fun i => { i with state := .running, doorbells := [] })))

def execInstanceThaw (q : Req) (inst : B2) (s : State) : Host.Outcome State Fault Refusal :=
  .next (serve q ⟨0x0308, 8, .operator, none, []⟩ (instanceThaw q inst) s)

/-! ### Migration blobs (R342, R343) -/

/-- Tables of numbers as bytes: each table's row count, then its rows, 8 bytes a number (the layout R342 leaves open). -/
def packTables (ts : List (List (List Nat))) : Bytes :=
  ts.flatMap fun t => le 8 t.length ++ t.flatMap fun r => r.flatMap (le 8)
/-- The tables of the given row widths that bytes spell. -/
def unpackTables : List Nat → Bytes → List (List (List Nat))
  | [], _ => []
  | w :: ws, b =>
    let n := fieldAt b 0 8
    let rows := (chunks (8 * w) (min n 4096) (b.drop 8)).map fun r => (chunks 8 w r).map ofLe
    rows :: unpackTables ws (b.drop (8 + 8 * w * n))

/-- What INSTANCE_SAVE stores (R342). -/
def saveTables (s : State) (n : Nat) (i : Instance) : List (List (List Nat)) :=
  let c := s.ctrl n
  let m := s.mbx n
  [[[i.vectorCount, c.mqes, c.cc, b2n c.rdy, b2n c.cfs, c.shst, c.aqa, c.asq, c.acq, b2n c.quickset, c.grantSq, c.grantCq, c.ps,
     c.pmPs, m.reqBase, m.rspBase, b2n m.enable, m.reqLog2, m.rspLog2, m.vector, b2n m.signal, m.posted, m.fetched, m.written,
     m.consumed]],
   i.doorbells.map fun e => [e.1, e.2],
   c.sqs.map fun e => [e.1, e.2.size, e.2.base, e.2.cqid, e.2.prio, e.2.tail, e.2.head],
   c.cqs.map fun e => [e.1, e.2.size, e.2.base, e.2.vector, b2n e.2.ien, e.2.head, e.2.tail, b2n e.2.phase],
   c.features.map fun e => [e.1, e.2],
   c.apst.map fun v => [v],
   c.aers.map fun v => [v],
   (s.stor.bulk.keep fun _ b => decide (b.inst = n)).map fun e =>
     [e.2.doorbell, e.2.log2, e.2.vector, e.2.sqAddr, e.2.cqAddr, e.2.posted, e.2.fetched, e.2.completed],
   (s.pkt.rings.keep fun _ r => decide (r.inst = n)).map fun e =>
     [b2n e.2.tx, e.2.log2, e.2.doorbell, e.2.vector, e.2.sqAddr, e.2.cqAddr, e.2.posted, e.2.completed],
   (s.link.streams.keep fun _ t => t.port.isNone && decide (t.inst = n)).map fun e =>
     [e.2.doorbell, e.2.log2, e.2.vector, e.2.sqAddr, e.2.cqAddr, e.2.posted, e.2.fetched, e.2.completed]]
/-- Row widths of those tables. -/
def saveWidths : List Nat := [25, 2, 7, 8, 2, 1, 1, 8, 8, 8]

/-- The partition's migration key: its slot and attributes; an EXHAUSTED slot still decrypts (R342, R480, R487). -/
def migrationKey (s : State) (p : Nat) : Option (Nat × KeySlot) :=
  (slotsWith s p 2).find? fun e => decide (e.2.state ≠ .erased)

/-- Bytes 0 to 31 of a blob (R342). -/
def blobHead (len source : Nat) (iv : Bytes) : Bytes :=
  le 4 0x42494D5A ++ le 2 1 ++ zeros 2 ++ le 4 len ++ le 2 source ++ zeros 2 ++ padTo 12 iv ++ zeros 4

/-- The partition's migration slot has handed out its last counter value (R487). -/
def keySpent (key : Option (Nat × KeySlot)) : Bool := key.any fun k => decide (k.2.state = .exhausted)

/-- INSTANCE_SAVE. -/
def instanceSave (q : Req) (n : Nat) (out : BufRef) (w : Who) (s : State) : Answer :=
  match s.insts.get? n with
  | none => .refuse INVALID []
  | some i =>
    let key := migrationKey s i.part
    refuseOr [(q.bodyBad || decide (out.space ≠ 1 ∨ out.len < 262144) || key.isNone, INVALID), (decide (i.state ≠ .frozen), IN_USE),
        (keySpent key, NO_RESOURCES)]
      (match key with
       | none => .refuse INVALID []
       | some (k, slot) =>
         let plain := packTables (saveTables s n i)
         let len := 48 + plain.length
         let iv := gcmIv slot.fixed slot.nextCount
         let head := blobHead len n iv
         .ended (hostWrite (takeCount s k) w.port w.inst out.addr (head ++ Config.gcmSeal slot.key iv head plain)) OK
           (le 4 len ++ zeros 4))

def execInstanceSave (q : Req) (inst : B2) (out : BufRef) (s : State) : Host.Outcome State Fault Refusal :=
  .next (serve q ⟨0x0306, 24, .operator, none, []⟩ (instanceSave q inst out) s)

/-- Number `k` of a row. -/
def cell (r : List Nat) (k : Nat) : Nat := r.getD k 0
/-- Bit `k` of a row. -/
def flag (r : List Nat) (k : Nat) : Bool := decide (cell r k = 1)

/-- A submission queue's row. -/
def savedSq (x : List Nat) : NvmeSq :=
  { size := cell x 1, base := cell x 2, cqid := cell x 3, prio := cell x 4, tail := cell x 5, head := cell x 6 }
/-- A completion queue's row. -/
def savedCq (x : List Nat) : NvmeCq :=
  { size := cell x 1, base := cell x 2, vector := cell x 3, ien := flag x 4, head := cell x 5, tail := cell x 6, phase := flag x 7 }
/-- The controller that a blob holds. -/
def savedCtrl (s : State) (t : List (List (List Nat))) : Controller :=
  let r := (t.getD 0 []).getD 0 []
  { mqes := cell r 1, cc := cell r 2, rdy := flag r 3, cfs := flag r 4, shst := cell r 5, aqa := cell r 6, asq := cell r 7
    acq := cell r 8, quickset := flag r 9, grantSq := cell r 10, grantCq := cell r 11, ps := cell r 12, pmPs := cell r 13
    idleSince := s.lc
    sqs := (t.getD 2 []).map fun x => (cell x 0, savedSq x), cqs := (t.getD 3 []).map fun x => (cell x 0, savedCq x)
    features := (t.getD 4 []).map fun x => (cell x 0, cell x 1)
    apst := (t.getD 5 []).map fun x => cell x 0, aers := (t.getD 6 []).map fun x => cell x 0 }

/-- The mailbox block that a blob holds; a session is opened again by HELLO. -/
def savedMbx (b : Mailbox) (t : List (List (List Nat))) : Mailbox :=
  let r := (t.getD 0 []).getD 0 []
  { sessionNo := b.sessionNo + 1, reqBase := cell r 14, rspBase := cell r 15, enable := flag r 16, reqLog2 := cell r 17
    rspLog2 := cell r 18, vector := cell r 19, signal := flag r 20, posted := cell r 21, fetched := cell r 22, written := cell r 23
    consumed := cell r 24 }

/-- The die of an instance's port serves its queues. -/
def restoreRings (s : State) (n part port : Nat) (t : List (List (List Nat))) : State :=
  let s1 := ((t.getD 2 []).filter fun x => decide (cell x 0 ≠ 0)).foldl (fun s x => addCtx s (cxNvme n (cell x 0)) part port false) s
  let s2 := (t.getD 7 []).foldl (fun s x => addCtx (s.modStor fun k => { k with
      bulk := k.bulk.set (bulkKey n (cell x 0))
        { inst := n, doorbell := cell x 0, log2 := cell x 1, vector := cell x 2, sqAddr := cell x 3, cqAddr := cell x 4
          posted := cell x 5, fetched := cell x 6, completed := cell x 7 } }) (cxBulk n (cell x 0)) part port false) s1
  let s3 := (t.getD 8 []).foldl (fun s x => match s.pkt.rings.firstFree 4096 0 with
    | none => s
    | some k => addCtx (s.modPkt fun c => { c with
        rings := c.rings.set k
          { inst := n, owner := part, tx := flag x 0, log2 := cell x 1, doorbell := cell x 2, vector := cell x 3
            sqAddr := cell x 4, cqAddr := cell x 5, posted := cell x 6, fetched := wrap32 (cell x 7), completed := cell x 7 } })
        (cxRing k) part port false) s2
  (t.getD 9 []).foldl (fun s x => match s.link.streams.firstFree 4096 0 with
    | none => s
    | some k => addCtx (s.modLink fun l => { l with
        streams := l.streams.set k
          { owner := part, port := none, inst := n, doorbell := cell x 0, log2 := cell x 1, vector := cell x 2
            sqAddr := cell x 3, cqAddr := cell x 4, staging := none, launch := none, posted := cell x 5, fetched := cell x 6
            completed := cell x 7 } }) (cxStream k) part port false) s3

/-- INSTANCE_RESTORE (R343): the instance is created FROZEN. -/
def instanceRestore (q : Req) (inst part port pasid base count : Nat) (blob : BufRef) (host : HostData) (w : Who) (s : State) :
    Answer :=
  let r := readBuf s w blob host
  let b := bufBytes r
  let len := fieldAt b 8 4
  let plain := (migrationKey s part).bind fun k =>
    Config.gcmOpen k.2.key ((b.drop 16).take 12) (b.take 32) ((b.take len).drop 32)
  let t := unpackTables saveWidths (plain.getD [])
  refuseOr [(q.bodyBad || instBad s inst part port pasid base count || refBad blob 48, INVALID), (!bufOk r, bufStatus r),
    (decide (fieldAt b 0 4 ≠ 0x42494D5A ∨ fieldAt b 4 2 ≠ 1 ∨ len < 48 ∨ 262144 < len ∨ b.length < len), INVALID),
    (plain.isNone, DECRYPT_FAIL), (decide (count < cell ((t.getD 0 []).getD 0 []) 0), INVALID),
    ((s.insts.get? inst).isSome || vectorsHeld s port base count, IN_USE)]
    (let i := newInst part port pasid base count
     let bells := (t.getD 1 []).map fun x => (cell x 0, cell x 1)
     let s1 : State := { s with insts := s.insts.set inst { i with state := .frozen, doorbells := bells } }
     .ended (restoreRings ((s1.modCtrl inst fun _ => savedCtrl s t).modMbx inst fun m => savedMbx m t) inst part port t) OK [])

def execInstanceRestore (q : Req) (inst : B2) (part port : B1) (pasid : B4) (vectorBase : B2) (vectorCount : B1) (blob : BufRef)
    (host : HostData) (s : State) : Host.Outcome State Fault Refusal :=
  .next (serve q ⟨0x0307, 40, .operator, some blob, []⟩ (instanceRestore q inst part port pasid vectorBase vectorCount blob host) s)

/-! ### Dirty logs (R344) -/

/-- DIRTY_LOG_START. -/
def dirtyLogStart (q : Req) (n count : Nat) (ranges : BufRef) (host : HostData) (w : Who) (s : State) : Answer :=
  let r := readBuf s w ranges host
  let l := (chunks 16 count (bufBytes r)).map fun c => (fieldAt c 0 8, fieldAt c 8 8)
  refuseOr [(q.bodyBad || (instState s n).isNone || decide (count < 1 ∨ 16 < count) || refBad ranges (16 * count), INVALID),
    (!bufOk r, bufStatus r),
    ((l.any fun x => decide (x.1 % 4096 ≠ 0 ∨ x.2 % 4096 ≠ 0)) || decide (2 ^ 42 < (l.map Prod.snd).foldl (· + ·) 0), INVALID),
    (((s.insts.get? n).map Instance.dirtyOn).getD false, IN_USE)]
    (.ok (s.modInst n fun i =>
      { i with dirtyOn := true, dirtyOutside := 0, dirty := l.map fun x => { addr := x.1, length := x.2, marked := [] } }))

def execDirtyLogStart (q : Req) (inst : B2) (count : B1) (ranges : BufRef) (host : HostData) (s : State) :
    Host.Outcome State Fault Refusal :=
  .next (serve q ⟨0x0340, 24, .operator, some ranges, []⟩ (dirtyLogStart q inst count ranges host) s)

/-- A range's bitmap (R375): page k is bit k mod 8 of byte k div 8. -/
def DirtyRange.bytes (r : DirtyRange) : Bytes :=
  (List.range ((r.length / 4096 + 7) / 8)).map fun j =>
    BitVec.ofNat 8 (((List.range 8).filter fun b => r.marked.contains (8 * j + b)).foldl (fun m b => m + 2 ^ b) 0)

/-- DIRTY_LOG_READ: the bitmap is copied and cleared in one act. -/
def dirtyLogRead (q : Req) (n k : Nat) (out : BufRef) (w : Who) (s : State) : Answer :=
  match s.insts.get? n with
  | none => .refuse INVALID []
  | some i => match i.dirty[k]? with
    | none => refuseOr [(!i.dirtyOn && decide (k < 16), IN_USE)] (.refuse INVALID [])
    | some r =>
      refuseOr [(q.bodyBad || decide (out.space ≠ 1 ∨ out.len < r.bytes.length), INVALID), (!i.dirtyOn, IN_USE)]
        (.ended (hostWrite (s.modInst n fun i =>
          { i with dirty := i.dirty.set k { r with marked := [] }, dirtyOutside := 0 }) w.port w.inst out.addr r.bytes) OK
          (le 8 i.dirtyOutside))

def execDirtyLogRead (q : Req) (inst : B2) (range : B1) (out : BufRef) (s : State) : Host.Outcome State Fault Refusal :=
  .next (serve q ⟨0x0341, 24, .operator, none, []⟩ (dirtyLogRead q inst range out) s)

/-- DIRTY_LOG_STOP. -/
def dirtyLogStop (q : Req) (n : Nat) (_ : Who) (s : State) : Answer :=
  refuseOr [(q.bodyBad || (instState s n).isNone, INVALID)]
    (.ok (s.modInst n fun i => { i with dirtyOn := false, dirty := [] }))

def execDirtyLogStop (q : Req) (inst : B2) (s : State) : Host.Outcome State Fault Refusal :=
  .next (serve q ⟨0x0342, 8, .operator, none, []⟩ (dirtyLogStop q inst) s)

end Sys2Proof.Machine
end

