-- ==== Sys2Proof/Machine/Regs.lean ====
section
/-! DEFINITION. The registers that a host reads and writes in BAR0 and in the instance pages
(10 R319 to R326, 02 R53, R54, 08 R293, 13 R443, 17 R520, R526, 11 R352 to R354). -/

namespace Sys2Proof.Machine

/-! ### Cycle counters (R519, R520) -/

/-- The unit's PMC_CYCLE: TCLK for Yew tiles, MCLK (1 GHz) for stacks, pipes, samplers and traffic managers, FCLK
(1.5 GHz) for the others (R519). -/
def pmcCycle (s : State) (u : Nat) : Nat :=
  if u < 0x90 then tclkNow s
  else if inRange u 0x160 16 || inRange u 0x1A4 4 then s.lc
  else 3 * s.lc / 2
/-- The unit has a counter set (R519). -/
def hasPmc (u : Nat) : Bool := unitNamed u && !inRange u 0xA0 16
/-- A programmable counter. -/
def pmcAt (s : State) (u k : Nat) : PmcCounter := s.mon.pmc.getD (8 * u + k) {}
/-- The bits of the counters that satisfy `p`. -/
def pmcBits (s : State) (u : Nat) (p : PmcCounter → Bool) : Nat :=
  (List.range 8).foldl (fun (n : Nat) k => if p (pmcAt s u k) then n + 2 ^ k else n) 0
/-- PMC_SEL (R520). -/
def PmcCounter.sel (c : PmcCounter) : Nat :=
  c.event + 2 ^ 8 * c.flags + 2 ^ 16 * c.part + 2 ^ 24 * c.master + 2 ^ 40 * c.mask + 2 ^ 56 * c.cls
/-- The aligned 8 bytes at offset `r` of a unit's counter block (R520). -/
def pmcWord (s : State) (u r : Nat) : Nat :=
  if !hasPmc u then 0
  else if r = 0 then pmcCycle s u
  else if r = 8 then pmcBits s u PmcCounter.ovf + 2 ^ 32 * (pmcBits s u (fun c => bitOf c.flags 0) +
    2 ^ 8 * pmcBits s u (fun c => bitOf c.flags 1) + 2 ^ 16 * pmcBits s u (fun c => c.holder.isSome))
  else if inRange r 0x10 0x40 then (pmcAt s u ((r - 0x10) / 8)).count
  else if inRange r 0x50 0x40 then (pmcAt s u ((r - 0x50) / 8)).sel
  else 0

/-! ### Register values -/

/-- HEP_READY_LEVEL (R321). -/
def readyWord (s : State) (p : Nat) : Nat :=
  s.boot.level + 4 * b2n s.boot.failed + 8 * b2n (decide (s.boot.opPort = p)) + 16 * b2n s.boot.opAbsent
/-- HEP_PORT_STATUS (R321). -/
def portStatus (s : State) (p : Nat) : Nat :=
  let h := s.port p
  h.width + 2 ^ 6 * h.speed + 2 ^ 10 * b2n h.flit + 2 ^ 11 * b2n h.driverPresent + 2 ^ 12 * b2n h.hbArmed +
    2 ^ 13 * b2n (s.insts.any fun _ i => decide (i.port = p) && decide (i.state = .resetting))
/-- The HEP registers, by aligned 8 bytes (R321). -/
def hepWord (s : State) (p off : Nat) : Nat :=
  let h := s.port p
  match off with
  | 0x00 => 0x1FA7 + 2 ^ 16 * (0x9740 + p) + 2 ^ 32 * p + 2 ^ 36
  | 0x08 => readyWord s p
  | 0x10 => portStatus s p
  | 0x20 => h.droppedDma + 2 ^ 32 * h.ctoCount
  | 0x28 => h.lateCount
  | _ => 0
/-- A mailbox block, by aligned 8 bytes (R322). -/
def mbxWord (s : State) (m off : Nat) : Nat :=
  let b := s.mbx m
  match off with
  | 0x00 => b.reqBase
  | 0x08 => b.rspBase
  | 0x10 => b2n b.enable + 2 * b.reqLog2 + 2 ^ 5 * b.rspLog2 + 2 ^ 9 * b.vector + 2 ^ 20 * b2n b.signal
  | 0x18 => 2 ^ 32 * b.written
  | _ => 0
/-- LC_CLOCK_STATUS (R53). -/
def clockStatus (s : State) : Nat :=
  let c := s.clk
  b2n c.rootLocked + 2 * c.tclkDiv
    + 8 * b2n (decide (plannedLimit s < c.tclkDiv) &&
        (s.power.thermal0 || s.power.thermal1 || decide (plannedLimit s < s.power.capLimit)))
    + 16 * b2n c.aligned + 2 ^ 8 * b2n c.lostHost0 + 2 ^ 9 * b2n c.lostHost1 + 2 ^ 10 * b2n c.lostEth
    + 2 ^ 11 * b2n c.lostZal + 2 ^ 12 * b2n c.lostStor
/-- A ZAL port's block, by aligned 8 bytes (R293). -/
def zalWord (s : State) (p off : Nat) : Nat :=
  let z := s.zal p
  match off with
  | 0x00 => (match z.link with | .down => 0 | .training => 1 | .up => 2 | .retraining => 3) + 4 * b2n z.inService
      + 8 * b2n z.rxNarrow + 16 * b2n z.txNarrow + 2 ^ 8 * (z.rxFailed ||| z.txFailed)
      + 2 ^ 20 * (if z.owner = 16 then 0 else z.owner) + 2 ^ 24 * b2n (decide (z.owner = 16)) + 2 ^ 25 * b2n z.copy
  | 0x08 => z.rxMap
  | 0x10 => z.txMap
  | 0x18 => z.timeout
  | 0x20 => z.fecCorrected + 2 ^ 32 * z.fecUncorrectable
  | 0x28 => z.crcErrors + 2 ^ 32 * z.replays
  | 0x30 => z.retrains + 2 ^ 32 * z.lateResponses
  | 0x38 => z.protocolErrors
  | _ => 0
/-- The priorities that a port has paused now (R443 PAUSED). -/
def pausedBits (s : State) (e : EthPort) : Nat :=
  (List.range 8).foldl (fun (n : Nat) k => if s.lc < e.paused.getD k 0 then n + 2 ^ k else n) 0
/-- An Ethernet port's block, by aligned 8 bytes (R443). -/
def ethWord (s : State) (p off : Nat) : Nat :=
  let e := s.eth p
  match off with
  | 0x00 => e.link + 4 * e.speed + 16 * b2n e.fecAligned + 32 * b2n (!e.pfcSending.isEmpty) + 2 ^ 6 * pausedBits s e
  | 0x08 => e.mode + 4 * b2n e.pfc + 8 * e.pfcClasses + 2 ^ 11 * b2n e.reorderPort + 2 ^ 12 * e.maxFrame
  | 0x10 => e.rxFrames
  | 0x18 => e.rxBytes
  | 0x20 => e.txFrames
  | 0x28 => e.txBytes
  | 0x30 => e.fcsErrors + 2 ^ 32 * e.lengthErrors
  | 0x38 => e.dropFull + 2 ^ 32 * e.noOwner
  | 0x40 => e.fecCorrected + 2 ^ 32 * e.fecUncorrectable
  | 0x48 => e.pfcRx + 2 ^ 32 * e.pfcTx
  | 0x50 => e.parseLimit + 2 ^ 32 * e.badVerdict
  | _ => 0
/-- The MSI-X table, by aligned 8 bytes (R320; PCIe). -/
def msixWord (s : State) (p off : Nat) : Nat :=
  let e := (s.port p).msix.getD (off / 16) {}
  if off % 16 = 0 then e.addr else e.data + 2 ^ 32 * b2n e.masked
/-- The Pending Bit Array, by aligned 8 bytes (R320). -/
def pbaWord (s : State) (p off : Nat) : Nat :=
  (List.range 64).foldl (fun (n : Nat) k => if ((s.port p).msix.getD (8 * off + k) {}).pend then n + 2 ^ k else n) 0

/-- Who may access an offset of BAR0 (R320). -/
inductive BarRegion
  | both | operator | reserved
  deriving DecidableEq, Repr

/-- The region of an offset (R320). -/
def bar0Region (off : Nat) : BarRegion :=
  if off < 0x120 ∨ inRange off 0x20000 0x8100 then .both
  else if inRange off 0x2000 0x14 || inRange off 0x10000 0x800 || inRange off 0x11000 0x800 || inRange off 0x100000 0x100000
    then .operator
  else .reserved

/-- The aligned 8 bytes of BAR0 at `off` (R319 to R322). -/
def bar0Word (s : State) (p off : Nat) : Nat :=
  if off < 0x100 then hepWord s p off
  else if off < 0x120 then mbxWord s (0x400 + p) (off - 0x100)
  else if off = 0x2000 then s.lc
  else if off = 0x2008 then (s.port p).lcHiSnap
  else if off = 0x2010 then clockStatus s
  else if inRange off 0x10000 0x800 then zalWord s ((off - 0x10000) / 256) (off % 256)
  else if inRange off 0x11000 0x800 then ethWord s ((off - 0x11000) / 256) (off % 256)
  else if inRange off 0x20000 0x8000 then msixWord s p (off - 0x20000)
  else if inRange off 0x28000 0x100 then pbaWord s p (off - 0x28000)
  else if inRange off 0x100000 0x100000 then pmcWord s ((off - 0x100000) / 256) (off % 256)
  else 0

/-- The bytes a read gets: those of the containing aligned 8 bytes (R319). -/
def wordBytes (w off len : Nat) : Bytes := padTo len ((le 8 w).drop (off % 8))
/-- A read of BAR0. -/
def readBar0 (s : State) (p off len : Nat) : Bytes := wordBytes (bar0Word s p (off - off % 8)) off len

/-- The size and alignment that R319 takes. -/
def accessOk (off size : Nat) : Bool := decide ((size = 4 ∨ size = 8) ∧ off % size = 0)
/-- A value with its low half replaced. -/
def setLo (w v : Nat) : Nat := w / 2 ^ 32 * 2 ^ 32 + v % 2 ^ 32
/-- A value with its high half replaced. -/
def setHi (w v : Nat) : Nat := w % 2 ^ 32 + 2 ^ 32 * (v % 2 ^ 32)

/-! ### Mailbox registers (R322, R352, R353, R355) -/

/-- MBX_CTRL is written (R322, R352): while enabled only ENABLE can change. -/
def mbxCtrl (s : State) (m v : Nat) : State :=
  let b := s.mbx m
  if b.enable then (if bitOf v 0 then s else s.modMbx m fun b => { b.endSession with enable := false })
  else
    let rq := bitsOf v 4 1
    let rs := bitsOf v 8 5
    let on := bitOf v 0 && decide (4 ≤ rq ∧ rq ≤ 12 ∧ 4 ≤ rs ∧ rs ≤ 12)
    let s1 := s.modMbx m fun b =>
      { b with reqLog2 := rq, rspLog2 := rs, vector := bitsOf v 19 9, signal := bitOf v 20, enable := on }
    if on then
      (s1.modMbx m fun b => { b.endSession with posted := 0, fetched := 0, written := 0, consumed := 0, lost := 0 }).emit
        (.ringHeader m 0 0)
    else s1

/-- REQ_DOORBELL is written (R353): a count too far ahead or behind is cut and counted. -/
def reqDoorbell (s : State) (m v : Nat) : State :=
  s.modMbx m fun b =>
    if !b.enable then { b with posted := wrap32 v }
    else
      let d := sub32 (wrap32 v) b.fetched
      if 2 ^ 31 ≤ d then { b with posted := b.fetched, protoErr := sat32 b.protoErr 1 }
      else if 2 ^ b.reqLog2 < d then { b with posted := wrap32 (b.fetched + 2 ^ b.reqLog2), protoErr := sat32 b.protoErr 1 }
      else { b with posted := wrap32 v }

/-- A dword of a mailbox block is written (R322). -/
def mbxWrite (s : State) (m off v : Nat) : State :=
  let free := !(s.mbx m).enable
  match off with
  | 0x00 => if free then s.modMbx m fun b => { b with reqBase := setLo b.reqBase v } else s
  | 0x04 => if free then s.modMbx m fun b => { b with reqBase := setHi b.reqBase v } else s
  | 0x08 => if free then s.modMbx m fun b => { b with rspBase := setLo b.rspBase v } else s
  | 0x0C => if free then s.modMbx m fun b => { b with rspBase := setHi b.rspBase v } else s
  | 0x10 => mbxCtrl s m v
  | 0x18 => reqDoorbell s m v
  | _ => s

/-- A write to a mailbox block by a host: its own port's physical function, or an instance page (R320, R324). -/
def mbxAccess (s : State) (port m off v : Nat) : State :=
  if !s.on then s
  else if 0x400 ≤ m then (if m = 0x400 + port then mbxWrite s m off v else s)
  else if pageOf s port m then mbxWrite s m off v
  else pageViolation s port m (0x100 + off) 4 6

def execMbxCtrl (port : Fin 2) (mbx : B2) (value : B4) (s : State) : Host.Outcome State Fault Refusal :=
  .next (mbxAccess s port.val mbx 0x10 value)

def execReqDoorbell (port : Fin 2) (mbx : B2) (posted : B4) (s : State) : Host.Outcome State Fault Refusal :=
  .next (mbxAccess s port.val mbx 0x18 posted)

/-- Waiting entries are written in order while the ring has room (R354). -/
def drainPend (m : Nat) : List IaldoEntry → State → State
  | [], s => s.modMbx m fun b => { b with pend := [] }
  | e :: l, s => if mbxWritable s m then drainPend m l (writeEntry s m e) else s.modMbx m fun b => { b with pend := e :: l }

/-- RESPONSE_WRITE (R354): the device reads CONSUMED, and what waits is written as far as the ring has room. -/
def execResponseWrite (mbx : B2) (consumed : B4) (s : State) : Host.Outcome State Fault Refusal :=
  .next (if !s.on || !(s.mbx mbx).enable || !mayDma s (mbxPort s mbx) (mbxInst mbx) then s
    else
      let s1 := s.modMbx mbx fun b => { b with consumed := consumed }
      drainPend mbx (s1.mbx mbx).pend s1)

/-! ### The heartbeat, the clock status, MSI-X and counter overflow bits -/

/-- HEP_HEARTBEAT is written (R321, R345, R347). -/
def heartbeat (s : State) (p : Nat) : State :=
  s.modPort p fun h => { h with hbArmed := true, lastBeat := s.lc, beatSeen := true }

def execHepHeartbeat (port : Fin 2) (_value : B4) (s : State) : Host.Outcome State Fault Refusal :=
  .next (if s.on then heartbeat s port.val else s)

/-- LC_CLOCK_STATUS is written: bits 12 to 8 clear where 1 is written (R53). -/
def clearLost (s : State) (v : Nat) : State :=
  { s with clk := { s.clk with
      lostHost0 := s.clk.lostHost0 && !bitOf v 8
      lostHost1 := s.clk.lostHost1 && !bitOf v 9
      lostEth := s.clk.lostEth && !bitOf v 10
      lostZal := s.clk.lostZal && !bitOf v 11
      lostStor := s.clk.lostStor && !bitOf v 12 } }

/-- An access of a physical function without operator authority to a register that R320 gives the operator's (R16). -/
def bar0Violation (s : State) (p off len kind : Nat) : State := violation s off (pfTag s p) kind len 0xFFF p

/-- The physical function may access the offset (R319, R320). -/
def bar0Denied (s : State) (p off : Nat) : Bool := decide (bar0Region off = .operator) && decide (s.boot.opPort ≠ p)

def execLcClockStatus (port : Fin 2) (value : B4) (s : State) : Host.Outcome State Fault Refusal :=
  .next (if !s.on then s
    else if bar0Denied s port.val 0x2010 then bar0Violation s port.val 0x2010 4 6
    else clearLost s value)

/-- Pending messages that nothing masks any longer are sent (R323; PCIe). -/
def flushMsix (s : State) (p : Nat) : State :=
  let h := s.port p
  if !h.msixEnable || h.functionMask || !h.driverPresent then s
  else (h.msix.keep fun _ e => e.pend && !e.masked).foldl (fun s x =>
    (s.modPort p fun h => { h with msix := h.msix.set x.1 { x.2 with pend := false } }).emit
      (.msix p x.1 x.2.addr x.2.data)) s

/-- A dword of the MSI-X table is written (R320; PCIe). -/
def msixWrite (s : State) (p off v : Nat) : State :=
  let n := off / 16
  let e := (s.port p).msix.getD n {}
  let put (x : MsixEntry) : State := s.modPort p fun h => { h with msix := h.msix.set n x }
  match off % 16 with
  | 0 => put { e with addr := setLo e.addr (v / 4 * 4) }
  | 4 => put { e with addr := setHi e.addr v }
  | 8 => put { e with data := v }
  | _ => flushMsix (put { e with masked := bitOf v 0 }) p

/-- The counter's overflow bit is cleared by a write of 1, unless a partition holds it (R520). -/
def PmcCounter.clear (c : PmcCounter) (one : Bool) : PmcCounter :=
  if one && c.holder.isNone then { c with ovf := false } else c

/-- PMC_OVF of a unit is written: the bits of counters that no partition holds clear (R520). -/
def clearOvf (s : State) (u v : Nat) : State :=
  if !hasPmc u then s
  else s.modMon fun m => { m with pmc := m.pmc.mapV fun k c => c.clear (decide (k / 8 = u) && bitOf v (k % 8)) }

def execPmcOvf (port : Fin 2) (unit : B2) (value : B4) (s : State) : Host.Outcome State Fault Refusal :=
  .next (if !s.on then s
    else if bar0Denied s port.val 0x100000 then bar0Violation s port.val (0x100000 + 256 * unit + 8) 4 6
    else clearOvf s unit value)

/-! ### Register reads with an effect (R53, R54, R526, R527) -/

/-- A host is answered. -/
def reply (s : State) (p : Nat) (bs : Bytes) : State := s.emit (.reply p bs)

/-- A read of the Launch Counter crosses from the endpoint's copy to the port: the mirror's crossing loads and carries the
newest value (R63, R65). -/
def mirror (s : State) (p : Nat) : State :=
  { s with
    crossings := s.crossings.set (4 * p) (let c := s.crossings.getD (4 * p) {}
      if c.severed then c else { c with data := s.lc, req := !c.req, ack := !c.req }) }

def execLcNow (port : Fin 2) (offset size : B1) (s : State) : Host.Outcome State Fault Refusal :=
  let p := port.val
  .next (if !s.on then s
    else if bar0Denied s p 0x2000 then reply (bar0Violation s p (0x2000 + offset) size 5) p (zeros size)
    else
      let s1 := reply (mirror s p) p (readBar0 s p (0x2000 + offset) size)
      if offset = 0 ∧ size = 4 then s1.modPort p fun h => { h with lcHiSnap := s.lc / 2 ^ 32 } else s1)

/-- The first 16 bytes of an instance's counter page (R54). -/
def instLcWord (s : State) (inst off : Nat) : Nat :=
  if off = 0 then s.lc else ((s.insts.get? inst).map Instance.lcHiSnap).getD 0

def execInstLcNow (port : Fin 2) (inst : B2) (offset size : B1) (s : State) : Host.Outcome State Fault Refusal :=
  let p := port.val
  .next (if !s.on then s
    else if !pageOf s p inst then reply (pageViolation s p inst (0x1000 + offset) size 5) p (zeros size)
    else
      let s1 := reply (mirror s p) p (wordBytes (instLcWord s inst (offset - offset % 8)) offset size)
      if offset = 0 ∧ size = 4 then s1.modInst inst fun i => { i with lcHiSnap := s.lc / 2 ^ 32 } else s1)

/-- The counter bound to a partition's slot (R526): unit and number. -/
def slotCounter (s : State) (part slot : Nat) : Option (Nat × PmcCounter) :=
  s.mon.pmc.find? fun e => decide (e.2.holder = some part) && decide (e.2.slot = slot)

/-- Bytes 0 to 7 of a slot (R526). -/
def slotWord (s : State) (part slot : Nat) : Nat :=
  match slotCounter s part slot with
  | some e => e.2.count + 2 ^ 48 * b2n e.2.ovf + 2 ^ 63
  | none => 0

/-- An 8-byte read of a tenant counter slot: the unit's cycle count is latched with it (R526). -/
def execTenantCounterSlotRead (port : Fin 2) (inst : B2) (slot : Fin 64) (s : State) : Host.Outcome State Fault Refusal :=
  let p := port.val
  .next (if !s.on then s
    else if !pageOf s p inst then reply (pageViolation s p inst (0x1100 + 16 * slot.val) 8 5) p (zeros 8)
    else
      let part := ((s.insts.get? inst).map Instance.part).getD 0
      if ((s.parts.get? part).map Partition.tenantCounters).getD false then
        let cyc := match slotCounter s part slot.val with
          | some e => pmcCycle s (e.1 / 8)
          | none => 0
        reply (s.modMon fun m => { m with latched := m.latched.set (64 * part + slot.val) cyc }) p
          (le 8 (slotWord s part slot.val))
      else reply s p (zeros 8))

/-! ### REGISTER_WRITE (R16, R319, R320, R324) -/

/-- A dword of BAR0 is written by its own port's physical function. -/
def bar0Write (s : State) (p off v : Nat) : State :=
  if off = 0x18 then heartbeat s p
  else if inRange off 0x100 0x20 then mbxWrite s (0x400 + p) (off - 0x100) v
  else if off = 0x2010 then clearLost s v
  else if inRange off 0x20000 0x8000 then msixWrite s p (off - 0x20000) v
  else if inRange off 0x100000 0x100000 && decide (off % 256 = 8) then clearOvf s ((off - 0x100000) / 256) v
  else s

/-- A doorbell of the instance page: acts, is recorded or is ignored (R338, R341). -/
def pageBell (s : State) (port inst off v : Nat) : State :=
  doorbellWrite s port inst off v fun s => playDoorbell inst s (off, v)

/-- A dword of an instance page is written (R325, R395). -/
def pageWrite (s : State) (port inst off v : Nat) : State :=
  if off = 0x10 then
    (if bitOf v 0 && decide (instState s inst = some .running) then startReset s inst else s)
  else if inRange off 0x100 0x20 then mbxWrite s inst (off - 0x100) v
  else if inRange off 0x400 0x80 || inRange off 0x600 0x100 || inRange off 0xA00 0x40 || inRange off 0x3000 0x208 then
    pageBell s port inst off v
  else if off = 0x2014 then writeCc s inst v
  else if off = 0x2024 then s.modCtrl inst fun c => { c with aqa := v &&& 0x0FFF0FFF }
  else if off = 0x2028 then s.modCtrl inst fun c => { c with asq := setLo c.asq (v / 4096 * 4096) }
  else if off = 0x202C then s.modCtrl inst fun c => { c with asq := setHi c.asq v }
  else if off = 0x2030 then s.modCtrl inst fun c => { c with acq := setLo c.acq (v / 4096 * 4096) }
  else if off = 0x2034 then s.modCtrl inst fun c => { c with acq := setHi c.acq v }
  else s

/-- A write of 4 or 8 bytes is one or two dword writes, the low one first. -/
def dwords (size off v : Nat) (f : State → Nat → Nat → State) (s : State) : State :=
  if size = 8 then f (f s off (v % 2 ^ 32)) (off + 4) (v / 2 ^ 32) else f s off (v % 2 ^ 32)

def execRegisterWrite (port : Fin 2) (bar : B1) (offset : B4) (size : B1) (value : B8) (s : State) :
    Host.Outcome State Fault Refusal :=
  let p := port.val
  .next (if !s.on then s
    else if bar = 0 then
      (if bar0Denied s p offset then bar0Violation s p offset size 6
       else if accessOk offset size && decide (offset < 0x400000) then
         dwords size offset value (fun s off v => bar0Write s p off v) s
       else s)
    else if bar = 2 then
      (if 2 ^ 24 ≤ offset then s
       else if !pageOf s p (offset / 16384) then pageViolation s p (offset / 16384) (offset % 16384) size 6
       else if accessOk offset size then
         dwords size (offset % 16384) value (fun s off v => pageWrite s p (offset / 16384) off v) s
       else s)
    else s)

end Sys2Proof.Machine
end

