-- ==== Sys2Proof/Machine/Host.lean ====
section
/-! DEFINITION. The host ports: configuration space, resets, crossings, windows, and the Bramble target check
(10 R315 to R318, R327, R328, R345 to R349, 02 R63 to R70, 01 R13). -/

namespace Sys2Proof.Machine

/-! ### Crossings (R63 to R70) -/

/-- The crossings of a host port: 4 × port the Launch Counter mirror, then the status registers and the request path. -/
def hostCrossings (p : Nat) : List Nat := [4 * p, 4 * p + 1, 4 * p + 2]
/-- Round trip in ns (R66): 6 for the mirror, 15 for the status registers, 5 for the request path and for the ports
whose crossings the table does not name. -/
def crossingTrip (k : Nat) : Nat := if k < 8 then (if k % 4 = 0 then 6 else if k % 4 = 1 then 15 else 5) else 5

/-- One side of a crossing enters reset (R68): a transfer in progress is dropped and counted; whether one is in progress
in that cycle is open (R65). -/
def sever (s : State) (k : Nat) : State :=
  let c := s.crossings.getD k {}
  if c.severed then s
  else
    let n := (s.fresh 2).1
    { (s.fresh 2).2 with crossings := s.crossings.set k { c with severed := true, ack := c.req, drops := sat32 c.drops n } }

/-- The clock of a crossing's port: 0 and 1 a host port, 8 + port an Ethernet port, 16 + port a ZAL port, 24 the storage
clock generator. -/
def crossingClock (k : Nat) : Nat := if k < 8 then k / 4 else if k < 24 then k else 24
/-- The side of a crossing away from the core is out of reset. -/
def crossingOut (s : State) (k : Nat) : Bool := decide (8 ≤ k) || !(s.port (k / 4)).perst

/-- CROSSING_REARM (R69): flags zero; it carries data one round trip later. -/
def execCrossingRearm (crossing : B2) (s : State) : Host.Outcome State Fault Refusal :=
  .next (let c := s.crossings.getD crossing {}
    if !s.on || !c.severed || !crossingOut s crossing || s.clk.down.contains (crossingClock crossing) then s
    else
      let c' : Crossing := { c with severed := false, req := false, ack := false, readyAt := s.lc + crossingTrip crossing }
      { s with crossings := s.crossings.set crossing c' })

/-! ### Port and function reset (R349) -/

/-- Configuration space at its reset values; FLR keeps Max_Payload_Size and the sticky AER log (PRESUMED: PCIe). -/
def resetConfig (h : HostPort) (flr : Bool) : HostPort :=
  { h with
    mse := false, bme := false, per := false, serr := false, d3hot := false, pasidEnable := false, ltrEnable := false
    roEnable := true, tag10 := false, mps := if flr then h.mps else 0, mrrs := 2, ctoValue := 0
    bar0 := 0, bar2 := 0, bar4 := 0, bar4Log2 := 36, msixEnable := false, functionMask := false
    aer := if flr then h.aer else [], msix := [] }

/-- Every outstanding read of a port completes as timed out; its tag stays quarantined until the link is up (R349). -/
def timeoutReads (s : State) (p : Nat) : State :=
  ((s.port p).reads.keep fun _ r => !r.quarantined).foldl (fun s x =>
    failOp (s.modPort p fun h =>
      { h with
        reads := h.reads.set x.1 { x.2 with quarantined := true, op := none }
        aer := 0x0E :: h.aer
        ctoCount := sat32 h.ctoCount 1 }) x.2.op .hostTimeout) s

/-- PERST# on a port, or the loss of its clock (R43, R349). -/
def perst (s : State) (p : Nat) : State :=
  let s1 := timeoutReads (driverGone s p) p
  let s2 := resetMbx (s1.modPort p fun h =>
    { resetConfig h false with perst := true, linkUp := false, width := 0, speed := 0, flit := false, hbArmed := false,
                               beatSeen := false, readWait := [] }) (0x400 + p)
  (hostCrossings p).foldl sever s2

def execPerstAssert (port : Fin 2) (s : State) : Host.Outcome State Fault Refusal :=
  .next (if s.on then perst s port.val else s)

/-- PERST# is released and the link has trained to a width and speed (R315, R316, R349). Below 64.0 GT/s the downstream
port decides on Flit Mode (R315): an open choice. -/
def execPerstDeassert (port : Fin 2) (width speed : B1) (s : State) : Host.Outcome State Fault Refusal :=
  let p := port.val
  .next (let h := s.port p
    if !s.on || !([1, 2, 4, 8, 16].contains width) || decide (speed < 1 ∨ h.advertised < speed) || s.clk.down.contains p ||
        decide ((s.units.getD (uHost p) {}).state = .failed) then s
    else
      let f := s.fresh 2
      f.2.modPort p fun h =>
        { h with perst := false, linkUp := true, width := width, speed := speed, flit := decide (speed = 6 ∨ f.1 = 1)
                 reads := if h.perst then [] else h.reads })

/-- FLR of a physical function (R349). -/
def flr (s : State) (p : Nat) : State :=
  let s1 := driverGone s p
  (hostCrossings p).foldl sever
    (resetMbx (s1.modPort p fun h => { resetConfig h true with hbArmed := false, beatSeen := false }) (0x400 + p))

def execFlr (port : Fin 2) (s : State) : Host.Outcome State Fault Refusal :=
  .next (if s.on then flr s port.val else s)

/-- HEARTBEAT_TIMEOUT (R345): 2 s without a write while armed. -/
def execHeartbeatTimeout (port : Fin 2) (s : State) : Host.Outcome State Fault Refusal :=
  let p := port.val
  .next (let h := s.port p
    if s.on && h.hbArmed && h.driverPresent && decide (h.lastBeat + 2000000000 ≤ s.lc) then driverGone s p else s)

/-! ### Configuration space (R316 to R318) -/

/-- An extended capability header: ID, version 1, next (PCIe). -/
def extHeader (id next : Nat) : Nat := id + 2 ^ 16 + 2 ^ 20 * next

/-- Command and Status (R317; the Capabilities List bit of PCIe). -/
def cfgCommand (h : HostPort) : Nat :=
  2 * b2n h.mse + 4 * b2n h.bme + 2 ^ 6 * b2n h.per + 2 ^ 8 * b2n h.serr + 2 ^ 10 + 2 ^ 20

/-- The dwords of configuration space that R317 and R318 fix, with the layouts PCIe gives the named structures. -/
def cfgFixed (p : Nat) : List (Nat × Nat) :=
  [(0x00, 0x1FA7 + 2 ^ 16 * (0x9740 + p)), (0x08, 0x12000001), (0x0C, 0), (0x28, 0), (0x2C, 0x97401FA7), (0x30, 0),
   (0x34, 0x40), (0x38, 0), (0x3C, 0), (0x40, 0x00035001), (0x54, 0x20000), (0x58, 0x28000), (0x70, 0x00020010),
   (0x100, extHeader 0x01 0x160), (0x160, extHeader 0x03 0x170), (0x170, extHeader 0x18 0x178),
   (0x178, extHeader 0x1B 0x180), (0x180, extHeader 0x19 0x1B0), (0x1B0, extHeader 0x25 0x1C0),
   (0x1C0, extHeader 0x26 0x1F0), (0x1F0, extHeader 0x2A 0x220), (0x220, extHeader 0x31 0x240),
   (0x240, extHeader 0x27 0x290), (0x290, extHeader 0x15 0x2A0), (0x294, 0x01FFC000),
   (0x2A0, extHeader 0x2E 0x2C0), (0x2C0, extHeader 0x0B 0), (0x2C4, 0x04010001)]

/-- A dword that PCIe gives and the spec does not. -/
def cfgOpen (p off : Nat) : Nat :=
  (List.range 4).foldl (fun (n : Nat) k => n + 256 ^ k * (Config.configByte p (off + k) % 256)) 0

/-- The aligned dword of configuration space (R317, R318). -/
def cfgRead (s : State) (p off : Nat) : Nat :=
  let h := s.port p
  match off with
  | 0x04 => cfgCommand h
  | 0x10 => h.bar0 % 2 ^ 32 + 4
  | 0x14 => h.bar0 / 2 ^ 32
  | 0x18 => h.bar2 % 2 ^ 32 + 4
  | 0x1C => h.bar2 / 2 ^ 32
  | 0x20 => h.bar4 % 2 ^ 32 + 12
  | 0x24 => h.bar4 / 2 ^ 32
  | 0x44 => if h.d3hot then 3 else 0
  | 0x50 => 0x7011 + 2 ^ 16 * (2047 + 2 ^ 14 * b2n h.functionMask + 2 ^ 15 * b2n h.msixEnable)
  | 0x78 => 2 ^ 4 * b2n h.roEnable + 2 ^ 5 * h.mps + 2 ^ 12 * h.mrrs
  | 0x98 => h.ctoValue + 2 ^ 10 * b2n h.ltrEnable + 2 ^ 12 * b2n h.tag10
  | 0x9C => 2 * (2 ^ h.advertised - 1)
  | 0x164 => s.fuses.serial % 2 ^ 32
  | 0x168 => s.fuses.serial / 2 ^ 32
  | 0x17C => 2 ^ 8 * 20 + 2 ^ 16 * b2n h.pasidEnable
  | 0x298 => 4 + 2 ^ 5 + 2 ^ 8 * (h.bar4Log2 - 20)
  | 0x2CC => readyWord s p
  | _ => if off = 0x2C8 ∨ inRange off 0x2D0 0x30 = true then 0 else match (cfgFixed p).find? fun e => decide (e.1 = off) with
    | some e => e.2
    | none => cfgOpen p off

/-- A dword with the enabled bytes replaced. -/
def mergeBytes (old be new : Nat) : Nat :=
  (List.range 4).foldl (fun (n : Nat) k =>
    n + 256 ^ k * ((if bitOf be k then new else old) / 256 ^ k % 256)) 0

/-- A base address cut to its BAR's size. -/
def cutTo (n v : Nat) : Nat := v / 2 ^ n * 2 ^ n

/-- Command is written: clearing Bus Master Enable makes the driver gone (R345). -/
def cfgCommandWrite (s : State) (p v : Nat) : State :=
  let s1 := s.modPort p fun h => { h with mse := bitOf v 1, bme := bitOf v 2, per := bitOf v 6, serr := bitOf v 8 }
  if (s.port p).bme && !bitOf v 2 then driverGone s1 p else s1

/-- The power state is written (R318, R345): D3hot makes the driver gone; the return to D0 resets configuration space. -/
def powerWrite (s : State) (p v : Nat) : State :=
  let h := s.port p
  if v % 4 = 3 ∧ h.d3hot = false then driverGone (s.modPort p fun h => { h with d3hot := true }) p
  else if v % 4 = 0 ∧ h.d3hot = true then s.modPort p fun h => resetConfig h true
  else s

/-- PASID Enable is written: the instances bound with a PASID lose or regain their driver (R330, R347). -/
def pasidWrite (s : State) (p : Nat) (on : Bool) : State :=
  let mine := (s.insts.keep fun _ i => decide (i.port = p) && i.pasid.isSome).map Prod.fst
  let s1 := s.modPort p fun h => { h with pasidEnable := on }
  if on then
    (if (s.port p).driverPresent then mine.foldl (fun s n => s.modInst n fun i =>
      if i.state = .hostLost then { i with state := .running } else i) s1 else s1)
  else (mine.filter fun n => decide (instState s n = some .running ∨ instState s n = some .resetting)).foldl startReset s1

/-- A dword of configuration space is written (R317, R318). -/
def cfgWrite (s : State) (p off v : Nat) : State :=
  let h := s.port p
  match off with
  | 0x04 => cfgCommandWrite s p v
  | 0x10 => s.modPort p fun h => { h with bar0 := cutTo 22 (setLo h.bar0 v) }
  | 0x14 => s.modPort p fun h => { h with bar0 := setHi h.bar0 v }
  | 0x18 => s.modPort p fun h => { h with bar2 := cutTo 24 (setLo h.bar2 v) }
  | 0x1C => s.modPort p fun h => { h with bar2 := setHi h.bar2 v }
  | 0x20 => s.modPort p fun h => { h with bar4 := cutTo h.bar4Log2 (setLo h.bar4 v) }
  | 0x24 => s.modPort p fun h => { h with bar4 := cutTo h.bar4Log2 (setHi h.bar4 v) }
  | 0x44 => powerWrite s p v
  | 0x50 => flushMsix (s.modPort p fun h => { h with functionMask := bitOf v 30, msixEnable := bitOf v 31 }) p
  | 0x78 =>
    if bitOf v 15 then flr s p
    else s.modPort p fun h => { h with roEnable := bitOf v 4, mps := min (bitsOf v 7 5) 3, mrrs := min (bitsOf v 14 12) 5 }
  | 0x98 => s.modPort p fun h => { h with ctoValue := v % 16, ltrEnable := bitOf v 10, tag10 := bitOf v 12 }
  | 0x17C => if bitOf v 16 = h.pasidEnable then s else pasidWrite s p (bitOf v 16)
  | 0x298 =>
    let n := bitsOf v 13 8
    if h.mse || decide (n < 10 ∨ 20 < n) then s
    else s.modPort p fun h => { h with bar4Log2 := 20 + n, bar4 := cutTo (20 + n) h.bar4 }
  | _ => s

/-- CONFIG_REQUEST: Request Retry Status until the boot ROM runs (R316). -/
def execConfigRequest (port : Fin 2) (write : Bool) (offset : B2) (byteEnables : BitVec 4) (value : B4) (s : State) :
    Host.Outcome State Fault Refusal :=
  let p := port.val
  let off := offset % 4096 / 4 * 4
  .next (if !s.on || (s.port p).perst then s
    else if !s.boot.rom then s.emit (.retry p)
    else if write then reply (cfgWrite s p off (mergeBytes (cfgRead s p off) byteEnables.toNat value)) p []
    else reply s p (le 4 (cfgRead s p off)))

/-! ### BAR4 windows (R327, R328) -/

/-- The fields that R327 refuses. -/
def windowBad (port entry : Nat) (w : WinEntry) (owner perm : Nat) : Bool :=
  decide (2 ≤ port ∨ 256 ≤ entry ∨ 8 ≤ perm) || (ownerOfByte owner).isNone ||
    (w.valid && decide (w.barOffset % 2 ^ 21 ≠ 0 ∨ w.length % 2 ^ 21 ≠ 0 ∨ w.target % 2 ^ 21 ≠ 0 ∨ w.length < 2 ^ 21 ∨
      2 ^ 40 < w.length))

/-- WINDOW_WRITE writes the staged copy. -/
def windowWrite (q : Req) (port entry barOffset length target owner perm : Nat) (_ : Who) (s : State) : Answer :=
  let o := (ownerOfByte owner).getD 16
  let w : WinEntry :=
    { barOffset := barOffset, length := length, target := target, owner := o, read := bitOf perm 0, write := bitOf perm 1
      valid := bitOf perm 2 }
  refuseOr [(q.bodyBad || windowBad port entry w owner perm || (w.valid && !ownerExists s o), INVALID)]
    (.ok (s.modPort port fun h => { h with winStaged := h.winStaged.set entry w }))

def execWindowWrite (q : Req) (port : B1) (entry : B2) (barOffset length target : B8) (owner perm : B1) (s : State) :
    Host.Outcome State Fault Refusal :=
  .next (serve q ⟨0x0309, 48, .operator, none, []⟩ (windowWrite q port entry barOffset length target owner perm) s)

/-- Two valid entries overlap (R327). -/
def windowsOverlap (t : Tbl WinEntry) : Bool :=
  t.any fun j a => t.any fun k b =>
    decide (j < k) && a.valid && b.valid && overlap a.barOffset a.length b.barOffset b.length

/-- WINDOW_COMMIT: no access is under way between two commands, so the staged copy becomes the current one at once and
starts again as it (R273, R274). -/
def windowCommit (q : Req) (port : Nat) (_ : Who) (s : State) : Answer :=
  refuseOr [(q.bodyBad || decide (2 ≤ port) || windowsOverlap (s.port port).winStaged, INVALID)]
    (.ok (s.modPort port fun h => { h with win := h.winStaged }))

def execWindowCommit (q : Req) (port : B1) (s : State) : Host.Outcome State Fault Refusal :=
  .next (serve q ⟨0x030A, 8, .operator, none, []⟩ (windowCommit q port) s)

/-- The entry that maps an offset with the permission, within the BAR's size (R328). -/
def windowAt (h : HostPort) (write : Bool) (off : Nat) : Option WinEntry :=
  (h.win.find? fun e => e.2.valid && (if write then e.2.write else e.2.read) &&
    decide (e.2.barOffset ≤ off ∧ off < e.2.barOffset + e.2.length ∧ off < 2 ^ h.bar4Log2)).map Prod.snd

/-- A range of BAR4 cut at the 2 MiB boundaries where entries meet: (entry, plot-space address, bytes, offset in the
range), or none where a byte is not mapped. -/
def windowPieces (h : HostPort) (write : Bool) (off len : Nat) : Option (List (WinEntry × Nat × Nat × Nat)) :=
  (splitReads (2 ^ 21) off len 0).mapM fun x =>
    (windowAt h write x.1).map fun w => (w, w.target + (x.1 - w.barOffset), x.2.1, x.2.2)

/-- The tag of an access through a window: the entry's owner, or the operator domain where nothing maps (R328). -/
def windowTag (h : HostPort) (write : Bool) (p off : Nat) : Nat :=
  mkTag (((windowAt h write off).map WinEntry.owner).getD 16) (0x402 + p)

/-- A violation through a window. -/
def windowViolation (s : State) (p : Nat) (write : Bool) (off len : Nat) : State :=
  let s1 := violation s off (windowTag (s.port p) write p off) (if write then 2 else 1) len 0xFFF p
  if write then s1 else reply s1 p (zeros len)

/-- What a window read gives: its bytes, or none where a word is poisoned. -/
def windowRead (s : State) (ps : List (WinEntry × Nat × Nat × Nat)) : Option Bytes :=
  (ps.mapM fun (x : WinEntry × Nat × Nat × Nat) => match readPlot s x.1.owner x.2.1 x.2.2.1 with
    | .bytes bs => some bs
    | _ => none).map List.flatten

/-- Some piece fails the plot-space check, or a write touches a guarded range (R188, R223, R428). -/
def windowDenied (s : State) (write : Bool) (ps : List (WinEntry × Nat × Nat × Nat)) : Bool :=
  ps.any fun (x : WinEntry × Nat × Nat × Nat) =>
    !translates s x.1.owner x.2.1 x.2.2.1 || (write && guarded s x.1.owner x.2.1 x.2.2.1)

/-- BAR4_ACCESS (R29, R30, R229, R328). -/
def execBar4Access (port : Fin 2) (write : Bool) (offset : B8) (len : B4) (data : Bytes) (s : State) :
    Host.Outcome State Fault Refusal :=
  let p := port.val
  .next (if !s.on then s
    else match windowPieces (s.port p) write offset len with
      | none => windowViolation s p write offset len
      | some ps =>
        if windowDenied s write ps then
          windowViolation s p write offset len
        else if write then
          ps.foldl (fun s (x : WinEntry × Nat × Nat × Nat) => (writePlot s x.1.owner x.2.1 ((padTo len data).drop x.2.2.2 |>.take x.2.2.1)).2) s
        else match windowRead s ps with
          | some bs => reply s p bs
          | none => (ps.foldl (fun s (x : WinEntry × Nat × Nat × Nat) => countPoison s x.1.owner x.2.1 x.2.2.1 0) s).emit (.replyPoisoned p))

/-! ### Bramble targets (R13, R29) -/

/-- The owner check of a target that holds a partition's data (R13). -/
def mayTouch (tag : Nat) (o : Owner) : Bool := decide (tagOwner tag = some o)

/-- A Bramble read is answered with zeros, a write is dropped (R29). -/
def brViolation (s : State) (tag : Nat) (write : Bool) (addr len kind target accessor : Nat) : State :=
  let s1 := violation s addr tag kind len target accessor
  if write then s1 else s1.emit (.bramble tag (zeros len))

/-- The plot-space address of a byte of a plot, where a slot of its owner is bound to it. -/
def plotSpaceOf (s : State) (n off : Nat) : Option Nat :=
  (s.dram.slots.find? fun e => decide (e.2 = n)).map fun e => e.1 % 1024 * 2 ^ 30 + off

/-- A transaction to stacked memory by DPA (R13, R219, R224, R229, R247). -/
def brDram (s : State) (tag dpa len : Nat) (write : Bool) (data : Bytes) (accessor : Nat) : State :=
  let kind := if write then 2 else 1
  match dpaPlot s dpa with
  | none => brViolation s tag write dpa len kind 0xFFF accessor
  | some (n, off) =>
    let p := plotAt s n
    if !mayTouch tag p.owner || decide (p.state ≠ .assigned ∧ p.state ≠ .lost) || !onePlot off len ||
        (write && ((plotSpaceOf s n off).map fun a => guarded s p.owner a len).getD false) then
      brViolation s tag write dpa len kind 0xFFF accessor
    else if write then (if p.state = .lost ∨ keyHeld s p = false then s else writeDpa s dpa (padTo len data))
    else match (List.range len).find? fun k => wordBad s n (off + k) with
      | some k => (countPoison s p.owner (((plotSpaceOf s n off).getD 0) + k) 1 0).emit (.bramblePoisoned tag)
      | none => s.emit (.bramble tag ((List.range len).map fun k => plotByte s n (off + k)))

/-- A transaction to a Yew SRAM window, which belongs to its group's owner (R13, R92). -/
def brSram (s : State) (tag t addr len : Nat) (write : Bool) (data : Bytes) (accessor : Nat) : State :=
  if !mayTouch tag (s.group (t / 9)).owner || decide (sramSize < addr + len) then
    brViolation s tag write addr len (if write then 2 else 1) (0x480 + t / 9) accessor
  else if write then sramStore s t addr (padTo len data)
  else if sramBad (s.tile t) addr len then s.emit (.bramblePoisoned tag)
  else s.emit (.bramble tag ((s.tile t).sram.readN addr len))

/-- A transaction to the register block of a port's BAR0 (R13, R16, R319, R320). -/
def brRegs (s : State) (tag p off len : Nat) (write : Bool) (data : Bytes) (accessor : Nat) : State :=
  let own := tagPlainPf tag && decide (tag = 0x400 + p) && decide (bar0Region off ≠ .operator)
  if !(own || decide (tagOwner tag = some 16)) then
    brViolation s tag write off len (if write then 6 else 5) 0xFFF accessor
  else if !write then s.emit (.bramble tag (readBar0 s p off len))
  else if accessOk off len then dwords len off (ofLe (padTo len data)) (fun s off v => bar0Write s p off v) s
  else s

/-- The tag may use the host egress of a port for a mailbox's function (R13, R16). -/
def egressOk (s : State) (tag p m : Nat) : Bool :=
  if 0x400 ≤ m then
    decide (m = 0x400 + p) && (if s.boot.opPort = p then decide (tagOwner tag = some 16) else decide (tag = 0x400 + p))
  else ((s.insts.get? m).map fun i => decide (i.port = p) && mayTouch tag i.part).getD false

/-- A transaction to the host egress: a write goes to host memory, a read is requested from it (R329, R330). -/
def brEgress (s : State) (tag p m addr len : Nat) (write : Bool) (data : Bytes) (accessor : Nat) : State :=
  if !egressOk s tag p m then brViolation s tag write addr len (if write then 2 else 1) (0x4E0 + p) accessor
  else if write then hostWrite s p (mbxInst m) addr (padTo len data)
  else requestReads s p (65536 + tag) (mbxInst m) [(addr, len)]

/-- A transaction to a resource with no data of its own to give: its owner, its number, the unit that checks. -/
def brOwned (s : State) (tag : Nat) (o : Option Owner) (n len : Nat) (write : Bool) (target accessor : Nat) (bs : Bytes) :
    State :=
  if (o.map fun o => mayTouch tag o).getD (decide (tagOwner tag = some 16)) then
    (if write then s else s.emit (.bramble tag bs))
  else brViolation s tag write n len (if write then 2 else 1) target accessor

/-- BRAMBLE_TRANSACTION: the target checks the tag before it acts (R13). A key slot gives nobody a bit of a key (R460);
what queue memory holds is not stated, so a permitted read of it gives free bytes. -/
def bramble (s : State) (tag : Nat) (write : Bool) (t : BrTarget) (len : Nat) (data : Bytes) (accessor : Nat) : State :=
  match t with
  | .dram die dpa => brDram s tag (dpa % 2 ^ 39 + 2 ^ 39 * die.val) len write data accessor
  | .sram tile addr => brSram s tag tile.val addr len write data accessor
  | .keySlot k => brOwned s tag ((s.sec.slots.get? k).map KeySlot.owner) k len write 0xFFF accessor (zeros len)
  | .registers port off => brRegs s tag port.val off len write data accessor
  | .queue r =>
    brOwned { s with free := s.free + 1 } tag ((s.pkt.rings.get? r).map PktRing.owner) r len write 0xFFF accessor
      ((List.range len).map fun k => BitVec.ofNat 8 (Config.openResult s.free r k))
  | .zalEgress port => brOwned s tag (some (s.zal port.val).owner) port.val len write (0x410 + port.val) accessor (zeros len)
  | .hostEgress port m addr => brEgress s tag port.val m addr len write data accessor

def execBrambleTransaction (tag : BitVec 17) (write : Bool) (target : BrTarget) (len : B4) (data : Bytes) (accessor : B2)
    (s : State) : Host.Outcome State Fault Refusal :=
  .next (if s.on then bramble s (tagAcrossBridge tag.toNat) write target len data accessor else s)

end Sys2Proof.Machine
end

