-- ==== Sys2Proof/Machine/Acc.lean ====
section
/-! DEFINITION. What an accelerator does on its port: reads, writes, translations, lookups, aborts and answers; and the
operator's and owner's requests over ports, apertures and page tables (08 R263 to R282, 11 R378). -/

namespace Sys2Proof.Machine

/-! ### Apertures (R271 to R274) -/

/-- One copy of the aperture entries. -/
def aperOf (s : State) (copy : Bool) : Tbl Aperture := if copy then s.link.aperB else s.link.aperA
/-- An entry of a copy is written. -/
def setAper (s : State) (copy : Bool) (e : Nat) (a : Aperture) : State :=
  s.modLink fun l => if copy then { l with aperB := l.aperB.set e a } else { l with aperA := l.aperA.set e a }
/-- An entry of a copy is emptied. -/
def eraseAper (s : State) (copy : Bool) (e : Nat) : State :=
  s.modLink fun l => if copy then { l with aperB := l.aperB.erase e } else { l with aperA := l.aperA.erase e }
/-- The entries allotted to a port, rising. -/
def allotted (s : State) (p : Nat) : List Nat := (s.link.allot.keep fun _ q => decide (q = p)).map Prod.fst
/-- The valid entries of a port in a copy. -/
def portApers (s : State) (p : Nat) (copy : Bool) : List Aperture :=
  (allotted s p).filterMap fun e => ((aperOf s copy).get? e).bind fun a => if a.valid then some a else none

/-- The entry's 32 bytes (R271). -/
def parseAper (b : Bytes) : Aperture :=
  { base := fieldAt b 0 8, length := fieldAt b 8 8, target := fieldAt b 16 8, read := bitOf (fieldAt b 24 1) 0,
    write := bitOf (fieldAt b 24 1) 1, valid := bitOf (fieldAt b 24 1) 2 }
/-- An entry that R271 does not admit; the fields of an entry without VALID are not judged. -/
def aperBad (b : Bytes) : Bool :=
  let a := parseAper b
  decide (8 ≤ fieldAt b 24 1 ∨ fieldAt b 25 7 ≠ 0) ||
    (a.valid && decide (a.base % 4096 ≠ 0 ∨ a.target % 4096 ≠ 0 ∨ a.length % 4096 ≠ 0 ∨ a.length < 4096 ∨
      2 ^ 40 < a.length ∨ 2 ^ 64 < a.base + a.length))

/-- The plot-space pieces of a range through a port's entries of one copy (R272): (accelerator address, plot-space
address, bytes), or none where a byte is not mapped with the permission. -/
def mapThrough (as : List Aperture) (write : Bool) : Nat → Nat → Nat → Option (List (Nat × Nat × Nat))
  | 0, _, n => if n = 0 then some [] else none
  | fuel + 1, b, n =>
    if n = 0 then some []
    else match as.find? fun a => (if write then a.write else a.read) && decide (a.base ≤ b ∧ b < a.base + a.length) with
      | none => none
      | some a =>
        let k := min n (a.base + a.length - b)
        (mapThrough as write fuel (b + k) (n - k)).map fun r => (b, a.target + (b - a.base), k) :: r

/-- The pieces of a port's range under a copy. -/
def mapPort (s : State) (p : Nat) (copy write : Bool) (b n : Nat) : Option (List (Nat × Nat × Nat)) :=
  mapThrough (portApers s p copy) write 4097 b n

/-! ### READ and WRITE (R269, R272) -/

/-- A byte read through a port: its value, and whether its word is poisoned. -/
def accByte (s : State) (o : Owner) (a : Nat) : Byte × Bool :=
  match translate s o a with
  | some (n, off) => if wordBad s n off then (0, true) else (plotByte s n off, false)
  | none => (0, false)

/-- The bytes of the pieces, in order. -/
def accBytes (s : State) (o : Owner) (ps : List (Nat × Nat × Nat)) : List (Byte × Bool) :=
  ps.flatMap fun x => (List.range x.2.2).map fun k => accByte s o (x.2.1 + k)

/-- The POISON field of a message: bit k for its 32-byte word k (R267). -/
def poisonMask (a : Nat) (bs : List (Byte × Bool)) : Nat :=
  ((bs.zipIdx a).filter fun c => c.1.2).foldl (fun m c => m ||| 2 ^ (c.2 / 32 - a / 32)) 0

/-- The pieces' plot space all translates (R223). -/
def piecesOk (s : State) (o : Owner) (ps : List (Nat × Nat × Nat)) : Bool := ps.all fun x => translates s o x.2.1 x.2.2

/-- READ_DATA messages, cut at 512-byte-aligned addresses, the last with LAST (R269). -/
def readData (s : State) (p : Nat) (m : ZalReq) (bs : List (Byte × Bool)) : State :=
  let n := (m.addr % 512 + bs.length - 1) / 512 + 1
  (List.range n).foldl (fun s k =>
    let lo := max m.addr ((m.addr / 512 + k) * 512)
    let part := (bs.drop (lo - m.addr)).take ((m.addr / 512 + k + 1) * 512 - lo)
    let mask := poisonMask lo part
    zalReply s p 0x08 m.tag m.gen.toNat (if mask = 0 then dfOK else dfPOISONED) mask lo (decide (k + 1 = n)) (part.map Prod.fst)) s

/-- A violation of an accelerator's access (R29, R269, R272). -/
def accViolation (s : State) (p addr kind len : Nat) (mapped : Bool) : State :=
  violation s addr (zalTag s p) kind len (if mapped then 0xFFF else reqZal p) (0x100 + p)

/-- A READ is served under the copy current at its arrival (R269, R272, R273). -/
def serveRead (s : State) (p : Nat) (m : ZalReq) : State :=
  let o := (s.zal p).owner
  let n := m.aux + 1
  match mapPort s p (s.zal p).copy false m.addr n with
  | none => readData (accViolation s p m.addr 1 n false) p m ((zeros n).map fun b => (b, false))
  | some ps =>
    if !piecesOk s o ps then readData (accViolation s p m.addr 1 n true) p m ((zeros n).map fun b => (b, false))
    else
      let bs := accBytes s o ps
      let s1 := if bs.any Prod.snd then ps.foldl (fun s x => countPoison s o x.2.1 x.2.2 POISONED) s else s
      readData s1 p m bs

/-- READ arrives. -/
def readIn (p : Nat) (m : ZalReq) (s : State) : State :=
  arrive s p 0 0x01 0 m (decide (4096 ≤ m.aux ∨ m.status ≠ 0)) fun s => serveRead s p m
def execRead (port : Fin 8) (m : ZalReq) (s : State) : Host.Outcome State Fault Refusal := .next (readIn port.val m s)

/-- A WRITE takes effect, or is a violation, and is acknowledged (R269). -/
def serveWrite (s : State) (p : Nat) (m : ZalReq) : State :=
  let o := (s.zal p).owner
  let n := m.aux + 1
  let ack (st : Nat) (s : State) : State := zalReply s p 0x09 m.tag m.gen.toNat st 0 0 false []
  match mapPort s p (s.zal p).copy true m.addr n with
  | none => ack dfOK (accViolation s p m.addr 2 n false)
  | some ps =>
    if !piecesOk s o ps || ps.any fun x => guarded s o x.2.1 x.2.2 then ack dfOK (accViolation s p m.addr 2 n true)
    else
      let r := ps.foldl (fun (acc : Nat × State) x =>
        match writePlot acc.2 o x.2.1 (((padTo n m.data).drop (x.1 - m.addr)).take x.2.2) with
        | (.deviceFault, s') => (dfFAULT, s')
        | (_, s') => (acc.1, s')) (dfOK, s)
      ack r.1 r.2

/-- WRITE arrives. -/
def writeIn (p : Nat) (m : ZalReq) (s : State) : State :=
  arrive s p 0 0x02 ((m.aux + 16) / 16) m (decide (512 ≤ m.aux ∨ m.status ≠ 0)) fun s => serveWrite s p m
def execWrite (port : Fin 8) (m : ZalReq) (s : State) : Host.Outcome State Fault Refusal := .next (writeIn port.val m s)

/-! ### Translation (R275 to R279) -/

/-- Page bytes of a SIZE code. -/
def pageBytes (k : Nat) : Nat := if k = 0 then 4096 else if k = 1 then 65536 else 2097152
/-- The entry covers a virtual address of a space. -/
def PageEntry.covers (e : PageEntry) (space va : Nat) : Bool :=
  decide (e.space = space ∧ e.va ≤ va ∧ va < e.va + pageBytes e.size)
/-- The same page. -/
def PageEntry.samePage (e f : PageEntry) : Bool := decide (e.space = f.space ∧ e.va = f.va)

/-- What R277 answers: RESULT and REASON. -/
def judge (s : State) (p : Nat) (e : PageEntry) (write : Bool) : Nat × Nat :=
  if !(if write then e.write else e.read) then (3, 1)
  else if (mapPort s p (s.zal p).copy write e.target (pageBytes e.size)).isNone then (3, 2)
  else (1, 0)

/-- PERM bits of an entry. -/
def PageEntry.perm (e : PageEntry) : Nat := b2n e.read + 2 * b2n e.write

/-- The cell of TRANSLATE_ANSWER (R267). -/
def answerCell (r : Nat × Nat) (e : Option PageEntry) : Bytes :=
  match e with
  | some e => if r.1 = 1 then le 1 1 ++ le 1 0 ++ le 1 e.size ++ le 1 e.perm ++ zeros 4 ++ le 8 e.target
    else le 1 r.1 ++ le 1 r.2 ++ zeros 14
  | none => le 1 r.1 ++ le 1 r.2 ++ zeros 14

/-- An entry enters the port's cache, or is used there: the least recently used one gives way (R278). -/
def useEntry (s : State) (p : Nat) (e : PageEntry) : State :=
  s.modZal p fun z => { z with cache := (e :: z.cache.filter fun f => !e.samePage f).take 32768 }

/-- TRANSLATE walks the table of the port's owner and installs what it finds (R278). -/
def serveTranslate (s : State) (p : Nat) (m : ZalReq) : State :=
  let reply (r : Nat × Nat) (e : Option PageEntry) (s : State) : State :=
    zalReply (s.modZal p fun z => { z with accDone := z.accDone.set m.tag m.gen.toNat }) p 0x0A m.tag m.gen.toNat dfOK 0 0 false
      (answerCell r e)
  if 2 ^ 60 ≤ m.addr then reply (3, 3) none s
  else match (s.link.pages.getD (s.zal p).owner []).find? fun e => e.covers (m.aux / 256) m.addr with
    | none => reply (3, 4) none s
    | some e => reply (judge s p e (bitOf m.aux 0)) (some e) (useEntry s p e)

/-- TRANSLATE arrives. -/
def translateIn (p : Nat) (m : ZalReq) (s : State) : State :=
  arrive s p 0 0x03 0 m (decide (m.aux % 256 ≥ 2 ∨ m.status ≠ 0)) fun s => serveTranslate s p m
def execTranslate (port : Fin 8) (m : ZalReq) (s : State) : Host.Outcome State Fault Refusal := .next (translateIn port.val m s)

/-- The reply slot of R275. -/
def replySlot (r : Nat × Nat) (e : Option PageEntry) (txPos va : Nat) : Bytes :=
  let hit := decide (r.1 = 1)
  let size := if hit then (e.map PageEntry.size).getD 0 else 0
  let target := if hit then (e.map PageEntry.target).getD 0 else 0
  let perm := if hit then (e.map PageEntry.perm).getD 0 else 0
  le 1 2 ++ le 1 r.1 ++ le 1 r.2 ++ le 1 size ++ le 2 txPos ++ zeros 2 ++ le 8 va ++ le 8 target ++ le 1 perm ++ zeros 7

/-- A request slot with a reserved field or KIND that is not zero or known, or VA beyond 60 bits (R277). -/
def slotMalformed (b : Bytes) : Bool :=
  decide (fieldAt b 0 1 ≠ 1 ∨ 2 ≤ fieldAt b 1 1 ∨ fieldAt b 3 5 ≠ 0 ∨ fieldAt b 16 16 ≠ 0 ∨ 2 ^ 60 ≤ fieldAt b 8 8)

/-- The answer to a lookup slot, from the cache as it stands (R276, R277); an empty slot has an empty reply. -/
def lookupSlot (s : State) (p txPos : Nat) (b : Bytes) : State :=
  let va := fieldAt b 8 8
  if (s.zal p).link ≠ .up ∨ fieldAt b 0 1 = 0 then s
  else if slotMalformed b then s.emit (.zalLookup p txPos (replySlot (3, 3) none txPos va))
  else match (s.zal p).cache.find? fun e => e.covers (fieldAt b 2 1) va with
    | none => s.emit (.zalLookup p txPos (replySlot (2, 1) none txPos va))
    | some e =>
      (useEntry s p e).emit (.zalLookup p txPos (replySlot (judge s p e (bitOf (fieldAt b 1 1) 0)) (some e) txPos va))

/-- The answer to the slot of a destroyed flit: MISS, LOST (R276). -/
def lookupLost (s : State) (p txPos : Nat) : State :=
  if (s.zal p).link ≠ .up then s else s.emit (.zalLookup p txPos (replySlot (2, 2) none txPos 0))

def execLookup (port : Fin 8) (txPos : BitVec 12) (slot : Bytes) (s : State) : Host.Outcome State Fault Refusal :=
  .next (lookupSlot s port.val txPos.toNat (padTo 32 slot))

/-! ### DF_SUBMIT, ABORT and answers (R281, R286, R290) -/

/-- DF_SUBMIT waits in its queue while its stream's context is parked (R386). -/
def dfParked (s : State) (p : Nat) (m : ZalReq) : Bool :=
  match s.link.streams.get? m.aux with
  | some st => decide (st.port = some p) && !resident s (cxStream m.aux)
  | none => false

/-- DF_SUBMIT on a stream of the port (R286): another owner's stream is a violation, a stream that is not the port's
an invalid argument. -/
def serveSubmit (s : State) (p : Nat) (m : ZalReq) : State :=
  let reply (st : Nat) (s : State) : State :=
    zalReply (s.modZal p fun z => { z with accDone := z.accDone.set m.tag m.gen.toNat }) p 0x0B m.tag m.gen.toNat st 0 0 false []
  match s.link.streams.get? m.aux with
  | none => reply dfINVALID s
  | some st =>
    if st.owner ≠ (s.zal p).owner then reply dfOK (refViolation s (zalTag s p) 2 m.aux (reqZal p) (0x100 + p))
    else if st.port ≠ some p ∨ st.closing = true then reply dfINVALID s
    else dfBegin (touchCtx s (cxStream m.aux)) m.aux st (padTo 64 m.data) m.tag m.gen.toNat

/-- DF_SUBMIT arrives. -/
def submitIn (p : Nat) (m : ZalReq) (s : State) : State :=
  arrive s p 0 0x04 4 m (decide (m.addr ≠ 0 ∨ m.status ≠ 0)) fun s => serveSubmit s p m
def execDfSubmit (port : Fin 8) (m : ZalReq) (s : State) : Host.Outcome State Fault Refusal :=
  .next (if dfParked s port.val m then touchCtx s (cxStream m.aux) else submitIn port.val m s)

/-- ABORT of a DF_SUBMIT or TRANSLATE of the port (R19, R281). -/
def serveAbort (s : State) (p : Nat) (m : ZalReq) : State :=
  let tag := m.addr % 65536
  let gen := m.addr / 65536
  let reply (st : Nat) (s : State) : State := zalReply s p 0x0C m.tag m.gen.toNat st 0 m.addr false []
  match ((s.zal p).accOut.get? (16 * tag + gen)).bind AccRequest.op with
  | some t => reply dfABORTED (dfStop s t)
  | none => reply (if (s.zal p).accDone.get? tag = some gen then dfALREADY else dfNOSUCH) s

/-- ABORT arrives. -/
def abortIn (p : Nat) (m : ZalReq) (s : State) : State :=
  arrive s p 0 0x05 0 m (decide (m.aux ≠ 0 ∨ m.status ≠ 0 ∨ 2 ^ 20 ≤ m.addr)) fun s => serveAbort s p m
def execAbort (port : Fin 8) (m : ZalReq) (s : State) : Host.Outcome State Fault Refusal := .next (abortIn port.val m s)

/-- A response that no request of the device awaits any longer (R280). -/
def lateResponse (s : State) (p tag : Nat) : State :=
  pumpTx (s.modZal p fun z =>
    { z with lateResponses := sat32 z.lateResponses 1, devOut := match z.devOut.get? tag with
        | some r => if r.timedOut then z.devOut.erase tag else z.devOut
        | none => z.devOut }) p

/-- FLUSH_ACK (R290): the descriptor completes; one whose FLUSH is being aborted waits for the other answer (R21). -/
def serveFlushAck (s : State) (p : Nat) (m : ZalReq) : State :=
  match (s.zal p).devOut.get? m.tag with
  | none => lateResponse s p m.tag
  | some r =>
    if !r.flush || r.timedOut || decide (m.gen.toNat ≠ 0) then lateResponse s p m.tag
    else if r.aborting then
      s.modZal p fun z => { z with devOut := z.devOut.set m.tag { r with answered := true } }
    else
      let s1 := pumpTx (s.modZal p fun z => { z with devOut := z.devOut.erase m.tag }) p
      match (s1.link.runs.get? r.op).map DfRun.stage with
      | some (.flushing st written) => dfEnd s1 r.op st written
      | _ => s1

/-- FLUSH_ACK arrives. -/
def flushAckIn (p : Nat) (m : ZalReq) (s : State) : State :=
  arrive s p 1 0x0D 0 m (decide (m.aux ≠ 0 ∨ m.addr ≠ 0)) fun s => serveFlushAck s p m
def execFlushAck (port : Fin 8) (m : ZalReq) (s : State) : Host.Outcome State Fault Refusal := .next (flushAckIn port.val m s)

/-- ABORT_ANSWER (R281, R21): the tag of the aborted FLUSH is free once both answers have come. -/
def serveAbortAnswer (s : State) (p : Nat) (m : ZalReq) : State :=
  match (s.zal p).devOut.get? m.tag with
  | none => lateResponse s p m.tag
  | some r =>
    if r.flush || r.timedOut || decide (m.gen.toNat ≠ 0) then lateResponse s p m.tag
    else pumpTx (s.modZal p fun z =>
      let d := z.devOut.erase m.tag
      { z with devOut := match d.get? r.op with
          | some f => if m.status ≠ dfALREADY ∨ f.answered = true then d.erase r.op
              else d.set r.op { f with aborting := false }
          | none => d }) p

/-- ABORT_ANSWER arrives. -/
def abortAnswerIn (p : Nat) (m : ZalReq) (s : State) : State :=
  arrive s p 1 0x0C 0 m (decide (m.aux ≠ 0 ∨ 2 ^ 20 ≤ m.addr)) fun s => serveAbortAnswer s p m
def execAbortAnswer (port : Fin 8) (m : ZalReq) (s : State) : Host.Outcome State Fault Refusal := .next (abortAnswerIn port.val m s)

/-- ZAL_REQUEST_TIMEOUT (R280, R290): the request completes with TIMEOUT; its tag waits. -/
def execZalRequestTimeout (port : Fin 8) (tag : B2) (s : State) : Host.Outcome State Fault Refusal :=
  let p := port.val
  .next (match (s.zal p).devOut.get? tag with
    | none => s
    | some r =>
      if r.timedOut || decide (s.lc < r.issued + 1000 * r.timeout) then s
      else
        let s1 := pumpTx (s.modZal p fun z => { z with devOut := z.devOut.set tag { r with timedOut := true } }) p
        if !r.flush || r.aborting then s1
        else match (s1.link.runs.get? r.op).map DfRun.stage with
          | some (.flushing _ written) => dfEnd s1 r.op dfTIMEOUT written
          | _ => s1)

/-- ZAL_TAG_REUSE_EXPIRY (R280): twice the timeout has passed. -/
def execZalTagReuseExpiry (port : Fin 8) (tag : B2) (s : State) : Host.Outcome State Fault Refusal :=
  let p := port.val
  .next (match (s.zal p).devOut.get? tag with
    | none => s
    | some r =>
      if r.timedOut && decide (r.issued + 2000 * r.timeout ≤ s.lc) then
        pumpTx (s.modZal p fun z => { z with devOut := z.devOut.erase tag }) p
      else s)

/-! ### Requests over ports (R263, R280, R378) -/

/-- A token session verifies through the port (R263, R215). -/
def verifies (y : YewSession) (p : Nat) : Bool := y.params.speculative && decide (y.params.verifier = p)
/-- The port holds a valid aperture entry, a page-table entry, a stream or a token session (R263). -/
def portHolds (s : State) (p : Nat) : Bool :=
  !(portApers s p false).isEmpty || !(portApers s p true).isEmpty ||
    (s.link.pages.any fun _ l => l.any fun e => decide (e.port = p)) ||
    (s.link.streams.any fun _ st => decide (st.port = some p)) ||
    (s.sessions.any fun _ y => verifies y p && decide (y.state ≠ .stopped))

/-- ZAL_PORT_BIND (R263). -/
def zalPortBind (q : Req) (port owner : Nat) (w : Who) (s : State) : Answer :=
  refuseOr [(q.bodyBad || decide (8 ≤ port) || ownerBad s w owner, INVALID), (portHolds s port, IN_USE)]
    (.ok (s.modZal port fun z =>
      { z with owner := ownerOr w owner, cache := if z.owner = ownerOr w owner then z.cache else [] }))

def execZalPortBind (q : Req) (port owner : B1) (s : State) : Host.Outcome State Fault Refusal :=
  .next (serve q ⟨0x0601, 8, .operator, none, []⟩ (zalPortBind q port owner) s)

/-- ZAL_TIMEOUT_SET (R280). -/
def zalTimeoutSet (q : Req) (port micros : Nat) (_ : Who) (s : State) : Answer :=
  refuseOr [(q.bodyBad || decide (8 ≤ port ∨ 16000 < micros), INVALID)]
    (.ok (s.modZal port fun z => { z with timeout := if micros = 0 then 100 else micros }))

def execZalTimeoutSet (q : Req) (port : B1) (micros : B4) (s : State) : Host.Outcome State Fault Refusal :=
  .next (serve q ⟨0x0603, 8, .operator, none, []⟩ (zalTimeoutSet q port micros) s)

/-- ZAL_COUNTS_CLEAR (R378). -/
def clearCounts (mask : Nat) (z : ZalPort) : ZalPort :=
  let keep (k v : Nat) : Nat := if bitOf mask k then 0 else v
  { z with
    fecCorrected := keep 0 z.fecCorrected, fecUncorrectable := keep 1 z.fecUncorrectable, crcErrors := keep 2 z.crcErrors
    replays := keep 3 z.replays, retrains := keep 4 z.retrains, lateResponses := keep 5 z.lateResponses
    protocolErrors := keep 6 z.protocolErrors }

def zalCountsClear (q : Req) (port mask : Nat) (_ : Who) (s : State) : Answer :=
  refuseOr [(q.bodyBad || decide (8 ≤ port ∨ 128 ≤ mask), INVALID)] (.ok (s.modZal port (clearCounts mask)))

def execZalCountsClear (q : Req) (port mask : B1) (s : State) : Host.Outcome State Fault Refusal :=
  .next (serve q ⟨0x060A, 8, .operator, none, []⟩ (zalCountsClear q port mask) s)

/-! ### Requests over apertures (R271 to R274, R378) -/

/-- An entry is VALID in either copy. -/
def aperLive (s : State) (e : Nat) : Bool :=
  ((s.link.aperA.get? e).map Aperture.valid).getD false || ((s.link.aperB.get? e).map Aperture.valid).getD false

/-- ZAL_APERTURE_ALLOT (R378): the range replaces the port's allotment. -/
def zalApertureAllot (q : Req) (port first count : Nat) (_ : Who) (s : State) : Answer :=
  let new := (List.range count).map (first + ·)
  let gone := (allotted s port).filter fun e => !new.contains e
  let s1 := gone.foldl (fun s e =>
    (eraseAper (eraseAper s false e) true e).modLink fun l => { l with allot := l.allot.erase e }) s
  refuseOr [(q.bodyBad || decide (8 ≤ port ∨ 4096 ≤ first ∨ 4096 < first + count), INVALID),
    ((new.any fun e => ((s.link.allot.get? e).map fun p => decide (p ≠ port)).getD false) || gone.any (aperLive s), IN_USE)]
    (.ok (new.foldl (fun s e => s.modLink fun l => { l with allot := l.allot.set e port }) s1))

def execZalApertureAllot (q : Req) (port : B1) (first count : B2) (s : State) : Host.Outcome State Fault Refusal :=
  .next (serve q ⟨0x0604, 8, .operator, none, []⟩ (zalApertureAllot q port first count) s)

/-- The sender may act on a port: the operator, or its owner (R365). -/
def portDenied (s : State) (w : Who) (port : Nat) : Bool := decide (port < 8) && !mayActOn w (s.zal port).owner

/-- The staged copy of an entry is written (R273). -/
def stageAper (s : State) (port e : Nat) (b : Bytes) : State := setAper s (!(s.zal port).copy) e (parseAper b)

/-- Two valid staged entries of the port overlap (R273). -/
def stagedOverlap (s : State) (port : Nat) : Bool :=
  let as := portApers s port (!(s.zal port).copy)
  (as.zipIdx).any fun a => (as.drop (a.2 + 1)).any fun b => overlap a.1.base a.1.length b.base b.length

/-- A commit: refused, or the port's current copy flips (R273). -/
def commitAper (s : State) (port : Nat) : Nat × State :=
  if stagedOverlap s port then (INVALID, s)
  else (OK, s.modZal port fun z => { z with copy := !z.copy, oldBusy := true })

/-- A change of the port's apertures must wait: for the refresh, or for earlier ones that wait (R274). -/
def aperHeld (s : State) (port : Nat) : Bool :=
  (s.zal port).oldBusy || s.longOps.any fun _ o => match o.data with | .aperture p _ _ => decide (p = port) | _ => false

/-- ZAL_APERTURE_WRITE (R271, R273, R274). -/
def zalApertureWrite (q : Req) (port e : Nat) (data : Bytes) (w : Who) (s : State) : Answer :=
  let b := padTo 32 data
  refuseOr [(portDenied s w port || decide (port < 8 ∧ e < 4096 ∧ s.link.allot.get? e ≠ some port), DENIED),
    (q.bodyBad || decide (8 ≤ port ∨ 4096 ≤ e) || aperBad b, INVALID)]
    (if aperHeld s port then .later ACCEPTED s (.aperture port e b) else .ok (stageAper s port e b))

def execZalApertureWrite (q : Req) (port : B1) (entry : B2) (data : Bytes) (s : State) : Host.Outcome State Fault Refusal :=
  .next (serve q ⟨0x0605, 48, .opOrTenant, none, []⟩ (zalApertureWrite q port entry data) s)

/-- ZAL_APERTURE_COMMIT (R273, R274). -/
def zalApertureCommit (q : Req) (port : Nat) (w : Who) (s : State) : Answer :=
  refuseOr [(portDenied s w port, DENIED), (q.bodyBad || decide (8 ≤ port), INVALID)]
    (if aperHeld s port then .later ACCEPTED s (.aperture port 0 [])
    else match commitAper s port with
      | (st, s') => if st = OK then .ok s' else .refuse st [])

def execZalApertureCommit (q : Req) (port : B1) (s : State) : Host.Outcome State Fault Refusal :=
  .next (serve q ⟨0x0606, 8, .opOrTenant, none, []⟩ (zalApertureCommit q port) s)

/-- Requests that waited for the refresh are carried out in order; a commit among them makes the later ones wait on. -/
def runHeld (s : State) (port : Nat) : State :=
  s.longOps.foldl (fun s e => match e.2.data with
    | .aperture p k b =>
      if p ≠ port ∨ (s.zal port).oldBusy = true then s
      else if b.isEmpty then (match commitAper s port with | (st, s') => finishOp s' e.1 st [])
      else finishOp (stageAper s port k b) e.1 OK []
    | _ => s) s

/-- APERTURE_STAGED_REFRESH (R274): no request stamped with the old copy remains. -/
def execApertureStagedRefresh (port : Fin 8) (s : State) : Host.Outcome State Fault Refusal :=
  let p := port.val
  .next (let z := s.zal p
    if !z.oldBusy || (z.accOut.any fun _ a => decide (a.copy ≠ z.copy)) then s
    else runHeld (((allotted s p).foldl (fun s e => match (aperOf s z.copy).get? e with
      | some a => setAper s (!z.copy) e a
      | none => eraseAper s (!z.copy) e) s).modZal p fun z => { z with oldBusy := false }) p)

/-! ### Requests over page tables (R278, R279, R378) -/

/-- The 16 bytes of a page-table entry (R278). -/
def parsePage (b : Bytes) (port : Nat) : PageEntry :=
  { va := 4096 * fieldAt b 0 6, space := fieldAt b 6 1, read := bitOf (fieldAt b 7 1) 1, write := bitOf (fieldAt b 7 1) 2,
    size := bitsOf (fieldAt b 7 1) 4 3, target := fieldAt b 8 8, port := port }

/-- An entry that R278 does not admit in an owner's table. -/
def pageBad (l : List PageEntry) (b : Bytes) : Bool :=
  let e := parsePage b 0
  decide (fieldAt b 7 1 % 2 = 0 ∨ 32 ≤ fieldAt b 7 1 ∨ e.size = 3 ∨ e.va % pageBytes e.size ≠ 0 ∨
      e.target % pageBytes e.size ≠ 0) ||
    l.any fun f => decide (f.space = e.space) && overlap e.va (pageBytes e.size) f.va (pageBytes f.size)

/-- Page-table entries of an owner. -/
def pagesHeld (s : State) (o : Owner) : Nat := (s.link.pages.getD o []).length

/-- ZAL_PAGE_MAP (R278). -/
def zalPageMap (q : Req) (port : Nat) (data : Bytes) (w : Who) (s : State) : Answer :=
  let o := (s.zal port).owner
  let b := padTo 16 data
  refuseOr [(portDenied s w port, DENIED), (q.bodyBad || decide (8 ≤ port) || pageBad (s.link.pages.getD o []) b, INVALID),
    (((s.parts.get? o).map fun p => decide (p.pageQuota ≤ pagesHeld s o)).getD false, NO_RESOURCES)]
    (.ok (s.modLink fun l => { l with pages := l.pages.set o (l.pages.getD o [] ++ [parsePage b port]) }))

def execZalPageMap (q : Req) (port : B1) (data : Bytes) (s : State) : Host.Outcome State Fault Refusal :=
  .next (serve q ⟨0x0607, 24, .opOrTenant, none, []⟩ (zalPageMap q port data) s)

/-- ZAL_PAGE_UNMAP (R279): the entry leaves the table and every cache of the owner's ports. -/
def zalPageUnmap (q : Req) (port space va : Nat) (w : Who) (s : State) : Answer :=
  let o := (s.zal port).owner
  refuseOr [(portDenied s w port, DENIED), (q.bodyBad || decide (8 ≤ port), INVALID)]
    (match (s.link.pages.getD o []).find? fun e => e.covers space va with
     | none => .refuse INVALID []
     | some e => .ok (s.modLink fun l => { l with
         pages := l.pages.set o ((l.pages.getD o []).filter fun f => !e.samePage f)
         ports := l.ports.mapV fun _ z =>
           if z.owner = o then { z with cache := z.cache.filter fun f => !e.samePage f } else z }))

def execZalPageUnmap (q : Req) (port space : B1) (va : B8) (s : State) : Host.Outcome State Fault Refusal :=
  .next (serve q ⟨0x0608, 16, .opOrTenant, none, []⟩ (zalPageUnmap q port space va) s)

/-- ZAL_PAGE_QUOTA_SET (R378). -/
def zalPageQuotaSet (q : Req) (part entries : Nat) (_ : Who) (s : State) : Answer :=
  let others := ((s.parts.keep fun p _ => decide (p ≠ part)).map fun e => e.2.pageQuota).foldl (· + ·) 0
  refuseOr [(q.bodyBad || !partExists s part || decide (16777216 < others + entries), INVALID),
    (decide (entries < pagesHeld s part), IN_USE)]
    (.ok { s with parts := s.parts.modify part fun p => { p with pageQuota := entries } })

def execZalPageQuotaSet (q : Req) (part : B1) (entries : B4) (s : State) : Host.Outcome State Fault Refusal :=
  .next (serve q ⟨0x0609, 8, .operator, none, []⟩ (zalPageQuotaSet q part entries) s)

end Sys2Proof.Machine
end

