-- ==== Sys2Proof/Machine/Link.lean ====
section
/-! DEFINITION. ZAL links: training, INIT, lane maps, replay, retrains and going DOWN (08 R251 to R262, R282, 11 R378). -/

namespace Sys2Proof.Machine

/-! ### Lane maps (R260 to R262) -/

/-- A map of 40 bits from the lanes it names, logical lane 0 first. -/
def packMap (l : List Nat) : Nat := ((List.range 10).map fun i => l.getD i 15 * 16 ^ i).foldl (· + ·) 0
/-- The lanes of a mask, rising. -/
def lanesIn (mask : Nat) : List Nat := (List.range 12).filter fun k => mask.testBit k
/-- 10 lanes where 10 are good, otherwise 8; none where fewer are (R259). -/
def chooseMap (good : List Nat) : Option Nat :=
  if 10 ≤ good.length then some (packMap (good.take 10))
  else if 8 ≤ good.length then some (packMap (good.take 8)) else none
/-- The map that replaces lanes which are no longer good: spare lanes first, otherwise 8 lanes (R261). -/
def replaceLanes (map : Nat) (good : List Nat) : Option Nat :=
  let now := mapLanes map
  let spares := good.filter fun l => !now.contains l
  let bad := now.filter fun l => !good.contains l
  if bad.length ≤ spares.length then
    some (packMap (now.map fun l => if good.contains l then l else spares.getD (bad.findIdx fun b => decide (b = l)) 15))
  else chooseMap (((now.filter fun l => good.contains l) ++ spares).take 8)
/-- A map that LANE_MAP may name: 10 or 8 different lanes of the 12. -/
def mapOk (map : Nat) : Bool :=
  let l := mapLanes map
  decide (l.length = 10 ∨ l.length = 8) && l.all (fun k => decide (k < 12)) && decide (l.eraseDups.length = l.length)
/-- Lanes that have not failed in the receive direction. -/
def goodRx (z : ZalPort) : List Nat := (List.range 12).filter fun k => !z.rxFailed.testBit k
/-- A CONTROL record of the device: 1 INIT, 2 LANE_MAP, 3 MAP_SWITCH. -/
def sendControl (s : State) (p op map : Nat) : State :=
  zalSend s p { vc := 4, msg := { op := op, gen := 0, tag := 0, aux := 0, addr := map, data := [] } }
/-- A new map of the receive direction is announced (R260). -/
def announceMap (s : State) (p map : Nat) : State := sendControl (s.modZal p fun z => { z with rxNext := some map }) p 2 map

/-! ### Going DOWN (R282, R215) -/

/-- A descriptor whose destination has gone DOWN ends (R282, R20). -/
def dropRun (s : State) (t : Nat) : State :=
  dfEnd (match s.stor.ops.get? t with | some o => closeIo s t o | none => s) t dfLINKDOWN 0
/-- A port goes DOWN and leaves service (R282). -/
def portDown (s : State) (p : Nat) : State :=
  let s1 := s.modZal p fun z => { z with
    link := .down, inService := false, initSent := false, txWait := [], unacked := [], rxPart := [], devOut := [], accOut := []
    accDone := [], credits := [], granted := [], inGap := false, stuck := 0, rxNext := none, txNext := none }
  let s2 := ((s1.link.runs.keep fun _ r => decide (r.desc.dstPort = p)).map Prod.fst).foldl dropRun s1
  ((s2.sessions.keep fun _ y => verifies y p && decide (y.state = .running ∨ y.state = .idle)).map Prod.fst).foldl verifierLost s2

/-! ### Training and INIT (R251, R262) -/

/-- ZAL_TRAINING_ATTEMPT (R251): once per second, from readiness level Full, unless the operator has disabled the port. -/
def execZalTrainingAttempt (port : Fin 8) (s : State) : Host.Outcome State Fault Refusal :=
  .next (let z := s.zal port.val
    if !s.on || !s.full || !z.enabled || z.inService || decide (z.link = .retraining) || !unitIn s (uZal port.val) ||
        decide (z.lastAttempt ≠ 0 ∧ s.lc < z.lastAttempt + 1000000000) then s
    else s.modZal port.val fun z => { z with link := .training, lastAttempt := s.lc })

/-- ZAL_LINK_UP (R251, R262): training has succeeded on the given maps; the device sends INIT. -/
def execZalLinkUp (port : Fin 8) (rxMap txMap : BitVec 40) (s : State) : Host.Outcome State Fault Refusal :=
  .next (let p := port.val
    if !s.on || decide ((s.zal p).link ≠ .training) || !mapOk rxMap.toNat || !mapOk txMap.toNat then s
    else sendControl (s.modZal p fun z => { z with
      link := .up, rxMap := rxMap.toNat, txMap := txMap.toNat, rxNarrow := narrow rxMap.toNat, txNarrow := narrow txMap.toNat
      rxNext := none, txNext := none, rxSeq := 0, txSeq := 0, accPos := 0, unacked := [], rxPart := [], inGap := false, stuck := 0
      txWait := [], initSent := false, accOut := [], accDone := [], devOut := [] }) p 1 0)

/-- A CONTROL or DATA flit passes FEC and CRC (R258): accepted with the expected SEQ, otherwise discarded, the first of a gap
answered with NAK. -/
def seqIn (s : State) (p seq : Nat) (f : State → State) : State :=
  let z := s.zal p
  if !s.on || decide (z.link ≠ .up) then s
  else if seq = z.rxSeq then f (s.modZal p fun z => { z with rxSeq := (z.rxSeq + 1) % 4096, inGap := false })
  else if z.inGap then s
  else (s.modZal p fun z => { z with inGap := true }).emit (.zalAck p ((z.rxSeq + 4095) % 4096) true)

/-- INIT is taken (R262): the peer's buffers and limit; one that R262 does not admit keeps the port out of service. -/
def initIn (p version req rsp blk tok limit : Nat) (bad : Bool) (s : State) : State :=
  if bad ∨ version ≠ 1 ∨ req < 33 ∨ tok < 33 ∨ rsp < 66 ∨ blk < 66 ∨ limit < 1 ∨ 4096 < limit then zalError s p
  else pumpTx (s.modZal p fun z => { z with
    inService := z.initSent, peerLimit := limit, credits := [(0, req), (1, rsp), (2, blk), (3, tok)]
    granted := [(0, advertised 0), (1, advertised 1), (2, advertised 2), (3, advertised 3)] }) p
def execInit (port : Fin 8) (seq : BitVec 12) (version : B1) (req rsp blk tok limit : B2) (bad : Bool) (s : State) :
    Host.Outcome State Fault Refusal :=
  .next (seqIn s port.val seq.toNat (initIn port.val version req rsp blk tok limit bad))

/-- LANE_MAP of the accelerator (R260): the device's transmit direction changes after its MAP_SWITCH. -/
def laneMapIn (p map : Nat) (bad : Bool) (s : State) : State :=
  if bad ∨ mapOk map = false then zalError s p
  else sendControl (s.modZal p fun z => { z with txNext := some map }) p 3 0
def execLaneMap (port : Fin 8) (seq : BitVec 12) (map : BitVec 40) (bad : Bool) (s : State) : Host.Outcome State Fault Refusal :=
  .next (seqIn s port.val seq.toNat (laneMapIn port.val map.toNat bad))

/-- MAP_SWITCH (R260): the device decodes on the map it announced from the next flit on. -/
def mapSwitchIn (p : Nat) (bad : Bool) (s : State) : State :=
  if bad then zalError s p
  else s.modZal p fun z => match z.rxNext with
    | some m => { z with rxMap := m, rxNarrow := narrow m, rxNext := none }
    | none => z
def execMapSwitch (port : Fin 8) (seq : BitVec 12) (bad : Bool) (s : State) : Host.Outcome State Fault Refusal :=
  .next (seqIn s port.val seq.toNat (mapSwitchIn port.val bad))

/-! ### Replay and retrains (R258, R259) -/

/-- Unacknowledged flits are sent again from ACK + 1 (R258); the eighth replay without progress starts a retrain (R259). -/
def replay (s : State) (p : Nat) : State :=
  match (s.zal p).unacked with
  | [] => s
  | q :: _ => (s.modZal p fun z => { z with
      replays := sat32 z.replays 1, stuck := z.stuck + 1, ackAt := s.lc
      link := if 8 ≤ z.stuck + 1 then .retraining else z.link }).emit (.zalReplay p q)
/-- REPLAY_TIMEOUT (R258): ACK has not advanced for 2 µs. -/
def execReplayTimeout (port : Fin 8) (s : State) : Host.Outcome State Fault Refusal :=
  .next (let z := s.zal port.val
    if !s.on || decide (z.link ≠ .up) || decide (s.lc < z.ackAt + 2000) then s else replay s port.val)

/-- Retrains of the last 100 ms, this one among them (R259). -/
def recentRetrains (s : State) (p : Nat) : List Nat :=
  s.lc :: (s.zal p).retrainTimes.filter fun t => decide (s.lc ≤ t + 100000000)
/-- ZAL_RETRAIN (R259): the lanes found good in each direction, and whether the retrain succeeded. -/
def execZalRetrain (port : Fin 8) (rxGood txGood : BitVec 12) (ok : Bool) (s : State) : Host.Outcome State Fault Refusal :=
  .next (let p := port.val
    let z := s.zal p
    if !s.on || decide (z.link ≠ .up ∧ z.link ≠ .retraining) then s
    else
      let s1 := s.modZal p fun z => { z with
        retrains := sat32 z.retrains 1, retrainTimes := recentRetrains s p, rxFailed := 4095 - rxGood.toNat
        txFailed := 4095 - txGood.toNat }
      match chooseMap (lanesIn rxGood.toNat), chooseMap (lanesIn txGood.toNat) with
      | some r, some t =>
        if !ok || decide (3 ≤ (recentRetrains s p).length) then portDown s1 p
        else
          let s2 := s1.modZal p fun z => { z with
            link := .up, rxMap := r, txMap := t, rxNarrow := narrow r, txNarrow := narrow t, rxNext := none, txNext := none
            stuck := 0, inGap := false, ackAt := s.lc }
          let s3 := match z.unacked with | q :: _ => s2.emit (.zalReplay p q) | [] => s2
          pumpTx s3 p
      | _, _ => portDown s1 p)

/-! ### Lane sparing (R260, R261) -/

/-- LANE_PREDICTED_FAILED (R260): the receive direction moves off the lane without loss. -/
def execLanePredictedFailed (port : Fin 8) (lane : Fin 12) (s : State) : Host.Outcome State Fault Refusal :=
  .next (let p := port.val
    if !s.on || decide ((s.zal p).link ≠ .up) || (s.zal p).rxFailed.testBit lane.val then s
    else
      let s1 := s.modZal p fun z => { z with rxFailed := z.rxFailed ||| 2 ^ lane.val }
      let now := ((s.zal p).rxNext).getD (s.zal p).rxMap
      if (mapLanes now).contains lane.val then match replaceLanes now (goodRx (s1.zal p)) with
        | some m => announceMap s1 p m
        | none => s1
      else s1)

/-- A lane joins the spare set; a narrow direction with 10 good lanes widens (R261, R37). -/
def laneBack (s : State) (p lane : Nat) : State :=
  if !(s.zal p).rxFailed.testBit lane then s
  else
    let s1 := s.modZal p fun z => { z with rxFailed := z.rxFailed - 2 ^ lane }
    let good := goodRx (s1.zal p)
    if (s.zal p).link = .up ∧ narrow (((s.zal p).rxNext).getD (s.zal p).rxMap) = true ∧ 10 ≤ good.length then
      announceMap s1 p (packMap (good.take 10))
    else s1
/-- The number of a ZAL lane's recovered clock (R43): 32 + 16 × port + lane. -/
def laneClock (p lane : Nat) : Nat := 32 + 16 * p + lane
/-- LANE_TEST_PASS (R261, R37): a lane whose recovered clock is lost passes no test. -/
def execLaneTestPass (port : Fin 8) (lane : Fin 12) (s : State) : Host.Outcome State Fault Refusal :=
  .next (if !s.on || s.clk.down.contains (laneClock port.val lane.val) then s else laneBack s port.val lane.val)

/-! ### ZAL_PORT_ENABLE (R378) -/

/-- ZAL_PORT_ENABLE's own statement: clearing it takes a port in service DOWN and stops its training. -/
def zalPortEnable (q : Req) (port enable : Nat) (_ : Who) (s : State) : Answer :=
  let s1 := s.modZal port fun z => { z with enabled := decide (enable = 1) }
  refuseOr [(q.bodyBad || decide (8 ≤ port ∨ 2 ≤ enable), INVALID)]
    (.ok (if enable = 1 then s1
      else if (s.zal port).inService then portDown s1 port
      else s1.modZal port fun z => { z with link := .down, txWait := [], unacked := [] }))
def execZalPortEnable (q : Req) (port enable : B1) (s : State) : Host.Outcome State Fault Refusal :=
  .next (serve q ⟨0x0602, 8, .operator, none, []⟩ (zalPortEnable q port enable) s)

end Sys2Proof.Machine
end

