-- ==== Sys2Proof/Machine/Ckp.lean ====
section
/-! DEFINITION. The checkpoint group: its area, shards, generations and their phases, failures and recovery
(09 R294 to R314, 11 R381). -/

namespace Sys2Proof.Machine

/-! ### Layout of the area and of a shard (R295 to R297) -/

/-- 1 MiB, the chunk of R296. -/
def MiB : Nat := 1048576

/-- Stripe width w (R296). -/
def CkpGroup.w (g : CkpGroup) : Nat := min 15 (g.n - 2)
/-- Chunks K of a shard (R295). -/
def CkpGroup.k (g : CkpGroup) : Nat := g.shardMax / MiB
/-- Parity chunks of a parity slot (R295). -/
def CkpGroup.q (g : CkpGroup) : Nat := if g.w = 0 then 0 else ceilDiv g.k g.w
/-- Buddy slots (R295). -/
def CkpGroup.buddies (g : CkpGroup) : Nat := if g.n = 2 then 2 else 1
/-- Where the buddy slot of a generation begins in the area. -/
def CkpGroup.buddyAt (g : CkpGroup) (gen : Nat) : Nat := gen % g.buddies * (g.shardMax + 256)
/-- Where the parity slots begin in the area. -/
def CkpGroup.parityBase (g : CkpGroup) : Nat := g.buddies * (g.shardMax + 256)
/-- Where the parity slot of a generation begins. -/
def CkpGroup.parityAt (g : CkpGroup) (gen : Nat) : Nat := g.parityBase + gen % 2 * (g.q * MiB)
/-- Where the record pages begin. -/
def CkpGroup.pageBase (g : CkpGroup) : Nat := g.parityBase + (if g.w = 0 then 0 else 2 * g.q * MiB + 512)
/-- Where the record page of a generation begins. -/
def CkpGroup.pageAt (g : CkpGroup) (gen : Nat) : Nat := g.pageBase + gen % 2 * 4096
/-- Bytes of the whole area (R295). -/
def CkpGroup.areaBytes (g : CkpGroup) : Nat := g.pageBase + 8192
/-- Where the own slot of a generation begins in the job partition's plot space. -/
def CkpGroup.ownAt (g : CkpGroup) (gen : Nat) : Nat := if gen % 2 = 0 then g.own0 else g.own1

/-- The parity holder of chunk `c` of member `i` (R296). -/
def CkpGroup.parityHolder (g : CkpGroup) (i c : Nat) : Nat := (i + 2 + c % g.w) % g.n
/-- The buddy holder of a member (R294). -/
def CkpGroup.buddyHolder (g : CkpGroup) (i : Nat) : Nat := (i + 1) % g.n
/-- The coordinator: the lowest-numbered member in service. -/
def CkpGroup.coordinator (g : CkpGroup) : Nat := g.inService.foldl min 0xFF
/-- This member is the coordinator. -/
def CkpGroup.leads (g : CkpGroup) : Bool := decide (g.coordinator = g.member)

/-- Maximum shard (R295). -/
def shardLimit (s : State) : Nat := if s.fuses.lx then 250000000000 else 120000000000

/-- DPA of a byte of the area. -/
def areaDpa (g : CkpGroup) (off : Nat) : Nat := dpaOf (g.areas.getD (off / 2 ^ 30) 0) (off % 2 ^ 30)
/-- The byte of the area reads as poisoned. -/
def areaBad (s : State) (g : CkpGroup) (off : Nat) : Bool := wordBad s (g.areas.getD (off / 2 ^ 30) 0) (off % 2 ^ 30)
/-- Bytes of the area, or none where one reads as poisoned. -/
def areaRead (s : State) (g : CkpGroup) (off len : Nat) : Option Bytes :=
  if (List.range len).any fun k => areaBad s g (off + k) then none
  else some ((List.range len).map fun k => plotByte s (g.areas.getD ((off + k) / 2 ^ 30) 0) ((off + k) % 2 ^ 30))
/-- Bytes are written to the area, plot by plot; a lost plot takes none. -/
def areaWrite (s : State) (g : CkpGroup) (off : Nat) (data : Bytes) : State :=
  (cutAt1G off data).foldl (fun s c =>
    if (plotAt s (g.areas.getD (c.1 / 2 ^ 30) 0)).state = .lost then s else writeDpa s (areaDpa g c.1) c.2) s
/-- A range of the area is zeroed by FILL (R305). -/
def areaZero (s : State) (g : CkpGroup) (off len : Nat) : State :=
  (slotsOf off len).foldl (fun s k =>
    fillDpa s (areaDpa g (max off (k * 2 ^ 30))) (min (off + len) ((k + 1) * 2 ^ 30) - max off (k * 2 ^ 30)) 0) s
/-- XOR-ACCUMULATE of bytes at a 32-byte-aligned place of the area (R244, R305): a poisoned word stays poisoned. -/
def areaXor (s : State) (g : CkpGroup) (off : Nat) (data : Bytes) : State :=
  (List.range (ceilDiv data.length 32)).foldl (fun s k =>
    match areaRead s g (off + 32 * k) 32 with
    | none => s
    | some old => areaWrite s g (off + 32 * k) ((old.zip (padTo 32 (data.drop (32 * k)))).map fun p => p.1 ^^^ p.2)) s

/-- ZAL ports bound to the job partition, ascending (R297). -/
def ckpPorts (s : State) (g : CkpGroup) : List Nat := (List.range 8).filter fun p => decide ((s.zal p).owner = g.part)
/-- PART_MAX of a port. -/
def CkpGroup.partLimit (g : CkpGroup) (p : Nat) : Nat := g.partMax.getD p 0
/-- Place of a port's part in the own slot: after the PART_MAX of the earlier ports. -/
def CkpGroup.partAt (g : CkpGroup) (gen p : Nat) : Nat := g.ownAt gen + ((List.range p).map g.partLimit).foldl (· + ·) 0
/-- Place of the device-held part in the own slot. -/
def CkpGroup.deviceAt (g : CkpGroup) (gen : Nat) : Nat := g.partAt gen 8
/-- Bytes of a list of ranges. -/
def rangeBytes (l : List (Nat × Nat)) : Nat := l.foldl (fun n r => n + r.2) 0

/-- The parts of a shard as they stand in the own slot: (plot-space address, bytes), in shard order (R297). -/
def shardParts (g : CkpGroup) (gen : Nat) (lens : List Nat) (device : Nat) : List (Nat × Nat) :=
  ((List.range 8).map fun p => (g.partAt gen p, lens.getD p 0)) ++ [(g.deviceAt gen, device)]
/-- Lengths of the eight accelerator parts of a generation in progress. -/
def GenRun.lens (r : GenRun) : List Nat := (List.range 8).map fun p => (r.parts.getD p {}).next
/-- Length of the shard. -/
def shardLen (parts : List (Nat × Nat)) : Nat := rangeBytes parts
/-- The pieces of plot space that hold `len` bytes of the shard from `off` (the parts' bytes only). -/
def shardPieces : List (Nat × Nat) → Nat → Nat → List (Nat × Nat)
  | [], _, _ => []
  | (a, n) :: l, off, len =>
    if n ≤ off then shardPieces l (off - n) len
    else if len = 0 then []
    else (a + off, min len (n - off)) :: shardPieces l 0 (len - min len (n - off))

/-- Bytes of several pieces of an owner's plot space, or none where one cannot be read. -/
def piecesRead (s : State) (o : Owner) : List (Nat × Nat) → Option Bytes
  | [] => some []
  | (a, n) :: l => match readPlot s o a n with
    | .bytes bs => (piecesRead s o l).map fun r => bs ++ r
    | _ => none
/-- Poisoned words of the pieces count as read (R231). -/
def piecesCount (s : State) (o : Owner) (ps : List (Nat × Nat)) : State :=
  ps.foldl (fun s p => countPoison s o p.1 p.2 POISONED) s

/-! ### Messages (R298, R303) -/

/-- A posted checkpoint message to an accelerator (R303). -/
def ckpSend (s : State) (p op status aux addr : Nat) (data : Bytes) : State :=
  zalSend s p { vc := 2, msg := { op := op, gen := 0, tag := 0, status := status, aux := aux, addr := addr, data := data } }
/-- The same message to the accelerator of each part. -/
def ckpSendAll (s : State) (g : CkpGroup) (op aux addr : Nat) (data : Bytes) : State :=
  (ckpPorts s g).foldl (fun s p => ckpSend s p op 0 aux addr data) s
/-- A message to every other member in service. -/
def peerAll (s : State) (g : CkpGroup) (kind a b : Nat) : State :=
  (g.inService.filter fun i => decide (i ≠ g.member)).foldl (fun s i => s.emit (.peer i kind a b [])) s

/-- The group key: the job partition's LOADED slot of usage GROUP (R294, R480). -/
def groupKey (s : State) (g : CkpGroup) : Option Bytes :=
  (s.sec.slots.find? fun e => decide (e.2.owner = g.part ∧ e.2.usage = 3 ∧ e.2.state = .loaded)).map fun e => e.2.key

/-- Ciphertext of the 4 KiB data units from a shard offset (R298). -/
def ckpCipher (key : Bytes) (gen member off : Nat) (plain : Bytes) : Bytes :=
  ((chunks 4096 (ceilDiv plain.length 4096) plain).zipIdx (off / 4096)).flatMap fun c =>
    Config.xtsEncrypt key (gen * 2 ^ 64 + member * 2 ^ 56 + c.2) c.1

/-- Ciphertext of chunk `c` of this member's shard: 1 MiB, zeros beyond the shard's end. -/
def ckpChunk (s : State) (g : CkpGroup) (key : Bytes) (gen c : Nat) (parts : List (Nat × Nat)) : Option Bytes :=
  (piecesRead s g.part (shardPieces parts (c * MiB) MiB)).map fun b => ckpCipher key gen g.member (c * MiB) (padTo MiB b)

/-- Every chunk of the shard goes to the member that `dest` names, with its CRC-64 (R305). -/
def sendChunks (s : State) (g : CkpGroup) (r : GenRun) (kind : Nat) (dest : Nat → Nat) : State :=
  let parts := shardParts g r.g r.lens (rangeBytes r.ranges)
  match groupKey s g with
  | none => s
  | some key => (List.range (ceilDiv (shardLen parts) MiB)).foldl (fun s c =>
      match ckpChunk s g key r.g c parts with
      | some d => s.emit (.peer (dest c) kind c (crc64 d) d)
      | none => s) s

/-! ### Events, abandoning and losing (R306, R314, R562) -/

/-- CKP_EVENT (R562). -/
def ckpEvent (s : State) (g : CkpGroup) (gen status kind cause : Nat) : State :=
  sendEvent s (.opAnd g.part) 0x0BF0 (gen % 2 ^ 32) status (kind + 256 * cause)

/-- HOLDOFF runs from the end of a generation that WARNING started (R300). -/
def holdFrom (s : State) (r : GenRun) (g : CkpGroup) : CkpGroup :=
  if r.reason = 3 then { g with lastWarn := some s.lc } else g

/-- The generation in progress is abandoned (R306): every member and accelerator is told. -/
def ckpAbandon (s : State) (cause : Nat) : State :=
  match s.ckp with
  | none => s
  | some g => match g.gen with
    | none => s
    | some r =>
      let s1 := ckpSendAll (if g.leads then peerAll s g 7 r.g cause else s.emit (.peer g.coordinator 7 r.g cause [])) g
        0x1D cause r.g []
      ckpEvent (s1.modCkp fun g => holdFrom s r
        { g with gen := none, abandoned := r.g, abandonCause := cause, lastStatus := ABORTED
                 triggers := g.triggers.filter fun t => decide (t.1 ≠ r.step) }) g r.g ABORTED 2 cause

/-- The long operation that assigned a spare ends. -/
def endSpare (s : State) (status : Nat) : State :=
  finishOps s status fun o => match o.data with | .ckpSpare _ => true | _ => false

/-- Recovery has failed: GROUP_LOST (R313, R314). -/
def ckpLose (s : State) : State :=
  match s.ckp with
  | none => s
  | some g =>
    endSpare (ckpEvent ((ckpAbandon s 1).modCkp fun g =>
      { g with lost := true, restore := none, lastStatus := GROUP_LOST }) g g.committed GROUP_LOST 4 0) GROUP_LOST

/-! ### Starting a generation (R299 to R301) -/

/-- The device-held part is copied into the own slot, with its CRC (R302); what cannot be read arrives poisoned. -/
def copyDevice (s : State) (g : CkpGroup) (r : GenRun) : State :=
  let at_ := g.deviceAt r.g
  match piecesRead s g.part r.ranges with
  | some bs =>
    ((writeRaw s g.part at_ bs).2).modCkp fun g =>
      { g with gen := some { r with snapAt := some s.lc, deviceDone := true, deviceCrc := crc64 bs } }
  | none =>
    let s1 := piecesCount s g.part r.ranges
    (match translate s1 g.part at_ with
      | some (n, off) => poisonWord s1 (dpaOf n off)
      | none => s1).modCkp fun g => { g with gen := some { r with snapAt := some s.lc, deviceDone := true } }

/-- The member takes its snapshot (R302). -/
def takeSnapshot (s : State) : State :=
  match s.ckp with
  | none => s
  | some g => match g.gen with
    | none => s
    | some r =>
      if r.phase ≠ .capture ∨ r.snapAt.isSome then s
      else
        let s1 := (ckpPorts s g).foldl (fun s p => ckpSend s p 0x18 0 r.reason r.g (le 8 r.step ++ le 8 (g.partLimit p))) s
        (copyDevice s1 g r).modCkp fun g => { g with triggers := g.triggers.filter fun t => decide (t.1 ≠ r.step) }

/-- The group can run generations: formed, not lost, not recovering. -/
def CkpGroup.runs (g : CkpGroup) : Bool :=
  g.formed && !g.standby && !g.lost && g.restore.isNone && g.gen.isNone && decide (g.inService.length = g.n)

/-- BEGIN of a generation on this member; a WARNING generation without a local trigger takes its snapshot at once (R301). -/
def ckpBegin (s : State) (step reason : Nat) : State :=
  match s.ckp with
  | none => s
  | some g =>
    if !g.runs then s
    else
      let s1 := s.modCkp fun g =>
        { g with gen := some { g := g.committed + 1, step := step, reason := reason, began := s.lc, phaseAt := s.lc,
                               ranges := g.ranges } }
      if reason = 3 && !(g.triggers.any fun t => decide (t.1 = step)) then takeSnapshot s1 else s1

/-- The coordinator sends BEGIN to every member and begins (R299). -/
def ckpLead (s : State) (g : CkpGroup) (step reason : Nat) : State :=
  if g.runs then ckpBegin (peerAll s g 1 step reason) step reason else s

/-- A reason to begin arises on this member (R299): on the coordinator it begins, elsewhere it goes to the coordinator. -/
def ckpReason (s : State) (step reason : Nat) : State :=
  match s.ckp with
  | none => s
  | some g =>
    if g.gen.isSome then s
    else if g.leads then ckpLead s g step reason
    else s.emit (.peer g.coordinator 0 step reason [])

/-- A local trigger for STEP at T: pending, or the snapshot point of the generation in progress (R299, R301). -/
def ckpLocal (s : State) (step at_ reason : Nat) : State :=
  match s.ckp with
  | none => s
  | some g => match g.gen with
    | some r =>
      if r.step = step ∧ r.snapAt.isNone ∧ s.lc ≤ r.began + 1000000 * g.captureTimeout then
        s.modCkp fun g => { g with triggers := g.triggers ++ [(step, at_)] }
      else s
    | none => ckpReason (s.modCkp fun g => { g with triggers := g.triggers ++ [(step, at_)] }) step reason

/-- An early warning (R300): nothing while HOLDOFF runs. -/
def ckpWarning (s : State) : State :=
  match s.ckp with
  | none => s
  | some g =>
    if (g.lastWarn.map fun t => decide (s.lc < t + 1000000000 * g.holdoff)).getD false then s
    else ckpReason s (g.committedStep + 1) 3

/-- A THERMAL (0), POWER (1) or ACCELERATOR (2) warning, where it is enabled (R300). -/
def warnSource (s : State) (k : Nat) : State :=
  match s.ckp with
  | none => s
  | some g => if bitOf g.warnFlags k then ckpWarning s else s

/-- CKP_TRIGGER (R299, R381). -/
def ckpTrigger (q : Req) (step at_ : Nat) (w : Who) (s : State) : Answer :=
  match s.ckp with
  | none => refuseOr [(q.bodyBad, INVALID)] (.refuse IN_USE [])
  | some g =>
    refuseOr [(decide (w.owner ≠ g.part), DENIED), (q.bodyBad, INVALID), (g.standby || g.lost || !g.formed, IN_USE)]
      (.ok (ckpLocal s step (if at_ = 0 then s.lc else at_) 1))

def execCkpTrigger (q : Req) (step at_ : B8) (s : State) : Host.Outcome State Fault Refusal :=
  .next (serve q ⟨0x0B04, 16, .tenant, none, []⟩ (ckpTrigger q step at_) s)

/-- SNAPSHOT: a due entry of a checkpoint engine's Launch Table (R299, R55). -/
def execSnapshot (die : Fin 2) (s : State) : Host.Outcome State Fault Refusal :=
  .next (launchRun s (slotKey 3 die.val 0) 0 (fun e => decide (e.action = 1)) fun due e s => ckpLocal s e.arg due 2)

/-- The counts that the windows of R300 compare: stacks, then replays and corrections of each port. -/
def warnCounts (s : State) : Tbl Nat :=
  ((List.range 16).map fun k => (k, (s.stack k).corrected)) ++ ((List.range 8).map fun p => (100 + p, (s.zal p).replays)) ++
    ((List.range 8).map fun p => (200 + p, (s.zal p).fecCorrected))

/-- A measure rose by its threshold within the window (R300); a threshold of 0 disables it. -/
def warnRose (g : CkpGroup) (now : Tbl Nat) : Bool :=
  now.any fun k v =>
    let t := if k < 100 then g.warnMemory else if k < 200 then g.warnReplays else g.warnFec
    decide (t ≠ 0 ∧ t ≤ v - g.window.getD k 0)

/-- WARNING_WINDOW_CHECK: the end of a window, at a whole second of the Launch Counter (R300). -/
def execWarningWindowCheck (s : State) : Host.Outcome State Fault Refusal :=
  .next (match s.ckp with
    | none => s
    | some g =>
      if g.standby || decide (s.lc / 1000000000 ≤ g.windowAt) then s
      else
        let now := warnCounts s
        let s1 := s.modCkp fun g => { g with window := now, windowAt := s.lc / 1000000000 }
        if warnRose g now then ckpWarning s1 else s1)

/-- CKP_WARN of an accelerator of the job partition (R300, R303). -/
def serveCkpWarn (s : State) (p : Nat) : State :=
  match s.ckp with
  | none => s
  | some g => if (s.zal p).owner = g.part then warnSource s 2 else s

/-- CKP_WARN arrives. -/
def warnIn (p : Nat) (m : ZalReq) (s : State) : State :=
  arrive s p 2 0x1F 0 m (decide (m.addr ≠ 0)) fun s => serveCkpWarn s p
/-- What CKP_WARN is on the wire. -/
def warnMsg (code : Nat) : ZalReq :=
  { gen := 0, status := 0, tag := 0, aux := code, addr := 0, cells := 0, data := [], bad := false }

def execCkpWarn (port : Fin 8) (code : B2) (s : State) : Host.Outcome State Fault Refusal :=
  .next (warnIn port.val (warnMsg code) s)

/-- BEGIN as the coordinator sends it (R299): the generation is the one after the last committed. -/
def execBegin (generation step : B8) (reason : B1) (s : State) : Host.Outcome State Fault Refusal :=
  .next (match s.ckp with
    | none => s
    | some g =>
      if generation ≠ g.committed + 1 ∨ reason = 0 ∨ 3 < reason then s
      else if g.leads then ckpLead s g step reason
      else ckpBegin s step reason)

/-! ### Capture (R301 to R304) -/

/-- SNAPSHOT_POINT: the time of a local trigger for the generation's STEP has come (R301, R302). -/
def execSnapshotPoint (s : State) : Host.Outcome State Fault Refusal :=
  .next (match s.ckp with
    | none => s
    | some g => match g.gen with
      | none => s
      | some r => if g.triggers.any fun t => decide (t.1 = r.step ∧ t.2 ≤ s.lc) then takeSnapshot s else s)

/-- CAPTURE_TIMEOUT: some member has no snapshot point in time (R301, R306). -/
def execCaptureTimeout (s : State) : Host.Outcome State Fault Refusal :=
  .next (match s.ckp with
    | none => s
    | some g => match g.gen with
      | none => s
      | some r =>
        if r.phase = .capture ∧ r.reason ≠ 3 ∧ r.began + 1000000 * g.captureTimeout ≤ s.lc then ckpAbandon s 3 else s)

/-- The part of a port that is being captured: the generation and the part, or none (R304). -/
def capturing (s : State) (p : Nat) : Option (CkpGroup × GenRun × CkpPart) :=
  s.ckp.bind fun g => g.gen.bind fun r =>
    let c := r.parts.getD p {}
    if r.phase = .capture ∧ r.snapAt.isSome ∧ (s.zal p).owner = g.part ∧ c.done = false then some (g, r, c) else none

/-- A part's capture changed. -/
def setPart (s : State) (r : GenRun) (p : Nat) (c : CkpPart) : State :=
  s.modCkp fun g => { g with gen := some { r with parts := r.parts.set p c } }

/-- SHARD_WRITE (R304): the bytes go into the own slot, and the stream CRC runs on; the first error stands. -/
def serveShardWrite (s : State) (p : Nat) (m : ZalReq) : State :=
  match capturing s p with
  | none => zalError s p
  | some (g, r, c) =>
    let data := padTo (m.aux + 1) m.data
    if c.error ≠ 0 then s
    else if m.addr ≠ c.next then setPart s r p { c with error := dfINVALID }
    else if g.partLimit p < c.next + data.length then setPart s r p { c with error := dfLENGTH }
    else match writeRaw s g.part (g.partAt r.g p + c.next) data with
      | (.done, s') => setPart s' r p { c with next := c.next + data.length, crc := crc64Run c.crc data }
      | (_, _) => setPart s r p { c with error := dfFAULT }

/-- A posted checkpoint message carries TAG 0, GEN 0 and STATUS 0 (R303). -/
def ckpPosted (m : ZalReq) : Bool := decide (m.tag = 0 ∧ m.gen = 0 ∧ m.status = 0)

/-- SHARD_WRITE arrives. -/
def shardWriteIn (p : Nat) (m : ZalReq) (s : State) : State :=
  arrive s p 2 0x19 ((m.aux + 16) / 16) m (!ckpPosted m || decide (512 ≤ m.aux)) fun s =>
    serveShardWrite s p m
def execShardWrite (port : Fin 8) (m : ZalReq) (s : State) : Host.Outcome State Fault Refusal := .next (shardWriteIn port.val m s)

/-- STATUS of SHARD_CAPTURED (R304). -/
def capturedStatus (c : CkpPart) (m : ZalReq) : Nat :=
  if c.error ≠ 0 then c.error
  else if m.addr ≠ c.next ∨ fieldAt m.data 8 8 ≠ c.crc ^^^ crc64Init then dfINVALID
  else dfOK

/-- SHARD_END of a part being captured (R304). -/
def endCapture (s : State) (p : Nat) (m : ZalReq) (r : GenRun) (c : CkpPart) : State :=
  let st := capturedStatus c m
  let s1 := ckpSend s p 0x1B st 0 r.g []
  if st = dfOK then setPart s1 r p { c with done := true } else ckpAbandon s1 2

/-- The record of the generation that a recovery restores. -/
def CkpGroup.record (g : CkpGroup) : CommitRecord :=
  g.pages.getD (g.committed % 2)
    { g := 0, step := 0, reason := 0, partBytes := [], partCrc := [], deviceBytes := 0, deviceCrc := 0 }

/-- SHARD_END of a part being restored (R313): its CRC is compared with PART_CRC. -/
def endRestore (s : State) (g : CkpGroup) (c : CkpRestore) (p : Nat) (m : ZalReq) : State :=
  if fieldAt m.data 8 8 = g.record.partCrc.getD p 0 then
    s.modCkp fun g => { g with restore := some { c with ended := if c.ended.contains p then c.ended else p :: c.ended } }
  else ckpLose s

/-- SHARD_END (R304, R313). -/
def serveShardEnd (s : State) (p : Nat) (m : ZalReq) : State :=
  match s.ckp.bind fun g => g.restore.map fun c => (g, c) with
  | some (g, c) =>
    if (s.zal p).owner = g.part ∧ fieldAt m.data 0 8 = g.committed then endRestore s g c p m else zalError s p
  | none => match capturing s p with
    | some (_, r, c) => if fieldAt m.data 0 8 = r.g then endCapture s p m r c else zalError s p
    | none => zalError s p

/-- SHARD_END arrives. -/
def shardEndIn (p : Nat) (m : ZalReq) (s : State) : State :=
  arrive s p 2 0x1A 1 m (!ckpPosted m || decide (m.aux ≠ 0)) fun s => serveShardEnd s p m
def execShardEnd (port : Fin 8) (m : ZalReq) (s : State) : Host.Outcome State Fault Refusal := .next (shardEndIn port.val m s)

/-! ### Parity, buddy, verification and commit (R305 to R309) -/

/-- The generation in progress changed. -/
def setGen (s : State) (r : GenRun) : State := s.modCkp fun g => { g with gen := some r }

/-- PARITY_CONTRIBUTION (R305, R296): accumulated into the parity slot of the chunk. -/
def execParityContribution (member : Fin 64) (chunk : B4) (data : Bytes) (crc : B8) (s : State) :
    Host.Outcome State Fault Refusal :=
  let i := member.val
  .next (match s.ckp with
    | none => s
    | some g => match g.gen with
      | none => s
      | some r =>
        if r.phase ≠ .parity ∨ g.w = 0 ∨ g.k ≤ chunk ∨ g.n ≤ i ∨ i = g.member ∨
          g.parityHolder i chunk ≠ g.member ∨ r.contrib.contains (i, chunk) = true then s
        else
          let q := chunk / g.w
          setGen (areaXor s g (g.parityAt r.g + q * MiB) (padTo MiB data))
            { r with contrib := (i, chunk) :: r.contrib, parityCrc := r.parityCrc.set q (r.parityCrc.getD q 0 ^^^ crc) })

/-- BUDDY_CHUNK (R305): written to the buddy slot. -/
def execBuddyChunk (member : Fin 64) (chunk : B4) (data : Bytes) (crc : B8) (s : State) : Host.Outcome State Fault Refusal :=
  .next (match s.ckp with
    | none => s
    | some g => match g.gen with
      | none => s
      | some r =>
        if r.phase ≠ .buddy ∨ g.k ≤ chunk ∨ g.n ≤ member.val ∨ g.buddyHolder member.val ≠ g.member then s
        else setGen (areaWrite s g (g.buddyAt r.g + chunk * MiB) (padTo MiB data))
          { r with buddyCrc := r.buddyCrc.set chunk crc })

/-- Contributions to parity chunk `q` (R307). -/
def contribCount (g : CkpGroup) (r : GenRun) (q : Nat) : Nat := (r.contrib.filter fun c => decide (c.2 / g.w = q)).length

/-- Read-back verification of every chunk that the member holds (R307). -/
def ckpVerified (s : State) (g : CkpGroup) (r : GenRun) : Bool :=
  (r.parts.all fun e => (piecesRead s g.part [(g.partAt r.g e.1, e.2.next)]).map crc64 == some (e.2.crc ^^^ crc64Init)) &&
  ((piecesRead s g.part [(g.deviceAt r.g, rangeBytes r.ranges)]).map crc64 == some r.deviceCrc) &&
  (r.buddyCrc.all fun e => (areaRead s g (g.buddyAt r.g + e.1 * MiB) MiB).map crc64 == some e.2) &&
  (r.parityCrc.all fun e => (areaRead s g (g.parityAt r.g + e.1 * MiB) MiB).map crc64 ==
    some (e.2 ^^^ (if contribCount g r e.1 % 2 = 0 then crc64 (zeros MiB) else 0)))

/-- The commit record of a generation (R308). -/
def commitRecord (r : GenRun) : CommitRecord :=
  { g := r.g, step := r.step, reason := r.reason, partBytes := r.lens, deviceBytes := rangeBytes r.ranges, deviceCrc := r.deviceCrc
    partCrc := (List.range 8).map fun p => match r.parts.get? p with | some c => c.crc ^^^ crc64Init | none => 0
    ranges := r.ranges }

/-- The 256 bytes of a commit record (R308). -/
def recordBytes (s : State) (g : CkpGroup) (r : GenRun) : Bytes :=
  let c := commitRecord r
  let parts := shardParts g r.g r.lens (rangeBytes r.ranges)
  let body := le 4 0x52434B5A ++ le 2 1 ++ le 2 g.member ++ le 2 g.n ++ le 1 g.w ++ le 1 (r.g % 2) ++ zeros 4
    ++ le 8 g.groupId ++ le 8 r.g ++ le 8 r.step ++ le 8 (shardLen parts)
    ++ le 8 (crc64 ((piecesRead s g.part parts).getD [])) ++ le 1 r.reason ++ zeros 7
    ++ c.partBytes.flatMap (le 8) ++ le 8 c.deviceBytes ++ c.partCrc.flatMap (le 8) ++ le 8 c.deviceCrc
    ++ le 8 g.buddyGen ++ le 8 g.q ++ zeros 24
  body ++ le 8 (crc64 body)

/-- COMMIT on this member (R305, R308): the record is written and copied, the accelerators and the job are told. -/
def ckpCommit (s : State) : State :=
  match s.ckp with
  | none => s
  | some g => match g.gen with
    | none => s
    | some r =>
      let b := recordBytes s g r
      let s1 := (areaWrite s g (g.pageAt r.g) b).emit (.peer (g.buddyHolder g.member) 6 r.g 0 b)
      let s2 := if g.w = 0 then s1 else s1.emit (.peer (g.parityHolder g.member 0) 6 r.g 1 b)
      ckpEvent ((ckpSendAll s2 g 0x1C 0 r.g (le 8 r.step ++ zeros 8)).modCkp fun g =>
        { g with pages := g.pages.set (r.g % 2) (commitRecord r), committed := r.g, committedStep := r.step, lastStatus := OK
                 missing := [], gen := some { r with phase := .commit, phaseAt := s.lc } }) g r.g OK 1 0

/-- The next phase opens on this member (R305). -/
def ckpOpen (s : State) (g : CkpGroup) (r : GenRun) : State :=
  let go (ph : CkpPhase) : GenRun := { r with phase := ph, phaseAt := s.lc }
  match r.phase with
  | .capture =>
    let s1 := if g.w = 0 then s else areaZero s g (g.parityAt r.g) (g.q * MiB)
    let s2 := setGen s1 { go .parity with contrib := [], parityCrc := [] }
    if g.w = 0 then s2 else sendChunks s2 g r 3 fun c => g.parityHolder g.member c
  | .parity => sendChunks (setGen s { go .buddy with buddyCrc := [] }) g r 4 fun _ => g.buddyHolder g.member
  | .buddy =>
    let s1 := (setGen s { go .verify with verified := ckpVerified s g r }).modCkp fun g => { g with buddyGen := r.g }
    if ckpVerified s g r then s1
    else ckpAbandon (piecesCount s1 g.part (shardParts g r.g r.lens (rangeBytes r.ranges))) 4
  | .verify => (setGen s (go .prepared)).emit (.peer g.coordinator 2 r.g 5 [])
  | .prepared => if g.leads then ckpCommit (peerAll s g 5 r.g 0) else s
  | .commit => s.modCkp fun g => holdFrom s r { g with gen := none }

/-- This member's work of the phase is done (R305). -/
def phaseOwnDone (s : State) (g : CkpGroup) (r : GenRun) : Bool :=
  match r.phase with
  | .capture => r.deviceDone && (ckpPorts s g).all fun p => (r.parts.getD p {}).done
  | .verify => r.verified
  | _ => true

/-- PHASE_DONE: every member has reported the phase done, and the coordinator opens the next (R305). -/
def execPhaseDone (phase : B1) (s : State) : Host.Outcome State Fault Refusal :=
  .next (match s.ckp with
    | none => s
    | some g => match g.gen with
      | none => s
      | some r =>
        if r.phase.code ≠ phase ∨ phaseOwnDone s g r = false then s
        else ckpOpen (if g.leads && decide (phase < 5) then peerAll s g 2 r.g (phase + 1) else s) g r)

/-- COMMIT as the coordinator decides it (R309). -/
def execCommit (generation : B8) (s : State) : Host.Outcome State Fault Refusal :=
  .next (match s.ckp with
    | none => s
    | some g => match g.gen with
      | none => s
      | some r =>
        if r.g ≠ generation ∨ r.phase ≠ .prepared then s
        else ckpCommit (if g.leads then peerAll s g 5 r.g 0 else s))

/-! ### The group's areas (R295, R381) -/

/-- The `k` lowest FREE plots of a die. -/
def lowestFree (s : State) (die k : Nat) : List Nat :=
  (((List.range (mapLimit s die)).map (plotNo die)).filter fun n => decide ((plotAt s n).state = .free)).take k

/-- The group's plots become DIRTY. -/
def dropAreas (s : State) (g : CkpGroup) : State :=
  g.areas.foldl (fun s n => modPlot s n fun p => { p with state := if p.state = .lost then .lost else .dirty }) s

/-- The group ends on this device. -/
def dropGroup (s : State) (g : CkpGroup) : State := { dropCtx (dropAreas s g) cxCkp with ckp := none }

/-- CKP_GROUP_CREATE operations that wait for their connections, which are up while the Ethernet link is (R381). -/
def ckpLinkUp (s : State) (port : Nat) : State :=
  match s.ckp with
  | none => s
  | some g =>
    if g.port ≠ port ∨ g.formed = true ∨ g.standby = true then s
    else finishOps (s.modCkp fun g => { g with formed := true }) OK fun o => match o.data with
      | .ckpCreate _ => true
      | _ => false

/-- PHASE_TIMEOUT: of a phase, or of the connections of a group being created (R306, R381). -/
def execPhaseTimeout (s : State) : Host.Outcome State Fault Refusal :=
  .next (match s.ckp with
    | none => s
    | some g => match g.gen with
      | some r =>
        if r.phase ≠ .commit ∧ r.phase ≠ .prepared ∧ r.phaseAt + 1000000 * g.phaseTimeout ≤ s.lc then ckpAbandon s 5 else s
      | none =>
        let late (o : LongOp) : Bool := match o.data with
          | .ckpCreate since => decide (since + 1000000 * g.phaseTimeout ≤ s.lc)
          | _ => false
        if s.longOps.any fun _ o => late o then finishOps (dropGroup s g) LINK_DOWN late else s)

/-! ### Failures and recovery (R309 to R314) -/

/-- The parity holders of a member's chunks (R296). -/
def CkpGroup.holders (g : CkpGroup) (j : Nat) : List Nat := (List.range g.w).map fun r => (j + 2 + r) % g.n

/-- One lost member can be recovered: from its buddy copy, or from parity (R296, R311, R314). -/
def CkpGroup.oneOk (g : CkpGroup) (j : Nat) (parity : Bool) : Bool :=
  if parity then decide (1 ≤ g.w) && (g.holders j).all fun p => !g.missing.contains p
  else !g.missing.contains (g.buddyHolder j)

/-- The losses stand in the table of R296 and need nothing that R314 says is missing. -/
def CkpGroup.recoverable (g : CkpGroup) (lost : List Nat) (parity : Bool) : Bool :=
  match lost with
  | [] => true
  | [j] => g.oneOk j parity
  | [j, k] =>
    if parity then false
    else if g.buddyHolder j = k then decide (g.buddyHolder k ≠ j) && g.oneOk k false && g.oneOk j true
    else if g.buddyHolder k = j then g.oneOk j false && g.oneOk k true
    else g.oneOk j false && g.oneOk k false
  | _ => false

/-- This member rolls back to g_c (R313, step 3): its device-held part to its ranges, CKP_START RESTORE to its accelerators. -/
def ckpRollBack (s : State) (member : Nat) : State :=
  match s.ckp with
  | none => s
  | some g =>
    let c := g.record
    let bs := piecesRead s g.part [(g.deviceAt g.committed, c.deviceBytes)]
    let s1 := (c.ranges.foldl (fun (a : Bytes × State) r =>
      (a.1.drop r.2, if bs.isSome then (writeRaw a.2 g.part r.1 (a.1.take r.2)).2 else a.2)) (bs.getD [], s)).2
    ((ckpPorts s1 g).foldl (fun s p =>
      ckpSend s p 0x18 0 0x80 g.committed (le 8 g.committedStep ++ le 8 (c.partBytes.getD p 0))) s1).modCkp fun g =>
        { g with restore := some { member := member, ended := [] } }

/-- What a failed member does to the generation in progress (R311). -/
def failGen (s : State) (g : CkpGroup) : State :=
  match g.gen with
  | none => s
  | some r =>
    match r.phase with
    | .capture | .parity => ckpAbandon s 1
    | .buddy | .verify => (ckpAbandon s 1).modCkp fun g => { g with parityRebuild := g.parityRebuild || decide (3 ≤ g.n) }
    | .prepared | .commit => s

/-- Members that are out of service. -/
def CkpGroup.out (g : CkpGroup) : List Nat := (List.range g.n).filter fun i => !g.inService.contains i

/-- Member `j` has failed (R311, R313, R314). A member other than the coordinator rolls back now, the coordinator once a
spare is assigned. -/
def memberFails (s : State) (j : Nat) : State :=
  match s.ckp with
  | none => s
  | some g =>
    if g.lost || g.standby || !g.inService.contains j then s
    else if j = g.member then
      match g.gen with
      | some r => ckpRollBack (if r.phase = .commit then s else ckpAbandon s 1) j
      | none => ckpRollBack s j
    else
      let s1 := (failGen s g).modCkp fun g =>
        { g with inService := g.inService.filter fun i => decide (i ≠ j), failover := g.failover || decide (g.coordinator = j) }
      match s1.ckp with
      | none => s1
      | some g1 =>
        if !g1.recoverable g1.out g1.parityRebuild then ckpLose s1
        else if g1.leads || g1.gen.isSome then s1
        else ckpRollBack s1 j

/-- MEMBER_FAILURE (R311, R312). -/
def execMemberFailure (member : Fin 64) (s : State) : Host.Outcome State Fault Refusal := .next (memberFails s member.val)

/-- The generation that a failed coordinator left (R309): completed where a member holds its record, otherwise abandoned. -/
def settleGen (s : State) (recordHeld : Bool) : State :=
  match s.ckp.bind CkpGroup.gen with
  | none => s
  | some r =>
    match r.phase with
    | .commit => s
    | .prepared => if recordHeld then ckpCommit s else ckpAbandon s 1
    | _ => ckpAbandon s 1

/-- COORDINATOR_FAILOVER (R309). -/
def execCoordinatorFailover (recordHeld : Bool) (s : State) : Host.Outcome State Fault Refusal :=
  .next (match s.ckp with
    | none => s
    | some g =>
      if g.lost || g.standby then s
      else
        let s1 := if g.failover || g.leads then s else memberFails s g.coordinator
        if ((s1.ckp.map CkpGroup.failover).getD false) then
          (settleGen s1 recordHeld).modCkp fun g => { g with failover := false }
        else s1)

/-- RESTORE_READ (R303, R313): the bytes of the part that g_c holds. -/
def serveRestoreRead (s : State) (p : Nat) (m : ZalReq) : State :=
  let no : State := zalReply s p 0x08 m.tag m.gen.toNat dfINVALID 0 m.addr true []
  match s.ckp with
  | none => no
  | some g =>
    if g.restore.isNone ∨ (s.zal p).owner ≠ g.part ∨ g.record.partBytes.getD p 0 < m.addr + (m.aux + 1) then no
    else
      let a := g.partAt g.committed p + m.addr
      let bs := (List.range (m.aux + 1)).map fun k => accByte s g.part (a + k)
      readData (if bs.any Prod.snd then countPoison s g.part a (m.aux + 1) POISONED else s) p m bs

/-- RESTORE_READ arrives. -/
def restoreReadIn (p : Nat) (m : ZalReq) (s : State) : State :=
  arrive s p 0 0x1E 0 m (decide (4096 ≤ m.aux ∨ m.status ≠ 0)) fun s => serveRestoreRead s p m
def execRestoreRead (port : Fin 8) (m : ZalReq) (s : State) : Host.Outcome State Fault Refusal := .next (restoreReadIn port.val m s)

/-- JOB_RESUME: every accelerator of every member has ended with a matching CRC (R313, step 5). -/
def execJobResume (s : State) : Host.Outcome State Fault Refusal :=
  .next (match s.ckp with
    | none => s
    | some g => match g.restore with
      | none => s
      | some c =>
        if (ckpPorts s g).all c.ended.contains then
          ckpEvent (endSpare (s.modCkp fun g =>
            { g with restore := none, parityRebuild := false, lastStatus := OK
                     inService := if g.inService.contains c.member then g.inService else c.member :: g.inService
                     missing := if c.member = g.member then g.missing else c.member :: g.missing }) OK) g g.committed OK 3 0
        else s)

/-! ### Requests (R381) -/

/-- The group that a body describes; its areas are still to be taken. -/
def groupOf (s : State) (b : CkpGroupBody) (peers maxes : Bytes) (standby : Bool) : CkpGroup :=
  { part := b.part, member := b.member, n := b.n, port := b.port
    captureTimeout := if b.captureTimeout = 0 then 5000 else b.captureTimeout
    groupId := b.groupId, shardMax := b.shardMax
    phaseTimeout := if b.phaseTimeout = 0 then 30000 else b.phaseTimeout
    ownerEntry := b.ownerEntry, egressQueue := b.egressQueue, peers := chunks 48 b.n peers
    partMax := (chunks 8 8 maxes).map ofLe, own0 := b.own0, own1 := b.own1, standby := standby
    formed := decide ((s.eth b.port).link = 2), inService := if standby then [] else List.range b.n
    window := warnCounts s, windowAt := s.lc / 1000000000 }

/-- A body of CKP_GROUP_CREATE or CKP_STANDBY that R295 and R381 do not admit. -/
def groupBad (s : State) (b : CkpGroupBody) (standby : Bool) : Bool :=
  !partExists s b.part || decide (1024 ≤ b.ownerEntry) || decide (b.n < 2 ∨ 64 < b.n ∨ 8 ≤ b.port) ||
    (if standby then decide (b.member ≠ 0xFF) else decide (b.n ≤ b.member)) ||
    decide (b.captureTimeout ≠ 0 ∧ (b.captureTimeout < 10 ∨ 60000 < b.captureTimeout)) ||
    decide (b.phaseTimeout ≠ 0 ∧ (b.phaseTimeout < 100 ∨ 600000 < b.phaseTimeout)) ||
    decide (b.shardMax % MiB ≠ 0 ∨ b.shardMax = 0 ∨ shardLimit s < b.shardMax) ||
    (((s.pkt.owners.get? (1024 * b.port + b.ownerEntry)).map fun e => decide (e.owner ≠ 16)).getD true) ||
    decide (16384 ≤ b.egressQueue) || refBad b.peers (48 * b.n) || refBad b.partMax 64 ||
    !translates s b.part b.own0 b.shardMax || !translates s b.part b.own1 b.shardMax ||
    overlap b.own0 b.shardMax b.own1 b.shardMax

/-- The areas are taken from FREE plots, split equally between the dies (R381). -/
def takeAreas (s : State) (g : CkpGroup) : Option (CkpGroup × State) :=
  let k := ceilDiv (ceilDiv g.areaBytes (2 ^ 30)) 2
  let a := lowestFree s 0 k ++ lowestFree s 1 k
  if a.length < 2 * k then none
  else some ({ g with areas := a }, a.foldl (fun s n =>
    modPlot s n fun p => { p with state := .assigned, owner := 16, slot := none, clear := true }) s)

/-- CKP_GROUP_CREATE and CKP_STANDBY. -/
def ckpCreate (q : Req) (b : CkpGroupBody) (standby : Bool) (w : Who) (s : State) : Answer :=
  let rp := readBuf s w b.peers b.peersHost
  let rm := readBuf s w b.partMax b.partMaxHost
  let g := groupOf s b (bufBytes rp) (bufBytes rm) standby
  refuseOr [(q.bodyBad || groupBad s b standby, INVALID), (!bufOk rp, bufStatus rp), (!bufOk rm, bufStatus rm),
    (decide (b.shardMax < g.partMax.foldl (· + ·) 0), INVALID), (s.ckp.isSome, IN_USE), (!ctxRoom s, NO_RESOURCES)]
    (match takeAreas s g with
     | none => .refuse NO_RESOURCES []
     | some (g1, s1) =>
       let s2 : State := addCtx { s1 with ckp := some g1 } cxCkp g.part 0 true
       if standby then .ok s2 else if g1.formed then .ended s2 OK [] else .later ACCEPTED s2 (.ckpCreate s.lc))

def execCkpGroupCreate (q : Req) (g : CkpGroupBody) (s : State) : Host.Outcome State Fault Refusal :=
  .next (serve q ⟨0x0B01, 80, .operator, some g.peers, []⟩ (ckpCreate q g false) s)

def execCkpStandby (q : Req) (g : CkpGroupBody) (s : State) : Host.Outcome State Fault Refusal :=
  .next (serve q ⟨0x0B08, 80, .operator, some g.peers, []⟩ (ckpCreate q g true) s)

/-- CKP_GROUP_DELETE. -/
def ckpGroupDelete (q : Req) (groupId : Nat) (_ : Who) (s : State) : Answer :=
  match s.ckp with
  | none => .refuse INVALID []
  | some g =>
    refuseOr [(q.bodyBad || decide (g.groupId ≠ groupId), INVALID)]
      (.ended (dropGroup (finishOps (ckpAbandon s 1) ABORTED fun o => match o.data with
        | .ckpCreate _ | .ckpSpare _ => true
        | _ => false) g) OK [])

def execCkpGroupDelete (q : Req) (groupId : B8) (s : State) : Host.Outcome State Fault Refusal :=
  .next (serve q ⟨0x0B02, 8, .operator, none, []⟩ (ckpGroupDelete q groupId) s)

/-- A range that R297 does not admit. -/
def ckpRangeBad (s : State) (part : Nat) (r : Nat × Nat) : Bool :=
  decide (r.1 % 4096 ≠ 0 ∨ r.2 % 4096 ≠ 0 ∨ r.2 = 0) || !translates s part r.1 r.2

/-- CKP_CONFIG (R297). -/
def ckpConfig (q : Req) (count : Nat) (ranges : BufRef) (host : HostData) (w : Who) (s : State) : Answer :=
  match s.ckp with
  | none => refuseOr [(q.bodyBad, INVALID)] (.refuse IN_USE [])
  | some g =>
    let b := if count = 0 then .ok [] else readBuf s w ranges host
    let l := (chunks 16 count (bufBytes b)).map fun c => (fieldAt c 0 8, fieldAt c 8 8)
    refuseOr [(decide (w.owner ≠ g.part), DENIED),
      (q.bodyBad || decide (256 < count) || (decide (count ≠ 0) && refBad ranges (16 * count)), INVALID),
      (!bufOk b, bufStatus b),
      ((l.any (ckpRangeBad s g.part)) || decide (g.shardMax < g.partMax.foldl (· + ·) 0 + rangeBytes l), INVALID)]
      (.ok (s.modCkp fun g => { g with ranges := l }))

def execCkpConfig (q : Req) (count : B2) (ranges : BufRef) (host : HostData) (s : State) : Host.Outcome State Fault Refusal :=
  .next (serve q ⟨0x0B03, 24, .tenant, some ranges, []⟩ (ckpConfig q count ranges host) s)

/-- PHASE of CKP_STATUS. -/
def CkpGroup.phaseCode (g : CkpGroup) : Nat :=
  if g.restore.isSome then 7 else ((g.gen.map fun r => r.phase.code).getD 0)

/-- CKP_STATUS. -/
def ckpStatus (q : Req) (w : Who) (s : State) : Answer :=
  match s.ckp with
  | none => refuseOr [(q.bodyBad, INVALID)] (.done s (zeros 64))
  | some g =>
    refuseOr [(!mayActOn w g.part, DENIED), (q.bodyBad, INVALID)]
      (.done s (le 8 g.groupId ++ le 1 g.member ++ le 1 g.n ++ le 1 g.coordinator ++ le 1 g.phaseCode ++ le 2 g.lastStatus
        ++ zeros 2 ++ le 8 g.committed ++ le 8 g.committedStep ++ le 8 ((g.gen.map GenRun.g).getD 0) ++ le 8 g.abandoned
        ++ le 1 g.abandonCause ++ zeros 7 ++ le 8 (g.inService.foldl (fun m i => m ||| 2 ^ i) 0)))

def execCkpStatus (q : Req) (s : State) : Host.Outcome State Fault Refusal :=
  .next (serve q ⟨0x0B05, 0, .opOrTenant, none, []⟩ (ckpStatus q) s)

/-- The manifest entry of a member (R310). -/
def manifestEntry (member bytes : Nat) (digest : Bytes) : Bytes :=
  le 2 member ++ zeros 6 ++ le 8 bytes ++ padTo 32 digest ++ zeros 16

/-- The manifest (R310): this member's digest is computed; the other members' come from them, and are free values. -/
def manifest (s : State) (g : CkpGroup) (c : CommitRecord) : Bytes × State :=
  let parts := shardParts g c.g c.partBytes c.deviceBytes
  let own := Config.sha256 ((piecesRead s g.part parts).getD [])
  let head := le 4 0x4E414D37 ++ le 2 2 ++ le 2 g.n ++ le 8 g.groupId ++ le 8 c.g ++ le 8 c.step ++ zeros 32
  (List.range g.n).foldl (fun (a : Bytes × State) i =>
    if i = g.member then (a.1 ++ manifestEntry i (shardLen parts) own, a.2)
    else
      let n := a.2.fresh (g.shardMax + 1)
      let d := n.2.draw 32
      (a.1 ++ manifestEntry i n.1 d.1, d.2)) (head, s)

/-- The generation is committed and its slot still holds it (R310). -/
def CkpGroup.holds (g : CkpGroup) (gen : Nat) : Bool :=
  decide (1 ≤ gen ∧ gen ≤ g.committed) && ((g.pages.get? (gen % 2)).map fun c => decide (c.g = gen)).getD false &&
    ((g.gen.map fun r => decide (r.g % 2 ≠ gen % 2 ∨ r.g = gen)).getD true)

/-- CKP_DIGEST (R310): the coordinator writes the manifest; on another member the digest is computed for it. -/
def ckpDigest (q : Req) (generation : Nat) (out : BufRef) (w : Who) (s : State) : Answer :=
  match s.ckp with
  | none => .refuse INVALID []
  | some g =>
    let n := 64 + 64 * g.n
    refuseOr [(decide (w.owner ≠ g.part), DENIED),
      (q.bodyBad || !g.holds generation || decide (out.space ≠ 2 ∨ out.len < n), INVALID)]
      (match g.pages.get? (generation % 2) with
       | none => .refuse INVALID []
       | some c =>
         let m := manifest s g c
         if !g.leads then .ended s OK (le 4 n ++ zeros 4)
         else match writeBuf m.2 w 2 out.addr m.1 with
           | (st, s') => if st = OK then .ended s' OK (le 4 n ++ zeros 4) else .ended s st [])

def execCkpDigest (q : Req) (generation : B8) (out : BufRef) (s : State) : Host.Outcome State Fault Refusal :=
  .next (serve q ⟨0x0B06, 24, .tenant, none, []⟩ (ckpDigest q generation out) s)

/-- What this member sends to a spare that takes index `j` (R313, step 2): its buddy slot of g_c where it is j + 1, or,
where j is rebuilt from parity, its share of j's stripes. -/
def feedSpare (s : State) (g : CkpGroup) (j : Nat) : State :=
  let send (kind : Nat) (l : List (Nat × Nat)) (s : State) : State := l.foldl (fun s e =>
    match areaRead s g e.2 MiB with
    | some d => s.emit (.peer j kind e.1 (crc64 d) d)
    | none => s) s
  if g.parityRebuild then
    send 9 (((List.range g.k).filter fun c => decide (g.parityHolder j c = g.member)).map fun c =>
      (c, g.parityAt g.committed + c / g.w * MiB)) s
  else if g.buddyHolder j = g.member then
    send 8 ((List.range g.k).map fun c => (c, g.buddyAt g.committed + c * MiB)) s
  else s

/-- CKP_SPARE_ASSIGN on the coordinator (R313): the spare takes index j and the member rolls back. -/
def ckpSpareAssign (q : Req) (j : Nat) (peer : Bytes) (_ : Who) (s : State) : Answer :=
  match s.ckp with
  | none => refuseOr [(q.bodyBad, INVALID)] (.refuse IN_USE [])
  | some g =>
    refuseOr [(q.bodyBad || decide (g.n ≤ j), INVALID),
      (g.lost || g.standby || !g.leads || g.inService.contains j || g.restore.isSome || g.gen.isSome, IN_USE)]
      (let s1 := (peerAll s g 11 j 0).modCkp fun g => { g with peers := g.peers.set j (padTo 48 peer) }
       .later ACCEPTED (ckpRollBack (feedSpare s1 g j) j) (.ckpSpare j))

def execCkpSpareAssign (q : Req) (member : B1) (peer : Bytes) (s : State) : Host.Outcome State Fault Refusal :=
  .next (serve q ⟨0x0B07, 56, .operator, none, []⟩ (ckpSpareAssign q member peer) s)

/-- CKP_WARNING_SET (R300). -/
def ckpWarningSet (q : Req) (memory replays fec flags holdoff : Nat) (_ : Who) (s : State) : Answer :=
  refuseOr [(q.bodyBad || decide (8 ≤ flags ∨ holdoff < 1 ∨ 3600 < holdoff), INVALID), (s.ckp.isNone, IN_USE)]
    (.ok (s.modCkp fun g =>
      { g with warnMemory := memory, warnReplays := replays, warnFec := fec, warnFlags := flags, holdoff := holdoff }))

def execCkpWarningSet (q : Req) (memory replays fec : B4) (flags : B1) (holdoff : B4) (s : State) :
    Host.Outcome State Fault Refusal :=
  .next (serve q ⟨0x0B09, 24, .operator, none, []⟩ (ckpWarningSet q memory replays fec flags holdoff) s)

end Sys2Proof.Machine
end

