-- ==== Sys2Proof/Machine/Power.lean ====
section
/-! DEFINITION. The module input, the orderly shutdown, power levels, the power cap, temperature and emergencies
(16 R496 to R508, R515, 06 R200 to R202). -/

namespace Sys2Proof.Machine

/-! ### The orderly shutdown (R505, R515) -/

/-- Of the firmware, what survives rails off and cold reset: the boot flash, the boot pointer and the staging bank (R515). -/
def keptFw (f : Firmware) : Firmware :=
  { staging := match f.staging with
      | .staged i => .staged i
      | _ => .empty
    bank := f.bank
    bootStaged := f.bootStaged
    raiseSvn := f.raiseSvn && f.bootStaged
    pending := f.bootStaged }
/-- Of the power controller, what it senses: it runs from the housekeeping rail. -/
def keptPower (p : Power) : Power :=
  { sense := p.sense, bulk := p.bulk, moduleEn := p.moduleEn, enLowSince := p.enLowSince, thermtrip := p.thermtrip, off := p.off
    volts := p.volts, amps := p.amps, inRangeSince := p.inRangeSince, sensors := p.sensors, tj0 := p.tj0, tj1 := p.tj1 }
/-- Every register and all device state cleared, but for what R515 leaves: fuses, boot flash and pointer, staging bank and fault
log. The management buses' endpoint IDs live on the housekeeping rail. -/
def cleared (s : State) (w : Power) : State :=
  { fuses := s.fuses, faultLog := s.faultLog, fw := keptFw s.fw, power := w, mgmt := { s.mgmt with pldmUpdate := none }
    emitted := s.emitted, free := s.free, time := s.time, pending := s.pending }

/-- The alarm source of a shutdown cause: the input, the root PLL and the trip raise one (R493). -/
def OffCause.alarm : OffCause → Option Nat
  | .input => some 1
  | .root => some 2
  | .trip => some 4
  | _ => none
/-- A number for a shutdown cause. -/
def OffCause.code : OffCause → Nat
  | .never => 0 | .input => 1 | .root => 2 | .trip => 3 | .enable => 4

/-- The orderly shutdown (R505): secrets erased, PWR_GOOD low, ports stopped, the cause in the fault log, rails off. Nothing
completes and nothing is written to a ring. -/
def shutDown (s : State) (c : OffCause) : State :=
  if !s.on then s
  else
    let s1 := match c.alarm with
      | some k => logFault s 0xFFFF 4 (Config.errorCode 0xFFFF 4 k)
      | none => s
    let s2 := logFault s1 0xFFFF 5 (Config.errorCode 0xFFFF 6 c.code)
    let s3 := s2.emitAll ([.signal 1 true] ++ (List.range 4).map (fun k => .signal (3 + k) true)
      ++ (if c = .trip then [.signal 0 true] else []) ++ (if emergency s then [.signal 2 false] else []))
    cleared s3 { keptPower s.power with pwrGood := false, off := c, thermtrip := s.power.thermtrip || decide (c = .trip) }

/-! ### TCLK (R40, R200 to R202, R501, R519) -/

/-- The divider changes: the TCLK cycles of the old one are counted (R519). -/
def setDiv (s : State) (d : Nat) : State :=
  { s with
    clk := { s.clk with tclkDiv := d }
    power := { s.power with tclkCycles := tclkNow s, tclkSince := s.lc, stepAt := none } }

/-- The limits have changed from those of `old`: a planned step down is announced, and a hardware step cancels one that has not
yet changed the divider (R200, R202, R501). -/
def announce (old s : State) : State :=
  let down := decide (hardLevel s ≤ s.clk.tclkDiv ∧ s.clk.tclkDiv < levelInForce s)
  let since := if levelInForce old = levelInForce s then s.power.stepAt.getD s.time else s.time
  { s with power := { s.power with stepAt := if down then some since else none } }

/-- What an emergency step does to a session whose active variant is faster than the new TCLK: a slip while its epoch can still be
abandoned (R201), otherwise the new variant's MARGIN before the next epoch (R202). -/
def slipFast (d : Nat) (s : State) (e : Nat × YewSession) : State :=
  let v := e.2
  if d ≤ v.variant ∨ v.state ≠ .running then s
  else if v.inEpoch ∧ s.lc ≤ v.guard then slipAt s (leadTile s v) slFREQUENCY 0xFF 0 0 0
  else s.modSession e.1 fun y => { y with addMargin := true }

/-- An emergency step takes effect (R40, R201, R202). -/
def emergencyStep (s : State) (d : Nat) : State :=
  let s1 := s.sessions.foldl (slipFast d) (setDiv s d)
  announce s1 { s1 with power := { s1.power with capStepAt := s1.power.capStepAt.map fun _ => s1.time } }

/-- Every session runs on a variant that a planned step to `d` allows; one without an epoch to start switches at once (R200,
R501). -/
def allSwitched (s : State) (d : Nat) : Bool :=
  s.sessions.all fun e => decide (e.2.state ≠ .running ∨ d ≤ e.2.variant)

/-- TCLK_DIVIDER_CHANGE (R40, R200 to R202): an emergency step first, then a step up, then a planned step down once every session
has switched. -/
def execTclkDividerChange (s : State) : Host.Outcome State Fault Refusal :=
  .next (let d := levelInForce s
    if !s.on then s
    else if s.clk.tclkDiv < hardLevel s then emergencyStep s (hardLevel s)
    else if d < s.clk.tclkDiv then setDiv s d
    else if s.clk.tclkDiv < d ∧ allSwitched s d = true then setDiv s d
    else s)

/-- PLANNED_STEP_TIMEOUT (R501): 100 ms after its announcement the device performs the step as an emergency step. -/
def execPlannedStepTimeout (s : State) : Host.Outcome State Fault Refusal :=
  .next (match s.power.stepAt with
    | some t =>
      if s.on && decide (t + 100000000 ≤ s.time) && decide (s.clk.tclkDiv < levelInForce s) then emergencyStep s (levelInForce s)
      else s
    | none => s)

/-! ### The filtered input (R497) -/

/-- The filtered input in mV: the median of the last five voltage samples. -/
def filteredMv (s : State) : Nat := (sortBy id s.power.volts).getD 2 0
/-- Five times the input power in µW. -/
def power5 (s : State) : Nat := ((s.power.volts.zip s.power.amps).map fun x => x.1 * x.2).foldl (· + ·) 0
/-- Input power in W. -/
def inputW (s : State) : Nat := power5 s / 5000000
/-- The filtered input in 0.1 V, for EMERGENCY. -/
def inputDeci (s : State) : Int := Int.ofNat (filteredMv s / 100)

/-- A reading out of range is replaced by the previous sample and recorded in the fault log (R497). -/
def takeSample (s : State) (mv ma : Nat) : State :=
  let s1 := if 70000 < mv then logFault s 0xFFFF 6 (Config.errorCode 0xFFFF 1 0) else s
  let s2 := if 60000 < ma then logFault s1 0xFFFF 6 (Config.errorCode 0xFFFF 1 1) else s1
  let v := if 70000 < mv then s.power.volts.headD 0 else mv
  let a := if 60000 < ma then s.power.amps.headD 0 else ma
  { s2 with power := { s2.power with volts := (v :: s.power.volts).take 5, amps := (a :: s.power.amps).take 5 } }

/-- A condition's start, kept while it holds. -/
def since (s : State) (on : Bool) (old : Option Nat) : Option Nat := if on then some (old.getD s.time) else none

/-- The timers of the input's thresholds (R496, R499, R504). -/
def inputTimers (s : State) : State :=
  let f := filteredMv s
  let p := s.power
  { s with power := { p with
      inRangeSince := since s (p.sense && decide (44000 ≤ f ∧ f ≤ 58000)) p.inRangeSince
      below40Since := since s (s.on && decide (f < 40000)) p.below40Since
      above43Since := since s (decide (43000 ≤ f)) p.above43Since } }

/-- ALERT# is asserted while any emergency stands (R504); when none does any more, FW_ACTIVATE's wait starts (R393). -/
def alertAfter (old s : State) : State :=
  if emergency old = emergency s then s
  else if emergency s then s.emit (.signal 2 true)
  else { s with fw := { s.fw with clearSince := s.lc } }.emit (.signal 2 false)

/-- The power emergency begins at 42 V or below (R504), which is also a warning of the checkpoint group (R300). -/
def powerCheck (s : State) : State :=
  if s.power.powerEmergency || !s.boot.rom || decide (42000 < filteredMv s) then s
  else
    let s1 := { s with power := { s.power with powerEmergency := true } }
    warnSource (announce s (emergencyEvent (alertAfter s s1) 0xFF 1 (inputDeci s))) 1

/-- The power cap's comparator (R502): a step down of one level, and another 20 µs after that has taken effect. -/
def capCheck (s : State) : State :=
  if !s.boot.rom then s
  else
    let p := s.power
    let above := decide (5000000 * p.cap < power5 s)
    let s1 := { s with power := { p with
        capBelowSince := since s (decide (100 * power5 s < 95 * (5000000 * p.cap))) p.capBelowSince
        capOverSince := since s (above && decide (s.clk.tclkDiv = 2)) p.capOverSince
        capUnmet := p.capUnmet && above
        capStepAt := if above then p.capStepAt else none } }
    let due := (p.capStepAt.map fun t => decide (t + 20000 ≤ s.time)).getD true
    if above && decide (s.clk.tclkDiv < 2 ∧ p.capLimit ≤ s.clk.tclkDiv) && due then
      let s2 := { s1 with power := { s1.power with capLimit := s.clk.tclkDiv + 1, capStepAt := some s.time } }
      announce s (emergencyEvent s2 0xFF 7 (Int.ofNat (inputW s)))
    else s1

/-- INPUT_SAMPLE (R496, R497, R502, R504). -/
def execInputSample (mv ma : B4) (s : State) : Host.Outcome State Fault Refusal :=
  .next (let s1 := inputTimers (takeSample s mv ma)
    if !s.on then s1
    else if 60000 < filteredMv s1 then shutDown s1 .input
    else capCheck (powerCheck s1))

/-- INPUT_UNDERVOLTAGE_TIMEOUT (R496): below 40 V for 100 µs. -/
def execInputUndervoltageTimeout (s : State) : Host.Outcome State Fault Refusal :=
  .next (match s.power.below40Since with
    | some t => if decide (t + 100000 ≤ s.time) then shutDown s .input else s
    | none => s)

/-- POWER_EMERGENCY_END (R504): at or above 43 V for 100 ms. -/
def execPowerEmergencyEnd (s : State) : Host.Outcome State Fault Refusal :=
  .next (match s.power.above43Since with
    | some t =>
      if s.on && s.power.powerEmergency && decide (t + 100000000 ≤ s.time) then
        let s1 := { s with power := { s.power with powerEmergency := false } }
        announce s (emergencyEvent (alertAfter s s1) 0xFF 2 (inputDeci s))
      else s
    | none => s)

/-- CAP_LIMIT_RAISE (R502): below 95 % of CAP for 10 ms. -/
def execCapLimitRaise (s : State) : Host.Outcome State Fault Refusal :=
  .next (match s.power.capBelowSince with
    | some t =>
      if s.on && s.boot.rom && decide (0 < s.power.capLimit ∧ t + 10000000 ≤ s.time) then
        let s1 := { s with power := { s.power with capLimit := s.power.capLimit - 1, capBelowSince := some s.time } }
        announce s (emergencyEvent s1 0xFF 8 (Int.ofNat (inputW s)))
      else s
    | none => s)

/-- CAP_UNMET (R502): above CAP for 1 ms at PL2. -/
def execCapUnmet (s : State) : Host.Outcome State Fault Refusal :=
  .next (match s.power.capOverSince with
    | some t =>
      if s.on && !s.power.capUnmet && decide (t + 1000000 ≤ s.time) then
        emergencyEvent { s with power := { s.power with capUnmet := true } } 0xFF 9 (Int.ofNat (inputW s))
      else s
    | none => s)

/-! ### Insertion and enable (R498, R499, R505, R506) -/

/-- SENSE_CONTACTS_MATE (R498): the hot-swap stage charges the bulk capacitance. -/
def execSenseContactsMate (s : State) : Host.Outcome State Fault Refusal :=
  .next (inputTimers { s with power := { s.power with sense := true, bulk := true } })

/-- SENSE_CONTACTS_LOST (R498, R505). -/
def execSenseContactsLost (s : State) : Host.Outcome State Fault Refusal :=
  .next (let s1 := { s with power := { s.power with sense := false, bulk := false, inRangeSince := none } }
    shutDown s1 .input)

/-- MODULE_EN_DEASSERT (R499, R505, R552). -/
def execModuleEnDeassert (s : State) : Host.Outcome State Fault Refusal :=
  .next (if !s.power.moduleEn then s
    else shutDown { s with power := { s.power with moduleEn := false, enLowSince := some s.time } } .enable)

/-- The module may start again (R506): after a root PLL loss or a trip only once MODULE_EN has been low for 10 ms. -/
def mayPowerUp (s : State) : Bool :=
  decide (s.power.off ≠ .root ∧ s.power.thermtrip = false) ||
    (s.power.enLowSince.map fun t => decide (t + 10000000 ≤ s.time)).getD false

/-- MODULE_POWER_GOOD (R499, R506): MODULE_EN is asserted, the input has been in range for 100 ms, and the rails are in
regulation. -/
def execModulePowerGood (s : State) : Host.Outcome State Fault Refusal :=
  .next (match s.power.inRangeSince with
    | some t =>
      if s.on || !s.power.sense || !s.power.bulk || !mayPowerUp s || decide (s.time < t + 100000000) then s
      else
        let p : Power := { s.power with pwrGood := true, moduleEn := true, enLowSince := none, thermtrip := false, off := .never }
        let s1 : State := { s with power := p }
        (if s.power.thermtrip then s1.emit (.signal 0 false) else s1).emit (.signal 1 false)
    | none => s)

/-- COLD_RESET (R42, R46, R515, R518): device state is cleared, the root PLL locks and the Launch Counter starts at zero; the
straps are sampled again. -/
def execColdReset (s : State) : Host.Outcome State Fault Refusal :=
  .next (if !s.on then s
    else
      let s1 := cleared (if emergency s then s.emit (.signal 2 false) else s) (keptPower s.power)
      { s1 with clk := { s1.clk with rootLocked := true } })

/-! ### Temperature (R503) -/

/-- A reading as a signed number of 0.1 °C. -/
def deci (t : BitVec 16) : Int := t.toInt
/-- Two readings differ by more than 10 °C. -/
def apart (a b : Int) : Bool := decide (100 < (a - b).natAbs)
/-- A sensor is excluded (R503). -/
def sensorOut (t a b : Int) : Bool := decide (t < -400 ∨ 1500 < t) || (apart t a && apart t b)
/-- The excluded sensors of a die, bit k for sensor k. -/
def outMask (a b c : Int) : Nat := b2n (sensorOut a b c) + 2 * b2n (sensorOut b a c) + 4 * b2n (sensorOut c a b)
/-- Tj of three readings: their median, or the higher of two with one excluded; with fewer left the spec states none (R503). -/
def voteTj (a b c : Int) (m : Nat) : Option Int :=
  match m with
  | 0 => some (max (min a b) (min (max a b) c))
  | 1 => some (max b c)
  | 2 => some (max a c)
  | 4 => some (max a b)
  | _ => none

/-- Tj of a die. -/
def tjOf (s : State) (die : Nat) : Int := if die = 0 then s.power.tj0 else s.power.tj1
/-- The higher Tj. -/
def hotTj (s : State) : Int := max s.power.tj0 s.power.tj1
/-- The hotter die. -/
def hotDie (s : State) : Nat := if s.power.tj0 < s.power.tj1 then 1 else 0
/-- The die stands in a thermal emergency. -/
def thermalOf (s : State) (die : Nat) : Bool := if die = 0 then s.power.thermal0 else s.power.thermal1
/-- The die's thermal emergency begins or ends. -/
def setThermal (s : State) (die : Nat) (on : Bool) : State :=
  { s with power := if die = 0 then { s.power with thermal0 := on } else { s.power with thermal1 := on } }

/-- The readings of a die are taken: excluded sensors, Tj, and the timers of its thresholds. -/
def takeTj (s : State) (die : Nat) (a b c : Int) : State :=
  let m := outMask a b c
  let v := match voteTj a b c m with
    | some t => (t, s)
    | none => ((BitVec.ofNat 16 (s.fresh 65536).1).toInt, (s.fresh 65536).2)
  let s1 := v.2
  let p := s1.power
  let q := { p with
    sensors := if die = 0 then [a, b, c] ++ p.sensors.drop 3 else p.sensors.take 3 ++ [a, b, c]
    excluded := if die = 0 then m + 8 * (p.excluded / 8) else p.excluded % 8 + 8 * m
    throttleHeld := p.throttleHeld || decide (2 ≤ b2n (bitOf m 0) + b2n (bitOf m 1) + b2n (bitOf m 2))
    tj0 := if die = 0 then v.1 else p.tj0
    tj1 := if die = 1 then v.1 else p.tj1 }
  let s2 := { s1 with power := q }
  let cool := decide (v.1 ≤ 1050)
  { s2 with power := { q with
      below105a := if die = 0 then since s2 cool q.below105a else q.below105a
      below105b := if die = 1 then since s2 cool q.below105b else q.below105b
      throttleAt := if hotTj s2 < 1000 then none else q.throttleAt
      coolSince := since s2 (decide (hotTj s2 ≤ 950)) q.coolSince } }

/-- EMERGENCY for each sensor newly excluded (R507). -/
def reportSensors (old s : State) (die : Nat) : State :=
  ((List.range 3).filter fun k => bitOf s.power.excluded (3 * die + k) && !bitOf old.power.excluded (3 * die + k)).foldl
    (fun s _ => emergencyEvent s die 10 (tjOf s die)) s

/-- EMERGENCY where the throttle's limit begins or ends (R503, R507). -/
def throttleReport (old s : State) (die : Nat) : State :=
  if throttleLimit old = 0 ∧ 0 < throttleLimit s then emergencyEvent s die 5 (tjOf s die)
  else if 0 < throttleLimit old ∧ throttleLimit s = 0 then emergencyEvent s die 6 (tjOf s die)
  else s

/-- The throttle takes a planned step down by one level (R503). -/
def throttleStep (s : State) : State :=
  let s1 := { s with power := { s.power with
      throttle := min 2 (max s.power.throttle (levelInForce s + 1)), throttleAt := some s.time } }
  announce s (throttleReport s s1 (hotDie s))

/-- A thermal emergency begins (R503, R504). -/
def thermalBegins (s : State) (die : Nat) : State :=
  let s1 := setThermal s die true
  announce s (emergencyEvent (alertAfter s s1) die 3 (tjOf s die))

/-- The thresholds of R503, the higher-temperature row first; 100 °C is also a warning of the checkpoint group (R300). -/
def tjCheck (old s : State) (die : Nat) : State :=
  let t := tjOf s die
  if 1200 ≤ t then shutDown s .trip
  else if !s.boot.rom then s
  else
    let s1 := throttleReport old (reportSensors old s die) die
    let s2 := if 1100 ≤ t then (if thermalOf s1 die then s1 else thermalBegins s1 die)
      else if 1000 ≤ hotTj s1 ∧ s1.power.throttleAt.isNone ∧ s1.power.thermal0 = false ∧ s1.power.thermal1 = false then
        throttleStep s1
      else s1
    let s3 := announce old s2
    if tjOf old die < 1000 ∧ 1000 ≤ t then warnSource s3 0 else s3

/-- TJ_SAMPLE (R503, R507). -/
def execTjSample (die : Fin 2) (t0 t1 t2 : BitVec 16) (s : State) : Host.Outcome State Fault Refusal :=
  .next (if !s.on then s else tjCheck s (takeTj s die.val (deci t0) (deci t1) (deci t2)) die.val)

/-- THROTTLE_STEP (R503): every 100 ms while Tj stays at 100 °C or above. -/
def execThrottleStep (s : State) : Host.Outcome State Fault Refusal :=
  .next (match s.power.throttleAt with
    | some t =>
      if s.on && decide (t + 100000000 ≤ s.time ∧ 1000 ≤ hotTj s) && !s.power.thermal0 && !s.power.thermal1 then throttleStep s else s
    | none => s)

/-- THROTTLE_CLEAR (R503): 95 °C or below for 1 s, then one level per second. -/
def execThrottleClear (s : State) : Host.Outcome State Fault Refusal :=
  .next (match s.power.coolSince with
    | some t =>
      if s.on && decide (0 < s.power.throttle ∧ t + 1000000000 ≤ s.time) then
        let s1 := { s with power := { s.power with throttle := s.power.throttle - 1, coolSince := some s.time } }
        announce s (throttleReport s s1 (hotDie s))
      else s
    | none => s)

/-- THERMAL_EMERGENCY_END (R503): 105 °C or below for 1 s; the throttle then holds PL2 by its own rules. -/
def execThermalEmergencyEnd (die : Fin 2) (s : State) : Host.Outcome State Fault Refusal :=
  .next (match if die.val = 0 then s.power.below105a else s.power.below105b with
    | some t =>
      if s.on && thermalOf s die.val && decide (t + 1000000000 ≤ s.time) then
        let s1 := setThermal s die.val false
        let s2 := emergencyEvent (alertAfter s s1) die.val 4 (tjOf s die.val)
        let s3 := { s2 with power := { s2.power with throttle := 2, throttleAt := if 1000 ≤ hotTj s then some s.time else none } }
        announce s (throttleReport s s3 die.val)
      else s
    | none => s)

/-! ### The requests of family 0x0C (R501, R502, R508, R382) -/

/-- A signed 16-bit number, little-endian. -/
def le2i (t : Int) : Bytes := le 2 (t % 65536).toNat
/-- LIMITER: of the sources that set the level, the highest code (R508). -/
def limiter (s : State) : Nat :=
  let d := levelInForce s
  if s.power.powerEmergency then 5
  else if s.power.thermal0 ∨ s.power.thermal1 then 4
  else if 0 < s.power.capLimit ∧ s.power.capLimit = d then 3
  else if 0 < throttleLimit s ∧ throttleLimit s = d then 2
  else 1
/-- The 32-byte body of POWER_QUERY (R508). -/
def powerBody (s : State) : Bytes :=
  let p := s.power
  le 4 (filteredMv s) ++ le 4 (inputW s) ++ le 4 p.cap ++ le 1 p.planned ++ le 1 s.clk.tclkDiv ++ le 1 (limiter s)
    ++ le 1 (b2n p.powerEmergency + 2 * b2n (p.thermal0 || p.thermal1) + 4 * b2n (decide (0 < throttleLimit s)) + 8 * b2n p.capUnmet)
    ++ le2i p.tj0 ++ le2i p.tj1 ++ le 1 p.excluded ++ zeros 11

def powerQuery (q : Req) (_ : Who) (s : State) : Answer := refuseOr [(q.bodyBad, INVALID)] (.done s (powerBody s))
def execPowerQuery (q : Req) (s : State) : Host.Outcome State Fault Refusal :=
  .next (serve q ⟨0x0C01, 0, .any, none, []⟩ (powerQuery q) s)

/-- POWER_LEVEL_SET (R501): committed at once; before FULL it is applied at FULL (R511). -/
def powerLevelSet (q : Req) (level : Nat) (_ : Who) (s : State) : Answer :=
  refuseOr [(q.bodyBad || decide (3 ≤ level), INVALID)]
    (.ok (announce s { s with power := { s.power with planned := level } }))
def execPowerLevelSet (q : Req) (level : B1) (s : State) : Host.Outcome State Fault Refusal :=
  .next (serve q ⟨0x0C02, 8, .operator, none, []⟩ (powerLevelSet q level) s)

/-- POWER_CAP_SET (R502). -/
def powerCapSet (q : Req) (watts : Nat) (_ : Who) (s : State) : Answer :=
  refuseOr [(q.bodyBad || decide (watts ≠ 0 ∧ (watts < 1250 ∨ 1600 < watts)), INVALID)]
    (.ok { s with power := { s.power with cap := if watts = 0 then 1600 else watts } })
def execPowerCapSet (q : Req) (watts : B4) (s : State) : Host.Outcome State Fault Refusal :=
  .next (serve q ⟨0x0C03, 8, .operator, none, []⟩ (powerCapSet q watts) s)

/-- THERMAL_QUERY (R382, R508). -/
def thermalQuery (q : Req) (_ : Who) (s : State) : Answer :=
  refuseOr [(q.bodyBad, INVALID)]
    (.done s ((s.power.sensors.take 6).flatMap le2i ++ le 1 s.power.excluded ++ zeros 3))
def execThermalQuery (q : Req) (s : State) : Host.Outcome State Fault Refusal :=
  .next (serve q ⟨0x0C04, 0, .operator, none, []⟩ (thermalQuery q) s)

end Sys2Proof.Machine
end

