-- ==== Sys2Proof/Machine/Tm.lean ====
section
/-! DEFINITION. The traffic manager: queues, shapers, policers, gates, the choice of the next frame, and their requests
(14 R444 to R458). -/

namespace Sys2Proof.Machine

/-! ### Buckets (R450, R451, R453) -/

/-- Staged values are taken; a newly enabled pair starts full, any other is clipped (R450). -/
def Buckets.take (b : Buckets) : Buckets :=
  match b.staged with
  | none => b
  | some (en, r) =>
    { enable := en, rates := r, staged := none,
      tc := if en && !b.enable then 8 * r.cbs else min b.tc (8 * r.cbs),
      tp := if en && !b.enable then 8 * r.pbs else min b.tp (8 * r.pbs) }
/-- One refill (R450). -/
def Buckets.refill (b : Buckets) : Buckets :=
  let c := b.take
  if c.enable then
    { c with tc := min (c.tc + c.rates.cir) (8 * c.rates.cbs), tp := min (c.tp + c.rates.pir) (8 * c.rates.pbs) }
  else c
/-- ENABLE as last set. -/
def Buckets.set (b : Buckets) : Bool := (b.staged.map Prod.fst).getD b.enable

/-- BUCKET_REFILL (R450): at a multiple of 1,000 ns, once. -/
def execBucketRefill (s : State) : Host.Outcome State Fault Refusal :=
  .next (if !s.on || decide (s.lc % 1000 ≠ 0 ∨ s.pkt.refilledAt = some s.lc) then s
    else s.modPkt fun k => { k with
      refilledAt := some s.lc
      queues := k.queues.mapV fun _ q => { q with shaper := q.shaper.refill }
      policers := k.policers.mapV fun _ p => { p with buckets := p.buckets.refill } })

/-- State of a queue by its shaper (R451). -/
inductive QState
  | committed | excess | stopped
  deriving DecidableEq, Repr

/-- The state of R451. -/
def EgressQueue.state (q : EgressQueue) : QState :=
  let b := q.shaper
  if !b.enable then .excess
  else if b.tp < 0 then .stopped
  else if 0 ≤ b.tc ∧ 0 < b.rates.cir then .committed
  else .excess

/-- Colours of a policer (R453). -/
inductive Colour
  | green | yellow | red
  deriving DecidableEq, Repr

/-- The pre-colour of a frame (R453): a frame without a tag, or not of the form of R416, arrives green. -/
def preColour (p : Policer) (d : Bytes) : Colour :=
  if p.source = 1 then (if tagAt d 12 ∧ frameDei d then .yellow else .green)
  else match formOf d with
    | none => .green
    | some f => if bitOf p.red f.dscp then .red else if bitOf p.yellow f.dscp then .yellow else .green

/-- The colour that a policer gives a frame of `b` bits (R453). -/
def Policer.colour (p : Policer) (d : Bytes) (b : Int) : Colour :=
  let pre := if p.aware then preColour p d else .green
  if !p.buckets.enable then .green
  else if pre = .red ∨ p.buckets.tp < b then .red
  else if pre = .yellow ∨ p.buckets.tc < b then .yellow
  else .green

/-- The policer after a frame of a colour: `b` bits, `n` bytes (R453, R458). -/
def Policer.after (p : Policer) (c : Colour) (b : Int) (n : Nat) : Policer :=
  let k := p.buckets
  match c with
  | .green => { p with
      greenFrames := wrap64 p.greenFrames 1, greenBytes := wrap64 p.greenBytes n
      buckets := if k.enable then { k with tc := k.tc - b, tp := k.tp - b } else k }
  | .yellow => { p with
      yellowFrames := wrap64 p.yellowFrames 1, yellowBytes := wrap64 p.yellowBytes n
      buckets := { k with tp := k.tp - b } }
  | .red => { p with redFrames := wrap64 p.redFrames 1, redBytes := wrap64 p.redBytes n }

/-- A received frame is metered (R444, R453): before STRIP, with its FCS. -/
def police (s : State) (n port : Nat) (d : Bytes) : Colour × State :=
  let b : Int := 8 * counted s port (d.length + 4)
  let c := (s.policer n).colour d b
  (c, s.modPolicer n fun p => p.after c b (d.length + 4))

/-! ### Gates (R454 to R456) -/

/-- The operational bank. -/
def EthPort.gates (e : EthPort) : GateBank := if e.bank = 0 then e.bank0 else e.bank1
/-- A bank. -/
def EthPort.bankOf (e : EthPort) (b : Nat) : GateBank := if b = 0 then e.bank0 else e.bank1
/-- The gates of entry `i`; a bank of no entries keeps all open. -/
def GateBank.gatesAt (b : GateBank) (i : Nat) : Nat := ((b.entries[i]?).map Prod.fst).getD 0xFF
/-- When entry `i`, begun at `a` in the cycle from `c`, ends: cut at the cycle's end, and the last one lasts to it (R455). -/
def GateBank.endOf (b : GateBank) (i a c : Nat) : Nat :=
  if i + 1 < b.entries.length then min (a + ((b.entries[i]?).map Prod.snd).getD 0) (c + b.cycle) else c + b.cycle
/-- The entry after `i` that ends at `e`, with the start of its cycle. -/
def GateBank.after (b : GateBank) (i e c : Nat) : Nat × Nat := if e = c + b.cycle then (0, e) else (i + 1, c)
/-- How long the gate of class `k` stays open from entry `i` on; none where no entry closes it. -/
def GateBank.openUntil (b : GateBank) (k : Nat) : Nat → Nat → Nat → Nat → Option Nat
  | 0, _, _, _ => none
  | fuel + 1, i, a, c =>
    if bitOf (b.gatesAt i) k then
      let e := b.endOf i a c
      b.openUntil k fuel (b.after i e c).1 e (b.after i e c).2
    else some a
/-- The open window of a class in force at a port: its start, and its end or none; none where its gate is closed. -/
def gateWindow (e : EthPort) (k : Nat) : Option (Nat × Option Nat) :=
  let b := e.gates
  if b.entries.isEmpty then some (0, none)
  else if bitOf (b.gatesAt e.gateIndex) k then
    some (e.gateSince.getD k 0, b.openUntil k (2 * b.entries.length + 2) e.gateIndex e.gateAt e.cycleStart)
  else none
/-- ns that a frame takes on a port (R456). -/
def frameTime (s : State) (p : Nat) (f : TxFrame) : Nat := ceilDiv (8 * counted s p f.bytes) (portRate s p)
/-- The gate lets the frame start now (R456). -/
def gateLets (s : State) (p k : Nat) (f : TxFrame) : Bool :=
  match gateWindow (s.eth p) k with
  | none => false
  | some (_, none) => true
  | some (_, some e) => decide (s.lc + frameTime s p f ≤ e)
/-- The frame's time exceeds the whole of the open window in which it waits (R456). -/
def gateTooLong (s : State) (p k : Nat) (f : TxFrame) : Bool :=
  match gateWindow (s.eth p) k with
  | some (a, some e) => decide (e - a < frameTime s p f)
  | _ => false

/-- The gates of a port change from one set to another at a moment: a class that opens begins its window. -/
def openGates (e : EthPort) (old new now : Nat) : EthPort :=
  { e with gateSince := (List.range 8).foldl (fun (t : Tbl Nat) k =>
      if bitOf new k && !bitOf old k then t.set k now else t) e.gateSince }
/-- The gates now open at a port. -/
def EthPort.gatesNow (e : EthPort) : Nat := e.gates.gatesAt e.gateIndex

/-- GATE_ENTRY_CHANGE (R455): the entry in force has ended. -/
def execGateEntryChange (port : Fin 8) (s : State) : Host.Outcome State Fault Refusal :=
  .next (let e := s.eth port.val
    let b := e.gates
    let stop := b.endOf e.gateIndex e.gateAt e.cycleStart
    if !s.on || b.entries.isEmpty || decide (s.lc < stop) then s
    else s.modEth port.val fun e =>
      let n := b.after e.gateIndex stop e.cycleStart
      let e1 := openGates e e.gatesNow (b.gatesAt n.1) stop
      { e1 with gateIndex := n.1, gateAt := stop, cycleStart := n.2 })

/-- The named bank becomes operational, and its cycle 0 starts (R457). -/
def changeBank (s : State) (p bank : Nat) : State :=
  s.modEth p fun e =>
    let e1 := openGates e e.gatesNow ((e.bankOf bank).gatesAt 0) s.lc
    { e1 with bank := bank, cycleStart := s.lc, gateIndex := 0, gateAt := s.lc }

/-- GATE_CHANGEOVER (R457, R61). -/
def execGateChangeover (port : Fin 8) (s : State) : Host.Outcome State Fault Refusal :=
  .next (if !s.on then s
    else launchRun s (slotKey 2 port.val 0) 0 (fun e => decide (e.action = 1)) fun _ e s => changeBank s port.val e.arg)

/-! ### The next frame (R447, R448) -/

/-- Class `k` is paused by PFC frames received (R447). -/
def classPaused (s : State) (p k : Nat) : Bool := decide (s.lc < (s.eth p).paused.getD k 0)

/-- Head frames that no open window of their class can take are dropped (R456). -/
def dropOversize (s : State) (p : Nat) : State :=
  (s.pkt.queues.keep fun _ q => decide (q.port = p)).foldl (fun s e =>
    match e.2.frames with
    | [] => s
    | f :: _ =>
      if gateTooLong s p e.2.cls f then
        originDone ((dequeue s e.1).modEth p fun x => { x with gateOversize := wrap64 x.gateOversize 1 }) f.origin 0x0D
      else s) s

/-- The queues whose head frame may start on a port, with that frame. -/
def startable (s : State) (p : Nat) : List (Nat × EgressQueue × TxFrame) :=
  s.pkt.queues.filterMap fun e =>
    match e.2.frames with
    | [] => none
    | f :: _ =>
      if e.2.port = p ∧ e.2.state ≠ .stopped ∧ classPaused s p e.2.cls = false ∧ gateLets s p e.2.cls f then some (e.1, e.2, f)
      else none

/-- Of two candidates, the one that R447 takes. -/
def earlier (a b : Nat × EgressQueue × TxFrame) : Bool :=
  if a.2.1.cls ≠ b.2.1.cls then decide (b.2.1.cls < a.2.1.cls)
  else if a.2.1.state ≠ b.2.1.state then decide (a.2.1.state = .committed)
  else if a.2.1.ftag ≠ b.2.1.ftag then decide (a.2.1.ftag < b.2.1.ftag)
  else decide (a.1 < b.1)
/-- The candidate that R447 takes. -/
def choose (l : List (Nat × EgressQueue × TxFrame)) : Option (Nat × EgressQueue × TxFrame) :=
  l.foldl (fun (a : Option (Nat × EgressQueue × TxFrame)) x =>
    match a with
    | none => some x
    | some y => if earlier x y then some x else some y) none

/-- A frame is sent (R447, R448, R450): V becomes its tag, the shaper's buckets pay for it. -/
def transmit (s : State) (p n : Nat) (q : EgressQueue) (f : TxFrame) : State :=
  let b : Int := 8 * counted s p f.bytes
  let s1 := s.modEth p fun e => { e with
    vtime := e.vtime.set q.cls q.ftag, busyUntil := s.lc + frameTime s p f
    txFrames := wrap64 e.txFrames 1, txBytes := wrap64 e.txBytes f.bytes }
  let s2 := s1.modQueue n fun q => { q with
    txFrames := wrap64 q.txFrames 1, txBytes := wrap64 q.txBytes f.bytes
    shaper := if q.shaper.enable then { q.shaper with tc := q.shaper.tc - b, tp := q.shaper.tp - b } else q.shaper }
  let s3 := bump (dequeue s2 n) (uEth p) 0x41 1 { tag := some (mkTag q.owner (reqEth p)), tc := some q.cls }
  originDone (s3.emit (.frame p f.data)) f.origin 0

/-- FRAME_TRANSMIT (R447). -/
def execFrameTransmit (port : Fin 8) (s : State) : Host.Outcome State Fault Refusal :=
  .next (if !s.on || decide ((s.eth port.val).link ≠ 2 ∨ s.lc < (s.eth port.val).busyUntil) then s
    else
      let s1 := dropOversize s port.val
      match choose (startable s1 port.val) with
      | none => s1
      | some (n, q, f) => transmit s1 port.val n q f)

/-! ### Requests -/

/-- TM_OVERHEAD_SET (R444). -/
def tmOverheadSet (q : Req) (port overhead : Nat) (_ : Who) (s : State) : Answer :=
  let v : Int := if overhead < 128 then overhead else (overhead : Int) - 256
  refuseOr [(q.bodyBad || decide (8 ≤ port) || decide (v < -32 ∨ 63 < v), INVALID)]
    (.ok (s.modEth port fun e => { e with overhead := v }))

def execTmOverheadSet (q : Req) (port overhead : B1) (s : State) : Host.Outcome State Fault Refusal :=
  .next (serve q ⟨0x0904, 4, .operator, none, []⟩ (tmOverheadSet q port overhead) s)

/-- TM_QUEUE_CONFIG (R445, R24). -/
def tmQueueConfig (q : Req) (n owner port cls flags weight limit : Nat) (w : Who) (s : State) : Answer :=
  let o := ownerOr w owner
  let x := s.queue n
  refuseOr [(q.bodyBad || ownerBad s w owner || decide (16384 ≤ n ∨ 8 ≤ port ∨ 8 ≤ cls ∨ 2 ≤ flags ∨ weight = 0 ∨ limit < 16 ∨
      65536 < limit), INVALID),
    (decide (x.owner ≠ o ∨ x.port ≠ port ∨ x.cls ≠ cls) && (x.enable || !x.frames.isEmpty), IN_USE)]
    (.ok (s.modQueue n fun x => { x with
      owner := o, port := port, cls := cls, enable := bitOf flags 0, weight := weight, limit := limit }))

def execTmQueueConfig (q : Req) (queue : B2) (owner port cls flags : B1) (weight : B2) (limit : B4) (s : State) :
    Host.Outcome State Fault Refusal :=
  .next (serve q ⟨0x0901, 16, .operator, none, []⟩ (tmQueueConfig q queue owner port cls flags weight limit) s)

/-- Values of TM_SHAPER_SET out of range (R449). -/
def shaperBad (n flags cir pir cbs pbs : Nat) : Bool :=
  decide (16384 ≤ n ∨ 2 ≤ flags ∨ 400000 < cir ∨ pir = 0 ∨ 400000 < pir ∨ pir < cir ∨ 16777215 < cbs ∨ (cbs = 0 ∧ cir ≠ 0) ∨
    pbs < 2048 ∨ 16777215 < pbs)

/-- TM_SHAPER_SET (R449, R450). -/
def tmShaperSet (q : Req) (n flags cir pir cbs pbs : Nat) (_ : Who) (s : State) : Answer :=
  let r : Rates := { cir := cir, pir := pir, cbs := cbs, pbs := pbs }
  refuseOr [(q.bodyBad || shaperBad n flags cir pir cbs pbs, INVALID)]
    (.ok (s.modQueue n fun x => { x with shaper := { x.shaper with staged := some (bitOf flags 0, r) } }))

def execTmShaperSet (q : Req) (queue : B2) (flags : B1) (cir pir cbs pbs : B4) (s : State) : Host.Outcome State Fault Refusal :=
  .next (serve q ⟨0x0903, 32, .operator, none, []⟩ (tmShaperSet q queue flags cir pir cbs pbs) s)

/-- Values of TM_POLICER_SET out of range (R452). -/
def policerBad (n flags source cir pir cbs pbs : Nat) : Bool :=
  decide (8192 ≤ n ∨ 4 ≤ flags ∨ source = 0 ∨ 2 < source ∨ 3200000 < cir ∨ pir = 0 ∨ 3200000 < pir ∨ pir < cir ∨ cbs = 0 ∨
    16777215 < cbs ∨ pbs = 0 ∨ 16777215 < pbs)

/-- TM_POLICER_SET (R452): its colour rules apply at once, ENABLE and the rates at the next refill (R453). -/
def tmPolicerSet (q : Req) (n owner flags source cir pir cbs pbs yellow red : Nat) (w : Who) (s : State) : Answer :=
  let o := ownerOr w owner
  let x := s.policer n
  let r : Rates := { cir := cir, pir := pir, cbs := cbs, pbs := pbs }
  refuseOr [(q.bodyBad || ownerBad s w owner || policerBad n flags source cir pir cbs pbs, INVALID),
    (decide (x.owner ≠ o) && (x.buckets.set || x.buckets.enable), IN_USE)]
    (.ok (s.modPolicer n fun x => { x with
      owner := o, aware := bitOf flags 1, source := source, yellow := yellow, red := red
      buckets := { x.buckets with staged := some (bitOf flags 0, r) } }))

def execTmPolicerSet (q : Req) (policer : B2) (owner flags source : B1) (cir pir cbs pbs : B4) (yellow red : B8)
    (s : State) : Host.Outcome State Fault Refusal :=
  .next (serve q ⟨0x0902, 48, .operator, none, []⟩ (tmPolicerSet q policer owner flags source cir pir cbs pbs yellow red) s)

/-- PFC_PAUSED_NS of a class, the pause in force included (R458). -/
def pausedNsOf (s : State) (p k : Nat) : Nat :=
  let e := s.eth p
  wrap64 (e.pausedNs.getD k 0) (match e.pausedSince.get? k with
    | some a => min s.lc (e.paused.getD k 0) - a
    | none => 0)

/-- TM_COUNTS_READ (R458, R379). -/
def tmCountsRead (q : Req) (kind n : Nat) (w : Who) (s : State) : Answer :=
  if kind = 1 then
    let x := s.queue n
    refuseOr [(decide (n < 16384) && !mayActOn w x.owner, DENIED), (q.bodyBad || decide (16384 ≤ n), INVALID)]
      (.done s (le 8 x.enqFrames ++ le 8 x.enqBytes ++ le 8 x.txFrames ++ le 8 x.txBytes ++ le 8 x.dropFrames ++ le 8 x.dropBytes))
  else if kind = 2 then
    let x := s.policer n
    refuseOr [(decide (n < 8192) && !mayActOn w x.owner, DENIED), (q.bodyBad || decide (8192 ≤ n), INVALID)]
      (.done s (le 8 x.greenFrames ++ le 8 x.greenBytes ++ le 8 x.yellowFrames ++ le 8 x.yellowBytes ++ le 8 x.redFrames
        ++ le 8 x.redBytes))
  else
    refuseOr [(decide (kind = 3) && !w.op, DENIED), (q.bodyBad || decide (kind ≠ 3 ∨ 8 ≤ n), INVALID)]
      (.done s (le 8 (s.eth n).gateOversize ++ ((List.range 8).flatMap fun k => le 8 (pausedNsOf s n k))))

def execTmCountsRead (q : Req) (kind : B1) (index : B2) (s : State) : Host.Outcome State Fault Refusal :=
  .next (serve q ⟨0x0905, 8, .opOrTenant, none, []⟩ (tmCountsRead q kind index) s)

/-- A gate list's entries (R454). -/
def gateEntries (n : Nat) (b : Bytes) : List (Nat × Nat) := (chunks 8 n b).map fun x => (fieldAt x 0 1, fieldAt x 4 4)
/-- Entries that R454 admits. -/
def gateListOk (n : Nat) (b : Bytes) : Bool :=
  (chunks 8 n b).all fun x => decide (fieldAt x 1 3 = 0 ∧ 64 ≤ fieldAt x 4 4 ∧ fieldAt x 4 4 ≤ 1000000000)

/-- GATE_LIST_ARM (R457). -/
def gateListArm (q : Req) (port bank count cycle changeover : Nat) (list : BufRef) (host : HostData) (w : Who) (s0 : State) :
    Answer :=
  let key := slotKey 2 port 0
  let s := if (s0.slot key).staged.isSome ∧ (s0.slot key).changeover ≤ s0.lc then s0.modSlot key takeOver else s0
  let r := readBuf s w list host
  let l : GateBank := { cycle := cycle, entries := if count = 0 then [] else gateEntries count (bufBytes r) }
  let names := ((s.slot key).staged.map fun t => t.entries.any fun e => decide (e.arg = bank)).getD false
  let t : LaunchTable :=
    { base := changeover, period := 0, latePolicy := 0, rollForward := false, kind := 2
      entries := [{ offset := 0, action := 1, policy := 0, arg := bank }] }
  refuseOr [(decide (0 < count ∧ bufStatus r = DENIED), DENIED),
    (q.bodyBad || decide (8 ≤ port ∨ 2 ≤ bank ∨ 1024 < count ∨ cycle < 128 ∨ 1000000000 < cycle) ||
      (decide (0 < count) && refBad list (8 * count)), INVALID),
    (decide (0 < count) && !bufOk r, bufStatus r),
    (decide (0 < count) && !gateListOk count (bufBytes r), INVALID),
    (decide ((s.eth port).bank = bank) || names, IN_USE),
    (decide (changeover ≠ 0 ∧ changeover < s.lc + 10000), TIME_PASSED)]
    (let s1 := s.modEth port fun e => if bank = 0 then { e with bank0 := l } else { e with bank1 := l }
     .ok (if changeover = 0 then s1 else s1.modSlot key fun x => { x with staged := some t, changeover := changeover }))

def execGateListArm (q : Req) (port bank : B1) (count : B2) (cycleTime changeover : B8) (list : BufRef) (host : HostData)
    (s : State) : Host.Outcome State Fault Refusal :=
  .next (serve q ⟨0x0940, 48, .operator, some list, []⟩ (gateListArm q port bank count cycleTime changeover list host) s)

end Sys2Proof.Machine
end

