-- ==== Sys2Proof/Machine/Packet.lean ====
section
/-! DEFINITION. The packet path: receipt, owners, dispatch to Privet cores, verdicts, the exception path and packet rings
(13 R415 to R427, R434 to R440). -/

namespace Sys2Proof.Machine

/-! ### PFC (R417, R447) -/

/-- MODE in force: at readiness level Quickset ports 0 and 4 run at 100G and the others are disabled (R418). -/
def ethMode (s : State) (p : Nat) : Nat :=
  if s.full then (s.eth p).mode else if s.quick && decide (p = 0 ∨ p = 4) then 1 else 0

/-- The device sends a PFC frame for a priority, counted as a good frame of 64 bytes. -/
def sendPfc (s : State) (p prio quanta : Nat) : State :=
  (s.modEth p fun e => { e with
    pfcTx := sat32 e.pfcTx 1, txFrames := wrap64 e.txFrames 1, txBytes := wrap64 e.txBytes 64
    pfcSentAt := e.pfcSentAt.set prio s.lc }).emit (.pfc p prio quanta)

/-- Bytes of a priority in the receive buffer. -/
def prioHeld (e : EthPort) (prio : Nat) : Nat :=
  ((e.buffer.filter fun f => decide (f.prio = prio)).map fun f => f.data.length).foldl (· + ·) 0

/-- PFC is enabled for a priority. -/
def pfcOn (e : EthPort) (prio : Nat) : Bool := e.pfc && bitOf e.pfcClasses prio

/-- A priority above 512 KiB is paused (R417). -/
def pfcHigh (s : State) (p prio : Nat) : State :=
  let e := s.eth p
  if pfcOn e prio && decide (512 * 1024 < prioHeld e prio) && !e.pfcSending.contains prio then
    sendPfc (s.modEth p fun e => { e with pfcSending := e.pfcSending ++ [prio] }) p prio 0xFFFF
  else s

/-- A paused priority below 256 KiB is released (R417). -/
def pfcLow (s : State) (p : Nat) : State :=
  let e := s.eth p
  (e.pfcSending.filter fun k => decide (prioHeld e k < 256 * 1024)).foldl (fun s k =>
    sendPfc (s.modEth p fun e => { e with pfcSending := e.pfcSending.filter fun j => decide (j ≠ k) }) p k 0) s

/-- PFC_REPEAT (R417). -/
def execPfcRepeat (port prio : Fin 8) (s : State) : Host.Outcome State Fault Refusal :=
  .next (let e := s.eth port.val
    if s.on && decide (e.link = 2) && e.pfcSending.contains prio.val &&
        decide (e.pfcSentAt.getD prio.val 0 + 40000 ≤ s.lc) then sendPfc s port.val prio.val 0xFFFF
    else s)

/-- A pause of a class ends, and its time is counted (R458). -/
def endPause (s : State) (p k : Nat) : State :=
  s.modEth p fun e =>
    match e.pausedSince.get? k with
    | none => e
    | some a => { e with
        pausedNs := e.pausedNs.set k (wrap64 (e.pausedNs.getD k 0) (min s.lc (e.paused.getD k 0) - a))
        pausedSince := e.pausedSince.erase k, paused := e.paused.erase k }

/-- A received PFC frame names a priority with quanta (R417, R447). -/
def pauseClass (s : State) (p k quanta : Nat) : State :=
  let s1 := endPause s p k
  if quanta = 0 then s1
  else s1.modEth p fun e => { e with
    paused := e.paused.set k (s.lc + ceilDiv (512 * quanta) (portRate s p)), pausedSince := e.pausedSince.set k s.lc }

/-- A PFC frame received (PRESUMED: its format is that of IEEE 802.1Qbb, which R415 names). -/
def takePfc (s : State) (p : Nat) (d : Bytes) : State :=
  (List.range 8).foldl (fun s k => if bitOf (beAt d 16 2) k then pauseClass s p k (beAt d (18 + 2 * k) 2) else s)
    (s.modEth p fun e => { e with pfcRx := sat32 e.pfcRx 1 })

/-- PFC_PAUSE_EXPIRY (R447). -/
def execPfcPauseExpiry (port prio : Fin 8) (s : State) : Host.Outcome State Fault Refusal :=
  .next (let e := s.eth port.val
    if s.on && decide (e.paused.getD prio.val 0 ≤ s.lc) && (e.paused.get? prio.val).isSome then endPause s port.val prio.val
    else s)

/-! ### The exception path (R387, R434) -/

/-- A token of the owner's bucket is taken, where there is one (R387); tokens are held in 10^−9 packets. -/
def meter (s : State) (o : Owner) : Bool × State :=
  let rate := excRate s o
  let depth := max 64 (rate / 1000) * 1000000000
  let have_ := match s.pkt.excRefilled.get? o with
    | some t => min depth (s.pkt.excTokens.getD o 0 + rate * (s.lc - t))
    | none => depth
  let ok := decide (1000000000 ≤ have_)
  (ok, s.modPkt fun k => { k with
    excRefilled := k.excRefilled.set o s.lc
    excTokens := k.excTokens.set o (if ok then have_ - 1000000000 else have_) })

/-- A frame goes to an owner's exception path on a die: metered, or dropped and counted (R387). During a live
switch of firmware a die buffers up to 4,096 (R392). -/
def exception (s : State) (die : Nat) (o : Owner) (d : Delivery) : State :=
  match meter s o with
  | (true, s1) =>
    if s.fw.switching.isSome ∧ 4096 ≤ (s.pkt.excQueue.filter fun e => decide (e.1 = die)).length then
      s1.modExc o fun c => { c with droppedRate := wrap64 c.droppedRate 1 }
    else s1.modPkt fun k => { k with excQueue := k.excQueue ++ [(die, o, d)] }
  | (false, s1) => s1.modExc o fun c => { c with droppedRate := wrap64 c.droppedRate 1 }

/-- A received frame as the exception path carries it (R434, R438). -/
def RxFrame.except (f : RxFrame) (status done : Nat) (words : List W64) : Delivery :=
  { data := f.data, port := f.port, status := status, flags := f.csum + 256 * done, meta_ := words, at_ := f.at_ }

/-! ### Packet rings: delivery (R435, R437, R438) -/

/-- An RX completion entry (R438). -/
def rxEntry (index len status : Nat) (d : Delivery) (n : Nat) : Bytes :=
  le 4 index ++ le 2 len ++ le 1 status ++ le 1 d.port ++ le 4 d.flags ++ le 4 n
    ++ padTo 40 (d.meta_.flatMap fun w => le 8 w.toNat) ++ le 8 d.at_

/-- A frame that finds no posted buffer is dropped and counted (R437). -/
def noBuffer (s : State) (r : Nat) : State :=
  s.modPkt fun k => { k with rings := k.rings.modify r fun x => { x with noBuffer := sat32 x.noBuffer 1 } }

/-- A frame takes the oldest posted buffer; one longer than the buffer is truncated (R437). A code of R434 stays the
status of a truncated frame. -/
def putRx (s : State) (r : Nat) (x : PktRing) (d : Delivery) : Bool × State :=
  match x.buffers with
  | [] => (false, noBuffer s r)
  | (i, a, len) :: l =>
    let n := min d.data.length len
    let st := if d.status = 0 ∧ len < d.data.length then 1 else d.status
    let s1 := s.modPkt fun k => { k with rings := k.rings.set r { x with buffers := l } }
    (true, ringRecord (hostWrite s1 (pktPort s x) x.inst a (d.data.take n)) r 64 (rxEntry i n st d))

/-- A ring takes frames: it is not being deleted, and its instance is not frozen (R336, R436). -/
def pktTakes (s : State) (x : PktRing) : Bool :=
  x.deleting.isNone && ((s.insts.get? x.inst).map fun i => decide (i.state ≠ .frozen)).getD false

/-- A frame is delivered to an RX ring; one whose context is parked waits, up to 64 (R437). False where it is dropped. -/
def deliverRx (s : State) (r : Nat) (d : Delivery) : Bool × State :=
  match s.pkt.rings.get? r with
  | none => (false, s)
  | some x =>
    if !pktTakes s x then (false, noBuffer s r)
    else if resident s (cxRing r) then putRx (touchCtx s (cxRing r)) r x d
    else if (s.pkt.held.filter fun h => decide (h.1 = r)).length < 64 then
      (true, (touchCtx s (cxRing r)).modPkt fun k => { k with held := k.held ++ [(r, d)] })
    else (false, noBuffer (touchCtx s (cxRing r)) r)

/-- A frame of the operator domain's exception path is written to a slot and its completion entry (R435). -/
def putOperator (s : State) (g : OpExcRing) (d : Delivery) : State :=
  let n := g.n + 1
  let slot := g.n % 2 ^ g.log2
  let p := s.boot.opPort
  let s1 := s.modPkt fun k => { k with opExc := some { g with n := n } }
  hostWrite (hostWrite s1 p 0xFFFF (g.slots + 16384 * slot) (d.data.take 16384)) p 0xFFFF (g.addr + 64 + 64 * slot)
    (rxEntry slot (min d.data.length 16384) d.status d n)

/-- EXC_DELIVERED and EXC_DROPPED_NO_RING (R387). -/
def excDelivered (s : State) (o : Owner) : State := s.modExc o fun c => { c with delivered := wrap64 c.delivered 1 }
def excNoRing (s : State) (o : Owner) : State := s.modExc o fun c => { c with droppedNoRing := wrap64 c.droppedNoRing 1 }

/-- EXCEPTION_DELIVERY (R434, R435): the oldest metered frame of a die; `consumed` is what the operator ring's header holds
now. -/
def execExceptionDelivery (die : Fin 2) (consumed : B8) (s : State) : Host.Outcome State Fault Refusal :=
  .next (if !s.on || s.fw.switching.isSome then s
    else match s.pkt.excQueue.find? fun e => decide (e.1 = die.val) with
      | none => s
      | some (k, o, d) =>
        let s1 := s.modPkt fun p => { p with excQueue := p.excQueue.erase (k, o, d) }
        if o = 16 then
          match s1.pkt.opExc with
          | none => excNoRing s1 o
          | some g =>
            let g1 := { g with consumed := consumed }
            if g.n + 1 - consumed ≤ 2 ^ g.log2 then excDelivered (putOperator s1 g1 d) o
            else excNoRing (s1.modPkt fun p => { p with opExc := some g1 }) o
        else match s1.pkt.excRings.get? o with
          | none => excNoRing s1 o
          | some r => match deliverRx s1 r d with
            | (true, s2) => excDelivered s2 o
            | (false, s2) => s2)

/-! ### Receipt (R416 to R420) -/

/-- The owner-table entry of a frame on a port (R419). -/
def entryOf (s : State) (p : Nat) (d : Bytes) : Option OwnerEntry :=
  (s.pkt.owners.find? fun e => decide (e.1 / 1024 = p ∧ e.2.mac = dstMac d ∧ e.2.vid = outerVid d)).map Prod.snd

/-- A frame that the RoCEv2 engine takes (R420). -/
def roceForm (d : Bytes) : Bool :=
  match formOf d with
  | some f => decide (tagsOf d ≤ 1 ∧ f.proto = 17 ∧ beAt d (f.l4 + 2) 2 = 4791)
  | none => false

/-- The flow class of a frame (R425). -/
def flowClass (e : EthPort) (d : Bytes) : Nat :=
  if e.reorderPort then 0
  else crc32c 0 (dstMac d ++ srcMac d ++ be 2 (outerVid d) ++ (match formOf d with
    | some f => f.src ++ f.dst ++ be 1 f.proto ++ (d.drop f.l4).take 4
    | none => [])) % 4096

/-- The owner has a program in its share (R422). -/
def hasProgram (s : State) (o : Owner) : Bool := ((s.pkt.shares.get? o).bind Share.program).isSome

/-- A frame that the port has taken, with its owner. -/
def rxFrame (s : State) (p : Nat) (d : Bytes) (o : Owner) : RxFrame :=
  { order := (s.eth p).arrivals, port := p, data := d, at_ := s.lc, prio := framePrio d, owner := o, csum := csumFlags d,
    flow := flowClass (s.eth p) d }

/-- A frame enters the receive buffer (R417). -/
def bufferRx (s : State) (p : Nat) (f : RxFrame) : State :=
  pfcHigh (s.modEth p fun e => { e with arrivals := e.arrivals + 1, buffer := e.buffer ++ [f] }) p f.prio

/-- Bytes in the receive buffer. -/
def rxHeld (e : EthPort) : Nat := (e.buffer.map fun f => f.data.length).foldl (· + ·) 0

/-- A good frame that is no MAC control frame finds its owner (R417, R419, R420, R434). -/
def routeRx (s : State) (p : Nat) (d : Bytes) : State :=
  if 4 * 2 ^ 20 < rxHeld (s.eth p) + d.length then s.modEth p fun e => { e with dropFull := sat32 e.dropFull 1 }
  else match entryOf s p d with
    | none => exception (s.modEth p fun e => { e with noOwner := sat32 e.noOwner 1 }) (p / 4) 16
        ((rxFrame s p d 16).except 0x13 0 [])
    | some e =>
      let f := rxFrame s p d e.owner
      if e.roce && roceForm d then s.modEth p fun x => { x with roce := x.roce ++ [f] }
      else if hasProgram s e.owner then bufferRx s p f
      else exception s (p / 4) e.owner (f.except 0x14 0 [])

/-- A good frame (R415, R416): a PAUSE frame is dropped without effect, a PFC frame pauses. -/
def goodFrame (s : State) (p : Nat) (d : Bytes) : State :=
  let s1 := bump (s.modEth p fun e => { e with
      rxFrames := wrap64 e.rxFrames 1, rxBytes := wrap64 e.rxBytes (d.length + 4) }) (uEth p) 0x40 1
    { tag := (entryOf s p d).map fun e => mkTag e.owner (reqEth p), tc := some (framePrio d) }
  if beAt d 12 2 = 0x8808 ∧ beAt d 14 2 = 1 then s1
  else if beAt d 12 2 = 0x8808 ∧ beAt d 14 2 = 0x0101 ∧ beAt d 0 6 = 0x0180C2000001 then takePfc s1 p d
  else routeRx s1 p d

/-- FRAME_RECEIVE (R415 to R420): the frame with its FCS. -/
def execFrameReceive (port : Fin 8) (frame : Bytes) (fecCorrected fecUncorrectable : B4) (s : State) :
    Host.Outcome State Fault Refusal :=
  .next (let p := port.val
    if !s.on || decide ((s.eth p).link ≠ 2) then s
    else
      let d := frame.take (frame.length - 4)
      let badFcs := decide (frame.length < 4 ∨ frame.drop (frame.length - 4) ≠ le 4 (crc32 d))
      let badLen := decide (frame.length < 64 ∨ (s.eth p).maxFrame < frame.length)
      let s1 := s.modEth p fun e => { e with
        fecCorrected := sat32 e.fecCorrected fecCorrected, fecUncorrectable := sat32 e.fecUncorrectable fecUncorrectable
        fcsErrors := sat32 e.fcsErrors (b2n badFcs), lengthErrors := sat32 e.lengthErrors (b2n badLen) }
      if badFcs || badLen then s1 else goodFrame s1 p d)

/-! ### Programs in clusters (R421, R422) -/

/-- A core of the cluster parses a frame of the owner. -/
def clusterParses (s : State) (c : Nat) (o : Owner) : Bool :=
  s.cores.any fun k x => decide (k / 16 = c ∧ k < 1024 ∧ x.owner = o) && x.running
/-- The owner's program, or zeros, is written into its region of a cluster. -/
def writeCluster (s : State) (c : Nat) (x : Share) : State :=
  s.modPkt fun k => { k with
    stores := putProgram k.stores (4096 * c + 256 * x.base) (256 * x.size) (x.program.getD []) }
/-- An owner's waiting program goes to every cluster that parses no frame of the owner any more; once every cluster holds
it, the load completes (R422). -/
def settleLoad (s : State) (o : Owner) : State :=
  match s.pkt.shares.get? o with
  | none => s
  | some x =>
    let now := x.loading.filter fun c => !clusterParses s c o
    if now.isEmpty then s
    else
      let rest := x.loading.filter fun c => !now.contains c
      let s1 := (now.foldl (fun s c => writeCluster s c x) s).modPkt fun k =>
        { k with shares := k.shares.set o { x with loading := rest } }
      if rest.isEmpty then finishOps s1 OK fun p => match p.data with
        | .privetLoad q => decide (q = o)
        | _ => false
      else s1
/-- Every owner's waiting program. -/
def settleLoads (s : State) : State := (s.pkt.shares.map Prod.fst).foldl settleLoad s

/-! ### The end of a parse (R162, R425 to R427, R434) -/

/-- The entry of a reorder buffer changes, or leaves it. -/
def setRo (s : State) (p order : Nat) (x : Option RoFrame) : State :=
  s.modEth p fun e => { e with reorder := e.reorder.filterMap fun y => if y.frame.order = order then x else some y }

/-- A core whose packet has ended is idle, and its probes are forgotten (R162, R428). -/
def freeCore (s : State) (k : Nat) : State :=
  let tables := (s.core k).handles.map fun h => h.2.table
  tables.foldl settleTable (s.modCore k fun _ => {})

/-- What the end of a parse does to its frame (R425, R427, R434). -/
def endParse (s : State) (p : Nat) (x : RoFrame) (k : Nat) : State :=
  let c := s.core k
  let f := x.frame
  let words := (List.range 6).map fun i => c.metadata.getD i 0
  let st := c.status.getD 255
  let act := (c.metadata.getD 0 0).toNat % 16
  let tag : Occ := { tag := some (mkTag f.owner (0x440 + k / 16)), tc := some f.prio }
  let s1 := bump (bump (bump (freeCore s k) (uCluster (k / 16)) 0x40 1 tag) (uCluster (k / 16)) 0x41
    (c.cycle + 1 - c.started) tag) (uCluster (k / 16)) 0x03 1 tag
  let gone := setRo s1 p f.order none
  if st = 255 then
    exception (gone.modEth p fun e => { e with parseLimit := sat32 e.parseLimit 1 }) (p / 4) f.owner
      (f.except 0x12 0 (words.drop 1))
  else if st ≠ 0 then exception gone (p / 4) f.owner (f.except 0x11 st (words.drop 1))
  else if act = 1 then setRo s1 p f.order (some { x with state := .ended k words })
  else if act = 2 then exception gone (p / 4) f.owner (f.except 0x10 0 (words.drop 1))
  else
    let s2 := gone.modPkt fun t => { t with verdictDrops := t.verdictDrops.set f.owner (wrap64 (t.verdictDrops.getD f.owner 0) 1) }
    if act = 0 then s2 else s2.modEth p fun e => { e with badVerdict := sat32 e.badVerdict 1 }

/-- The parses of a port that have ended are taken in, in arrival order. -/
def harvest (s : State) (p : Nat) : State :=
  (s.eth p).reorder.foldl (fun s x => match x.state with
    | .parsing k => if (s.core k).ended then endParse s p x k else s
    | .ended _ _ => s) s
/-- The parses of every port that have ended are taken in. -/
def harvestAll (s : State) : State := settleLoads ((List.range 8).foldl harvest s)

/-! ### Dispatch (R423, R425) -/

/-- The clusters that a frame of an owner may go to from a port: on the port's own die where the share holds any there. -/
def clustersOf (s : State) (p : Nat) (x : Share) : List Nat :=
  let all := (List.range 64).filter fun c => bitOf x.clusters c
  let own := all.filter fun c => decide (c / 32 = p / 4)
  (if own.isEmpty then all else own).filter fun c => unitIn s (uCluster c) && !x.loading.contains c
/-- A free core of a cluster. -/
def freeCoreOf (s : State) (c : Nat) : Option Nat :=
  ((List.range 16).find? fun k => !(s.core (16 * c + k)).running).map fun k => 16 * c + k
/-- The core that a frame takes: round robin over the clusters, from the one after that used last by the port. -/
def coreFor (s : State) (p : Nat) (f : RxFrame) : Option Nat :=
  match s.pkt.shares.get? f.owner with
  | none => none
  | some x =>
    let l := clustersOf s p x
    let last := (s.eth p).lastCluster
    ((l.filter fun c => decide (last < c)) ++ l.filter fun c => decide (c ≤ last)).findSome? (freeCoreOf s)
/-- The port's next frame to dispatch, with its core: the first in arrival order that finds one, while the reorder buffer
has room. -/
def nextDispatch (s : State) (p : Nat) : Option (RxFrame × Nat) :=
  if 8192 ≤ (s.eth p).reorder.length then none
  else (s.eth p).buffer.findSome? fun f => (coreFor s p f).map fun k => (f, k)
/-- Buffered frames whose owner has no program any more go to its exception path (R421, R422). -/
def sweepNoProgram (s : State) (p : Nat) : State :=
  let out := (s.eth p).buffer.filter fun f => !hasProgram s f.owner
  out.foldl (fun s f => exception s (p / 4) f.owner (f.except 0x14 0 []))
    (s.modEth p fun e => { e with buffer := e.buffer.filter fun f => hasProgram s f.owner })
/-- It is the port's turn: no port between the one served last and this one, on the die, has a frame to dispatch (R423). -/
def portTurn (s : State) (p : Nat) : Bool :=
  let last := s.pkt.turn.getD (p / 4) 3
  let ahead := ((List.range 4).map fun i => (last + 1 + i) % 4).takeWhile fun i => decide (i ≠ p % 4)
  ahead.all fun i => (nextDispatch s (4 * (p / 4) + i)).isNone

/-- A frame goes to a core, which starts in the cycle after dispatch in the state of R162 (R423). -/
def dispatch (s : State) (p : Nat) (f : RxFrame) (k cycle : Nat) : State :=
  let size := ((s.pkt.shares.get? f.owner).map Share.size).getD 0
  let c : Core :=
    { running := true, first := true, region := 256 * size, owner := f.owner, pktLen := f.data.length
      pktPort := p, packet := f.data, started := cycle + 1, cycle := cycle + 1 }
  let x : RoFrame := { frame := f, state := .parsing k }
  let s1 := (s.modCore k fun _ => c).modEth p fun e => { e with
    buffer := e.buffer.filter fun g => decide (g.order ≠ f.order), lastCluster := k / 16
    reorder := (e.reorder.filter fun y => decide (y.frame.order < f.order)) ++ x ::
      e.reorder.filter fun y => decide (f.order < y.frame.order) }
  bump (pfcLow (s1.modPkt fun t => { t with turn := t.turn.set (p / 4) (p % 4) }) p) (uCluster (k / 16)) 0x02 1
    { tag := some (mkTag f.owner (0x440 + k / 16)), tc := some f.prio }

/-- FRAME_DISPATCH (R417, R423, R425); `cycle` is the FCLK cycle of the dispatch. -/
def execFrameDispatch (port : Fin 8) (cycle : B8) (s : State) : Host.Outcome State Fault Refusal :=
  .next (if !s.on then s
    else
      let s1 := pfcLow (sweepNoProgram (harvestAll s) port.val) port.val
      match nextDispatch s1 port.val with
      | none => s1
      | some (f, k) => if portTurn s1 port.val then dispatch s1 port.val f k cycle else s1)

/-! ### Release (R425 to R427) -/

/-- No earlier frame of the class waits at the port. -/
def headOfFlow (e : EthPort) (f : RxFrame) : Bool :=
  (e.reorder.all fun y => decide (f.order ≤ y.frame.order ∨ y.frame.flow ≠ f.flow)) &&
    e.buffer.all fun g => decide (f.order ≤ g.order ∨ g.flow ≠ f.flow)
/-- The first frame that may leave the reorder buffer. -/
def releasable (e : EthPort) : Option (RxFrame × Nat × List W64) :=
  e.reorder.findSome? fun y => match y.state with
    | .ended k w => if headOfFlow e y.frame then some (y.frame, k, w) else none
    | .parsing _ => none

/-- DELIVER to the ring that the verdict names (R427, R563). -/
def toRing (s : State) (f : RxFrame) (k v : Nat) (yellow : Bool) (words : List W64) : State :=
  let ring := bitsOf v 15 4
  if ((s.pkt.rings.get? ring).map fun x => decide (x.owner = f.owner) && !x.tx).getD false then
    (deliverRx s ring
      { data := f.data.drop (bitsOf v 47 40), port := f.port, status := 0, flags := f.csum + 8 * b2n yellow,
        meta_ := words.drop 1, at_ := f.at_ }).2
  else refViolation s (mkTag f.owner (0x440 + k / 16)) 2 ring (reqEth f.port) 0xFFFF

/-- A frame with verdict DELIVER leaves the reorder buffer (R426, R427). -/
def release (s : State) (f : RxFrame) (k : Nat) (words : List W64) : State :=
  let v := (words.getD 0 0).toNat
  let n := bitsOf v 28 16
  if bitOf v 29 then
    if (s.policer n).owner ≠ f.owner then refViolation s (mkTag f.owner (0x440 + k / 16)) 5 n (reqEth f.port) 0xFFFF
    else match police s n f.port f.data with
      | (.red, s1) => s1
      | (c, s1) => toRing s1 f k v (decide (c = .yellow)) words
  else toRing s f k v false words

/-- FRAME_RELEASE (R425, R427). -/
def execFrameRelease (port : Fin 8) (s : State) : Host.Outcome State Fault Refusal :=
  .next (if !s.on then s
    else
      let s1 := harvestAll s
      match releasable (s1.eth port.val) with
      | none => s1
      | some (f, k, w) => release (setRo s1 port.val f.order none) f k w)

/-! ### Packet rings: posting and transmission (R436 to R440, R446) -/

/-- The ring of an instance's doorbell. -/
def ringOf (s : State) (inst db : Nat) : Option Nat :=
  (s.pkt.rings.find? fun e => decide (e.2.inst = inst ∧ e.2.doorbell = db)).map Prod.fst
/-- The ring's entries are fetched now (R384, R436). -/
def ringFetches (s : State) (r : Nat) (x : PktRing) : Bool :=
  s.on && s.quick && x.deleting.isNone && functionFetches s x.inst && decide (wrap32 x.posted ≠ x.fetched) &&
    resident s (cxRing r)
/-- Post entries as their bytes spell them (R437): index, ADDR, LENGTH. -/
def postEntries (first n : Nat) (bs : Bytes) : List (Nat × Nat × Nat) :=
  ((chunks 16 n bs).zipIdx first).map fun e => (wrap32 e.2, fieldAt e.1 0 8, fieldAt e.1 8 4)
/-- The posted entries of an RX ring are fetched (R437); `host` holds them. -/
def fetchPosts (s : State) (r : Nat) (host : HostData) : State :=
  match s.pkt.rings.get? r, host with
  | some x, .data bs =>
    if x.tx || !ringFetches s r x then s
    else
      let n := min (sub32 x.posted x.fetched) (2 ^ x.log2)
      s.modPkt fun k => { k with rings := k.rings.set r { x with
        fetched := wrap32 (x.fetched + n), buffers := x.buffers ++ postEntries x.fetched n (padTo (16 * n) bs) } }
  | _, _ => s

/-- PACKET_DOORBELL (R436, R437): an RX ring's posted entries are read from the host at once. -/
def execPacketDoorbell (port : Fin 2) (inst : B2) (doorbell : Fin 64) (posted : B4) (host : HostData) (s : State) :
    Host.Outcome State Fault Refusal :=
  .next (doorbellWrite s port.val inst (0x0600 + 4 * doorbell.val) posted fun s =>
    match ringOf s inst doorbell.val with
    | none => s
    | some r => fetchPosts (touchCtx (s.modPkt fun k =>
        { k with rings := k.rings.modify r fun x => { x with posted := posted } }) (cxRing r)) r host)

/-- The frame of a TX descriptor, with the checksums it asks for, padded (R439). -/
def txFrame (flags l3 l4 : Nat) (d : Bytes) : Bytes :=
  let a := if bitOf flags 0 then insertIpv4 d l3 else d
  let b := if bitOf flags 1 then insertL4 a l3 l4 else a
  padTo (max 60 b.length) b

/-- A TX descriptor acts (R439, R440, R446). -/
def txBegin (s : State) (r : Nat) (x : PktRing) (op : Nat) (b : Bytes) (frame : HostData) : State :=
  let n := fieldAt b 10 2 % 16384
  let len := fieldAt b 8 2
  let tag := fieldAt b 16 4
  let p := (s.queue n).port
  let done := fun (s : State) (st : Nat) => txDone s r x.fetched tag op st
  let bad := fun (s : State) => done (refViolation s (mkTag x.owner (reqEth p)) 6 n (reqEth p) 0xFFFF) 0
  if (s.queue n).owner ≠ x.owner then bad s
  else if len < 14 ∨ (s.eth p).maxFrame - 4 < len then done s 8
  else match frame with
    | .data bs =>
      let d := txFrame (fieldAt b 12 1) (fieldAt b 13 1) (fieldAt b 14 1) (padTo len bs)
      if !mayEnter s x.owner n d then bad s
      else match enqueue s n { data := d, origin := .ring r x.fetched tag op } with
        | (true, s1) => s1
        | (false, s1) => done s1 0x0D
    | h => done s (hostFailure h)

/-- TX_DESCRIPTOR (R439): the ring's next descriptor and its frame are read from the host. -/
def execTxDescriptor (ring : B2) (descriptor frame : HostData) (s : State) : Host.Outcome State Fault Refusal :=
  .next (match s.pkt.rings.get? ring with
    | none => s
    | some x =>
      if !x.tx || !ringFetches s ring x || !mayFetch s x.owner then s
      else match allocTag s x.owner .packet ring x.inst with
        | none => s
        | some (op, s0) =>
          let s1 := (touchCtx s0 (cxRing ring)).modPkt fun k =>
            { k with rings := k.rings.modify ring fun y => { y with fetched := wrap32 (y.fetched + 1) } }
          match descriptor with
          | .data bs => txBegin s1 ring x op (padTo 32 bs) frame
          | h => txDone s1 ring x.fetched 0 op (hostFailure h))

/-! ### Making a context resident (R384 to R386, R437) -/

/-- Contexts that occupy a die's slots; 8 of the 2,048 are reserved for token sessions (R384, R385). -/
def dieContexts (s : State) (die : Nat) : Nat := s.ctxs.count fun _ c => c.resident && decide (c.die = die)
/-- The victim of an owner (R386); on the named die only, where that die has no free slot. -/
def victim (s : State) (o : Owner) (die : Nat) : Option Nat :=
  ((parkable s o).find? fun e => decide (e.2.since + 50000 ≤ s.lc) &&
    (decide (dieContexts s die < 2040) || decide (e.2.die = die))).map Prod.fst
/-- A slot is found for a context, if need be by parking the owner's victim. -/
def makeRoom (s : State) (c : Context) : Option State :=
  if residentCount s c.owner < residentQuota s c.owner ∧ dieContexts s c.die < 2040 then some s
  else (victim s c.owner c.die).map (parkCtx s)
/-- What waited for a context runs: a ring's post entries and held frames, a queue pair's requests. -/
def ctxReady (s : State) (k : Nat) (host : HostData) : State :=
  let n := k % 0x1000000
  if k / 0x1000000 = 3 then
    let s1 := fetchPosts s n host
    let mine := s1.pkt.held.filter fun h => decide (h.1 = n)
    mine.foldl (fun s h => (deliverRx s n h.2).2)
      (s1.modPkt fun t => { t with held := t.held.filter fun h => decide (h.1 ≠ n) })
  else if k / 0x1000000 = 4 then sendRequests s n false
  else s

/-- CONTEXT_SWAP (R386): a wanted parked context becomes resident; `host` holds what an RX ring's post ring holds.
Swaps wait during a live switch (R392). -/
def execContextSwap (ctx : B4) (host : HostData) (s : State) : Host.Outcome State Fault Refusal :=
  .next (match s.ctxs.get? ctx with
    | none => s
    | some c =>
      if !s.on || c.resident || !c.wanted || s.fw.switching.isSome then s
      else match makeRoom s c with
        | none => s
        | some s1 =>
          ctxReady { s1 with ctxs := s1.ctxs.modify ctx fun c =>
            { c with resident := true, wanted := false, since := s.lc, lastRun := s.lc } } ctx host)

end Sys2Proof.Machine
end

