-- ==== Sys2Proof/Machine/PktReq.lean ====
section
/-! DEFINITION. The requests of family 0x08 and a port's link coming up (13 R415, R418 to R422, R428, R432 to R436, R442). -/

namespace Sys2Proof.Machine

/-! ### ETH_PORT_CONFIG (R418, R419) and the link -/

/-- The link of a port retrains in the mode now in force, or is disabled; frames in the receive buffer are dropped (R418). -/
def retrainEth (s : State) (p : Nat) : State :=
  s.modEth p fun e => { e with
    link := if ethMode s p = 0 then 3 else 1, speed := 0, fecAligned := false, buffer := [], pfcSending := [], pfcSentAt := [] }

/-- SETTINGS (R418). -/
def settings (q : Req) (port mode flags classes maxFrame : Nat) (_ : Who) (s : State) : Answer :=
  let pfc := bitOf flags 0
  refuseOr [(!s.full, NOT_READY),
    (q.bodyBad || decide (8 ≤ port ∨ 4 ≤ mode ∨ 4 ≤ flags ∨ maxFrame < 1518 ∨ 9216 < maxFrame), INVALID)]
    (let s1 := s.modEth port fun e => { e with
        mode := mode, pfc := pfc, reorderPort := bitOf flags 1, pfcClasses := classes, maxFrame := maxFrame
        pfcSending := e.pfcSending.filter fun k => pfc && bitOf classes k }
     .ok (if (s.eth port).mode = mode then s1 else retrainEth s1 port))

def execSettings (q : Req) (port mode flags pfcClasses : B1) (maxFrame : B2) (s : State) : Host.Outcome State Fault Refusal :=
  .next (serve q ⟨0x0801, 32, .operator, none, []⟩ (settings q port mode flags pfcClasses maxFrame) s)

/-- OWNER_WRITE (R418, R419). -/
def ownerWrite (q : Req) (port entry mac vid owner flags : Nat) (w : Who) (s : State) : Answer :=
  let o := ownerOr w owner
  let key := 1024 * port + entry
  let m := le 6 mac
  let twin := s.pkt.owners.any fun k e => decide (k / 1024 = port ∧ k ≠ key ∧ e.mac = m ∧ e.vid = vid % 4096)
  refuseOr [(q.bodyBad || ownerBad s w owner || decide (8 ≤ port ∨ 1024 ≤ entry ∨ 8192 ≤ vid ∨ 2 ≤ flags ∨ 2 ^ 48 ≤ mac) ||
      (bitOf vid 12 && (s.pkt.shares.get? o).isNone), INVALID),
    (bitOf vid 12 && twin, IN_USE)]
    (let e : OwnerEntry := { mac := m, vid := vid % 4096, owner := o, roce := bitOf flags 0 }
     .ok (s.modPkt fun k => { k with owners := if bitOf vid 12 then k.owners.set key e else k.owners.erase key }))

def execOwnerWrite (q : Req) (port : B1) (entry : B2) (mac : B8) (vid : B2) (owner flags : B1) (s : State) :
    Host.Outcome State Fault Refusal :=
  .next (serve q ⟨0x0801, 32, .operator, none, []⟩ (ownerWrite q port entry mac vid owner flags) s)

/-- OWNER_CLEAR (R418). -/
def ownerClear (q : Req) (port entry : Nat) (_ : Who) (s : State) : Answer :=
  refuseOr [(q.bodyBad || decide (8 ≤ port ∨ 1024 ≤ entry), INVALID)]
    (.ok (s.modPkt fun k => { k with owners := k.owners.erase (1024 * port + entry) }))

def execOwnerClear (q : Req) (port : B1) (entry : B2) (s : State) : Host.Outcome State Fault Refusal :=
  .next (serve q ⟨0x0801, 32, .operator, none, []⟩ (ownerClear q port entry) s)

/-- COUNTS_CLEAR: every count of the port's register block (R418, R443). -/
def countsClear (q : Req) (port : Nat) (_ : Who) (s : State) : Answer :=
  refuseOr [(q.bodyBad || decide (8 ≤ port), INVALID)]
    (.ok (s.modEth port fun e => { e with
      rxFrames := 0, rxBytes := 0, txFrames := 0, txBytes := 0, fcsErrors := 0, lengthErrors := 0, dropFull := 0, noOwner := 0
      fecCorrected := 0, fecUncorrectable := 0, pfcRx := 0, pfcTx := 0, parseLimit := 0, badVerdict := 0 }))

def execCountsClear (q : Req) (port : B1) (s : State) : Host.Outcome State Fault Refusal :=
  .next (serve q ⟨0x0801, 32, .operator, none, []⟩ (countsClear q port) s)

/-- ETH_LINK_UP (R415): training in the mode in force has succeeded; a checkpoint group that waited for the port goes on
(R299). -/
def execEthLinkUp (port : Fin 8) (s : State) : Host.Outcome State Fault Refusal :=
  .next (let p := port.val
    if !s.on || decide (ethMode s p = 0 ∨ 2 ≤ (s.eth p).link) || !unitIn s (uEth p) || s.clk.down.contains (8 + p) then s
    else ckpLinkUp (s.modEth p fun e => { e with link := 2, speed := ethMode s p, fecAligned := true }) p)

/-! ### Shares and programs (R421, R422) -/

/-- The bundles [base, base + size) of two regions overlap, in units of 256. -/
def regionsMeet (a b : Share) : Bool := decide (a.base < b.base + b.size ∧ b.base < a.base + a.size)
/-- A region in every cluster of its mask is written with zeros (R421). -/
def clearRegion (s : State) (x : Share) : State :=
  ((List.range 64).filter fun c => bitOf x.clusters c).foldl (fun s c => writeCluster s c { x with program := none }) s

/-- PRIVET_SHARE_SET's effect (R421): a region given, moved, resized or taken is cleared and the owner has no program; a
cluster added to an unchanged region receives the owner's program. -/
def shareAct (s : State) (o : Owner) (x : Share) : State :=
  match s.pkt.shares.get? o with
  | some old =>
    if x.clusters = 0 ∨ x.size = 0 then (clearRegion s old).modPkt fun k => { k with shares := k.shares.erase o }
    else if old.base = x.base ∧ old.size = x.size then
      let y := { x with program := old.program, loading := old.loading.filter fun c => bitOf x.clusters c }
      let added := (List.range 64).filter fun c => bitOf x.clusters c && !bitOf old.clusters c
      let s1 := s.modPkt fun k => { k with shares := k.shares.set o y }
      if y.program.isSome then added.foldl (fun s c => writeCluster s c y) s1 else s1
    else (clearRegion (clearRegion s old) x).modPkt fun k => { k with shares := k.shares.set o x }
  | none =>
    if x.clusters = 0 ∨ x.size = 0 then s else (clearRegion s x).modPkt fun k => { k with shares := k.shares.set o x }

/-- A program load of the owner is in progress. -/
def loadingFor (s : State) (o : Owner) : Bool :=
  (opWith s fun d => match d with | .privetLoad p => decide (p = o) | _ => false).isSome

/-- PRIVET_SHARE_SET (R421). -/
def privetShareSet (q : Req) (owner clusters base size limit : Nat) (w : Who) (s : State) : Answer :=
  let o := ownerOr w owner
  let x : Share := { clusters := clusters, base := base, size := size, cacheLimit := if limit = 0xFFFFFFFF then 16384 else limit }
  let takes := s.pkt.shares.any fun p y => decide (p ≠ o ∧ y.clusters &&& clusters ≠ 0) && regionsMeet x y
  let removes := decide (clusters = 0 ∨ size = 0) && s.pkt.owners.any fun _ e => decide (e.owner = o)
  refuseOr [(q.bodyBad || ownerBad s w owner || decide (16 < base + size ∨ (262144 < limit ∧ limit ≠ 0xFFFFFFFF)), INVALID),
    (takes || removes || loadingFor s o, IN_USE)]
    (.ok (shareAct s o x))

def execPrivetShareSet (q : Req) (owner : B1) (clusters : B8) (base size : B1) (cacheLimit : B4) (s : State) :
    Host.Outcome State Fault Refusal :=
  .next (serve q ⟨0x0803, 32, .operator, none, []⟩ (privetShareSet q owner clusters base size cacheLimit) s)

/-- PRIVET_PROGRAM_LOAD (R422, R157, R469, R470): the sender's own program. -/
def privetProgramLoad (q : Req) (program : BufRef) (host : HostData) (w : Who) (s : State) : Answer :=
  let o := w.owner
  let r := readBuf s w program host
  let bs := (bufBytes r).take program.len
  let size := 256 * ((s.pkt.shares.get? o).map Share.size).getD 0
  refuseOr [(decide (bufStatus r = DENIED), DENIED), (q.bodyBad || refBad program 0, INVALID), (!bufOk r, bufStatus r),
    ((s.pkt.shares.get? o).isNone || !programOk false (s.decode.getD o []) size bs, INVALID), (loadingFor s o, IN_USE),
    (decide (o < 16) && !logRoom s o 1, NO_RESOURCES)]
    (match s.pkt.shares.get? o with
      | none => .refuse INVALID []
      | some x =>
        let y := { x with program := some (bundlesOf bs), loading := (List.range 64).filter fun c => bitOf x.clusters c }
        let s1 := s.modPkt fun k => { k with shares := k.shares.set o y }
        let s2 := settleLoad (if o < 16 then measurePart s1 o 0x0014 0 (Config.sha256 bs) else s1) o
        if ((s2.pkt.shares.get? o).map fun z => z.loading.isEmpty).getD true then .ended s2 OK []
        else .later ACCEPTED s2 (.privetLoad o))

def execPrivetProgramLoad (q : Req) (program : BufRef) (host : HostData) (s : State) : Host.Outcome State Fault Refusal :=
  .next (serve q ⟨0x0802, 16, .opOrTenant, some program, []⟩ (privetProgramLoad q program host) s)

/-! ### Exact-match tables (R428, R432, R433) -/

/-- Entries of a table. -/
def tableEntries (t : MatchTable) : Nat := entriesPer t.kl * 2 ^ t.log2
/-- A range of an owner's plot space is filled with zeros by the device (R428). -/
def zeroSpace (s : State) (o : Owner) (a len : Nat) : State :=
  (slotsOf a len).foldl (fun s k => match translate s o (k * 2 ^ 30) with
    | some (n, _) =>
      let lo := max a (k * 2 ^ 30)
      let hi := min (a + len) ((k + 1) * 2 ^ 30)
      if (plotAt s n).state = .lost ∨ keyHeld s (plotAt s n) = false then s else fillDpa s (dpaOf n (lo % 2 ^ 30)) (hi - lo) 0
    | none => s) s

/-- A seed of 0 is drawn from the entropy source (R428). -/
def drawSeed (s : State) (seed : Nat) : Nat × State :=
  if seed = 0 then (ofLe (s.draw 4).1, (s.draw 4).2) else (seed, s)
/-- The table exists from now on, every entry empty. -/
def tableAct (s : State) (n : Nat) (t : MatchTable) : State :=
  let a := drawSeed s t.seed1
  let b := drawSeed a.2 t.seed2
  (zeroSpace b.2 t.owner t.base (256 * 2 ^ t.log2)).modPkt fun k =>
    { k with tables := k.tables.set n { t with seed1 := a.1, seed2 := b.1 } }

/-- TABLE_CREATE (R428, R475). -/
def tableCreate (q : Req) (n owner kl log2 flags base seed1 seed2 : Nat) (w : Who) (s : State) : Answer :=
  let o := ownerOr w owner
  let t : MatchTable :=
    { owner := o, kl := kl, log2 := log2, cache := bitOf flags 0, base := base, seed1 := seed1, seed2 := seed2 }
  refuseOr [(q.bodyBad || ownerBad s w owner || decide (64 ≤ n ∨ kl = 0 ∨ (16 < kl ∧ kl < 33) ∨ 64 < kl ∨ log2 < 6 ∨ 23 < log2 ∨
      2 ≤ flags ∨ base % 256 ≠ 0) || !translates s o base (256 * 2 ^ log2), INVALID),
    ((s.pkt.tables.get? n).isSome || guarded s o base (256 * 2 ^ log2), IN_USE),
    (decide (33554432 < (s.pkt.tables.map fun e => tableEntries e.2).foldl (· + ·) 0 + tableEntries t), NO_RESOURCES)]
    (if noEntropy s ∧ (seed1 = 0 ∨ seed2 = 0) then .waits s [n, owner, kl, log2, flags, base, seed1, seed2]
    else .ok (tableAct s n t))

def execTableCreate (q : Req) (table owner kl log2 flags : B1) (base : B8) (seed1 seed2 : B4) (s : State) :
    Host.Outcome State Fault Refusal :=
  .next (serve q ⟨0x0804, 32, .opOrTenant, none, []⟩ (tableCreate q table owner kl log2 flags base seed1 seed2) s)

/-- The bytes of a bucket, where it can be read. -/
def bucketBytes (s : State) (t : MatchTable) (b : Nat) : Option Bytes :=
  match readPlot s t.owner (t.base + 256 * b) 256 with
  | .bytes bs => some bs
  | _ => none
/-- The entries of a bucket. -/
def bucketList (s : State) (t : MatchTable) (b : Nat) : List Bytes := entriesOf t.kl ((bucketBytes s t b).getD (zeros 256))
/-- Entry `i` of bucket `b` is written. -/
def putEntry (s : State) (t : MatchTable) (b i : Nat) (e : Bytes) : State :=
  (writeRaw s t.owner (t.base + 256 * b + entrySize t.kl * i) e).2
/-- An entry is empty (R239). -/
def entryFree (e : Bytes) : Bool := decide (e.head? ≠ some 0xA5)
/-- The key that an entry holds. -/
def entryKey (t : MatchTable) (e : Bytes) : Bytes := (e.drop 16).take t.kl
/-- The other bucket of the key that an entry of bucket `b` holds. -/
def otherBucket (t : MatchTable) (b : Nat) (e : Bytes) : Nat :=
  let p := bucketsOf t (entryKey t e)
  if p.1 = b then p.2 else p.1
/-- The place of a key: bucket and entry, where it is present (R429, R430). -/
def keyPlace (s : State) (t : MatchTable) (key : Bytes) : Option (Nat × Nat) :=
  let p := bucketsOf t key
  [p.1, p.2].findSome? fun b => ((bucketList s t b).findIdx? (entryMatches t.kl key)).map fun i => (b, i)
/-- The first empty entry of a bucket. -/
def freeIn (s : State) (t : MatchTable) (b : Nat) : Option Nat := (bucketList s t b).findIdx? entryFree

/-- One wave of the search for a displacement path: every bucket that an entry of a reached bucket may move to, with the
moves that lead there, latest first: (bucket, entry, next bucket). -/
def nextWave (s : State) (t : MatchTable) (seen : List Nat) (wave : List (Nat × List (Nat × Nat × Nat))) :
    List Nat × List (Nat × List (Nat × Nat × Nat)) :=
  wave.foldl (fun (acc : List Nat × List (Nat × List (Nat × Nat × Nat))) x =>
    ((bucketList s t x.1).zipIdx).foldl (fun (acc : List Nat × List (Nat × List (Nat × Nat × Nat))) e =>
      let b := otherBucket t x.1 e.1
      if acc.1.contains b then acc else (b :: acc.1, acc.2 ++ [(b, (x.1, e.2, b) :: x.2)])) acc) (seen, [])
/-- A shortest path of moves that frees an entry of one of the key's buckets, within `fuel` moves (R432). -/
def findPath (s : State) (t : MatchTable) : Nat → List Nat → List (Nat × List (Nat × Nat × Nat)) →
    Option (Nat × Nat × List (Nat × Nat × Nat))
  | fuel, seen, wave =>
    match wave.findSome? fun x => (freeIn s t x.1).map fun i => (x.1, i, x.2) with
    | some p => some p
    | none => match fuel with
      | 0 => none
      | fuel + 1 => findPath s t fuel (nextWave s t seen wave).1 (nextWave s t seen wave).2

/-- The moves of a path are applied from its end: each writes the new place before it empties the old one (R432, R433). The
empty entry moves back along the path; the answer is where it ends. -/
def applyMoves (t : MatchTable) (n : Nat) : List (Nat × Nat × Nat) → Nat × Nat → State → (Nat × Nat) × State
  | [], hole, s => (hole, s)
  | (b, i, _) :: l, hole, s =>
    let e := (bucketList s t b).getD i []
    let s1 := cachePurge s n (entryKey t e)
    applyMoves t n l (b, i) (putEntry (putEntry s1 t hole.1 hole.2 e) t b i (zeros (entrySize t.kl)))

/-- A key that is absent is inserted; none where no path of 128 moves or fewer exists. -/
def insertKey (s : State) (t : MatchTable) (n : Nat) (key action : Bytes) : Option State :=
  let p := bucketsOf t key
  (findPath s t 128 [p.1, p.2] [(p.1, []), (p.2, [])]).map fun r =>
    match applyMoves t n r.2.2 (r.1, r.2.1) s with
    | (hole, s1) => putEntry (cachePurge s1 n key) t hole.1 hole.2 (entryBytes t.kl key action)

/-- The action of a present key is replaced. -/
def replaceKey (s : State) (t : MatchTable) (n : Nat) (key action : Bytes) (p : Nat × Nat) : State :=
  putEntry (cachePurge s n key) t p.1 p.2 (entryBytes t.kl key action)

/-- A record that R432 bars: an OP of no meaning, or a non-zero reserved byte. -/
def recordBad (t : MatchTable) (r : Bytes) : Bool :=
  decide (fieldAt r 0 1 = 0 ∨ 4 < fieldAt r 0 1 ∨ fieldAt r 1 7 ≠ 0) || ((r.drop (8 + t.kl)).take (64 - t.kl)).any (fun b => decide (b ≠ 0)) ||
    (r.drop 104).any fun b => decide (b ≠ 0)

/-- One record of a TABLE_UPDATE: its status, and the state after it (R432, R433). -/
def applyRecord (s : State) (t : MatchTable) (n : Nat) (r : Bytes) : Nat × State :=
  let key := (r.drop 8).take t.kl
  let action := (r.drop 72).take 32
  let p := bucketsOf t key
  let insert := match insertKey s t n key action with
    | some s1 => (OK, s1)
    | none => (NO_RESOURCES, s)
  if recordBad t r then (INVALID, s)
  else if (bucketBytes s t p.1).isNone ∨ (bucketBytes s t p.2).isNone then (DEVICE_FAULT, s)
  else match fieldAt r 0 1, keyPlace s t key with
    | 1, some _ => (IN_USE, s)
    | 1, none => insert
    | 2, some x => (OK, replaceKey s t n key action x)
    | 3, some x => (OK, putEntry (cachePurge s n key) t x.1 x.2 (zeros (entrySize t.kl)))
    | 4, some x => (OK, replaceKey s t n key action x)
    | 4, none => insert
    | _, _ => (INVALID, s)

/-- Records in order, up to the first that fails: how many were applied, the failing status, the state (R432). -/
def applyRecords (t : MatchTable) (n : Nat) : List Bytes → Nat → State → Nat × Nat × State
  | [], k, s => (k, OK, s)
  | r :: l, k, s => match applyRecord s t n r with
    | (st, s1) => if st = OK then applyRecords t n l (k + 1) s1 else (k, st, s)

/-- TABLE_UPDATE (R432). -/
def tableUpdate (q : Req) (n count : Nat) (records : BufRef) (host : HostData) (w : Who) (s : State) : Answer :=
  let r := readBuf s w records host
  match s.pkt.tables.get? n with
  | none => .refuse INVALID []
  | some t =>
    refuseOr [(!mayActOn w t.owner || decide (bufStatus r = DENIED), DENIED),
      (q.bodyBad || decide (count = 0 ∨ 4096 < count) || refBad records (128 * count), INVALID), (!bufOk r, bufStatus r),
      (t.deleting.isSome, IN_USE)]
      (match applyRecords t n (chunks 128 count (bufBytes r)) 0 s with
        | (k, st, s1) => .done s1 (le 4 k ++ le 2 st ++ zeros 2))

def execTableUpdate (q : Req) (table : B1) (count : B4) (records : BufRef) (host : HostData) (s : State) :
    Host.Outcome State Fault Refusal :=
  .next (serve q ⟨0x0805, 24, .opOrTenant, some records, []⟩ (tableUpdate q table count records host) s)

/-- TABLE_DELETE (R428). -/
def tableDelete (q : Req) (n : Nat) (w : Who) (s : State) : Answer :=
  match s.pkt.tables.get? n with
  | none => .refuse INVALID []
  | some t =>
    refuseOr [(!mayActOn w t.owner, DENIED), (q.bodyBad, INVALID), (t.deleting.isSome, IN_USE)]
      (if probesOf s n then
        .later ACCEPTED (s.modPkt fun k => { k with tables := k.tables.set n { t with deleting := some s.opNo } }) (.tableDelete n)
      else .ended (dropTable s n) OK [])

def execTableDelete (q : Req) (table : B1) (s : State) : Host.Outcome State Fault Refusal :=
  .next (serve q ⟨0x0806, 8, .opOrTenant, none, []⟩ (tableDelete q table) s)

/-! ### Rings (R435, R436) -/

/-- RING_CREATE (R436). -/
def ringCreate (q : Req) (kind log2 db vector sq cq : Nat) (w : Who) (s : State) : Answer :=
  refuseOr [(q.bodyBad || decide (kind = 0 ∨ 2 < kind ∨ log2 < 6 ∨ 14 < log2 ∨ 64 ≤ db) ||
      (decide (vector ≠ 0xFF) && (instVector s w.inst vector).isNone), INVALID),
    ((ringOf s w.inst db).isSome, IN_USE), ((s.pkt.rings.firstFree 4096 0).isNone || !ctxRoom s, NO_RESOURCES)]
    (match s.pkt.rings.firstFree 4096 0 with
      | none => .refuse NO_RESOURCES []
      | some n =>
        let x : PktRing :=
          { inst := w.inst, owner := w.owner, tx := decide (kind = 2), log2 := log2, doorbell := db, vector := vector
            sqAddr := sq, cqAddr := cq }
        .done (addCtx (s.modPkt fun k => { k with rings := k.rings.set n x }) (cxRing n) w.owner w.port false)
          (le 2 n ++ zeros 6))

def execRingCreate (q : Req) (kind log2 doorbell vector : B1) (sqAddr cqAddr : B8) (s : State) :
    Host.Outcome State Fault Refusal :=
  .next (serve q ⟨0x0807, 32, .tenant, none, []⟩ (ringCreate q kind log2 doorbell vector sqAddr cqAddr) s)

/-- RING_DELETE (R436). -/
def ringDelete (q : Req) (n : Nat) (w : Who) (s : State) : Answer :=
  match s.pkt.rings.get? n with
  | none => .refuse INVALID []
  | some x =>
    refuseOr [(!mayActOn w x.owner, DENIED), (q.bodyBad, INVALID), (x.deleting.isSome, IN_USE)]
      (if ringBusy s n then
        .later ACCEPTED (s.modPkt fun k => { k with rings := k.rings.set n { x with deleting := some s.opNo } }) (.ringDelete n)
      else .ended (dropRing s n) OK [])

def execRingDelete (q : Req) (ring : B2) (s : State) : Host.Outcome State Fault Refusal :=
  .next (serve q ⟨0x0808, 8, .tenant, none, []⟩ (ringDelete q ring) s)

/-- EXCEPTION_RING_SET (R435). -/
def exceptionRingSet (q : Req) (ring log2 addr slots : Nat) (w : Who) (s : State) : Answer :=
  if w.op then
    refuseOr [(q.bodyBad || decide (ring ≠ 0 ∨ log2 < 6 ∨ 12 < log2), INVALID)]
      (.ok (s.modPkt fun k => { k with opExc := some { addr := addr, log2 := log2, slots := slots } }))
  else match s.pkt.rings.get? ring with
    | none => .refuse INVALID []
    | some x =>
      refuseOr [(decide (x.owner ≠ w.owner), DENIED), (q.bodyBad || x.tx || decide (log2 ≠ 0 ∨ addr ≠ 0 ∨ slots ≠ 0), INVALID),
        (x.deleting.isSome, IN_USE)]
        (.ok (s.modPkt fun k => { k with excRings := k.excRings.set w.owner ring }))

def execExceptionRingSet (q : Req) (ring : B2) (log2 : B1) (addr slots : B8) (s : State) : Host.Outcome State Fault Refusal :=
  .next (serve q ⟨0x0809, 32, .opOrTenant, none, []⟩ (exceptionRingSet q ring log2 addr slots) s)

/-! ### Queue pairs (R442) -/

/-- What RDMA_QP_CREATE names, but for the R_Key and the owner. -/
def newQp (o : Owner) (port flags mtu retry entry queue : Nat) (localIp remoteIp mac : Bytes) (dscp remoteQpn timeout psn base len expected : Nat) : Qp :=
  { owner := o, port := port, flags := flags, mtu := 128 * 2 ^ mtu, retry := retry, entry := entry, queue := queue
    localIp := localIp, remoteIp := remoteIp, mac := mac, dscp := dscp, remoteQpn := remoteQpn, timeout := timeout
    psn := psn, expected := expected, windowBase := base, windowLength := len, rkey := 0 }

/-- A queue pair is made with an R_Key from the entropy source; its number and key are answered. -/
def qpAct (s : State) (n : Nat) (x : Qp) (port : Nat) : State × Bytes :=
  let d := s.draw 4
  (addCtx (d.2.modPkt fun k => { k with qps := k.qps.set n { x with rkey := ofLe d.1 } }) (cxQp n) x.owner (port / 4) false,
    le 3 n ++ zeros 1 ++ d.1)

/-- A field of RDMA_QP_CREATE out of range. -/
def qpFieldsBad (port flags mtu retry entry queue mac dscp remoteQpn timeout psn expected : Nat) : Bool :=
  decide (8 ≤ port ∨ 8 ≤ flags ∨ mtu < 3 ∨ 5 < mtu ∨ 8 ≤ retry ∨ 1024 ≤ entry ∨ 16384 ≤ queue ∨ 2 ^ 48 ≤ mac ∨ 64 ≤ dscp ∨
    2 ^ 24 ≤ remoteQpn ∨ timeout = 0 ∨ 20 < timeout ∨ 2 ^ 24 ≤ psn ∨ 2 ^ 24 ≤ expected)

/-- RDMA_QP_CREATE (R442, R475). -/
def rdmaQpCreate (q : Req) (port flags mtu retry entry queue localIp remoteIp mac dscp remoteQpn timeout psn base len expected : Nat)
    (w : Who) (s : State) : Answer :=
  let o := w.owner
  let mine := ((s.pkt.owners.get? (1024 * port + entry)).map fun e => decide (e.owner = o)).getD false
  let x := newQp o port flags mtu retry entry queue (le 16 localIp) (le 16 remoteIp) (le 6 mac) dscp remoteQpn timeout psn base len
    expected
  refuseOr [(q.bodyBad || qpFieldsBad port flags mtu retry entry queue mac dscp remoteQpn timeout psn expected || !mine ||
      (decide (len ≠ 0) && !translates s o base len), INVALID),
    (decide (32768 ≤ s.pkt.qps.length) || !ctxRoom s, NO_RESOURCES)]
    (match s.pkt.qps.firstFree 32768 2 with
      | none => .refuse NO_RESOURCES []
      | some n =>
        if noEntropy s then
          .waits s [port, flags, mtu, retry, entry, queue, localIp, remoteIp, mac, dscp, remoteQpn, timeout, psn, base, len, expected]
        else .done (qpAct s n x port).1 (qpAct s n x port).2)

def execRdmaQpCreate (q : Req) (port flags mtu retry : B1) (entry queue : B2) (localIp remoteIp : B16) (mac : B8) (dscp : B1)
    (remoteQpn : B4) (timeout : B1) (startPsn : B4) (windowBase windowLength : B8) (expectedPsn : B4) (s : State) :
    Host.Outcome State Fault Refusal :=
  .next (serve q ⟨0x080A, 80, .opOrTenant, none, []⟩ (rdmaQpCreate q port flags mtu retry entry queue localIp remoteIp mac dscp
    remoteQpn timeout startPsn windowBase windowLength expectedPsn) s)

/-- RDMA_QP_DESTROY (R442). -/
def rdmaQpDestroy (q : Req) (n : Nat) (w : Who) (s : State) : Answer :=
  match s.pkt.qps.get? n with
  | none => .refuse INVALID []
  | some x =>
    refuseOr [(!mayActOn w x.owner, DENIED), (q.bodyBad, INVALID), (x.deleting.isSome, IN_USE)]
      (if x.unacked.any fun m => m.op.isSome then
        .later ACCEPTED (s.modQp n fun x => { x with deleting := some s.opNo }) (.qpDestroy n)
      else .ended (dropQp s n) OK [])

def execRdmaQpDestroy (q : Req) (qpn : B4) (s : State) : Host.Outcome State Fault Refusal :=
  .next (serve q ⟨0x080B, 8, .opOrTenant, none, []⟩ (rdmaQpDestroy q qpn) s)

end Sys2Proof.Machine
end

