-- ==== Sys2Proof/Machine/Roce.lean ====
section
/-! DEFINITION. The RoCEv2 engine as responder and requester: arrivals, acknowledgement, retries and congestion (13 R420,
R441, R442). What R441 takes from the InfiniBand Architecture Specification is PRESUMED from there. -/

namespace Sys2Proof.Machine

/-- A transport packet of a received frame. -/
structure RocePkt where
  op : Nat
  pad : Nat
  dest : Nat
  ackReq : Bool
  psn : Nat
  /-- what follows the base transport header, without the ICRC. -/
  rest : Bytes
  /-- the frame is marked as having met congestion. -/
  marked : Bool
  deriving DecidableEq, Repr

/-- The transport packet of a frame; none where the ICRC is wrong or the packet is malformed. -/
def rocePkt (d : Bytes) : Option RocePkt :=
  match formOf d with
  | none => none
  | some f =>
    let stop := f.l4 + beAt d (f.l4 + 4) 2
    let b := f.l4 + 8
    let ip := (d.drop f.l3).take (stop - 4 - f.l3)
    if d.length < stop ∨ stop < b + 16 then none
    else if (d.drop (stop - 4)).take 4 ≠ icrc f.v6 ip ∨ beAt d (b + 2) 2 % 0x8000 ≠ 0x7FFF then none
    else some { op := beAt d b 1, pad := beAt d (b + 1) 1 / 16 % 4, dest := beAt d (b + 5) 3, ackReq := bitOf (beAt d (b + 8) 1) 7,
                psn := beAt d (b + 9) 3, rest := (d.drop (b + 12)).take (stop - 4 - (b + 12)), marked := decide (f.ecn = 3) }

/-- Payload of a packet behind a header of `n` bytes, without pad. -/
def RocePkt.payload (x : RocePkt) (n : Nat) : Bytes := (x.rest.drop n).take (x.rest.length - n - x.pad)

/-! ### Answers -/

/-- An acknowledgement or NAK of a queue pair. -/
def roceAck (s : State) (n psn syndrome : Nat) : State :=
  match s.pkt.qps.get? n with
  | some q => roceSend s n (bth 0x11 0 false q.remoteQpn false psn ++ aeth syndrome q.msn)
  | none => s
/-- A NAK that puts the queue pair into the error state: 0x61 invalid request, 0x62 remote access, 0x63 remote
operational error. -/
def roceNak (s : State) (n psn syndrome : Nat) : State := qpError (roceAck s n psn syndrome) n 7
/-- The request with PSN `psn` has been taken: the next one is expected. -/
def advance (s : State) (n k : Nat) (done : Bool) : State :=
  s.modQp n fun q => { q with
    expected := psnAdd q.expected k, nakSent := false, msn := if done then (q.msn + 1) % 2 ^ 24 else q.msn }

/-- An RDMA access lies in the window of the queue pair, with its R_Key (R442). -/
def qpWindow (q : Qp) (bit addr rkey len : Nat) : Bool :=
  bitOf q.flags bit && decide (rkey = q.rkey ∧ q.windowBase ≤ addr ∧ addr + len ≤ q.windowBase + q.windowLength)
/-- The tag of an inbound access (R12). -/
def qpTag (q : Qp) : Nat := mkTag q.owner (reqEth q.port)

/-- A packet of an RDMA WRITE writes its payload; what becomes of it then (R29, R229, R442). -/
def qpWrite (s : State) (n : Nat) (q : Qp) (x : RocePkt) (addr left : Nat) (bs : Bytes) (last : Bool) : State :=
  let next := if last then none else some (addr + bs.length, left - bs.length)
  let go := fun (s : State) =>
    let s1 := advance (s.modQp n fun q => { q with writing := next }) n 1 last
    if x.ackReq then roceAck s1 n x.psn 0x1F else s1
  if left < bs.length ∨ (last = true ∧ left ≠ bs.length) ∨ (last = false ∧ bs.length ≠ q.mtu) then roceNak s n x.psn 0x61
  else match writePlot s q.owner addr bs with
    | (.done, s1) => go s1
    | (.violation, _) => go (violation s addr (qpTag q) 2 bs.length 0xFFF (0x200 + q.port))
    | (.deviceFault, _) => roceNak s n x.psn 0x63

/-- The packets that answer an RDMA READ. -/
def readAnswer (s : State) (n : Nat) (q : Qp) (psn : Nat) (bs : Bytes) : State :=
  let k := q.packets bs.length
  (List.range k).foldl (fun s i =>
    let part := (bs.drop (i * q.mtu)).take q.mtu
    let pad := (4 - part.length % 4) % 4
    let op := if k = 1 then 0x10 else if i = 0 then 0x0D else if i + 1 = k then 0x0F else 0x0E
    roceSend s n (bth op pad false q.remoteQpn false (psnAdd psn i) ++ (if op = 0x0E then [] else aeth 0x1F q.msn) ++ part
      ++ zeros pad)) s

/-- An RDMA READ request is answered (R442). -/
def qpRead (s : State) (n : Nat) (q : Qp) (x : RocePkt) (again : Bool) : State :=
  let addr := beAt x.rest 0 8
  let len := beAt x.rest 12 4
  let go := fun (s : State) (bs : Bytes) =>
    let s1 := if again then s else advance s n (q.packets len) true
    readAnswer s1 n ((s1.pkt.qps.get? n).getD q) x.psn bs
  if len ≠ 0 ∧ qpWindow q 1 addr (beAt x.rest 8 4) len = false then roceNak s n x.psn 0x62
  else if len = 0 then go s []
  else match readPlot s q.owner addr len with
    | .bytes bs => go s bs
    | .violation => go (violation s addr (qpTag q) 1 len 0xFFF (0x200 + q.port)) (zeros len)
    | .poisoned => roceNak (countPoison s q.owner addr len POISONED) n x.psn 0x63

/-- A request in order (R441): SEND 0x00 to 0x05, RDMA WRITE 0x06 to 0x0B, RDMA READ 0x0C. -/
def roceRequest (s : State) (n : Nat) (q : Qp) (x : RocePkt) : State :=
  let imm := if x.op = 3 ∨ x.op = 5 ∨ x.op = 9 ∨ x.op = 0x0B then 4 else 0
  if x.op ≤ 5 then
    let first := decide (x.op = 0 ∨ 4 ≤ x.op)
    let last := decide (2 ≤ x.op)
    if q.owner ≠ 16 ∨ q.writing.isSome ∨ first = q.sending then roceNak s n x.psn 0x61
    else
      let got := q.receiving ++ x.payload imm
      let s1 := advance (s.modQp n fun q => { q with receiving := if last then [] else got, sending := !last }) n 1 last
      if x.ackReq then roceAck s1 n x.psn 0x1F else s1
  else if x.op ≤ 0x0B then
    let first := decide (x.op = 6 ∨ 0x0A ≤ x.op)
    let last := decide (8 ≤ x.op)
    if first = q.writing.isSome ∨ q.sending = true then roceNak s n x.psn 0x61
    else if first then
      let addr := beAt x.rest 0 8
      let len := beAt x.rest 12 4
      if len ≠ 0 ∧ qpWindow q 2 addr (beAt x.rest 8 4) len = false then roceNak s n x.psn 0x62
      else qpWrite s n q x addr len (x.payload (16 + imm)) last
    else match q.writing with
      | some (addr, left) => qpWrite s n q x addr left (x.payload imm) last
      | none => s
  else if x.op = 0x0C then
    (if q.writing.isSome ∨ q.sending then roceNak s n x.psn 0x61 else qpRead s n q x false)
  else roceNak s n x.psn 0x61

/-- A request by its PSN: in order, a duplicate, or ahead of what is expected. -/
def roceInbound (s : State) (n : Nat) (q : Qp) (x : RocePkt) : State :=
  if x.psn = q.expected then roceRequest s n q x
  else if psnSub q.expected x.psn ≤ 2 ^ 23 then
    (if x.op = 0x0C then qpRead s n q x true else roceAck s n (psnAdd q.expected (2 ^ 24 - 1)) 0x1F)
  else if q.nakSent then s
  else roceAck (s.modQp n fun q => { q with nakSent := true }) n q.expected 0x60

/-! ### Requester -/

/-- The oldest READ has its data: its operation goes on. -/
def readDone (s : State) (n : Nat) (m : QpMsg) (data : Bytes) : State :=
  settleQp (msgDone (s.modQp n fun q => { q with unacked := q.unacked.drop 1, ackSince := s.lc }) m 0 (data.take m.length)) n

/-- A READ answer: the next one expected adds its data; one ahead of it starts go-back-N; an older one is ignored. -/
def readPart (s : State) (n : Nat) (q : Qp) (x : RocePkt) : State :=
  match q.unacked with
  | [] => s
  | m :: l =>
    let want := psnAdd m.psn (m.got q.mtu)
    if x.psn = want then
      let data := m.data ++ x.payload (if x.op = 0x0E then 0 else 4)
      let s1 := s.modQp n fun q => { q with tries := 0, ackSince := s.lc, unacked := { m with data := data } :: l }
      if m.length ≤ data.length then readDone s1 n m data else s1
    else if psnSub x.psn want ≤ 2 ^ 23 then sendRequests s n true
    else s

/-- An acknowledgement: a NAK for a sequence error starts go-back-N, any other NAK ends in the error state (R441, R442). -/
def roceAcked (s : State) (n : Nat) (x : RocePkt) : State :=
  let syn := beAt x.rest 0 1
  if syn = 0x60 then sendRequests s n true
  else if syn / 32 = 3 then qpError s n 0x0C
  else s

/-- A CNP halves the sending rate, down to 1 Gb/s (R441). -/
def roceCnp (s : State) (n : Nat) : State :=
  s.modQp n fun q => { q with rate := some (max 1000 (q.rate.getD (1000 * portRate s q.port) / 2)), rateAt := some s.lc }

/-- A marked arrival is answered by a CNP, at most once per 50 µs (R441). -/
def roceMark (s : State) (n : Nat) (q : Qp) : State :=
  if (q.cnpAt.map fun t => decide (t + 50000 ≤ s.lc)).getD true then
    roceSend (s.modQp n fun q => { q with cnpAt := some s.lc }) n (bth 0x81 0 true q.remoteQpn false 0 ++ zeros 16)
  else s

/-- A packet for a queue pair. -/
def rocePacket (s : State) (n : Nat) (q : Qp) (x : RocePkt) : State :=
  let s1 := if x.marked then roceMark s n q else s
  if x.op = 0x81 then roceCnp s1 n
  else if q.error then s1
  else if 0x0D ≤ x.op ∧ x.op ≤ 0x10 then readPart s1 n q x
  else if x.op = 0x11 then roceAcked s1 n x
  else roceInbound s1 n q x

/-- ROCE_RECEIVE (R420, R442): the oldest frame handed to the engine on a port; one for a parked queue pair waits (R386). -/
def execRoceReceive (port : Fin 8) (s : State) : Host.Outcome State Fault Refusal :=
  .next (let p := port.val
    if !s.on then s
    else match (s.eth p).roce with
      | [] => s
      | f :: l =>
        let gone := s.modEth p fun e => { e with roce := l }
        match rocePkt f.data with
        | none => gone
        | some x => match s.pkt.qps.get? x.dest with
          | none => gone
          | some q =>
            if q.owner ≠ f.owner then refViolation gone (mkTag f.owner (reqEth p)) 8 x.dest (reqEth p) (0x200 + p)
            else if !resident s (cxQp x.dest) then touchCtx s (cxQp x.dest)
            else rocePacket (touchCtx gone (cxQp x.dest)) x.dest q x)

/-- ROCE_ACK_TIMEOUT (R441, R442): 4.096 µs × 2^TIMEOUT without progress. -/
def execRoceAckTimeout (qpn : B4) (s : State) : Host.Outcome State Fault Refusal :=
  .next (match s.pkt.qps.get? qpn with
    | none => s
    | some q =>
      if !s.on || q.unacked.isEmpty || decide (s.lc < q.ackSince + 4096 * 2 ^ q.timeout) then s
      else if q.tries < q.retry then sendRequests (s.modQp qpn fun q => { q with tries := q.tries + 1, ackSince := s.lc }) qpn true
      else qpError s qpn 7)

/-- ROCE_RATE_INCREASE (R441): 5 % of the port rate per 55 µs without a CNP, up to the port rate. -/
def execRoceRateIncrease (qpn : B4) (s : State) : Host.Outcome State Fault Refusal :=
  .next (match s.pkt.qps.get? qpn with
    | none => s
    | some q => match q.rate, q.rateAt with
      | some r, some t =>
        let full := 1000 * portRate s q.port
        if !s.on || decide (s.lc < t + 55000) then s
        else if full ≤ r + full / 20 then s.modQp qpn fun q => { q with rate := none, rateAt := none }
        else s.modQp qpn fun q => { q with rate := some (r + full / 20), rateAt := some s.lc }
      | _, _ => s)

end Sys2Proof.Machine
end

