-- ==== Sys2Proof/Machine/Bringup.lean ====
section
/-! DEFINITION. The boot ROM, the readiness levels, lost and restored clocks (15 R464, R465, 16 R509 to R514, 02 R43 to R45). -/

namespace Sys2Proof.Machine

/-! ### The boot ROM (R464 to R466) -/

/-- The key that signs an image is fused and not revoked (R463). -/
def keyFused (s : State) (k : Nat) : Bool := decide (k < 4) && bitOf s.fuses.keyState k && !bitOf s.fuses.keyState (4 + k)
/-- An image passes the boot ROM's checks (R465). -/
def imagePasses (s : State) (i : BootImage) : Bool :=
  decide (s.fuses.lifecycle = 0x5A) && i.verifies && decide (2 ≤ i.levelMax ∧ i.levelMax ≤ 3) && keyFused s i.keyIndex && decide (fusedVersion s ≤ i.securityVersion)

/-- The staged image, as the boot ROM reads it from the staging bank. -/
def stagedImage (s : State) (read : Option BootImage) : Option BootImage :=
  match s.fw.staging with
  | .staged i => read.map fun r =>
    { verifies := r.verifies, fwVersion := i.fwVersion, securityVersion := i.securityVersion, levelMax := i.levelMax
      liveCapable := i.liveCapable, keyIndex := i.keyIndex, digest := i.digest }
  | _ => none

/-- What the boot ROM tries, in order, with the flash bank and whether the image is the staged one: the image that the boot pointer
names, then the one in the other flash bank (R464). -/
def bootChoices (s : State) (staged bank0 bank1 : Option BootImage) : List (Option BootImage × Nat × Bool) :=
  let b := s.fw.bank
  let at_ (k : Nat) : Option BootImage := if k = 0 then bank0 else bank1
  if s.fw.bootStaged then [(stagedImage s staged, 1 - b, true), (at_ b, b, false)]
  else [(at_ b, b, false), (at_ (1 - b), 1 - b, false)]

/-- An image boots: the row of RAISE_SVN is programmed (R466), DMR0 and DMR1 are extended, BOOT_NONCE and the device memory key are
drawn, the firmware memory key is derived, and level ROM is reached (R464). -/
def bootImage (s : State) (i : BootImage) (bank : Nat) (fromStaged : Bool) : State :=
  let raise := s.fw.raiseSvn && fromStaged && decide (s.fuses.svnRows.length < 32 ∧ fusedVersion s < i.securityVersion)
  let fw : Firmware := { s.fw with
    version := i.fwVersion, security := i.securityVersion, levelMax := i.levelMax, bank := bank, keyIndex := i.keyIndex
    staging := if fromStaged then .empty else s.fw.staging
    bootStaged := s.fw.bootStaged && !fromStaged, raiseSvn := s.fw.raiseSvn && !fromStaged, pending := s.fw.pending && !fromStaged }
  let s1 : State := { s with fw := fw }
  let s2 := if raise then raiseFuses s1 i.securityVersion i.keyIndex else s1
  let s3 := measureFuses (measureDevice s2 0 1 i.fwVersion i.digest)
  let n := s3.draw 16
  let d := n.2.draw 64
  let s4 := d.2.modSec fun c => { c with deviceKey := some d.1, firmwareKey := true }
  { s4 with
    clk := { s4.clk with aligned := true }
    boot := { s4.boot with rom := true, level := 1, failed := false, cause := 0xFFFFFFFF, bootNonce := ofLe n.1 } }

/-- BOOT_ROM (R464, R465): root PLL lock, self-tests, the entropy source's start-up test, then the first image that passes. Without
an entropy source the draws wait, and the boot goes no further. -/
def execBootRom (staged bank0 bank1 : Option BootImage) (entropyOk : Bool) (s : State) : Host.Outcome State Fault Refusal :=
  .next (if !s.on || s.boot.rom then s
    else
      let clk := if s.clk.rootLocked then s.clk else { s.clk with rootLocked := true, lc := 0 }
      let s1 := ({ s with clk := clk } : State).modSec fun c => { c with withdrawn0 := !entropyOk, withdrawn1 := !entropyOk }
      if !entropyOk then s1
      else
        match (bootChoices s1 staged bank0 bank1).find? fun c => (c.1.map (imagePasses s1)).getD false with
        | some (some i, bank, st) => bootImage s1 i bank st
        | _ => bringUpFailed { s1 with clk := { s1.clk with aligned := true }, boot := { s1.boot with rom := true } } 0xFFFFFFFF)

/-! ### Units found bad (R91, R514) -/

/-- The die of a unit; 0xFF for those that serve both. -/
def unitDie (u : Nat) : Nat :=
  if u < 0x90 then u / 72
  else if inRange u 0xA0 16 then (u - 0xA0) / 8
  else if inRange u 0x100 64 then (u - 0x100) / 32
  else if inRange u 0x140 32 then (u - 0x140) / 16
  else if inRange u 0x160 16 then (u - 0x160) % 8 / 4
  else if inRange u 0x170 16 then (u - 0x170) / 8
  else if inRange u 0x180 2 then u - 0x180
  else if inRange u 0x188 16 then (u - 0x188) % 8 / 4
  else if inRange u 0x198 4 then (u - 0x198) / 2
  else if inRange u 0x1A0 10 then u % 2
  else if inRange u 0x1AD 2 then 1 - u % 2
  else 0xFF
/-- KIND of a unit's entry in the fault log (R373). -/
def unitKind (u : Nat) : Nat := if u < 0x90 then 1 else 3

/-- A unit fails its test at bring-up: it stays out of service and enters the fault log (R34, R514). -/
def testFailed (s : State) (u : Nat) : State :=
  if !unitNamed u || heldOut s u then s
  else unitFault (logFault (modUnit s u fun r => { r with state := .failed }) u (unitKind u) DEVICE_FAULT) u (unitDie u) DEVICE_FAULT
    (unitKind u)

/-- The passing units among `k` from `lo` up. -/
def passing (s : State) (lo k : Nat) : List Nat := ((List.range k).map fun i => lo + i).filter fun u => !heldOut s u
/-- The first unit among `k` from `lo` up that does not pass. -/
def firstBadUnit (s : State) (lo k : Nat) : Nat := (((List.range k).map fun i => lo + i).find? fun u => heldOut s u).getD 0xFFFFFFFF
/-- Passing Laurel cores, of die 0 and die 1 alternately (R510). -/
def laurelOrder (s : State) : List Nat :=
  (List.range 8).flatMap fun i => [uLaurel i, uLaurel (8 + i)].filter fun u => !heldOut s u

/-- The units come into service. -/
def bringIn (s : State) (us : List Nat) : State :=
  (us.filter fun u => !heldOut s u).foldl (fun s u => modUnit s u fun r => { r with state := .inService }) s

/-- The tiles of a group that the fault log holds out. -/
def badTiles (s : State) (g : Nat) : List Nat :=
  (List.range 9).filter fun k => s.faultLog.any fun e => decide (e.kind = 1 ∧ e.unit = 9 * g + k)
/-- A mesh stop of the group is in the fault log. -/
def badStop (s : State) (g : Nat) : Bool := (faultyStops s).any fun t => decide (t / 9 = g)
/-- The fault log retires the group: a second tile, or a mesh stop (R89 to R91). -/
def groupRetired (s : State) (g : Nat) : Bool := badStop s g || decide (2 ≤ (badTiles s g).length)
/-- The group may be offered: its unit passes and the fault log does not retire it. -/
def groupPasses (s : State) (g : Nat) : Bool := !heldOut s (uGroup g) && !groupRetired s g

/-- A group is offered for assignment with the slot map that the fault log implies, or retired, or left out (R91, R92). -/
def offerGroup (s : State) (g : Nat) : State :=
  if (s.group g).state ≠ .outOfService then s
  else if groupRetired s g then
    (modUnit s (uGroup g) fun r => { r with state := .failed }).modGroup g fun x => { x with state := .retired }
  else if heldOut s (uGroup g) then s
  else
    let bad := badTiles s g
    bringIn (s.modGroup g fun x => { x with
      state := .free
      renamed := bad.find? fun k => decide (k < 8)
      noSpare := bad.contains 8 }) (uGroup g :: (List.range 9).map fun k => 9 * g + k)

/-- Groups that one die offers first (R511): the lowest-numbered that passes. -/
def firstGroup (s : State) (die : Nat) : List Nat := (((List.range 8).map fun i => 8 * die + i).filter (groupPasses s)).take 1
/-- Fewer than a group or four clusters of a die pass (R514). -/
def dieShort (s : State) (die : Nat) : Bool :=
  (firstGroup s die).isEmpty || decide ((passing s (0x100 + 32 * die) 32).length < 4)
/-- The unit that R514's last case names. -/
def shortCause (s : State) : Nat :=
  let d := if dieShort s 0 then 0 else 1
  if (firstGroup s d).isEmpty then uGroup (8 * d) else firstBadUnit s (0x100 + 32 * d) 32
/-- FAILED was set by R514's last case, in which the device goes on to FULL. -/
def goesOn (s : State) : Bool := inRange s.boot.cause 0xA0 16 || inRange s.boot.cause 0x100 64

/-! ### QUICKSET (R510 to R512) -/

/-- The cause that stops the bring-up at its level (R514). -/
def fatalCause (s : State) : Option Nat :=
  if (laurelOrder s).length < 4 then some (firstBadUnit s 0x170 16)
  else if heldOut s 0x1AA then some 0x1AA
  else if (passing s 0x160 4).isEmpty then some 0x160
  else if (passing s 0x164 4).isEmpty then some 0x164
  else none

/-- The units of R511 that are the same in every device. -/
def quickUnits : List Nat := [0x180, 0x181, 0x190, 0x194, 0x198, 0x19A, 0x19D, 0x1A4, 0x1A5, 0x1A6, 0x1A7, 0x1A8, 0x1A9, 0x1AA, 0x1AB, 0x1AC]
/-- A die's units at Quickset: its lowest-numbered passing stack with its inline pipe, four clusters and four cipher engines. -/
def quickDie (s : State) (d : Nat) : List Nat :=
  let k := (passing s (0x160 + 4 * d) 4).take 1
  k ++ k.map (fun u => u + 8) ++ (passing s (0x100 + 32 * d) 32).take 4 ++ (passing s (0x140 + 16 * d) 16).take 4
/-- The stack of a die's Quickset map (R512). -/
def quickStack (s : State) (d : Nat) : List Nat := ((passing s (0x160 + 4 * d) 4).take 1).map fun u => u - 0x160

/-- The units of R511 come into service and the level becomes QUICKSET. -/
def enterQuickset (s : State) : State :=
  let s1 := bringIn s (quickUnits ++ quickDie s 0 ++ quickDie s 1 ++ (laurelOrder s).take 4)
  let s2 := (firstGroup s 0 ++ firstGroup s 1).foldl offerGroup s1
  let s3 := setMap (setMap s2 0 (quickStack s 0)) 1 (quickStack s 1)
  let short := dieShort s 0 || dieShort s 1
  let s4 : State := { s3 with boot := { s3.boot with
    level := 2, failed := short, cause := if short then shortCause s else 0xFFFFFFFF } }
  let s5 := (s4.modEth 0 fun e => { e with mode := 1 }).modEth 4 fun e => { e with mode := 1 }
  excChanged s (readyChanged (retrainEth (retrainEth s5 0) 4))

/-- QUICKSET_REACHED (R509 to R512, R514): with the units that fail their test. -/
def execQuicksetReached (bad : List Nat) (s : State) : Host.Outcome State Fault Refusal :=
  .next (if !s.on || !s.boot.rom || decide (s.boot.level ≠ 1) || s.boot.failed then s
    else
      let s1 := bad.foldl testFailed s
      match fatalCause s1 with
      | some u => bringUpFailed s1 u
      | none => enterQuickset s1)

/-! ### FULL (R513, R514) -/

/-- Every unit of R519 but for tiles and groups, which `offerGroup` brings in. -/
def fullUnits : List Nat := ((List.range 0xAF).map fun i => 0x100 + i).filter unitNamed
/-- A die's stack of the Quickset map no longer passes (R514). -/
def quickLost (s : State) : Option Nat :=
  ((s.dram.map0 ++ s.dram.map1).find? fun k => heldOut s (uStack k)).map uStack
/-- The host links run at 64.0 GT/s, in Flit Mode (R315, R316, R513). -/
def speedUp (s : State) (p : Nat) : State :=
  s.modPort p fun h => if h.linkUp then { h with advertised := 6, speed := 6, flit := true } else { h with advertised := 6 }

/-- The Quickset plots move to the map of every passing stack, and the level becomes FULL (R513). -/
def enterFull (s : State) : State :=
  let passingOf (d : Nat) : List Nat := (passing s (0x160 + 4 * d) 4).map fun u => u - 0x160
  let s1 := (setMap (setMap s 0 (passingOf 0)) 1 (passingOf 1)).modDram fun d => { d with quickset := false }
  let s2 := (List.range 16).foldl offerGroup (bringIn s1 fullUnits)
  let s3 := speedUp (speedUp s2 0) 1
  let s4 : State := { s3 with boot := { s3.boot with level := 3, failed := false, cause := 0xFFFFFFFF } }
  excChanged s (readyChanged (announce s s4))

/-- FULL_REACHED (R509, R513, R514): with the units that fail their test. -/
def execFullReached (bad : List Nat) (s : State) : Host.Outcome State Fault Refusal :=
  .next (if !s.on || decide (s.boot.level ≠ 2) || (s.boot.failed && !goesOn s) then s
    else
      let s1 := bad.foldl testFailed s
      match (quickLost s1).or (fatalCause s1) with
      | some u => bringUpFailed s1 u
      | none => enterFull s1)

/-! ### Lost and restored clocks (R43 to R45) -/

/-- A lost clock is reported to the operator and no one else (R43). -/
def clockReport (s : State) (u : Nat) : State :=
  operatorReport s 0x01F0 0x11 (unitDie u) u u DEVICE_FAULT (256 * (s.units.getD u {}).state.code)
/-- A clock, by its number, is declared lost. -/
def clockDown (s : State) (k u : Nat) (f : Clocks → Clocks) : State :=
  clockReport { s with clk := { f s.clk with down := k :: s.clk.down } } u

/-- The number and the UNIT of an asynchronous clock. -/
def clockNumber : ClockId → Nat × Nat
  | .root => (0xFFFF, 0xFFFF)
  | .host p => (p.val, uHost p.val)
  | .eth p => (8 + p.val, uEth p.val)
  | .zalLane p l => (laneClock p.val l.val, uZal p.val)
  | .storage => (24, uStor 0)

/-- CLOCK_LOST (R43, R45, R67, R259). -/
def execClockLost (c : ClockId) (s : State) : Host.Outcome State Fault Refusal :=
  let k := (clockNumber c).1
  let u := (clockNumber c).2
  .next (if !s.on || s.clk.down.contains k then s
    else match c with
      | .root => shutDown s .root
      | .host p => perst (clockDown s k u fun x => if p.val = 0 then { x with lostHost0 := true } else { x with lostHost1 := true }) p.val
      | .eth p => (clockDown s k u fun x => { x with lostEth := true }).modEth p.val fun e =>
          { e with link := if e.link = 3 then 3 else 0, speed := 0, fecAligned := false }
      | .zalLane p l => (clockDown s k u fun x => { x with lostZal := true }).modZal p.val fun z =>
          { z with rxFailed := z.rxFailed ||| 2 ^ l.val, link := if z.link = .up then .retraining else z.link }
      | .storage => (List.range 4).foldl storLinkDown (clockDown s k u fun x => { x with lostStor := true }))

/-- CLOCK_RESTORED (R44): the link retrains; its crossings re-arm as R69 states. -/
def execClockRestored (c : ClockId) (s : State) : Host.Outcome State Fault Refusal :=
  let k := (clockNumber c).1
  .next (if !s.on || !s.clk.down.contains k then s
    else
      let s1 : State := { s with clk := { s.clk with down := s.clk.down.filter fun j => decide (j ≠ k) } }
      match c with
      | .eth p => s1.modEth p.val fun e => { e with link := if e.link = 0 then 1 else e.link }
      | .zalLane p l => laneBack s1 p.val l.val
      | _ => s1)

end Sys2Proof.Machine
end

