-- ==== Sys2Proof/Machine/Ialdo.lean ====
section
/-! DEFINITION. Mailbox sessions and the messages of families 0x01 and 0x02 but for partition reset and deletion
(11 R358 to R374, R385 to R388, 05 R176). -/

namespace Sys2Proof.Machine

/-! ### Sessions (R358, R359) -/

/-- The device's feature bitmap at a level (R359). -/
def deviceFeatures (level : Nat) : Nat := if level = 3 then 0x1FFFF else 0x7F
/-- ROLE of a mailbox (R359): 0 operator PF, 1 other PF, 2 instance. -/
def roleOf (s : State) (m : Nat) : Nat := if m < 0x400 then 2 else if m = opMbx s then 0 else 1

/-- HELLO's 64-byte response body (R359). -/
def helloBody (s : State) (m level features : Nat) : Bytes :=
  let part := if m < 0x400 then ((s.insts.get? m).map Instance.part).getD 0 else 0xFF
  le 1 level ++ le 1 (roleOf s m) ++ le 1 part ++ zeros 1 ++ le 2 (mbxInst m) ++ le 2 (inProgressMax s)
    ++ le 32 features ++ le 4 s.fw.version ++ zeros 20

/-- The RESPONSE to a HELLO carries level 0 (R356). -/
def helloRespond (s : State) (q : Req) (n status : Nat) (body : Bytes) : State :=
  postReply s q.mbx { opcode := 0x0101, kind := 2, level := 0, index := n, status := status, token := 0,
                      cookie := q.cookie, time := s.lc, body := body }

/-- HELLO (R358, R359). -/
def execHello (q : Req) (hostLevel : B1) (driverVersion : B4) (features : BitVec 256) (s : State) :
    Host.Outcome State Fault Refusal :=
  .next (if !mbxFetches s q.mbx then s
    else
      let s1 := fetchReq s q.mbx
      let n := (s1.mbx q.mbx).fetched
      if decide (q.level ≠ 0 ∨ q.index ≠ n ∨ q.len ≠ 48) || q.hdrBad || q.bodyBad then helloRespond s1 q n INVALID []
      else if hostLevel < 2 then helloRespond s1 q n UNSUPPORTED []
      else
        let level := min hostLevel s.fw.levelMax
        let f := features.toNat &&& deviceFeatures level
        let s2 := s1.modMbx q.mbx fun b =>
          { b.endSession with session := some { level := level, features := f, driverVersion := driverVersion } }
        helloRespond s2 q n OK (helloBody s2 q.mbx level f))

/-- GOODBYE (R373). -/
def goodbye (q : Req) (_ : Who) (s : State) : Answer := refuseOr [(q.bodyBad, INVALID)] (.bye s)

def execGoodbye (q : Req) (s : State) : Host.Outcome State Fault Refusal :=
  .next (serve q ⟨0x0102, 0, .any, none, []⟩ (goodbye q) s)

/-! ### Family 0x01 (R373) -/

/-- The bits of the numbers below `n` that satisfy `p`. -/
def bitsWhere (n : Nat) (p : Nat → Bool) : Nat :=
  (List.range n).foldl (fun (v : Nat) k => if p k then v + 2 ^ k else v) 0

/-- DEVICE_INFO. -/
def deviceInfo (q : Req) (_ : Who) (s : State) : Answer :=
  refuseOr [(q.bodyBad, INVALID)]
    (.done s (padTo 64 (le 2 (if s.fuses.lx then 2 else 1) ++ le 1 1 ++ le 1 s.boot.level ++ le 4 s.fw.version
      ++ le 8 s.fuses.serial ++ le 8 (2 ^ 30 * plotsPerStack s * unitsIn s 0x160 8)
      ++ le 1 (bitsWhere 8 fun k => unitIn s (uStack k)) ++ le 1 (laurelCores s)
      ++ le 2 (bitsWhere 16 fun g => decide ((s.group g).state ≠ .retired))
      ++ le 1 (bitsWhere 8 fun p => (s.zal p).inService) ++ le 1 (bitsWhere 8 fun p => decide ((s.eth p).link = 2))
      ++ le 1 (bitsWhere 2 fun p => (s.port p).driverPresent))))

def execDeviceInfo (q : Req) (s : State) : Host.Outcome State Fault Refusal :=
  .next (serve q ⟨0x0103, 0, .any, none, []⟩ (deviceInfo q) s)

/-- READY_QUERY. -/
def readyQuery (q : Req) (_ : Who) (s : State) : Answer :=
  refuseOr [(q.bodyBad, INVALID)]
    (.done s (le 1 s.boot.level ++ le 1 (b2n s.boot.failed + 2 * b2n s.boot.opAbsent) ++ zeros 2 ++ le 4 s.boot.cause))

def execReadyQuery (q : Req) (s : State) : Host.Outcome State Fault Refusal :=
  .next (serve q ⟨0x0104, 0, .any, none, []⟩ (readyQuery q) s)

/-- The device log has room for `n` more entries (R470). -/
def deviceLogRoom (s : State) (n : Nat) : Bool := decide (s.sec.log.length + n ≤ 4096)

/-- OPERATOR_TRANSFER (R366, R469, R562). -/
def operatorTransfer (q : Req) (port : Nat) (_ : Who) (s : State) : Answer :=
  refuseOr [(q.bodyBad || decide (2 ≤ port), INVALID),
    (!(s.port port).driverPresent || (s.mbx (0x400 + port)).session.isNone, IN_USE), (!deviceLogRoom s 1, NO_RESOURCES)]
    (.ok (sendEvent (measureDevice { s with boot := { s.boot with opPort := port } } 1 0x0004 port (zeros 32))
      .bothPf 0x01F2 port 0 0))

def execOperatorTransfer (q : Req) (port : B1) (s : State) : Host.Outcome State Fault Refusal :=
  .next (serve q ⟨0x0105, 8, .operator, none, []⟩ (operatorTransfer q port) s)

/-- The 32 bytes of a first-violation record (R32). -/
def VioRecord.bytes (r : VioRecord) : Bytes :=
  le 8 r.time ++ le 8 r.address ++ le 3 r.tag ++ le 1 r.kind ++ le 4 r.length ++ le 2 r.target ++ le 2 r.accessor
    ++ le 1 1 ++ zeros 3

/-- VIOLATION_READ (R31, R373). -/
def violationRead (q : Req) (scope flags : Nat) (_ : Who) (s : State) : Answer :=
  let o := if scope = 0xFF then 16 else scope
  let v := s.vio.getD o {}
  refuseOr [(q.bodyBad || decide ((16 ≤ scope ∧ scope ≠ 0xFF) ∨ 2 ≤ flags), INVALID)]
    (.done (if bitOf flags 0 then { s with vio := s.vio.erase o } else s)
      (le 4 v.count ++ zeros 4 ++ padTo 32 ((v.record.map VioRecord.bytes).getD [])))

def execViolationRead (q : Req) (scope flags : B1) (s : State) : Host.Outcome State Fault Refusal :=
  .next (serve q ⟨0x0106, 8, .operator, none, []⟩ (violationRead q scope flags) s)

/-- The 32 bytes of a fault-log entry (R373). -/
def FaultEntry.bytes (e : FaultEntry) : Bytes :=
  padTo 32 (le 8 e.time ++ le 8 e.nonce ++ le 2 e.unit ++ le 1 e.kind ++ zeros 1 ++ le 4 e.code)

/-- FAULT_LOG_READ. Entries past the log's end read as zeros. -/
def faultLogRead (q : Req) (first count : Nat) (out : BufRef) (w : Who) (s : State) : Answer :=
  refuseOr [(q.bodyBad || decide (count < 1 ∨ 1024 < count) || refBad out (32 * count), INVALID)]
    (doneWithBuf s w out (padTo (32 * count) (((s.faultLog.drop first).take count).flatMap FaultEntry.bytes))
      (le 4 s.faultLog.length ++ zeros 4))

def execFaultLogRead (q : Req) (first count : B4) (out : BufRef) (s : State) : Host.Outcome State Fault Refusal :=
  .next (serve q ⟨0x0107, 24, .operator, none, []⟩ (faultLogRead q first count out) s)

/-- FAULT_LOG_REMOVE (R91): entries of KIND 0x01 to 0x03 only. -/
def faultLogRemove (q : Req) (entry : Nat) (_ : Who) (s : State) : Answer :=
  refuseOr [(q.bodyBad || !((s.faultLog[entry]?).map fun e => decide (1 ≤ e.kind ∧ e.kind ≤ 3)).getD false, INVALID)]
    (.ok { s with faultLog := s.faultLog.eraseIdx entry })

def execFaultLogRemove (q : Req) (entry : B4) (s : State) : Host.Outcome State Fault Refusal :=
  .next (serve q ⟨0x0108, 8, .operator, none, []⟩ (faultLogRemove q entry) s)

/-- EVENT_CONFIG (R364). -/
def eventConfig (q : Req) (count : Nat) (events : List Nat) (_ : Who) (s : State) : Answer :=
  refuseOr [(q.bodyBad || decide (32 < count), INVALID)]
    (.ok (s.modMbx q.mbx fun b => { b with events := events.take count }))

def execEventConfig (q : Req) (count : B1) (events : List Nat) (s : State) : Host.Outcome State Fault Refusal :=
  .next (serve q ⟨0x0109, 72, .any, none, []⟩ (eventConfig q count events) s)

/-- What an abort of a long operation does (R363), or none where it cannot be aborted. How long a prefix a FILL or COPY
has completed is open. -/
def abortAct (s : State) (n : Nat) (o : LongOp) : Option State :=
  match o.data with
  | .fill _ _ _ _ _ | .copy _ _ _ _ =>
    let f := s.fresh (fillLen o.data / 32 + 1)
    some (finishOp (fillPrefix f.2 o.data (32 * f.1)).2 n ABORTED [])
  | .modelLoad _ _ _ => some (finishOp s n ABORTED [])
  | .fwStage _ => some (finishOp { s with fw := { s.fw with staging := .empty } } n ABORTED [])
  | .quote _ _ _ _ _ =>
    some (finishOp (s.modSec fun k =>
      { k with quotes := k.quotes.filter fun j => decide (j ≠ n),
               signing := if (k.signing.bind Signing.op) = some n then none else k.signing }) n ABORTED [])
  | .bist u _ _ => some (finishOp (modUnit s u fun r => { r with state := .out }) n ABORTED [])
  | _ => none

/-- IALDO_ABORT (R363). -/
def ialdoAbort (q : Req) (token : Nat) (_ : Who) (s : State) : Answer :=
  let b := s.mbx q.mbx
  match s.longOps.find? fun e => decide (e.2.mbx = q.mbx ∧ e.2.sessionNo = b.sessionNo ∧ e.2.token = token) with
  | some (n, o) => match abortAct s n o with
    | some s' => refuseOr [(q.bodyBad, INVALID)] (.done s' (le 2 ABORTED ++ zeros 6))
    | none => .refuse INVALID []
  | none =>
    refuseOr [(q.bodyBad, INVALID)]
      (.done s (le 2 (if b.doneTokens.contains token then ALREADY_COMPLETE else NO_SUCH_OPERATION) ++ zeros 6))

def execIaldoAbort (q : Req) (token : B4) (s : State) : Host.Outcome State Fault Refusal :=
  .next (serve q ⟨0x010A, 8, .any, none, []⟩ (ialdoAbort q token) s)

/-- MAILBOX_QUERY. -/
def mailboxQuery (q : Req) (mailbox : Nat) (w : Who) (s : State) : Answer :=
  let m := if mailbox = 0xFFFF then q.mbx else mailbox
  let b := s.mbx m
  refuseOr [(decide (m ≠ q.mbx) && !w.op, DENIED),
    (q.bodyBad || decide (0x402 ≤ m) || (decide (m < 0x400) && (s.insts.get? m).isNone), INVALID)]
    (.done s (le 1 ((b.session.map Session.level).getD 0) ++ le 1 (roleOf s m) ++ zeros 2
      ++ le 4 ((b.session.map Session.driverVersion).getD 0) ++ le 4 b.protoErr ++ le 4 b.lost ++ le 2 (inProgress s m)
      ++ le 2 b.pend.length ++ zeros 4 ++ le 8 b.fetched))

def execMailboxQuery (q : Req) (mailbox : B2) (s : State) : Host.Outcome State Fault Refusal :=
  .next (serve q ⟨0x010B, 8, .any, none, []⟩ (mailboxQuery q mailbox) s)

/-- HEP_COUNTS_CLEAR (R321). -/
def hepCountsClear (q : Req) (port mask : Nat) (_ : Who) (s : State) : Answer :=
  refuseOr [(q.bodyBad || decide (2 ≤ port ∨ 8 ≤ mask), INVALID)]
    (.ok (s.modPort port fun h =>
      { h with droppedDma := if bitOf mask 0 then 0 else h.droppedDma
               ctoCount := if bitOf mask 1 then 0 else h.ctoCount
               lateCount := if bitOf mask 2 then 0 else h.lateCount }))

def execHepCountsClear (q : Req) (port mask : B1) (s : State) : Host.Outcome State Fault Refusal :=
  .next (serve q ⟨0x010C, 8, .operator, none, []⟩ (hepCountsClear q port mask) s)

/-! ### Family 0x02 (R22, R368, R374, R385, R388) -/

/-- The sum of a quota over the partitions other than `p`. -/
def otherQuotas (s : State) (p : Nat) (f : Partition → Nat) : Nat :=
  ((s.parts.keep fun k _ => decide (k ≠ p)).map fun e => f e.2).foldl (· + ·) 0
/-- The configured exception rates of the owners other than `o`. -/
def otherRates (s : State) (o : Owner) : Nat := ((s.excRates.keep fun k _ => decide (k ≠ o)).map Prod.snd).foldl (· + ·) 0

/-- The 32 bytes of a PARTITION_CREATE body (R368). -/
def createBytes (part policy tracker resident rate keySlots pageEntries : Nat) : Bytes :=
  le 1 part ++ le 1 policy ++ zeros 2 ++ le 4 tracker ++ le 2 resident ++ zeros 2 ++ le 4 rate ++ le 4 keySlots
    ++ le 4 pageEntries ++ zeros 8

/-- A partition with the values of PARTITION_CREATE, defaults in place (R368). -/
def newPart (policy tracker resident keySlots pageEntries : Nat) : Partition :=
  { stopPolicy := bitOf policy 0, tenantCounters := bitOf policy 1
    trackerQuota := if tracker = 0xFFFFFFFF then 4032 else tracker
    residentQuota := if resident = 0xFFFF then 240 else resident
    keyQuota := keySlots, pageQuota := pageEntries }

/-- A value of PARTITION_CREATE that is out of range or breaks a total (R22, R278, R385, R388, R476). -/
def createBad (s : State) (part policy : Nat) (x : Partition) (rate : Nat) : Bool :=
  decide (16 ≤ part ∨ 4 ≤ policy ∨ 64512 < x.trackerQuota + otherQuotas s part Partition.trackerQuota ∨
    4080 < x.residentQuota + s.opResident + otherQuotas s part Partition.residentQuota ∨
    16384 < x.keyQuota + otherQuotas s part Partition.keyQuota ∨
    16777216 < x.pageQuota + otherQuotas s part Partition.pageQuota ∨ rate < 1000 ∨ 8000000 < rate ∨
    excCapacity s < rate + otherRates s part)

/-- The partition is made, with its violation record empty, its memory key drawn and its register extended
(R31, R368, R469, R489). -/
def createAct (s : State) (part : Nat) (x : Partition) (rate : Nat) (body : Bytes) : State :=
  let d := s.draw 64
  let s1 : State := { d.2 with
    parts := s.parts.set part x
    vio := s.vio.erase part
    excRates := s.excRates.set part rate }
  let s2 := s1.modSec fun k =>
    { k with pmr := k.pmr.set part (zeros 32), logs := k.logs.set part []
             memKeys := k.memKeys.set part { key := some d.1, imported := false, check := [] } }
  excChanged s (measurePart (measurePart s2 part 0x0010 part (Config.sha256 body)) part 0x0012 0 (zeros 32))

/-- A deletion of the partition number is in progress (R374). -/
def beingDeleted (s : State) (part : Nat) : Bool :=
  s.longOps.any fun _ o => match o.data with | .partCleared p _ => decide (p = part) | _ => false

/-- PARTITION_CREATE (R368, R475). -/
def partitionCreate (q : Req) (part policy tracker resident rate keySlots pageEntries : Nat) (_ : Who) (s : State) : Answer :=
  let x := newPart policy tracker resident keySlots pageEntries
  let r := if rate = 0 then 1000000 else rate
  refuseOr [(alarmed s, NOT_READY), (q.bodyBad || createBad s part policy x r, INVALID),
    (partExists s part || beingDeleted s part, IN_USE)]
    (if noEntropy s then .waits s [part, policy, tracker, resident, rate, keySlots, pageEntries]
    else .ok (createAct s part x r (createBytes part policy tracker resident rate keySlots pageEntries)))

def execPartitionCreate (q : Req) (part policy : B1) (tracker : B4) (resident : B2) (rate keySlots pageEntries : B4)
    (s : State) : Host.Outcome State Fault Refusal :=
  .next (serve q ⟨0x0201, 32, .operator, none, []⟩ (partitionCreate q part policy tracker resident rate keySlots pageEntries) s)

/-- PARTITION_QUERY. -/
def partitionQuery (q : Req) (part : Nat) (w : Who) (s : State) : Answer :=
  let p := if part = 0xFF ∧ w.op = false then w.owner else part
  match s.parts.get? p with
  | none => refuseOr [(!w.op && decide (p ≠ w.owner), DENIED)] (.refuse INVALID [])
  | some x =>
    let e := s.pkt.excCounts.getD p {}
    refuseOr [(!mayActOn w p, DENIED), (q.bodyBad, INVALID)]
      (.done s (padTo 112 (le 1 p ++ le 1 (b2n x.stopPolicy + 2 * b2n x.tenantCounters) ++ zeros 2 ++ le 4 x.trackerQuota
        ++ le 4 (heldBy s p) ++ le 2 x.residentQuota ++ le 2 (residentCount s p) ++ le 4 x.queueQuota ++ le 4 (queuesHeld s p)
        ++ le 4 (s.excRates.getD p 0) ++ le 4 (excRate s p) ++ le 8 e.delivered ++ le 8 e.droppedRate ++ le 8 e.droppedNoRing
        ++ le 8 (s.pkt.verdictDrops.getD p 0) ++ le 4 x.keyQuota ++ le 4 (keysHeld s p) ++ le 4 x.pageQuota
        ++ le 4 (pagesHeld s p) ++ le 4 (plotQuota s p) ++ le 4 (plotsHeld s p)
        ++ le 2 (bitsWhere 16 fun g => decide ((s.group g).owner = p) && decide ((s.group g).state = .assigned))
        ++ le 2 (s.insts.count fun _ i => decide (i.part = p)) ++ le 1 (bitsWhere 8 fun k => decide ((s.zal k).owner = p)))))

def execPartitionQuery (q : Req) (part : B1) (s : State) : Host.Outcome State Fault Refusal :=
  .next (serve q ⟨0x0203, 8, .opOrTenant, none, []⟩ (partitionQuery q part) s)

/-- A value of QUOTA_SET that breaks a total (R22, R385). -/
def quotaBad (s : State) (part kind value : Nat) : Bool :=
  if kind = 1 then decide (64512 < value + otherQuotas s part Partition.trackerQuota)
  else if kind = 2 then
    decide (4080 < value + otherQuotas s part Partition.residentQuota + (if part = 0xFF then 0 else s.opResident))
  else decide (kind ≠ 3)

/-- A quota takes its value; a lower resident quota parks contexts (R24, R386). -/
def quotaAct (s : State) (part kind value : Nat) : State :=
  if part = 0xFF then parkExcess { s with opResident := value } 16
  else
    let s1 : State := { s with parts := s.parts.modify part fun x =>
      if kind = 1 then { x with trackerQuota := value }
      else if kind = 2 then { x with residentQuota := value }
      else { x with queueQuota := value } }
    if kind = 2 then parkExcess s1 part else s1

/-- QUOTA_SET. -/
def quotaSet (q : Req) (part kind value : Nat) (_ : Who) (s : State) : Answer :=
  refuseOr [(q.bodyBad || (if part = 0xFF then decide (kind ≠ 2) else !partExists s part) || quotaBad s part kind value, INVALID),
    (decide (kind = 3 ∧ value < queuesHeld s part), IN_USE)]
    (.ok (quotaAct s part kind value))

def execQuotaSet (q : Req) (part kind : B1) (value : B4) (s : State) : Host.Outcome State Fault Refusal :=
  .next (serve q ⟨0x0204, 8, .operator, none, []⟩ (quotaSet q part kind value) s)

/-- EXCEPTION_RATE_SET (R388). -/
def exceptionRateSet (q : Req) (owner rate : Nat) (w : Who) (s : State) : Answer :=
  let o := ownerOr w owner
  refuseOr [(q.bodyBad || ownerBad s w owner || decide (rate < 1000 ∨ 8000000 < rate ∨ excCapacity s < rate + otherRates s o),
      INVALID)]
    (.ok (excChanged s { s with excRates := s.excRates.set o rate }))

def execExceptionRateSet (q : Req) (owner : B1) (rate : B4) (s : State) : Host.Outcome State Fault Refusal :=
  .next (serve q ⟨0x0206, 8, .operator, none, []⟩ (exceptionRateSet q owner rate) s)

/-- Some loaded program of the owner uses a custom opcode (R176). -/
def customInUse (s : State) (o : Owner) : Bool :=
  (s.models.any fun _ m => decide (m.part = o) && m.usesCustom) ||
    (((s.pkt.shares.get? o).bind Share.program).map fun l =>
      l.any fun b => decide (0x70 ≤ sylMajor (sylOf b 1)) || decide (0x70 ≤ sylMajor (sylOf b 3))).getD false

/-- DECODE_TABLE_LOAD (R176 to R180, R374, R469). The operator domain has no PMR. -/
def decodeTableLoad (q : Req) (owner : Nat) (table : BufRef) (host : HostData) (w : Who) (s : State) : Answer :=
  let o := ownerOr w owner
  let r := readBuf s w table host
  let t := (bufBytes r).take 1024
  let s1 : State := { s with decode := s.decode.set o t }
  refuseOr [(decide (bufStatus r = DENIED), DENIED),
    (q.bodyBad || ownerBad s w owner || refBad table 1024, INVALID), (!bufOk r, bufStatus r), (!decodeTableOk t, INVALID),
    (customInUse s o, IN_USE), (decide (o < 16) && !logRoom s o 1, NO_RESOURCES)]
    (.ok (if o < 16 then measurePart s1 o 0x0015 (b2n w.op) (Config.sha256 t) else s1))

def execDecodeTableLoad (q : Req) (owner : B1) (table : BufRef) (host : HostData) (s : State) :
    Host.Outcome State Fault Refusal :=
  .next (serve q ⟨0x0240, 24, .opOrTenant, some table, []⟩ (decodeTableLoad q owner table host) s)

end Sys2Proof.Machine
end

