-- ==== Sys2Proof/Machine/Alarm.lean ====
section
/-! DEFINITION. Entropy sources, draws that wait, masking DRBGs, and alarms (15 R475, R492 to R495). -/

namespace Sys2Proof.Machine

/-! ### Alarms (R493 to R495) -/

/-- A general slot's key is erased: a LOADED or EXHAUSTED slot becomes ERASED, its count kept (R477, R494). -/
def KeySlot.erasedBy (k : KeySlot) : KeySlot := { k with state := .erased, key := [] }

/-- Every secret that R459 marks as erased is erased. -/
def eraseSecrets (s : State) : State :=
  s.modSec fun c => { c with
    slots := c.slots.mapV fun _ k => k.erasedBy
    importKeys := [], decaps := [], deviceKey := none, firmwareKey := false
    memKeys := c.memKeys.mapV fun _ m => { m with key := none } }

/-- The storage commands that were with a cipher engine end with DEVICE_FAULT. -/
def failCiphers (s : State) : State :=
  ((s.stor.ops.keep fun _ o => usesCipher s o && o.started).map Prod.fst).foldl (fun s t => finishIo s t .fault []) s
/-- The direct-feed descriptors with a decrypt stage end with DEVICE_FAULT, but for those past it. -/
def failFeeds (s : State) : State :=
  let before (r : DfRun) : Bool := decide (r.desc.cipher ≠ 0) && match r.stage with
    | .staged _ => false
    | .flushing _ _ => false
    | _ => true
  ((s.link.runs.keep fun _ r => before r).map Prod.fst).foldl (fun s t =>
    dfEnd (match s.stor.ops.get? t with | some o => closeIo s t o | none => s) t dfFAULT 0) s
/-- The quote being signed ends with DEVICE_FAULT; the next one derives the identity key again (R459). -/
def failQuote (s : State) : State :=
  match s.sec.signing with
  | none => s
  | some g => startSigning (answerQuote (s.modSec fun c => { c with signing := none }) g DEVICE_FAULT [])
/-- The sessions whose DRBG state is gone stop with SCHEDULE_FAULT. -/
def failSessions (s : State) : State :=
  ((s.sessions.keep fun _ y => decide (y.state ≠ .loading)).map Prod.fst).foldl (fun s h => stopSession s h SCHEDULE_FAULT) s
/-- This member of the checkpoint group stops: a generation that it has not prepared is abandoned (R311). -/
def failMember (s : State) : State :=
  let late := ((s.ckp.bind CkpGroup.gen).map fun r => decide (5 ≤ r.phase.code)).getD false
  (if late then s else ckpAbandon s 1).modCkp fun g =>
    { g with formed := false, inService := g.inService.filter fun m => decide (m ≠ g.member) }

/-- The work that the erased secrets end (R494). -/
def failWork (s : State) : State := failMember (failSessions (failQuote (failFeeds (failCiphers s))))

/-- The alarm is reported and recorded, and stands (R493, R494). -/
def raiseAlarm (s : State) (k : Nat) : State :=
  let s1 := logFault (failWork (eraseSecrets s)) 0xFFFF 4 (Config.errorCode 0xFFFF 4 k)
  unitFault (s1.modSec fun c => { c with alarm := some k, alarmAt := s.lc }) 0xFFFFFFFF 0xFF DEVICE_FAULT 4

/-- ALARM (R493, R494): the input, the root PLL and the temperature trip also shut the device down. -/
def execAlarm (source : Fin 7) (s : State) : Host.Outcome State Fault Refusal :=
  .next (if !s.on then s
    else if source.val = 1 then shutDown s .input
    else if source.val = 2 then shutDown s .root
    else if source.val = 4 ∧ 1200 ≤ hotTj s then shutDown s .trip
    else raiseAlarm s source.val)

/-- The plots of an owner that its key protects are LOST, to be zeroed, and return to it (R247, R495). -/
def loseOwned (o : Owner) (s : State) : State :=
  (s.dram.plots.map Prod.fst).foldl (fun s n =>
    let p := plotAt s n
    if 4 ≤ n % 512 ∧ p.state = .assigned ∧ p.owner = o ∧ !(decide (o = 16) && p.clear) then
      plotLost (modPlot s n fun p => { p with state := .lost }) n 1
    else s) s

/-- Step 3 of R495 for a partition: a memory key that was drawn is drawn again. -/
def redraw (s : State) (e : Nat × MemKey) : State :=
  if e.2.imported then s
  else
    let d := s.draw 64
    loseOwned e.1 (d.2.modSec fun c => { c with memKeys := c.memKeys.modify e.1 fun m => { m with key := some d.1 } })

/-- Steps 1 to 3 and 5 of R495; an imported key stays away until its re-import (step 4). -/
def restoreKeys (s : State) : State :=
  let d := s.draw 64
  let s1 := loseOwned 16 (d.2.modSec fun c => { c with firmwareKey := true, deviceKey := some d.1, alarm := none })
  (s1.sec.memKeys.foldl redraw s1).modSec fun c => { c with
    unseeded := []
    reseeds := (List.range 40).foldl (fun (t : Tbl Nat) e => t.set e (t.getD e 0 + 1)) c.reseeds }

/-- ALARM_CLEAR (R495): its source has stayed clear for 10 ms. The draws need an entropy source. -/
def execAlarmClear (s : State) : Host.Outcome State Fault Refusal :=
  .next (if s.on && alarmed s && !noEntropy s && decide (s.sec.alarmAt + 10000000 ≤ s.lc) then restoreKeys s else s)

/-! ### Entropy sources and draws that wait (R475) -/

/-- A die's source is withdrawn, or serves again. -/
def setSource (s : State) (die : Nat) (withdrawn : Bool) : State :=
  s.modSec fun c => if die = 0 then { c with withdrawn0 := withdrawn } else { c with withdrawn1 := withdrawn }

/-- ENTROPY_TEST_FAIL (R475). -/
def execEntropyTestFail (die : Fin 2) (s : State) : Host.Outcome State Fault Refusal :=
  .next (if s.on then setSource s die.val true else s)

/-- A request that waited is answered, unless its mailbox session has ended (R355). -/
def answerWaiting (s : State) (q : Req) (op n sessionNo : Nat) (a : List Nat) : State :=
  let w := whoOf s q.mbx
  let v (k : Nat) : Nat := a.getD k 0
  if (s.mbx q.mbx).sessionNo ≠ sessionNo ∨ (s.mbx q.mbx).session.isNone then s
  else answer s q op n
    (if op = 0x0201 then partitionCreate q (v 0) (v 1) (v 2) (v 3) (v 4) (v 5) (v 6) w s
    else if op = 0x0A01 then keyInit q (v 0) w s
    else if op = 0x0804 then tableCreate q (v 0) (v 1) (v 2) (v 3) (v 4) (v 5) (v 6) (v 7) w s
    else rdmaQpCreate q (v 0) (v 1) (v 2) (v 3) (v 4) (v 5) (v 6) (v 7) (v 8) (v 9) (v 10) (v 11) (v 12) (v 13) (v 14) (v 15) w s)

/-- An engine's masking DRBG is seeded anew (R492). -/
def reseed (s : State) (e : Nat) : State :=
  (s.draw 48).2.modSec fun c =>
    { c with reseeds := c.reseeds.set e (c.reseeds.getD e 0 + 1), unseeded := c.unseeded.filter fun k => decide (k ≠ e) }

/-- A draw that waited is served. -/
def serveDraw (s : State) (d : WaitingDraw) : State :=
  match d.what with
  | .request q op n k a => answerWaiting s q op n k a
  | .session h => loadDone s h
  | .engine e => reseed s e

/-- ENTROPY_SOURCE_RESTORED (R475): the waiting draws are served, oldest first, every engine and pipe
reseeds, and the jobs that waited for an engine start. -/
def execEntropySourceRestored (die : Fin 2) (s : State) : Host.Outcome State Fault Refusal :=
  .next (if !s.on then s
    else
      let s1 := (setSource s die.val false).modSec fun c => { c with waiting := [] }
      let s2 := s.sec.waiting.foldl serveDraw s1
      pumpIo (s2.sec.unseeded.foldl reseed s2))

/-- The jobs that wait for a cipher engine fail. -/
def failQueued (s : State) : State :=
  ((s.stor.ops.keep fun _ o => usesCipher s o && !o.started && decide (o.missing = 0)).map Prod.fst).foldl
    (fun s t => finishIo s t .fault []) (((s.link.runs.keep fun _ r => decide (r.desc.cipher ≠ 0) && match r.stage with
      | .fetched _ _ => true
      | _ => false).map Prod.fst).foldl (fun s t => dfEnd s t dfFAULT 0) s)

/-- What a draw that waited too long served fails with DEVICE_FAULT. -/
def failDraw (s : State) (d : WaitingDraw) : State :=
  match d.what with
  | .request q op n k _ =>
    if (s.mbx q.mbx).sessionNo ≠ k ∨ (s.mbx q.mbx).session.isNone then s else respond s q op n DEVICE_FAULT 0 []
  | .session h => openFails s h DEVICE_FAULT
  | .engine _ => if noEngine s then failQueued s else s

/-- ENTROPY_WAIT_TIMEOUT (R475): the oldest draw has waited for 10 ms. -/
def execEntropyWaitTimeout (s : State) : Host.Outcome State Fault Refusal :=
  .next (match s.sec.waiting with
    | [] => s
    | d :: rest =>
      if s.on && decide (d.since + 10000000 ≤ s.lc) then failDraw (s.modSec fun c => { c with waiting := rest }) d else s)

/-- MASKING_DRBG_RESEED (R492): after 2^20 blocks; without a source an engine waits for its draw and takes no new job, and an inline
pipe keeps its last state. -/
def execMaskingDrbgReseed (engine : Fin 40) (s : State) : Host.Outcome State Fault Refusal :=
  .next (if !s.on then s
    else if !noEntropy s then reseed s engine.val
    else if s.sec.unseeded.contains engine.val then s
    else s.modSec fun c => { c with
      unseeded := engine.val :: c.unseeded
      waiting := if engine.val < 32 then c.waiting ++ [{ since := s.lc, what := .engine engine.val }] else c.waiting })

end Sys2Proof.Machine
end

