-- ==== Sys2Proof/Machine/Monitor.lean ====
section
/-! DEFINITION. Programmable counters, the device error log and the telemetry samplers (17 R520 to R534). -/

namespace Sys2Proof.Machine

/-! ### COUNTER_CONFIG (R522, R524 to R526) -/

/-- Units with memory: those that R536 gives a memory BIST. -/
def hasMemory (u : Nat) : Bool := decide (u < 0x90) || inRange u 0x100 64 || inRange u 0x160 8 || inRange u 0x170 16
/-- Units that reject accesses (R32). -/
def rejects (u : Nat) : Bool :=
  inRange u 0x100 0x60 || inRange u 0x170 16 || inRange u 0x180 2 || inRange u 0x188 16 || inRange u 0x1A0 4 || inRange u 0x1A8 2
/-- The unit has the event (R522). -/
def hasEvent (u e : Nat) : Bool :=
  if e = 2 ∨ e = 3 then decide (0x90 ≤ u)
  else if e = 7 then hasMemory u
  else if e = 8 then rejects u
  else if inRange e 0x40 4 then
    decide (u < 0x90) || inRange u 0x100 64 || inRange u 0x160 8 || inRange u 0x188 8 || (inRange u 0x190 8 && decide (e ≠ 0x43))
  else decide (e ≤ 6)
/-- A tenant may count the event: R522 gives it a T filter, and it is not VIOLATIONS (R525). -/
def tenantEvent (u e : Nat) : Bool :=
  inRange e 1 5 || (inRange e 0x40 4 && !(decide (e = 0x43) && (inRange u 0x160 8 || inRange u 0x188 8)))

/-- Who holds a counter: a partition, or the operator where it is configured. None: it is free. -/
def counterHolder (s : State) (u k : Nat) : Option Owner :=
  let c := pmcAt s u k
  match c.holder with
  | some p => some p
  | none => if c.event ≠ 0 ∨ c.flags ≠ 0 ∨ (0 < k ∧ (pmcAt s u (k - 1)).holder = none ∧ bitOf (pmcAt s u (k - 1)).flags 1 = true)
      then some 16 else none
/-- The counter that a request names: 0xFF is the lowest free of 4 to 7. -/
def counterNamed (s : State) (u n : Nat) : Option Nat :=
  if n = 0xFF then [4, 5, 6, 7].find? fun k => (counterHolder s u k).isNone else some n
/-- Counters that a partition holds. -/
def countersHeld (s : State) (p : Nat) : Nat := s.mon.pmc.count fun _ c => decide (c.holder = some p)
/-- A slot of the partition is bound to another counter. -/
def slotTaken (s : State) (p key slot : Nat) : Bool := s.mon.pmc.any fun k c => decide (k ≠ key ∧ c.holder = some p ∧ c.slot = slot)
/-- The slot that a request names: 0xFF is the lowest free one. -/
def slotNamedBy (s : State) (p key slot : Nat) : Nat :=
  if slot = 0xFF then ((List.range 64).find? fun k => !slotTaken s p key k).getD 0 else slot

/-- COUNTER_CONFIG as its body spells it (R525). -/
structure CounterBody where
  unit : Nat
  counter : Nat
  event : Nat
  flags : Nat
  part : Nat
  master : Nat
  mask : Nat
  cls : Nat
  ctrl : Nat
  lo : Nat
  hi : Nat
  value : Nat
  slot : Nat
  deriving DecidableEq, Repr

/-- A field out of range (R525), for a sender that is a tenant or not. -/
def CounterBody.bad (b : CounterBody) (tenant : Bool) : Bool :=
  !hasPmc b.unit || decide (8 ≤ b.counter ∧ b.counter ≠ 0xFF) || !hasEvent b.unit b.event || decide (32 ≤ b.part) ||
    decide (4096 ≤ b.master ∨ 4096 ≤ b.mask ∨ 4 ≤ b.ctrl ∨ 2 ^ 48 ≤ b.value ∨ (64 ≤ b.slot ∧ b.slot ≠ 0xFF)) ||
    (bitOf b.flags 1 && decide (b.counter = 7)) || (tenant && !bitOf b.ctrl 1 && !tenantEvent b.unit b.event)

/-- The counter after its configuration; a tenant's counts only its own partition's work (R526). -/
def CounterBody.apply (b : CounterBody) (o : Owner) (slot : Nat) (c : PmcCounter) : PmcCounter :=
  let preset := bitOf b.ctrl 0
  let flags := if o = 16 then b.flags else b.flags - b.flags / 4 % 4 * 4 + 12
  { count := if preset then b.value else c.count
    ovf := c.ovf && !(preset && decide (o ≠ 16))
    event := b.event, flags := flags, part := if o = 16 then b.part else 16 + o, master := b.master, mask := b.mask, cls := b.cls
    lo := b.lo, hi := b.hi, holder := if o = 16 then none else some o, slot := if o = 16 then 0 else slot }

/-- COUNTER_CONFIG (R525, R526). -/
def counterConfig (q : Req) (b : CounterBody) (w : Who) (s : State) : Answer :=
  let tenant := !w.op
  let o := w.owner
  let allowed := ((s.parts.get? o).map Partition.tenantCounters).getD false
  refuseOr [(tenant && (decide (b.counter < 4) || !allowed), DENIED), (q.bodyBad || b.bad tenant, INVALID)]
    (match counterNamed s b.unit b.counter with
     | none => .refuse NO_RESOURCES []
     | some k =>
       let key := 8 * b.unit + k
       let h := counterHolder s b.unit k
       let foreign := decide (h.isSome = true ∧ h ≠ some o) && !(w.op && bitOf b.ctrl 1)
       let next := (pmcAt s b.unit (k + 1)).holder
       let link := bitOf b.flags 1 && !bitOf b.ctrl 1 && decide (next ≠ (if o = 16 then none else some o))
       let slot := slotNamedBy s o key b.slot
       let body (n : Nat) : Bytes := le 1 k ++ le 1 n ++ zeros 6
       refuseOr [(bitOf b.flags 1 && decide (k = 7), INVALID), (foreign || link, IN_USE),
           (tenant && !bitOf b.ctrl 1 && slotTaken s o key slot, IN_USE),
           (tenant && !bitOf b.ctrl 1 && decide (h ≠ some o ∧ 64 ≤ countersHeld s o), NO_RESOURCES)]
         (.done (s.modMon fun m => { m with
             pmc := if bitOf b.ctrl 1 then m.pmc.erase key else m.pmc.set key (b.apply o slot (pmcAt s b.unit k)) })
           (body (if tenant && !bitOf b.ctrl 1 then slot else b.slot))))

def execCounterConfig (q : Req) (unit : B2) (counter event flags part : B1) (master mask : B2) (cls ctrl : B1) (lo hi value : B8)
    (slot : B1) (s : State) : Host.Outcome State Fault Refusal :=
  let b : CounterBody :=
    { unit := unit, counter := counter, event := event, flags := flags, part := part, master := master, mask := mask, cls := cls
      ctrl := ctrl, lo := lo, hi := hi, value := value, slot := slot }
  .next (serve q ⟨0x0F01, 48, .opOrTenant, none, []⟩ (counterConfig q b) s)

/-- TENANT_COUNTER_ACCESS (R382). -/
def tenantCounterAccess (q : Req) (part allow : Nat) (_ : Who) (s : State) : Answer :=
  refuseOr [(q.bodyBad || !partExists s part || decide (16 ≤ part ∨ 2 ≤ allow), INVALID)]
    (.ok { s with parts := s.parts.modify part fun p => { p with tenantCounters := decide (allow = 1) } })
def execTenantCounterAccess (q : Req) (part allow : B1) (s : State) : Host.Outcome State Fault Refusal :=
  .next (serve q ⟨0x0F03, 8, .operator, none, []⟩ (tenantCounterAccess q part allow) s)

/-! ### COUNTER_READ (R528) -/

/-- The 80 bytes of a unit's counters, as the operator (16) or a partition sees them (R528). -/
def counterEntry (s : State) (o : Owner) (u : Nat) : Bytes :=
  let mine (k : Nat) : Bool := decide (o = 16) || decide ((pmcAt s u k).holder = some o)
  let cycle := if o = 16 ∨ ((List.range 8).any mine) = true then pmcCycle s u else 0
  le 8 cycle ++ ((List.range 8).flatMap fun k => le 8 (if mine k then (pmcAt s u k).count else 0))
    ++ le 1 (bitsWhere 8 fun k => mine k && (pmcAt s u k).ovf) ++ le 1 (bitsWhere 8 fun k => mine k && bitOf (pmcAt s u k).flags 0)
    ++ zeros 6

/-- COUNTER_READ (R528): the capture time is at least 1 µs after the commit, and the RESPONSE follows it. -/
def counterRead (q : Req) (count : Nat) (units out : BufRef) (host : HostData) (w : Who) (s : State) : Answer :=
  let r := readBuf s w units host
  let us := (chunks 2 count (bufBytes r)).map fun b => fieldAt b 0 2
  refuseOr [(q.bodyBad || decide (count < 1 ∨ 256 < count) || refBad units (2 * count) || refBad out (80 * count), INVALID),
    (!bufOk r, bufStatus r), (us.any fun u => !hasPmc u, INVALID)]
    (.held (s.modMon fun m => { m with captures := m.captures ++
      [{ at_ := s.lc + 1000, q := q, index := (s.mbx q.mbx).fetched, sessionNo := (s.mbx q.mbx).sessionNo, units := us, out := out }] }))
def execCounterRead (q : Req) (count : B2) (units out : BufRef) (host : HostData) (s : State) : Host.Outcome State Fault Refusal :=
  .next (serve q ⟨0x0F02, 48, .opOrTenant, some units, []⟩ (counterRead q count units out host) s)

/-- COUNTER_CAPTURE (R528): the oldest capture whose time has come; TIME is the capture time. -/
def execCounterCapture (s : State) : Host.Outcome State Fault Refusal :=
  .next (match s.mon.captures with
    | [] => s
    | c :: rest =>
      if !s.on || decide (s.lc < c.at_) then s
      else
        let w := whoOf s c.q.mbx
        let s1 := s.modMon fun m => { m with captures := rest }
        if (s.mbx c.q.mbx).sessionNo ≠ c.sessionNo then s1
        else
          let r := writeBuf s1 w c.out.space c.out.addr (c.units.flatMap (counterEntry s w.owner))
          respond (if r.1 = OK then r.2 else s1) c.q 0x0F02 c.index r.1 0 [])

/-! ### ERROR_LOG_READ (R530, R382) -/

/-- The 32 bytes of an error record (R530). -/
def ErrorRecord.bytes (r : ErrorRecord) : Bytes :=
  le 8 r.time ++ le 2 r.unit ++ le 1 r.cls ++ le 1 r.code ++ le 1 r.owner ++ zeros 1 ++ le 2 r.status ++ le 8 r.address
    ++ le 4 r.count ++ le 1 1 ++ zeros 3

/-- ERROR_LOG_READ (R382, R530). -/
def errorLogRead (q : Req) (first count : Nat) (out : BufRef) (w : Who) (s : State) : Answer :=
  refuseOr [(q.bodyBad || decide (count < 1 ∨ 1024 < count) || refBad out (32 * count), INVALID)]
    (doneWithBuf s w out (padTo (32 * count) (((s.mon.errors.drop first).take count).flatMap ErrorRecord.bytes))
      (le 4 s.mon.errors.length ++ le 4 s.mon.overwrites))
def execErrorLogRead (q : Req) (first : B4) (count : B2) (out : BufRef) (s : State) : Host.Outcome State Fault Refusal :=
  .next (serve q ⟨0x0F05, 24, .operator, none, []⟩ (errorLogRead q first count out) s)

/-! ### The telemetry ring (R533, R534) -/

/-- TELEMETRY_RING_SET (R533): records are counted from 1 again. -/
def telemetryRingSet (q : Req) (addr log2 vector : Nat) (_ : Who) (s : State) : Answer :=
  refuseOr [(q.bodyBad || decide (log2 < 6 ∨ 16 < log2), INVALID)]
    (.ok (s.modMon fun m => { m with ring := { set := true, addr := addr, log2 := log2, vector := vector, queue := m.ring.queue } }))
def execTelemetryRingSet (q : Req) (addr : B8) (log2 vector : B1) (s : State) : Host.Outcome State Fault Refusal :=
  .next (serve q ⟨0x0F04, 32, .operator, none, []⟩ (telemetryRingSet q addr log2 vector) s)

/-- Queued records are written while there is room, LOST_RECORDS first (R534). At most `fuel` records. -/
def teleFlush : Nat → State → State
  | 0, s => s
  | fuel + 1, s =>
    if !teleRoom s then s
    else if s.mon.ring.lostSince ≠ 0 then teleFlush fuel (teleLost s)
    else match s.mon.ring.queue with
      | [] => s
      | r :: rest => teleFlush fuel (telePut (s.modMon fun m => { m with ring := { m.ring with queue := rest } }) r)

/-- TELEMETRY_RECORD_WRITE (R534): CONSUMED is read again. -/
def execTelemetryRecordWrite (consumed : B8) (s : State) : Host.Outcome State Fault Refusal :=
  .next (if !s.on || !s.mon.ring.set || !(s.port s.boot.opPort).driverPresent then s
    else teleFlush 258 (s.modMon fun m => { m with ring := { m.ring with consumed := consumed } }))

/-! ### The telemetry samplers (R531, R532) -/

/-- A sample record of a die's sampler. -/
def sample (s : State) (due type die source status : Nat) (payload : Bytes) : State :=
  teleSample s { time := due, type := type, die := die, source := source, status := status, payload := payload }

/-- An exchange begins on a port's sideband, unless the port is not in service (R532, R548). -/
def sideStart (p die set due : Nat) (s : State) : State :=
  if (s.zal p).link ≠ .up ∨ (s.zal p).inService = false then sample s due 1 die p dfLINKDOWN []
  else
    (s.modMon fun m => { m with side := m.side.set p { start := s.lc, due := due, set := set } }).emitAll
      [.sideband p 0xA5, .sideband p set]

/-- ACCEL (R531, R532): an entry whose port is still in an exchange is late; one under RUN_LATE waits for the exchange's end. -/
def execAccel (die : Fin 2) (s : State) : Host.Outcome State Fault Refusal :=
  let key := slotKey 4 die.val 0
  .next (match launchNext (s.slot key) with
    | none => s
    | some (due, e) =>
      let p := 4 * die.val + e.arg % 4
      if !s.on || e.action ≠ 1 || decide (s.lc < due) then s
      else if (s.mon.side.get? p).isSome then
        match policyOf (s.slot key) e with
        | 0 => s
        | 1 => countSkip (s.modSlot key launchAdvance) key
        | _ => launchHalt (s.modSlot key launchAdvance) key (s.slot key).index
      else launchRun s key 0 (fun x => decide (x.action = 1)) fun d x s => sideStart p die.val (x.arg / 256 % 256) d s)

/-- ACCEL_REPLY (R532): the accelerator's length byte and bytes, within 250 µs of the start. -/
def execAccelReply (port : Fin 8) (payload : Bytes) (s : State) : Host.Outcome State Fault Refusal :=
  .next (match s.mon.side.get? port.val with
    | some x =>
      if !s.on || decide (64 < payload.length ∨ x.start + 250000 < s.lc) then s
      else sample (s.modMon fun m => { m with side := m.side.erase port.val }) x.due 1 (port.val / 4) port.val 0 payload
    | none => s)

/-- ACCEL_TIMEOUT (R532). -/
def execAccelTimeout (port : Fin 8) (s : State) : Host.Outcome State Fault Refusal :=
  .next (match s.mon.side.get? port.val with
    | some x =>
      if !s.on || decide (s.lc < x.start + 250000) then s
      else sample (s.modMon fun m => { m with side := m.side.erase port.val }) x.due 1 (port.val / 4) port.val dfTIMEOUT []
    | none => s)

/-- SENSORS (R531): the POWER_QUERY body. -/
def execSensors (die : Fin 2) (s : State) : Host.Outcome State Fault Refusal :=
  .next (if !s.on then s
    else launchRun s (slotKey 4 die.val 0) 0 (fun e => decide (e.action = 2)) fun d _ s => sample s d 2 die.val 0 0 (powerBody s))

/-- COUNTERS (R531): the 80-byte entry of R528 of the unit in ARG. -/
def execCounters (die : Fin 2) (s : State) : Host.Outcome State Fault Refusal :=
  .next (if !s.on then s
    else launchRun s (slotKey 4 die.val 0) 0 (fun e => decide (e.action = 3)) fun d e s =>
      sample s d 3 die.val (e.arg % 4096) 0 (counterEntry s 16 (e.arg % 4096)))

end Sys2Proof.Machine
end

