-- ==== Sys2Proof/Machine/Partition.lean ====
section
/-! DEFINITION. Partition reset and deletion (16 R516, R518, 11 R374, 07 R225). -/

namespace Sys2Proof.Machine

/-! ### The reset begins (R516) -/

/-- Instances of a partition. -/
def partInsts (s : State) (p : Nat) : List Nat := (s.insts.keep fun _ i => decide (i.part = p)).map Prod.fst
/-- Sessions of a partition. -/
def partSessions (s : State) (p : Nat) : List Nat := (s.sessions.keep fun _ y => decide (y.part = p)).map Prod.fst
/-- Direct-feed streams of a partition. -/
def partStreams (s : State) (p : Nat) : List Nat := (s.link.streams.keep fun _ x => decide (x.owner = p)).map Prod.fst
/-- RDMA queue pairs of a partition. -/
def partQps (s : State) (p : Nat) : List Nat := (s.pkt.qps.keep fun _ x => decide (x.owner = p)).map Prod.fst

/-- An instance reset of every instance (step 2); the TX frames that still wait in queues end as aborted. -/
def resetInsts (s : State) (p : Nat) : State :=
  (partInsts s p).foldl (fun s n =>
    let s1 := stopTx s n
    if ((s.insts.get? n).map Instance.state) = some .resetting then s1 else startReset s1 n) s

/-- A session closes, or one still being loaded ends with its SESSION_OPEN. -/
def closeForReset (s : State) (h : Nat) : State :=
  if ((s.sessions.get? h).map YewSession.state) = some .loading then openFails s h ABORTED else closeSession s h
/-- A stream fetches no more, and ends with its last fetched descriptor. -/
def closeStream (s : State) (n : Nat) : State :=
  dfClosed (s.modLink fun l => { l with streams := l.streams.modify n fun t => { t with posted := t.fetched, closing := true } }) n
/-- A queue pair ends, with its operations in flight. -/
def closeQp (s : State) (n : Nat) : State := dropQp (qpError s n dfABORTED) n

/-- Step 3: sessions, streams and queue pairs close; rings and bulk queues go with their instances. -/
def closeAll (s : State) (p : Nat) : State :=
  (partQps s p).foldl closeQp ((partStreams s p).foldl closeStream ((partSessions s p).foldl closeForReset s))

/-- A mailbox of one of the partition's instances. -/
def partMbx (s : State) (p m : Nat) : Bool := decide (m < 0x400) && decide (((s.insts.get? m).map Instance.part) = some p)
/-- A long operation of a mailbox ends with ABORTED, but for MODEL_LOAD (step 4). -/
def abortOp (s : State) (n : Nat) : State :=
  match s.longOps.get? n with
  | none => s
  | some o => match o.data with
    | .modelLoad _ _ _ => s
    | _ => (abortAct s n o).getD (finishOp s n ABORTED [])
/-- Step 4. -/
def abortOps (s : State) (p : Nat) : State :=
  ((s.longOps.keep fun _ o => partMbx s p o.mbx).map Prod.fst).foldl abortOp s

/-- The reset begins (R516); step 1 holds while its long operation stands. -/
def resetPart (s : State) (p : Nat) : State := abortOps (closeAll (resetInsts s p) p) p

/-! ### The deletion (R374) -/

/-- A session of a partition that is deleted is gone at once. -/
def endSession (s : State) (h : Nat) : State := endClose (beginClose s h) h

/-- Its instances, sessions, models, namespaces, tables and queue pairs go. -/
def deleteWork (s : State) (p : Nat) : State :=
  let loads := finishOps s ABORTED fun o => match o.data with | .modelLoad k _ _ => decide (k = p) | _ => false
  let s1 := (partSessions loads p).foldl endSession loads
  let s2 := (partQps s1 p).foldl closeQp ((partStreams s1 p).foldl dropStream s1)
  let s3 := (partInsts s2 p).foldl removeInst s2
  let s4 := ((s3.pkt.tables.keep fun _ t => decide (t.owner = p)).map Prod.fst).foldl dropTable s3
  updatePipes ({ s4 with models := s4.models.keep fun _ m => decide (m.part ≠ p) }.modStor fun k =>
    { k with spaces := k.spaces.keep fun _ n => decide (n.owner ≠ p) })

/-- Its key slots become FREE; its keys, its PMR and its log are gone. -/
def deleteKeys (s : State) (p : Nat) : State :=
  s.modSec fun c => { c with
    slots := c.slots.keep fun _ k => decide (k.owner ≠ p)
    importKeys := c.importKeys.erase p, decaps := c.decaps.erase p, encaps := c.encaps.erase p, memKeys := c.memKeys.erase p
    pmr := c.pmr.erase p, logs := c.logs.erase p }

/-- Its plots become DIRTY, or stay LOST in the operator domain's hands (R225). -/
def deletePlots (s : State) (p : Nat) : State :=
  let mine := (s.dram.slots.keep fun k _ => decide (k / 1024 = p)).map Prod.fst
  checkQuotas ((mine.foldl (fun s k => releasePlot s p (k % 1024)) s).modDram fun d => { d with quotas := d.quotas.erase p })

/-- Groups of a partition. -/
def partGroups (s : State) (p : Nat) : List Nat :=
  (List.range 16).filter fun g => decide ((s.group g).state = .assigned ∧ (s.group g).owner = p)
/-- Its groups are to be cleared (R94). -/
def deleteGroups (s : State) (p : Nat) : State :=
  (partGroups s p).foldl (fun s g => s.modGroup g fun x => { x with state := .zeroing, owner := 16 }) s

/-- Its ZAL ports go to the operator domain, their apertures and its page entries removed. -/
def deletePorts (s : State) (p : Nat) : State :=
  ((List.range 8).filter fun k => decide ((s.zal k).owner = p)).foldl (fun s k =>
    (allotted s k).foldl (fun s e => eraseAper (eraseAper s false e) true e)
      (s.modZal k fun z => { z with owner := 16, cache := [] }))
    (s.modLink fun l => { l with pages := l.pages.erase p })

/-- Its egress queues and policers go, disabled, to the operator domain; its share, its owner-table entries, its exception ring and
its counts go. -/
def deletePackets (s : State) (p : Nat) : State :=
  let s1 := match s.pkt.shares.get? p with
    | some x => shareAct s p { x with clusters := 0 }
    | none => s
  s1.modPkt fun k => { k with
    queues := k.queues.mapV fun _ q => if q.owner = p then { q with owner := 16, enable := false } else q
    policers := k.policers.mapV fun _ x =>
      if x.owner = p then { x with owner := 16, buckets := { x.buckets with enable := false, staged := none } } else x
    owners := k.owners.keep fun _ e => decide (e.owner ≠ p)
    excRings := k.excRings.erase p, excCounts := k.excCounts.erase p, verdictDrops := k.verdictDrops.erase p
    excQueue := k.excQueue.filter fun e => decide (e.2.1 ≠ p) }

/-- Its programmable counters are free (R526). -/
def deleteCounters (s : State) (p : Nat) : State :=
  s.modMon fun m => { m with
    pmc := m.pmc.keep fun _ c => decide (c.holder ≠ some p), latched := m.latched.keep fun k _ => decide (k / 64 ≠ p) }

/-- The partition is gone; its violation count and record stay (R31). -/
def deletePart (s : State) (p : Nat) : State :=
  let s1 := deleteCounters (deletePackets (deletePorts (deleteGroups (deletePlots (deleteKeys (deleteWork s p) p) p) p) p) p) p
  excChanged s { s1 with
    parts := s1.parts.erase p, excRates := s1.excRates.erase p, decode := s1.decode.erase p }

/-! ### The reset ends (R516, R518) -/

/-- Every narrower reset completes with it, and the queues that R516 closes are closed. -/
def drained (s : State) (p : Nat) : State :=
  (partInsts s p).foldl endReset ((partStreams s p).foldl dropStream s)

/-- A long operation of PARTITION_RESET or PARTITION_DELETE goes on, where it can: once no tracker entry of the partition is held,
and, of a deletion, once its groups are cleared (R94). -/
def settlePart (s : State) (n : Nat) : State :=
  match (s.longOps.get? n).map LongOp.data with
  | some (.partition p del) =>
    if 0 < heldBy s p then s
    else
      let s1 := drained s p
      if !del then finishOp s1 n OK []
      else
        let gs := partGroups s1 p
        let s2 := finishOps (deletePart s1 p) OK fun o => decide (o.data = .partition p false)
        if gs.isEmpty then finishOp s2 n OK []
        else { s2 with longOps := s2.longOps.modify n fun o => { o with data := .partCleared p gs } }
  | some (.partCleared _ gs) => if gs.any fun g => decide ((s.group g).state = .zeroing) then s else finishOp s n OK []
  | _ => s

/-- Every such operation that can go on does. -/
def settleParts (s : State) : State := (s.longOps.map Prod.fst).foldl settlePart s

/-- PARTITION_RESET (R516). -/
def partitionReset (q : Req) (p : Nat) (_ : Who) (s : State) : Answer :=
  refuseOr [(q.bodyBad || decide (16 ≤ p) || !partExists s p, INVALID)] (.later ACCEPTED (resetPart s p) (.partition p false))

def execPartitionReset (q : Req) (part : B1) (s : State) : Host.Outcome State Fault Refusal :=
  .next (settleParts (serve q ⟨0x0205, 8, .operator, none, []⟩ (partitionReset q part) s))

/-- PARTITION_DELETE (R374). -/
def partitionDelete (q : Req) (p : Nat) (_ : Who) (s : State) : Answer :=
  let twice := s.longOps.any fun _ o => decide (o.data = .partition p true)
  refuseOr [(q.bodyBad || decide (16 ≤ p) || !partExists s p, INVALID),
    (twice || ((s.ckp.map CkpGroup.part) == some p), IN_USE)]
    (.later ACCEPTED (resetPart s p) (.partition p true))

def execPartitionDelete (q : Req) (part : B1) (s : State) : Host.Outcome State Fault Refusal :=
  .next (settleParts (serve q ⟨0x0202, 8, .operator, none, []⟩ (partitionDelete q part) s))

end Sys2Proof.Machine
end

