-- ==== Sys2Proof/Machine/Clock.lean ====
section
/-! DEFINITION. How time passes (R42, R46). -/

namespace Sys2Proof.Machine

/-- One nanosecond passes: the root PLL locks once the rails are on and it is not lost, and the Launch Counter advances from the
next nanosecond on (R42, R46); contexts above a lowered quota are parked as they become idle (R386); partition resets that have
drained end (R516). -/
def tick (s : State) : State :=
  settleParts (freeCounts (parkAll { s with
    time := s.time + 1
    clk :=
      if !s.power.pwrGood then s.clk
      else if s.clk.rootLocked then { s.clk with lc := wrap64 s.clk.lc 1 }
      else { s.clk with rootLocked := true, lc := 0 } }))

end Sys2Proof.Machine
end

