-- ==== Sys2Proof/Machine/Firmware.lean ====
section
/-! DEFINITION. Firmware images: staging, checking, activation and discard (11 R389 to R393, 15 R465, R466). -/

namespace Sys2Proof.Machine

/-! ### Images (R389, R390) -/

/-- Bytes of an image's signature (R389). -/
def signatureBytes : Nat := 29792
/-- Bytes of the image whose header `b` begins with. -/
def imageBytes (b : Bytes) : Nat := 128 + fieldAt b 24 8 + signatureBytes

/-- The header fields are as R389 states. LEVEL_MAX may be either interface level, since R391 provides for an image whose
LEVEL_MAX is below that of an open session. -/
def imageHeaderOk (b : Bytes) : Bool :=
  decide (128 ≤ b.length ∧ fieldAt b 0 4 = 0x57464C5A ∧ fieldAt b 4 2 = 1 ∧ 2 ≤ fieldAt b 6 1 ∧ fieldAt b 6 1 ≤ 3 ∧
    fieldAt b 7 1 < 2 ∧ fieldAt b 20 4 = 0 ∧ fieldAt b 96 32 = 0 ∧ imageBytes b ≤ 67108864 ∧ imageBytes b ≤ b.length)

/-- The fused and unrevoked key that the image's PUBLIC_KEY matches (R390, R463). -/
def imageKey (s : State) (b : Bytes) : Option Nat :=
  (List.range 4).find? fun k => keyFused s k && decide (s.fuses.keyHash.getD k [] = Config.sha256 ((b.drop 32).take 64))

/-- What the device keeps of an image that passes. -/
def imageOf (b : Bytes) (k : Nat) : FwImage :=
  { liveCapable := bitOf (fieldAt b 7 1) 0, levelMax := fieldAt b 6 1, securityVersion := fieldAt b 8 8, fwVersion := fieldAt b 16 4
    keyIndex := k, digest := Config.sha256 (b.take (128 + fieldAt b 24 8)) }

/-- The checks of R390, in order: the image, or the status of the first that fails. -/
def checkFirmware (s : State) (b : Bytes) : Except Nat FwImage :=
  if !imageHeaderOk b then .error INVALID
  else match imageKey s b with
    | none => .error VERIFY_FAIL
    | some k =>
      let n := 128 + fieldAt b 24 8
      if !Config.slhVerify ((b.drop 32).take 64) (b.take n) ((b.drop n).take signatureBytes) then .error VERIFY_FAIL
      else if fieldAt b 8 8 < fusedVersion s then .error ROLLBACK
      else .ok (imageOf b k)

/-- The staging bank takes a use. -/
def setStaging (s : State) (u : BankUse) : State := { s with fw := { s.fw with staging := u } }

/-- A path holds the bank, or a pending activation names what it holds. -/
def bankHeld (s : State) : Bool := decide (s.fw.staging = .ialdo ∨ s.fw.staging = .pldm) || s.fw.pending

/-- FW_STAGE (R390): the image is copied into the staging bank. -/
def fwStage (q : Req) (image : BufRef) (host : HostData) (w : Who) (s : State) : Answer :=
  let r := readBuf s w image host
  refuseOr [(q.bodyBad || refBad image 128, INVALID), (!bufOk r, bufStatus r), (bankHeld s, IN_USE)]
    (.later ACCEPTED (setStaging s .ialdo) (.fwStage (bufBytes r)))

def execFwStage (q : Req) (image : BufRef) (host : HostData) (s : State) : Host.Outcome State Fault Refusal :=
  .next (serve q ⟨0x0D01, 16, .operator, some image, []⟩ (fwStage q image host) s)

/-- FW_STAGE_COMPLETE (R390): the copy is checked; a failure empties the bank. -/
def execFwStageComplete (op : B4) (s : State) : Host.Outcome State Fault Refusal :=
  .next (match (s.longOps.get? op).map LongOp.data with
    | some (.fwStage b) => match checkFirmware s b with
      | .ok i => finishOp (setStaging s (.staged i)) op OK (le 8 i.securityVersion ++ le 4 i.fwVersion)
      | .error e => finishOp (setStaging s .empty) op e []
    | _ => s)

/-! ### Activation (R391 to R393, R466) -/

/-- The staged image. -/
def stagedIn (s : State) : Option FwImage :=
  match s.fw.staging with
  | .staged i => some i
  | _ => none

/-- The highest level of an open mailbox session. -/
def openLevel (s : State) : Nat :=
  s.mbxs.foldl (fun (n : Nat) (e : Nat × Mailbox) => max n ((e.2.session.map Session.level).getD 0)) 0

/-- What refuses either mode, with INVALID_ARGUMENT: reserved FLAGS, nothing staged, or RAISE_SVN to a version not above the fused
one (R391, R466). -/
def activateBad (q : Req) (flags : Nat) (s : State) : Bool :=
  q.bodyBad || decide (4 ≤ flags) || (match stagedIn s with
    | none => true
    | some i => bitOf flags 1 && decide (i.securityVersion ≤ fusedVersion s))
/-- No SVN row is free for RAISE_SVN (R466). -/
def noRow (s : State) (flags : Nat) : Bool := bitOf flags 1 && decide (32 ≤ s.fuses.svnRows.length)

/-- The live switch begins (R392). -/
def beginSwitch (s : State) : State := { s with fw := { s.fw with whenClear := false, switching := some s.lc } }

/-- FW_ACTIVATE with MODE LIVE (R391 to R393). It needs an entry of the device log, and a second for RAISE_SVN (R470). -/
def fwActivateLive (q : Req) (flags : Nat) (_ : Who) (s : State) : Answer :=
  let bad := match stagedIn s with
    | none => true
    | some i => !i.liveCapable || decide (i.levelMax < openLevel s)
  let s1 := { s with fw := { s.fw with pending := true, raiseSvn := bitOf flags 1, whenClear := bitOf flags 0 } }
  let d : OpData := .fwLive (bitOf flags 0) (bitOf flags 1)
  refuseOr [(activateBad q flags s || bad, INVALID), (s.fw.pending, IN_USE),
      (noRow s flags || !deviceLogRoom s (1 + b2n (bitOf flags 1)), NO_RESOURCES),
      (emergency s && !bitOf flags 0, DEFERRED_EMERGENCY)]
    (if emergency s then .later DEFERRED_EMERGENCY s1 d else .later ACCEPTED (beginSwitch s1) d)

def execFwActivateLive (q : Req) (flags : B1) (s : State) : Host.Outcome State Fault Refusal :=
  .next (serve q ⟨0x0D02, 4, .operator, none, [14]⟩ (fwActivateLive q flags) s)

/-- FW_ACTIVATE with MODE RESET (R391, R466): the boot pointer names the staged image, which the next cold reset boots. -/
def fwActivateReset (q : Req) (flags : Nat) (_ : Who) (s : State) : Answer :=
  refuseOr [(activateBad q flags s, INVALID), (s.fw.pending, IN_USE), (noRow s flags, NO_RESOURCES)]
    (.ended { s with fw := { s.fw with pending := true, bootStaged := true, raiseSvn := bitOf flags 1 } } OK [])

def execFwActivateReset (q : Req) (flags : B1) (s : State) : Host.Outcome State Fault Refusal :=
  .next (serve q ⟨0x0D02, 4, .operator, none, []⟩ (fwActivateReset q flags) s)

/-- The FW_ACTIVATE in progress. -/
def liveOp (s : State) : Option Nat := opWith s fun d => match d with | .fwLive _ _ => true | _ => false
/-- The pending live activation completes. -/
def finishLive (s : State) (status : Nat) : State :=
  match liveOp s with
  | some n => finishOp s n status []
  | none => s
/-- The activation is no longer pending, and the bank is empty. -/
def endActivation (s : State) : State :=
  { s with fw := { s.fw with
      staging := .empty, bootStaged := false, pending := false, raiseSvn := false, whenClear := false, switching := none } }

/-- ACTIVATE_WHEN_CLEAR_START (R393): 1 s after the emergency cleared, the switch begins. -/
def execActivateWhenClearStart (s : State) : Host.Outcome State Fault Refusal :=
  .next (if s.on && s.fw.whenClear && s.fw.pending && !emergency s && decide (s.fw.clearSince + 1000000000 ≤ s.lc)
    then beginSwitch s else s)

/-- The staged image runs: it takes the other flash bank, DMR0 records it, and RAISE_SVN's row is programmed (R463, R466, R469). -/
def switchTo (s : State) (i : FwImage) : State :=
  let raise := s.fw.raiseSvn
  let s1 := { endActivation s with fw := { (endActivation s).fw with
      version := i.fwVersion, security := i.securityVersion, levelMax := i.levelMax, bank := 1 - s.fw.bank, keyIndex := i.keyIndex } }
  let s2 := measureDevice s1 0 2 i.fwVersion i.digest
  if raise then raiseFuses s2 i.securityVersion i.keyIndex else s2

/-- FW_SWITCH_COMPLETE (R392): within 200 ms of its begin the new firmware is ready. FW_ACTIVATED is sent, and the request
completes. -/
def execFwSwitchComplete (s : State) : Host.Outcome State Fault Refusal :=
  .next (match s.fw.switching, stagedIn s with
    | some t, some i =>
      if decide (s.lc ≤ t + 200000000) then
        finishLive (sendEvent (switchTo s i) .all 0x0DF0 i.fwVersion 0 i.securityVersion) OK
      else s
    | _, _ => s)

/-- FW_SWITCH_TIMEOUT (R392): the previous image runs on, and the staging bank is emptied. -/
def execFwSwitchTimeout (s : State) : Host.Outcome State Fault Refusal :=
  .next (match s.fw.switching with
    | some t => if decide (t + 200000000 ≤ s.lc) then finishLive (endActivation s) DEVICE_FAULT else s
    | none => s)

/-- FW_QUERY (R382). -/
def fwQuery (q : Req) (_ : Who) (s : State) : Answer :=
  let f := s.fw
  let g : FwImage := (stagedIn s).getD
    { liveCapable := false, levelMax := 0, securityVersion := 0, fwVersion := 0, keyIndex := 0, digest := [] }
  refuseOr [(q.bodyBad, INVALID)]
    (.done s (le 4 f.version ++ zeros 4 ++ le 8 f.security ++ le 1 f.bank ++ le 1 (b2n (stagedIn s).isSome)
      ++ le 1 (b2n f.pending + 2 * b2n f.whenClear + 4 * b2n f.raiseSvn) ++ zeros 1 ++ le 4 g.fwVersion ++ le 8 g.securityVersion
      ++ le 8 (fusedVersion s) ++ le 1 f.keyIndex ++ zeros 7))

def execFwQuery (q : Req) (s : State) : Host.Outcome State Fault Refusal :=
  .next (serve q ⟨0x0D03, 0, .any, none, []⟩ (fwQuery q) s)

/-- FW_DISCARD (R393): the staging bank is emptied and a pending activation ends with ABORTED. A bank that a path still fills is
in use. -/
def fwDiscard (q : Req) (_ : Who) (s : State) : Answer :=
  refuseOr [(q.bodyBad, INVALID), (decide (s.fw.staging = .ialdo ∨ s.fw.staging = .pldm), IN_USE)]
    (.ok (finishLive (endActivation s) ABORTED))

def execFwDiscard (q : Req) (s : State) : Host.Outcome State Fault Refusal :=
  .next (serve q ⟨0x0D04, 0, .operator, none, []⟩ (fwDiscard q) s)

end Sys2Proof.Machine
end

