-- ==== Sys2Proof/Machine/Flit.lean ====
section
/-! DEFINITION. A flit of the accelerator: CRC, slot, acknowledgement, credits, CONTROL records and messages
(08 R253 to R268). -/

namespace Sys2Proof.Machine

/-- A message of the accelerator from its header and cells (R266). -/
def parseZal (b : Bytes) : ZalReq :=
  { gen := BitVec.ofNat 4 (fieldAt b 1 1), cells := fieldAt b 2 1, status := fieldAt b 3 1, tag := fieldAt b 4 2, aux := fieldAt b 6 2
    addr := fieldAt b 8 8, data := b.drop 16, bad := decide (32 ≤ fieldAt b 1 1) }

/-- The message's opcode leads to what the message does (R267); every other opcode is invalid (R268). -/
def zalDispatch (p op : Nat) (m : ZalReq) (s : State) : State :=
  match op with
  | 0x01 => readIn p m s
  | 0x02 => writeIn p m s
  | 0x03 => translateIn p m s
  | 0x04 => submitIn p m s
  | 0x05 => abortIn p m s
  | 0x0C => abortAnswerIn p m s
  | 0x0D => flushAckIn p m s
  | 0x19 => shardWriteIn p m s
  | 0x1A => shardEndIn p m s
  | 0x1E => restoreReadIn p m s
  | 0x1F => warnIn p m s
  | 0x21 => verdictMsg p m s
  | _ => zalError s p

/-- The messages of a DATA flit's cells, after what the flit before began (R266): what does not fit waits for the next
DATA flit; padding runs to the end of the area. -/
def zalMessages (p : Nat) : Nat → Bytes → State → State
  | 0, _, s => s
  | fuel + 1, b, s =>
    if b.isEmpty || decide (fieldAt b 0 1 = 0) then s
    else if 32 < fieldAt b 2 1 then zalError s p
    else
      let n := 16 * (1 + fieldAt b 2 1)
      if b.length < n then s.modZal p fun z => { z with rxPart := b }
      else zalMessages p fuel (b.drop n) (zalDispatch p (fieldAt b 0 1) (parseZal (b.take n)) s)

/-- A DATA flit is accepted. -/
def dataIn (p : Nat) (area : Bytes) (s : State) : State :=
  zalMessages p 30 ((s.zal p).rxPart ++ area) (s.modZal p fun z => { z with rxPart := [] })

/-- A CONTROL flit is accepted: its record (R262). -/
def controlIn (p : Nat) (area : Bytes) (s : State) : State :=
  let rest := !zeroAt area 16 464
  match fieldAt area 0 1 with
  | 1 => initIn p (fieldAt area 1 1) (fieldAt area 4 2) (fieldAt area 6 2) (fieldAt area 8 2) (fieldAt area 10 2) (fieldAt area 12 2)
      (rest || decide (fieldAt area 2 2 ≠ 0 ∨ fieldAt area 14 2 ≠ 0)) s
  | 2 => laneMapIn p (fieldAt area 4 5) (rest || decide (fieldAt area 1 3 ≠ 0 ∨ fieldAt area 9 7 ≠ 0)) s
  | 3 => mapSwitchIn p (rest || decide (fieldAt area 1 15 ≠ 0)) s
  | _ => zalError s p

/-- The accelerator's ACK and NAK (R258): flits up to ACK leave the replay buffer; NAK resends the others. -/
def ackIn (s : State) (p ack : Nat) (nak : Bool) : State :=
  let z := s.zal p
  let s1 := if z.unacked.contains ack then
      s.modZal p fun z => { z with unacked := (z.unacked.dropWhile fun q => decide (q ≠ ack)).drop 1, stuck := 0, ackAt := s.lc }
    else s
  if nak then replay s1 p else s1

/-- A discarded flit: the first of a gap is answered with NAK (R258); its lookup is lost (R276). -/
def flitLost (s : State) (p : Nat) : State :=
  let n := ((s.zal p).accPos + 1) % 4096
  let s1 := (lookupLost s p n).modZal p fun z => { z with accPos := n }
  if (s1.zal p).inGap then s1
  else (s1.modZal p fun z => { z with inGap := true }).emit (.zalAck p (((s1.zal p).rxSeq + 4095) % 4096) true)

/-- A flit that passes FEC and CRC: its slot, ACK, NAK and credits are acted on, then its KIND (R254, R258). -/
def flitIn (s : State) (p : Nat) (b : Bytes) : State :=
  let h := fieldAt b 0 8
  let txPos := bitsOf h 38 27
  let s1 := (lookupSlot s p txPos ((b.drop 8).take 32)).modZal p fun z =>
    { z with accPos := txPos, credits := z.credits.set (bitsOf h 40 39) (z.credits.getD (bitsOf h 40 39) 0 + bitsOf h 51 41) }
  let s2 := pumpTx (ackIn s1 p (bitsOf h 25 14) (bitOf h 26)) p
  let area := (b.drop 40).take 464
  match bitsOf h 1 0 with
  | 0 => s2
  | 1 => seqIn s2 p (bitsOf h 13 2) (dataIn p area)
  | 2 => seqIn s2 p (bitsOf h 13 2) (controlIn p area)
  | _ => zalError s2 p

/-- FLIT_RECEIVE (R252 to R258). -/
def execFlitReceive (port : Fin 8) (fecCorrected destroyed : Bool) (flit : Bytes) (s : State) : Host.Outcome State Fault Refusal :=
  let p := port.val
  let b := padTo 512 flit
  .next (if !s.on || decide ((s.zal p).link ≠ .up) then s
    else
      let s1 := s.modZal p fun z => { z with fecCorrected := sat32 z.fecCorrected (b2n fecCorrected) }
      if destroyed then flitLost (s1.modZal p fun z => { z with fecUncorrectable := sat32 z.fecUncorrectable 1 }) p
      else if fieldAt b 504 8 ≠ crc64 (b.take 504) then flitLost (s1.modZal p fun z => { z with crcErrors := sat32 z.crcErrors 1 }) p
      else flitIn s1 p b)

end Sys2Proof.Machine
end

