-- ==== Sys2Proof/Machine/Module.lean ====
section
/-! DEFINITION. The test access port and the management interface of the module (17 R539, 18 R551 to R559). -/

namespace Sys2Proof.Machine

/-! ### The test access port (R539) -/

/-- The port of die `d`. -/
def tap (s : State) (d : Nat) : Jtag := s.jtag.getD d {}
/-- The port of die `d` changed. -/
def modTap (s : State) (d : Nat) (f : Jtag → Jtag) : State := { s with jtag := s.jtag.set d (f (tap s d)) }

/-- BYPASS in a die: the bypass bit is selected and the pins keep their function. -/
def bypassed (s : State) (d : Nat) : State :=
  modTap s d fun j => { j with instr := 0, bypass := true, driven := false, highz := false }

/-- BYPASS. -/
def execBypass (die : Fin 2) (s : State) : Host.Outcome State Fault Refusal := .next (if s.on then bypassed s die.val else s)

/-- The 32 bits of a die's IDCODE, least significant first. -/
def idcodeBits : List Bool := (List.range 32).map fun k => bitOf 0x1974074B k

/-- IDCODE. -/
def execIdcode (die : Fin 2) (s : State) : Host.Outcome State Fault Refusal :=
  .next (if s.on then
    (modTap s die.val fun j => { j with instr := 1, bypass := false, driven := false, highz := false }).emit (.tdo die.val idcodeBits)
  else s)

/-- SAMPLE_PRELOAD: the pins' values are shifted out, and the bits shifted in are held for EXTEST and CLAMP. -/
def execSamplePreload (die : Fin 2) (bits pins : List Bool) (s : State) : Host.Outcome State Fault Refusal :=
  .next (if s.on then
    (modTap s die.val fun j => { j with instr := 2, boundary := bits, bypass := false, driven := false, highz := false }).emit
      (.tdo die.val pins)
  else s)

/-- EXTEST, CLAMP and HIGHZ act only when TEST_MODE was set at cold reset, and otherwise as BYPASS. -/
def underTest (s : State) (d : Nat) (f : Jtag → Jtag) : State :=
  if !s.on then s else if s.mgmt.testMode then modTap s d f else bypassed s d

/-- EXTEST: the pins are driven from the boundary register. -/
def execExtest (die : Fin 2) (s : State) : Host.Outcome State Fault Refusal :=
  .next (underTest s die.val fun j => { j with instr := 3, bypass := false, driven := true, highz := false })

/-- CLAMP: as EXTEST, with the bypass bit selected. -/
def execClamp (die : Fin 2) (s : State) : Host.Outcome State Fault Refusal :=
  .next (underTest s die.val fun j => { j with instr := 4, bypass := true, driven := true, highz := false })

/-- HIGHZ: the pins are undriven, with the bypass bit selected. -/
def execHighz (die : Fin 2) (s : State) : Host.Outcome State Fault Refusal :=
  .next (underTest s die.val fun j => { j with instr := 5, bypass := true, driven := false, highz := true })

/-! ### MCTP and PLDM (R555 to R559) -/

/-- The housekeeping rail is up: the input is in range (R552). -/
def standby (s : State) : Bool := s.on || decide (44000 ≤ filteredMv s ∧ filteredMv s ≤ 58000)

/-- SET_ENDPOINT_ID (R555): 0 and 0xFF are no endpoint IDs of DSP0236. -/
def execSetEndpointId (bus : Fin 2) (eid : B1) (s : State) : Host.Outcome State Fault Refusal :=
  .next (if !standby s then s
    else if eid = 0 ∨ eid = 0xFF then s.emit (.mgmt bus.val 0x100 2 [])
    else ({ s with mgmt := { s.mgmt with eids := s.mgmt.eids.set bus.val eid } } : State).emit (.mgmt bus.val 0x100 0 [eid]))

/-- The state of a numeric sensor against its thresholds, as DSP0248 codes it. -/
def sensorState (value : Int) (warn critical fatal lowWarn lowFatal : Option Int) : Nat :=
  let atLeast (t : Option Int) : Bool := (t.map fun x => decide (x ≤ value)).getD false
  if atLeast fatal then 10 else if atLeast critical then 9 else if atLeast warn then 8
  else if (lowFatal.map fun x => decide (value < x)).getD false then 7
  else if (lowWarn.map fun x => decide (value ≤ x)).getD false then 5
  else 1

/-- A sensor's reading with its state (R557); none where there is no such sensor. -/
def sensorReading (s : State) (n : Nat) : Option (Int × Nat) :=
  let temp (t : Int) : Option (Int × Nat) := some (t, sensorState t (some 1000) (some 1100) (some 1200) none none)
  if n = 1 then temp s.power.tj0
  else if n = 2 then temp s.power.tj1
  else if n = 3 then some (Int.ofNat (filteredMv s),
    sensorState (Int.ofNat (filteredMv s)) none none (some 60000) (some 42000) (some 40000))
  else if n = 4 then some (Int.ofNat (inputW s), sensorState (Int.ofNat (inputW s)) (some (Int.ofNat s.power.cap)) (some 1600) none none none)
  else if n = 5 then some (Int.ofNat s.boot.level, 1)
  else none

/-- Characters as numbers. -/
def ascii (t : String) : List Nat := t.toList.map Char.toNat
/-- The fused serial number as printed: 16 upper-case hexadecimal digits in four groups joined by underscores (R559). -/
def serialText (v : Nat) : List Nat :=
  (List.range 16).flatMap fun k =>
    let d := v / 16 ^ (15 - k) % 16
    (if k ≠ 0 ∧ k % 4 = 0 then [0x5F] else []) ++ [if d < 10 then 0x30 + d else 0x41 + (d - 10)]
/-- The FRU fields, each closed by a zero: manufacturer, product, part number, serial number; then stepping and date (R559). -/
def fruData (s : State) : List Nat :=
  ascii "Tirmanto" ++ [0] ++ ascii "ZD-9740" ++ [0] ++ ascii (if s.fuses.lx then "ZD-9740-LX" else "ZD-9740-L") ++ [0]
    ++ serialText s.fuses.serial ++ [0, 1, Config.manufactureDate]

/-- What a PLDM request receives (R556, R557). -/
def pldmReply (s : State) (type sensor : Nat) : Nat × List Nat :=
  if type = 0 then (0, [0, 2, 4, 5])
  else if type = 4 then (0, fruData s)
  else if type ≠ 2 ∧ type ≠ 5 then (0x20, [])
  else if !(s.on && s.boot.rom) then (4, [])
  else if type = 5 then (0, [b2n s.mgmt.pldmUpdate.isSome])
  else match sensorReading s sensor with
    | some (v, st) => (0, [(v % 2 ^ 32).toNat, st])
    | none => (0x80, [])

/-- PLDM_REQUEST. -/
def execPldmRequest (bus : Fin 2) (type : B1) (sensor : B2) (s : State) : Host.Outcome State Fault Refusal :=
  .next (if standby s then s.emit (.mgmt bus.val type (pldmReply s type sensor).1 (pldmReply s type sensor).2) else s)

/-- The boot ROM waits in FAILED for an image (R465). -/
def awaitsImage (s : State) : Bool := s.boot.failed && decide (s.boot.level = 1 ∧ s.boot.cause = 0xFFFFFFFF)

/-- An update that passes is staged; one that the boot ROM waits for boots at once (R465). -/
def pldmStaged (s : State) (i : FwImage) : State :=
  let s1 := setStaging s (.staged i)
  let b : BootImage :=
    { verifies := true, fwVersion := i.fwVersion, securityVersion := i.securityVersion, levelMax := i.levelMax
      liveCapable := i.liveCapable, keyIndex := i.keyIndex, digest := i.digest }
  if awaitsImage s && imagePasses s1 b then readyChanged (bootImage s1 b (1 - s.fw.bank) true) else s1

/-- PLDM_FIRMWARE_UPDATE (R390, R465, R556): an update is started, or its image is transferred and checked. -/
def execPldmFirmwareUpdate (bus : Fin 2) (image : Option Bytes) (s : State) : Host.Outcome State Fault Refusal :=
  let reply (code : Nat) (values : List Nat) (s : State) : State := s.emit (.mgmt bus.val 5 code values)
  let hold (o : Option Nat) (s : State) : State := { s with mgmt := { s.mgmt with pldmUpdate := o } }
  .next (if !standby s then s
    else if !(s.on && s.boot.rom) then reply 4 [] s
    else match image with
      | none =>
        if s.mgmt.pldmUpdate.isSome then reply 0x81 [] s
        else if bankHeld s then reply IN_USE [] s
        else reply 0 [] (hold (some bus.val) (setStaging s .pldm))
      | some b =>
        if s.mgmt.pldmUpdate ≠ some bus.val then reply 0x80 [] s
        else match checkFirmware s b with
          | .error e => reply e [] (hold none (setStaging s .empty))
          | .ok i => reply 0 [i.securityVersion, i.fwVersion] (pldmStaged (hold none s) i))

end Sys2Proof.Machine
end

