-- ==== Sys2Proof/Machine/Sparing.lean ====
section
/-! DEFINITION. Failing tiles, spares, mesh stops and the patrol scrub of tile SRAM (03 R85 to R98, R564). -/

namespace Sys2Proof.Machine

/-- A failed tile or mesh stop joins the fault log, and the operator is told (R34, R91). -/
def logTile (s : State) (t kind : Nat) : State := unitFault (logFault s t kind DEVICE_FAULT) t (tileDie t) DEVICE_FAULT kind

/-- The session that runs on a tile's group. -/
def hosted (s : State) (g : Nat) : Option (Nat × YewSession) :=
  ((s.group g).session.bind fun h => (s.sessions.get? h).map fun v => (h, v)).filter fun p =>
    p.2.groups.contains g && decide (p.2.state = .running ∨ p.2.state = .idle)

/-- A predicted failure with no spare to take over (R564): another placement loads, or the group retires at the next boundary. -/
def retireLater (s : State) (g h : Nat) (v : YewSession) : State :=
  let s1 := s.modGroup g fun x => { x with retireNext := true }
  if v.replacing.isSome then s1
  else match nextPlacement s1 h v [g] with
    | some p => beginReplace s1 h p false
    | none => s1

/-- What a failure of a tile does to its group (R86, R87, R89, R564). -/
def failSlot (s : State) (t slot : Nat) (sudden : Bool) : State :=
  let g := t / 9
  let x := s.group g
  let spare := x.renamed.isNone && !x.noSpare
  match hosted s g with
  | none => if spare then renameSlot s g slot else retireHosting s g t
  | some (h, v) =>
    let other := (x.takeover.map fun k => decide (k.slot ≠ slot) || k.sudden).getD false
    if sudden then
      if !spare || other then retireHosting s g t
      else (stopTile (slipNow s t slDEVICE 0xFF 0 0) t).modGroup g fun y =>
        { y with takeover := some { slot := slot, sudden := true, since := s.lc, copied := false } }
    else if !spare || x.takeover.isSome then retireLater s g h v
    else s.modGroup g fun y => { y with takeover := some { slot := slot, sudden := false, since := s.lc, copied := false } }

/-- A failure of the spare before it serves leaves the group without one; a takeover under way has lost its spare (R89). -/
def failSpare (s : State) (t : Nat) : State :=
  let g := t / 9
  let s1 := s.modGroup g fun x => { x with noSpare := true }
  match (s.group g).takeover, hosted s g with
  | some k, some (h, v) =>
    if k.sudden then retireHosting s1 g t else retireLater (s1.modGroup g fun x => { x with takeover := none }) g h v
  | _, _ => s1

/-- A tile is declared failed (R85). -/
def tileFails (s : State) (t : Nat) (sudden : Bool) : State :=
  let s1 := logTile (s.modTile t fun x => { x with health := if sudden then .failed else .predicted }) t 1
  let s2 := if sudden then modUnit s1 t fun u => { u with state := .failed } else s1
  if (s.group (t / 9)).state = .retired then s2
  else match logicalOf s t with
    | some slot => failSlot s2 t slot sudden
    | none => if t % 9 = 8 then failSpare s2 t else s2

/-- TILE_PREDICTED_FAILURE (R85, R86, R564). -/
def execTilePredictedFailure (tile : Fin 144) (s : State) : Host.Outcome State Fault Refusal :=
  .next (if s.on && decide ((s.tile tile.val).health = .good) then tileFails s tile.val false else s)
/-- TILE_SUDDEN_FAILURE (R85, R87, R89, R564). -/
def execTileSuddenFailure (tile : Fin 144) (s : State) : Host.Outcome State Fault Refusal :=
  .next (if s.on && decide ((s.tile tile.val).health ≠ .failed) then tileFails s tile.val true else s)

/-- SPARE_COPY_COMPLETE (R86): at least 20,480 TCLK cycles after the copy began. -/
def execSpareCopyComplete (group : Fin 16) (s : State) : Host.Outcome State Fault Refusal :=
  .next (match (s.group group.val).takeover with
    | some k =>
      if !s.on || k.sudden || k.copied || k.timedOut || decide (s.lc < k.since + tclkNs s 20480) then s
      else s.modGroup group.val fun x => { x with takeover := some { k with copied := true } }
    | none => s)
/-- SPARE_COPY_TIMEOUT (R86): 100 ms after the copy began; the tile stops at the next epoch boundary. -/
def execSpareCopyTimeout (group : Fin 16) (s : State) : Host.Outcome State Fault Refusal :=
  .next (match (s.group group.val).takeover with
    | some k =>
      if !s.on || k.sudden || k.copied || k.timedOut || decide (s.lc < k.since + 100000000) then s
      else s.modGroup group.val fun x => { x with takeover := some { k with timedOut := true } }
    | none => s)

/-- A STREAM landing buffer is filled by repeating the gateway reads that last filled it (R87). -/
def refillBuffer (o : Owner) (s : State) (u : Nat) (c : Nat × Landing) : State :=
  c.2.lastReads.foldl (fun (s : State) r =>
    let d := gateBytes s o r.1 r.2.2
    s.modTile u fun x =>
      let y := sramPut x r.2.1 d.1
      { y with
        poisoned := wordsAt r.2.1 d.2 ++ y.poisoned.filter fun w => !(wordsAt r.2.1 d.2).contains w
        landing := y.landing.modify c.1 fun l => { l with fill := l.fill + r.2.2, lastReads := l.lastReads ++ [r] } }) s
/-- The landing buffer lies in a STREAM region. -/
def inStream (x : Tile) (b : Landing) : Bool := ((regionOf x b.base).map fun r => decide (r.cls = .stream)).getD false
/-- The spare of a group is loaded for a failed slot, and takes it over (R87). -/
def loadSpare (s : State) (g slot : Nat) (v : YewSession) (m : Image) : State :=
  let t := 9 * g + slot
  let u := 9 * g + 8
  let i := 8 * v.groups.findIdx (fun k => decide (k = g)) + slot
  let s0 : State := { s with tiles := s.tiles.set u (clearedTile (s.tile u)) }
  let s1 := (loadTile s0 v m v.placement i u).modSlot (slotKey 5 u 0) fun _ => s.slot (slotKey 5 t 0)
  let s2 := renameSlot (s1.modCore (1024 + u) freshCore) g slot
  let s3 := restorePersist s2 v u
  ((s.tile t).landing.filter fun c => inStream (s.tile t) c.2).foldl (fun (s : State) c => refillBuffer v.part s u c) s3
/-- SPARE_LOAD_COMPLETE (R87): the slot is on the spare, and held epochs start at the next boundary. -/
def execSpareLoadComplete (group : Fin 16) (s : State) : Host.Outcome State Fault Refusal :=
  .next (let g := group.val
    match (s.group g).takeover with
    | some k =>
      if !s.on || !k.sudden then s
      else match hosted s g with
        | some (h, v) => match sessImage s v with
          | some m => rollSession (loadSpare s g k.slot v m) h
          | none => s
        | none => renameSlot s g k.slot
    | none => s)

/-- MESH_STOP_FAULT (R90): the group retires, and every session whose placement crosses the stop is re-placed. -/
def execMeshStopFault (tile : Fin 144) (s : State) : Host.Outcome State Fault Refusal :=
  .next (let t := tile.val
    let g := t / 9
    if !s.on || (faultyStops s).contains t then s
    else
      let s1 := logTile s t 2
      let own := (hosted s g).map Prod.fst
      let s2 := if (s.group g).state = .retired then s1 else retireHosting s1 g t
      let hit := s2.sessions.keep fun h v => decide (v.state = .running ∨ v.state = .idle) && decide (own ≠ some h) && crosses v.groups t
      hit.foldl (fun (s : State) e => displace s e.1 (leadTile s e.2)) s2)

/-- SRAM_SCRUB_READ (R85, R96 to R98): the patrol scrub reads a tile's next word, with so many bad symbols of its 72. -/
def execSramScrubRead (tile : Fin 144) (badSymbols : B1) (s : State) : Host.Outcome State Fault Refusal :=
  .next (if !s.on then s
    else
      let t := tile.val
      let x := s.tile t
      let w := x.scrubWord
      let last := decide (w + 1 = 327680)
      let good := x.passCorrected + b2n (decide (badSymbols = 1))
      let s1 := s.modTile t fun x => { x with
        scrubWord := if last then 0 else w + 1
        passes := x.passes + b2n last, passAt := if last then s.lc else x.passAt
        corrected := if badSymbols = 1 then sat32 x.corrected 1 else x.corrected
        passCorrected := if last then 0 else good
        poisoned := if 2 ≤ badSymbols ∧ !x.poisoned.contains w then x.poisoned ++ [w] else x.poisoned }
      if 2 ≤ badSymbols ∧ x.rewritten.contains w ∧ x.health ≠ .failed then tileFails s1 t true
      else if badSymbols = 1 ∧ 16 ≤ good ∧ x.health = .good then tileFails s1 t false
      else s1)

end Sys2Proof.Machine
end

