-- ==== Sys2Proof/Machine/Units.lean ====
section
/-! DEFINITION. Units that fail, leave service, are tested and return (01 R34 to R37, 17 R535 to R538). -/

namespace Sys2Proof.Machine

/-! ### Units that fail (R34, R35) -/

/-- Nothing runs on a Privet cluster any more: the frames that its cores were parsing are lost with its packet buffer. -/
def clusterDown (s : State) (c : Nat) : State :=
  let mine (x : RoFrame) : Bool := match x.state with
    | .parsing k => decide (k / 16 = c)
    | .ended _ _ => false
  let s1 := (List.range 8).foldl (fun (s : State) p =>
    s.modEth p fun e => { e with reorder := e.reorder.filter fun x => !mine x }) s
  settleLoads (((List.range 16).filter fun k => (s.core (16 * c + k)).running).foldl (fun s k => freeCore s (16 * c + k)) s1)

/-- The storage commands in progress on a pipeline end with DEVICE_FAULT (R35). -/
def pipeDown (s : State) (p : Nat) : State :=
  let hit := (s.stor.ops.keep fun _ o => decide (o.pipe = p)).map Prod.fst
  pumpIo (hit.foldl (fun s t => finishIo s t .fault []) (if p < 4 then storLinkDown s p else s))

/-- The descriptors in flight on a die's direct-feed engine end with DEVICE_FAULT. -/
def feedDown (s : State) (die : Nat) : State :=
  let on (r : DfRun) : Bool := decide (((s.ctxs.get? (cxStream r.stream)).map Context.die).getD 0 = die)
  ((s.link.runs.keep fun _ r => on r).map Prod.fst).foldl (fun s t =>
    dfEnd (match s.stor.ops.get? t with | some o => closeIo s t o | none => s) t dfFAULT 0) s

/-- The queue pairs of a die's RoCEv2 engine enter the error state. -/
def roceDown (s : State) (die : Nat) : State :=
  ((s.pkt.qps.keep fun _ q => decide (q.port / 4 = die)).map Prod.fst).foldl (fun s n => qpError s n dfFAULT) s

/-- An Ethernet port's link goes DOWN. -/
def ethDown (s : State) (p : Nat) : State :=
  s.modEth p fun e => { e with link := if e.link = 3 then 3 else 0, speed := 0, fecAligned := false }

/-- What the failure of a unit costs (R34, R35). -/
def unitLost (s : State) (u : Nat) : State :=
  if inRange u 0xA0 16 then
    (if (s.group (u - 0xA0)).state = .retired then s else retireHosting s (u - 0xA0) (9 * (u - 0xA0)))
  else if inRange u 0x100 64 then clusterDown s (u - 0x100)
  else if inRange u 0x180 2 then perst s (u - 0x180)
  else if inRange u 0x188 8 then
    (if (s.zal (u - 0x188)).inService then portDown s (u - 0x188) else s.modZal (u - 0x188) fun z => { z with link := .down })
  else if inRange u 0x190 8 then ethDown s (u - 0x190)
  else if inRange u 0x198 6 then pipeDown s (u - 0x198)
  else if inRange u 0x1A0 2 then feedDown s (u - 0x1A0)
  else if inRange u 0x1A2 2 then ckpAbandon s 1
  else if inRange u 0x1AD 2 then roceDown s (u - 0x1AD)
  else s

/-- UNIT_FAILURE (R34, R35, R383, R388): a tile fails as R85 states, a stack or its inline pipe as R246 states; any other unit is
logged and reported, and its operations end. -/
def execUnitFailure (unit : B2) (code : B4) (s : State) : Host.Outcome State Fault Refusal :=
  .next (let u := unit
    if !s.on || !unitNamed u || decide ((s.units.getD u {}).state = .failed) then s
    else if u < 0x90 then tileFails s u true
    else if inRange u 0x160 16 then
      stackFailed (if u < 0x168 then s else modUnit s u fun r => { r with state := .failed }) ((u - 0x160) % 8)
    else
      let s1 := logError (logFault (modUnit s u fun r => { r with state := .failed }) u 3 code) u 4 (code % 256) 0xFF DEVICE_FAULT 0
      excChanged s (unitFault (unitLost s1 u) u (unitDie u) DEVICE_FAULT 3))

/-! ### UNIT_OUT_OF_SERVICE (R36, R535) -/

/-- A unit that UNIT_OUT_OF_SERVICE and BIST_RUN may name (R535, R536). -/
def testable (u : Nat) : Bool :=
  inRange u 0xA0 16 || inRange u 0x100 64 || inRange u 0x140 32 || inRange u 0x160 16 || inRange u 0x170 16

/-- The unit may not leave service now (R535). -/
def mustStay (s : State) (u : Nat) : Bool :=
  if inRange u 0xA0 16 then
    let g := s.group (u - 0xA0)
    g.session.isSome || decide (g.state ≠ .free ∧ g.state ≠ .assigned ∧ g.state ≠ .outOfService)
  else if inRange u 0x100 64 then
    s.pkt.shares.any fun _ x => ((List.range 64).filter fun c => bitOf x.clusters c && unitIn s (uCluster c)) == [u - 0x100]
  else if inRange u 0x140 32 then decide (unitsIn s (0x140 + 16 * ((u - 0x140) / 16)) 16 ≤ 4)
  else if inRange u 0x160 16 then (mapOf s ((u - 0x160) % 8 / 4)).contains ((u - 0x160) % 8)
  else decide (laurelCores s ≤ 4)

/-- UNIT_OUT_OF_SERVICE (R535): the unit drains, and accepts no new work; one already out of service is out at once. -/
def unitOut (q : Req) (u : Nat) (_ : Who) (s : State) : Answer :=
  let st := (s.units.getD u {}).state
  refuseOr [(!s.full, NOT_READY), (q.bodyBad || !testable u, INVALID),
    (decide (st = .bist ∨ st = .draining) || (decide (st = .inService) && mustStay s u), IN_USE)]
    (if st = .inService then
      let s1 := modUnit s u fun r => { r with state := .draining, since := s.lc }
      .later ACCEPTED (excChanged s s1) (.unitOut u)
    else .ended s OK [])
def execUnitOutOfService (q : Req) (unit : B2) (s : State) : Host.Outcome State Fault Refusal :=
  .next (serve q ⟨0x0E01, 4, .operator, none, []⟩ (unitOut q unit) s)

/-- The long operation that takes a unit out of service. -/
def outOp (s : State) (u : Nat) : Option Nat := opWith s fun d => match d with | .unitOut k => decide (k = u) | _ => false

/-- The unit still works on what it holds (R36). -/
def unitBusy (s : State) (u : Nat) : Bool :=
  inRange u 0x100 64 && (List.range 8).any fun p => (s.eth p).reorder.any fun x => match x.state with
    | .parsing k => decide (k / 16 = u - 0x100)
    | .ended _ _ => false

/-- A unit is out of service; a Yew group leaves its partition (R92, R535). -/
def takeOut (s : State) (u : Nat) : State :=
  let s1 := modUnit s u fun r => { r with state := .out }
  let s2 := if inRange u 0xA0 16 then s1.modGroup (u - 0xA0) fun x => { x with state := .outOfService, owner := 16 } else s1
  match outOp s2 u with
  | some n => finishOp s2 n OK []
  | none => s2

/-- DRAIN_COMPLETE (R36). -/
def execDrainComplete (unit : B2) (s : State) : Host.Outcome State Fault Refusal :=
  .next (let s1 := harvestAll s
    if !s.on || decide ((s.units.getD unit {}).state ≠ .draining) then s
    else if unitBusy s1 unit then s1 else takeOut s1 unit)

/-- DRAIN_TIMEOUT (R36): 100 ms after the drain began the unit is forced out, and what it still holds ends as R35 states. -/
def execDrainTimeout (unit : B2) (s : State) : Host.Outcome State Fault Refusal :=
  .next (let r := s.units.getD unit {}
    if !s.on || decide (r.state ≠ .draining ∨ s.lc < r.since + 100000000) then s
    else takeOut (if inRange unit 0x100 64 then clusterDown s (unit - 0x100) else s) unit)

/-! ### BIST (R536, R537) -/

/-- The unit may be tested now: it is out of service, and a group is not retired (R92, R536). -/
def mayTest (s : State) (u : Nat) : Bool :=
  let st := (s.units.getD u {}).state
  decide (st = .out ∨ st = .failed) && (!inRange u 0xA0 16 || decide ((s.group (u - 0xA0)).state = .outOfService))

/-- BIST_RUN (R504, R536). -/
def bistRun (q : Req) (u kind patterns : Nat) (_ : Who) (s : State) : Answer :=
  refuseOr [(q.bodyBad || !testable u || decide (kind < 1 ∨ 3 < kind) || decide (patterns ≠ 12 ∧ patterns ≠ 16 ∧ patterns ≠ 20),
      INVALID), (!mayTest s u, IN_USE), (emergency s, DEFERRED_EMERGENCY)]
    (.later ACCEPTED (modUnit s u fun r => { r with state := .bist }) (.bist u kind patterns))
def execBistRun (q : Req) (unit : B2) (kind patterns : B1) (s : State) : Host.Outcome State Fault Refusal :=
  .next (serve q ⟨0x0E02, 16, .operator, none, []⟩ (bistRun q unit kind patterns) s)

/-- The 224-byte completion body of BIST_RUN (R537). -/
def bistBody (fail : Bool) (misr expected failing : Nat) (addrs : List Nat) : Bytes :=
  le 1 (b2n fail) ++ zeros 1 ++ le 2 (min failing 65535) ++ zeros 4 ++ le 8 misr ++ le 8 expected
    ++ padTo 200 (((sortBy id addrs).take 25).flatMap (le 8))

/-- Memory BIST leaves every word of the unit zero (R536). -/
def bistZero (s : State) (u kind : Nat) : State :=
  if kind = 1 then s
  else if inRange u 0xA0 16 then
    ((List.range 9).map fun k => 9 * (u - 0xA0) + k).foldl (fun (s : State) t =>
      { s with tiles := s.tiles.set t (clearedTile (s.tile t)) }) s
  else if inRange u 0x100 64 then
    s.modPkt fun k => { k with stores := putProgram k.stores (4096 * (u - 0x100)) 4096 [] }
  else s

/-- What the result does to the unit (R91, R92, R537). -/
def bistVerdict (s : State) (u : Nat) (fail : Bool) (body : Bytes) : State :=
  let s1 := modUnit s u fun r =>
    { r with state := if fail then .failed else .out, last := if fail then 2 else 1, result := body }
  let s2 := if inRange u 0xA0 16 then
      s1.modGroup (u - 0xA0) fun x => { x with state := if fail then .retired else .zeroing } else s1
  if fail then unitFault (logFault s2 u 3 DEVICE_FAULT) u (unitDie u) DEVICE_FAULT 3 else s2

/-- BIST_COMPLETE (R537). -/
def execBistComplete (unit : B2) (misr expected : B8) (failing : B2) (addrs : List Nat) (s : State) :
    Host.Outcome State Fault Refusal :=
  .next (let fail := decide (misr ≠ expected ∨ failing ≠ 0)
    let body := bistBody fail misr expected failing addrs
    match s.longOps.find? fun e => match e.2.data with | .bist u _ _ => decide (u = unit) | _ => false with
    | some (n, o) =>
      if !s.on || decide ((s.units.getD unit {}).state ≠ .bist) then s
      else
        let kind := match o.data with | .bist _ k _ => k | _ => 1
        finishOp (bistVerdict (bistZero s unit kind) unit fail body) n OK body
    | none => s)

/-! ### UNIT_RETURN and TEST_QUERY (R37, R517, R538) -/

/-- A unit that UNIT_RETURN may name: a group returns by R92, a stack by STACK_RESTORE (R538). -/
def returnable (u : Nat) : Bool := testable u && !inRange u 0xA0 16 && !inRange u 0x160 8

/-- A unit reset clears the unit; a cluster's stores hold its shares' programs again (R37, R517). -/
def comeBack (s : State) (u : Nat) : State :=
  let s1 := modUnit s u fun r => { r with state := .inService }
  if inRange u 0x100 64 then
    let c := u - 0x100
    let s2 := (List.range 16).foldl (fun (s : State) k => s.modCore (16 * c + k) fun _ => {}) s1
    (s.pkt.shares.keep fun _ x => bitOf x.clusters c).foldl (fun s e => writeCluster s c e.2) s2
  else s1

/-- UNIT_RETURN (R538). -/
def unitReturn (q : Req) (u : Nat) (_ : Who) (s : State) : Answer :=
  let st := (s.units.getD u {}).state
  refuseOr [(q.bodyBad || !returnable u, INVALID), (decide (st = .draining ∨ st = .bist), IN_USE), (heldOut s u, DEVICE_FAULT)]
    (.ended (if st = .inService then s else excChanged s (comeBack s u)) OK [])
def execUnitReturn (q : Req) (unit : B2) (s : State) : Host.Outcome State Fault Refusal :=
  .next (serve q ⟨0x0E03, 4, .operator, none, []⟩ (unitReturn q unit) s)

/-- TEST_QUERY (R382, R538). -/
def testQuery (q : Req) (u : Nat) (out : BufRef) (w : Who) (s : State) : Answer :=
  let r := s.units.getD u {}
  let body := le 1 r.state.code ++ le 1 r.last ++ zeros 6
  refuseOr [(q.bodyBad || !unitNamed u || (!refZero out && refBad out 224), INVALID)]
    (if refZero out then .done s body else doneWithBuf s w out (padTo 224 r.result) body)
def execTestQuery (q : Req) (unit : B2) (out : BufRef) (s : State) : Host.Outcome State Fault Refusal :=
  .next (serve q ⟨0x0E04, 24, .operator, none, []⟩ (testQuery q unit out) s)

end Sys2Proof.Machine
end

