-- ==== Sys2Proof/Machine/Dispatch.lean ====
section
/-! DEFINITION. Which meaning each command has: one arm per command, one call each. -/

namespace Sys2Proof.Machine

def exec (i : Instr) (s : State) : Host.Outcome State Fault Refusal :=
  match i with
  | .modulePowerGood => Sys2Proof.Machine.execModulePowerGood s
  | .senseContactsMate => Sys2Proof.Machine.execSenseContactsMate s
  | .senseContactsLost => Sys2Proof.Machine.execSenseContactsLost s
  | .moduleEnDeassert => Sys2Proof.Machine.execModuleEnDeassert s
  | .coldReset => Sys2Proof.Machine.execColdReset s
  | .bootRom staged bank0 bank1 entropyOk => Sys2Proof.Machine.execBootRom staged bank0 bank1 entropyOk s
  | .quicksetReached bad => Sys2Proof.Machine.execQuicksetReached bad s
  | .fullReached bad => Sys2Proof.Machine.execFullReached bad s
  | .inputSample mv ma => Sys2Proof.Machine.execInputSample mv ma s
  | .powerEmergencyEnd => Sys2Proof.Machine.execPowerEmergencyEnd s
  | .inputUndervoltageTimeout => Sys2Proof.Machine.execInputUndervoltageTimeout s
  | .capLimitRaise => Sys2Proof.Machine.execCapLimitRaise s
  | .capUnmet => Sys2Proof.Machine.execCapUnmet s
  | .tjSample die t0 t1 t2 => Sys2Proof.Machine.execTjSample die t0 t1 t2 s
  | .throttleStep => Sys2Proof.Machine.execThrottleStep s
  | .throttleClear => Sys2Proof.Machine.execThrottleClear s
  | .thermalEmergencyEnd die => Sys2Proof.Machine.execThermalEmergencyEnd die s
  | .plannedStepTimeout => Sys2Proof.Machine.execPlannedStepTimeout s
  | .tclkDividerChange => Sys2Proof.Machine.execTclkDividerChange s
  | .clockLost c => Sys2Proof.Machine.execClockLost c s
  | .clockRestored c => Sys2Proof.Machine.execClockRestored c s
  | .crossingRearm crossing => Sys2Proof.Machine.execCrossingRearm crossing s
  | .launchChangeover kind unit slot => Sys2Proof.Machine.execLaunchChangeover kind unit slot s
  | .drainTimeout unit => Sys2Proof.Machine.execDrainTimeout unit s
  | .drainComplete unit => Sys2Proof.Machine.execDrainComplete unit s
  | .unitFailure unit code => Sys2Proof.Machine.execUnitFailure unit code s
  | .brambleTransaction tag write target len data accessor => Sys2Proof.Machine.execBrambleTransaction tag write target len data accessor s
  | .tilePredictedFailure tile => Sys2Proof.Machine.execTilePredictedFailure tile s
  | .spareCopyComplete group => Sys2Proof.Machine.execSpareCopyComplete group s
  | .spareCopyTimeout group => Sys2Proof.Machine.execSpareCopyTimeout group s
  | .tileSuddenFailure tile => Sys2Proof.Machine.execTileSuddenFailure tile s
  | .spareLoadComplete group => Sys2Proof.Machine.execSpareLoadComplete group s
  | .meshStopFault tile => Sys2Proof.Machine.execMeshStopFault tile s
  | .placementLoadComplete session => Sys2Proof.Machine.execPlacementLoadComplete session s
  | .groupZeroingComplete group => Sys2Proof.Machine.execGroupZeroingComplete group s
  | .sramScrubRead tile badSymbols => Sys2Proof.Machine.execSramScrubRead tile badSymbols s
  | .meshArrival tile => Sys2Proof.Machine.execMeshArrival tile s
  | .epochStart session => Sys2Proof.Machine.execEpochStart session s
  | .yewStep tile => Sys2Proof.Machine.execYewStep tile s
  | .epochEnd session => Sys2Proof.Machine.execEpochEnd session s
  | .sessionScheduleFault session => Sys2Proof.Machine.execSessionScheduleFault session s
  | .sample session => Sys2Proof.Machine.execSample session s
  | .drawComplete session => Sys2Proof.Machine.execDrawComplete session s
  | .drbgReseed session => Sys2Proof.Machine.execDrbgReseed session s
  | .drbgRequestLimit session => Sys2Proof.Machine.execDrbgRequestLimit session s
  | .draft session => Sys2Proof.Machine.execDraft session s
  | .verdictTimeout session => Sys2Proof.Machine.execVerdictTimeout session s
  | .pendingRecordWrite session consumed => Sys2Proof.Machine.execPendingRecordWrite session consumed s
  | .nop iss => Sys2Proof.Machine.execNop iss s
  | .b iss cond off => Sys2Proof.Machine.execB iss cond off s
  | .jal iss off => Sys2Proof.Machine.execJal iss off s
  | .jr iss ra => Sys2Proof.Machine.execJr iss ra s
  | .jalr iss ra => Sys2Proof.Machine.execJalr iss ra s
  | .rpt iss count => Sys2Proof.Machine.execRpt iss count s
  | .rptr iss => Sys2Proof.Machine.execRptr iss s
  | .imx iss target hi => Sys2Proof.Machine.execImx iss target hi s
  | .add iss rd ra rb f => Sys2Proof.Machine.execAdd iss rd ra rb f s
  | .sub iss rd ra rb f => Sys2Proof.Machine.execSub iss rd ra rb f s
  | .knAnd iss rd ra rb f => Sys2Proof.Machine.execKnAnd iss rd ra rb f s
  | .knOr iss rd ra rb f => Sys2Proof.Machine.execKnOr iss rd ra rb f s
  | .xor iss rd ra rb f => Sys2Proof.Machine.execXor iss rd ra rb f s
  | .andn iss rd ra rb f => Sys2Proof.Machine.execAndn iss rd ra rb f s
  | .sll iss rd ra rb f => Sys2Proof.Machine.execSll iss rd ra rb f s
  | .srl iss rd ra rb f => Sys2Proof.Machine.execSrl iss rd ra rb f s
  | .sra iss rd ra rb f => Sys2Proof.Machine.execSra iss rd ra rb f s
  | .rol iss rd ra rb f => Sys2Proof.Machine.execRol iss rd ra rb f s
  | .ror iss rd ra rb f => Sys2Proof.Machine.execRor iss rd ra rb f s
  | .knMin iss rd ra rb f => Sys2Proof.Machine.execKnMin iss rd ra rb f s
  | .knMax iss rd ra rb f => Sys2Proof.Machine.execKnMax iss rd ra rb f s
  | .minu iss rd ra rb f => Sys2Proof.Machine.execMinu iss rd ra rb f s
  | .maxu iss rd ra rb f => Sys2Proof.Machine.execMaxu iss rd ra rb f s
  | .neg iss rd ra f => Sys2Proof.Machine.execNeg iss rd ra f s
  | .clz iss rd ra f => Sys2Proof.Machine.execClz iss rd ra f s
  | .popc iss rd ra f => Sys2Proof.Machine.execPopc iss rd ra f s
  | .bswap iss rd ra f => Sys2Proof.Machine.execBswap iss rd ra f s
  | .adc iss rd ra rb f => Sys2Proof.Machine.execAdc iss rd ra rb f s
  | .sbc iss rd ra rb f => Sys2Proof.Machine.execSbc iss rd ra rb f s
  | .addw iss rd ra rb f => Sys2Proof.Machine.execAddw iss rd ra rb f s
  | .subw iss rd ra rb f => Sys2Proof.Machine.execSubw iss rd ra rb f s
  | .andw iss rd ra rb f => Sys2Proof.Machine.execAndw iss rd ra rb f s
  | .orw iss rd ra rb f => Sys2Proof.Machine.execOrw iss rd ra rb f s
  | .xorw iss rd ra rb f => Sys2Proof.Machine.execXorw iss rd ra rb f s
  | .andnw iss rd ra rb f => Sys2Proof.Machine.execAndnw iss rd ra rb f s
  | .sllw iss rd ra rb f => Sys2Proof.Machine.execSllw iss rd ra rb f s
  | .srlw iss rd ra rb f => Sys2Proof.Machine.execSrlw iss rd ra rb f s
  | .sraw iss rd ra rb f => Sys2Proof.Machine.execSraw iss rd ra rb f s
  | .rolw iss rd ra rb f => Sys2Proof.Machine.execRolw iss rd ra rb f s
  | .rorw iss rd ra rb f => Sys2Proof.Machine.execRorw iss rd ra rb f s
  | .minw iss rd ra rb f => Sys2Proof.Machine.execMinw iss rd ra rb f s
  | .maxw iss rd ra rb f => Sys2Proof.Machine.execMaxw iss rd ra rb f s
  | .minuw iss rd ra rb f => Sys2Proof.Machine.execMinuw iss rd ra rb f s
  | .maxuw iss rd ra rb f => Sys2Proof.Machine.execMaxuw iss rd ra rb f s
  | .negw iss rd ra f => Sys2Proof.Machine.execNegw iss rd ra f s
  | .clzw iss rd ra f => Sys2Proof.Machine.execClzw iss rd ra f s
  | .popcw iss rd ra f => Sys2Proof.Machine.execPopcw iss rd ra f s
  | .bswapw iss rd ra f => Sys2Proof.Machine.execBswapw iss rd ra f s
  | .adcw iss rd ra rb f => Sys2Proof.Machine.execAdcw iss rd ra rb f s
  | .sbcw iss rd ra rb f => Sys2Proof.Machine.execSbcw iss rd ra rb f s
  | .mul iss rd ra rb f => Sys2Proof.Machine.execMul iss rd ra rb f s
  | .mulhs iss rd ra rb f => Sys2Proof.Machine.execMulhs iss rd ra rb f s
  | .mulhu iss rd ra rb f => Sys2Proof.Machine.execMulhu iss rd ra rb f s
  | .mulw iss rd ra rb f => Sys2Proof.Machine.execMulw iss rd ra rb f s
  | .div iss rd ra rb f => Sys2Proof.Machine.execDiv iss rd ra rb f s
  | .divu iss rd ra rb f => Sys2Proof.Machine.execDivu iss rd ra rb f s
  | .rem iss rd ra rb f => Sys2Proof.Machine.execRem iss rd ra rb f s
  | .remu iss rd ra rb f => Sys2Proof.Machine.execRemu iss rd ra rb f s
  | .divw iss rd ra rb f => Sys2Proof.Machine.execDivw iss rd ra rb f s
  | .divuw iss rd ra rb f => Sys2Proof.Machine.execDivuw iss rd ra rb f s
  | .remw iss rd ra rb f => Sys2Proof.Machine.execRemw iss rd ra rb f s
  | .remuw iss rd ra rb f => Sys2Proof.Machine.execRemuw iss rd ra rb f s
  | .addi iss rd ra imm f => Sys2Proof.Machine.execAddi iss rd ra imm f s
  | .andi iss rd ra imm f => Sys2Proof.Machine.execAndi iss rd ra imm f s
  | .ori iss rd ra imm f => Sys2Proof.Machine.execOri iss rd ra imm f s
  | .xori iss rd ra imm f => Sys2Proof.Machine.execXori iss rd ra imm f s
  | .slli iss rd ra imm f => Sys2Proof.Machine.execSlli iss rd ra imm f s
  | .srli iss rd ra imm f => Sys2Proof.Machine.execSrli iss rd ra imm f s
  | .srai iss rd ra imm f => Sys2Proof.Machine.execSrai iss rd ra imm f s
  | .rori iss rd ra imm f => Sys2Proof.Machine.execRori iss rd ra imm f s
  | .movi iss rd imm f => Sys2Proof.Machine.execMovi iss rd imm f s
  | .csel iss rd ra rb cond f => Sys2Proof.Machine.execCsel iss rd ra rb cond f s
  | .mfs iss rd n f => Sys2Proof.Machine.execMfs iss rd n f s
  | .mts iss n ra => Sys2Proof.Machine.execMts iss n ra s
  | .ldb iss rd ra imm => Sys2Proof.Machine.execLdb iss rd ra imm s
  | .ldbu iss rd ra imm => Sys2Proof.Machine.execLdbu iss rd ra imm s
  | .ldh iss rd ra imm => Sys2Proof.Machine.execLdh iss rd ra imm s
  | .ldhu iss rd ra imm => Sys2Proof.Machine.execLdhu iss rd ra imm s
  | .ldw iss rd ra imm => Sys2Proof.Machine.execLdw iss rd ra imm s
  | .ldwu iss rd ra imm => Sys2Proof.Machine.execLdwu iss rd ra imm s
  | .ldd iss rd ra imm => Sys2Proof.Machine.execLdd iss rd ra imm s
  | .stb iss rd ra imm => Sys2Proof.Machine.execStb iss rd ra imm s
  | .sth iss rd ra imm => Sys2Proof.Machine.execSth iss rd ra imm s
  | .stw iss rd ra imm => Sys2Proof.Machine.execStw iss rd ra imm s
  | .std iss rd ra imm => Sys2Proof.Machine.execStd iss rd ra imm s
  | .custom iss k rd ra rb imm f => Sys2Proof.Machine.execCustom iss k rd ra rb imm f s
  | .done iss status => Sys2Proof.Machine.execDone iss status s
  | .hx iss rd ra imm => Sys2Proof.Machine.execHx iss rd ra imm s
  | .probe iss ra rb fn => Sys2Proof.Machine.execProbe iss ra rb fn s
  | .probeComplete core handle late => Sys2Proof.Machine.execProbeComplete core handle late s
  | .pres iss rd handle => Sys2Proof.Machine.execPres iss rd handle s
  | .emit iss rb word => Sys2Proof.Machine.execEmit iss rb word s
  | .parseLimit core => Sys2Proof.Machine.execParseLimit core s
  | .lwait iss ra => Sys2Proof.Machine.execLwait iss ra s
  | .lwaits iss wait => Sys2Proof.Machine.execLwaits iss wait s
  | .endStep iss => Sys2Proof.Machine.execEndStep iss s
  | .tiss iss q ra rb => Sys2Proof.Machine.execTiss iss q ra rb s
  | .mma tile start => Sys2Proof.Machine.execMma tile start s
  | .mmak tile start => Sys2Proof.Machine.execMmak tile start s
  | .aclr tile start => Sys2Proof.Machine.execAclr tile start s
  | .vadd tile start => Sys2Proof.Machine.execVadd tile start s
  | .vsub tile start => Sys2Proof.Machine.execVsub tile start s
  | .vmul tile start => Sys2Proof.Machine.execVmul tile start s
  | .vfma tile start => Sys2Proof.Machine.execVfma tile start s
  | .vmin tile start => Sys2Proof.Machine.execVmin tile start s
  | .vmax tile start => Sys2Proof.Machine.execVmax tile start s
  | .viadd tile start => Sys2Proof.Machine.execViadd tile start s
  | .visub tile start => Sys2Proof.Machine.execVisub tile start s
  | .vimul tile start => Sys2Proof.Machine.execVimul tile start s
  | .vand tile start => Sys2Proof.Machine.execVand tile start s
  | .vor tile start => Sys2Proof.Machine.execVor tile start s
  | .vxor tile start => Sys2Proof.Machine.execVxor tile start s
  | .vsll tile start => Sys2Proof.Machine.execVsll tile start s
  | .vsrl tile start => Sys2Proof.Machine.execVsrl tile start s
  | .vsra tile start => Sys2Proof.Machine.execVsra tile start s
  | .vidiv tile start => Sys2Proof.Machine.execVidiv tile start s
  | .virem tile start => Sys2Proof.Machine.execVirem tile start s
  | .vineg tile start => Sys2Proof.Machine.execVineg tile start s
  | .vld tile start => Sys2Proof.Machine.execVld tile start s
  | .vst tile start => Sys2Proof.Machine.execVst tile start s
  | .vacc tile start => Sys2Proof.Machine.execVacc tile start s
  | .vcvti tile start => Sys2Proof.Machine.execVcvti tile start s
  | .vcvtf tile start => Sys2Proof.Machine.execVcvtf tile start s
  | .vquant tile start => Sys2Proof.Machine.execVquant tile start s
  | .exp2 tile start => Sys2Proof.Machine.execExp2 tile start s
  | .vlog2 tile start => Sys2Proof.Machine.execVlog2 tile start s
  | .rcp tile start => Sys2Proof.Machine.execRcp tile start s
  | .rsqrt tile start => Sys2Proof.Machine.execRsqrt tile start s
  | .sqrt tile start => Sys2Proof.Machine.execSqrt tile start s
  | .tanh tile start => Sys2Proof.Machine.execTanh tile start s
  | .sigmoid tile start => Sys2Proof.Machine.execSigmoid tile start s
  | .vrsum tile start => Sys2Proof.Machine.execVrsum tile start s
  | .vrmax tile start => Sys2Proof.Machine.execVrmax tile start s
  | .send tile start => Sys2Proof.Machine.execSend tile start s
  | .gatewayRead tile start => Sys2Proof.Machine.execGatewayRead tile start s
  | .gatewayWrite tile start => Sys2Proof.Machine.execGatewayWrite tile start s
  | .gatewayGather tile start => Sys2Proof.Machine.execGatewayGather tile start s
  | .fill tag addr len pattern => Sys2Proof.Machine.execFill tag addr len pattern s
  | .copy tag dst src len => Sys2Proof.Machine.execCopy tag dst src len s
  | .fillComplete op => Sys2Proof.Machine.execFillComplete op s
  | .stackScrubRead stack access bad => Sys2Proof.Machine.execStackScrubRead stack access bad s
  | .repairMoveComplete stack row column => Sys2Proof.Machine.execRepairMoveComplete stack row column s
  | .refreshBurst stack quad ns => Sys2Proof.Machine.execRefreshBurst stack quad ns s
  | .stackFailed stack => Sys2Proof.Machine.execStackFailed stack s
  | .reservedRebuildComplete die => Sys2Proof.Machine.execReservedRebuildComplete die s
  | .plotZeroingComplete die => Sys2Proof.Machine.execPlotZeroingComplete die s
  | .stackMoveComplete die => Sys2Proof.Machine.execStackMoveComplete die s
  | .zalTrainingAttempt port => Sys2Proof.Machine.execZalTrainingAttempt port s
  | .init port seq version req rsp blk tok limit bad => Sys2Proof.Machine.execInit port seq version req rsp blk tok limit bad s
  | .laneMap port seq map bad => Sys2Proof.Machine.execLaneMap port seq map bad s
  | .mapSwitch port seq bad => Sys2Proof.Machine.execMapSwitch port seq bad s
  | .flitReceive port fecCorrected destroyed flit => Sys2Proof.Machine.execFlitReceive port fecCorrected destroyed flit s
  | .lookup port txPos slot => Sys2Proof.Machine.execLookup port txPos slot s
  | .replayTimeout port => Sys2Proof.Machine.execReplayTimeout port s
  | .zalRetrain port rxGood txGood ok => Sys2Proof.Machine.execZalRetrain port rxGood txGood ok s
  | .lanePredictedFailed port lane => Sys2Proof.Machine.execLanePredictedFailed port lane s
  | .laneTestPass port lane => Sys2Proof.Machine.execLaneTestPass port lane s
  | .read port m => Sys2Proof.Machine.execRead port m s
  | .write port m => Sys2Proof.Machine.execWrite port m s
  | .translate port m => Sys2Proof.Machine.execTranslate port m s
  | .dfSubmit port m => Sys2Proof.Machine.execDfSubmit port m s
  | .abort port m => Sys2Proof.Machine.execAbort port m s
  | .abortAnswer port m => Sys2Proof.Machine.execAbortAnswer port m s
  | .flushAck port m => Sys2Proof.Machine.execFlushAck port m s
  | .verdict port m => Sys2Proof.Machine.execVerdict port m s
  | .zalRequestTimeout port tag => Sys2Proof.Machine.execZalRequestTimeout port tag s
  | .apertureStagedRefresh port => Sys2Proof.Machine.execApertureStagedRefresh port s
  | .dfDescriptorFetch stream host => Sys2Proof.Machine.execDfDescriptorFetch stream host s
  | .dfScatter op => Sys2Proof.Machine.execDfScatter op s
  | .burst die slot => Sys2Proof.Machine.execBurst die slot s
  | .ckpTrigger q step at_ => Sys2Proof.Machine.execCkpTrigger q step at_ s
  | .snapshot die => Sys2Proof.Machine.execSnapshot die s
  | .warningWindowCheck => Sys2Proof.Machine.execWarningWindowCheck s
  | .ckpWarn port code => Sys2Proof.Machine.execCkpWarn port code s
  | .begin generation step reason => Sys2Proof.Machine.execBegin generation step reason s
  | .snapshotPoint => Sys2Proof.Machine.execSnapshotPoint s
  | .captureTimeout => Sys2Proof.Machine.execCaptureTimeout s
  | .shardWrite port m => Sys2Proof.Machine.execShardWrite port m s
  | .shardEnd port m => Sys2Proof.Machine.execShardEnd port m s
  | .parityContribution member chunk data crc => Sys2Proof.Machine.execParityContribution member chunk data crc s
  | .buddyChunk member chunk data crc => Sys2Proof.Machine.execBuddyChunk member chunk data crc s
  | .phaseDone phase => Sys2Proof.Machine.execPhaseDone phase s
  | .commit generation => Sys2Proof.Machine.execCommit generation s
  | .phaseTimeout => Sys2Proof.Machine.execPhaseTimeout s
  | .memberFailure member => Sys2Proof.Machine.execMemberFailure member s
  | .coordinatorFailover recordHeld => Sys2Proof.Machine.execCoordinatorFailover recordHeld s
  | .restoreRead port m => Sys2Proof.Machine.execRestoreRead port m s
  | .jobResume => Sys2Proof.Machine.execJobResume s
  | .configRequest port write offset byteEnables value => Sys2Proof.Machine.execConfigRequest port write offset byteEnables value s
  | .perstAssert port => Sys2Proof.Machine.execPerstAssert port s
  | .perstDeassert port width speed => Sys2Proof.Machine.execPerstDeassert port width speed s
  | .flr port => Sys2Proof.Machine.execFlr port s
  | .hepHeartbeat port value => Sys2Proof.Machine.execHepHeartbeat port value s
  | .heartbeatTimeout port => Sys2Proof.Machine.execHeartbeatTimeout port s
  | .driverReturn port => Sys2Proof.Machine.execDriverReturn port s
  | .lcNow port offset size => Sys2Proof.Machine.execLcNow port offset size s
  | .instLcNow port inst offset size => Sys2Proof.Machine.execInstLcNow port inst offset size s
  | .lcClockStatus port value => Sys2Proof.Machine.execLcClockStatus port value s
  | .pmcOvf port unit value => Sys2Proof.Machine.execPmcOvf port unit value s
  | .tenantCounterSlotRead port inst slot => Sys2Proof.Machine.execTenantCounterSlotRead port inst slot s
  | .reqDoorbell port mbx posted => Sys2Proof.Machine.execReqDoorbell port mbx posted s
  | .mbxCtrl port mbx value => Sys2Proof.Machine.execMbxCtrl port mbx value s
  | .instControlReset port inst value => Sys2Proof.Machine.execInstControlReset port inst value s
  | .instanceResetComplete inst => Sys2Proof.Machine.execInstanceResetComplete inst s
  | .freezeTimeout inst => Sys2Proof.Machine.execFreezeTimeout inst s
  | .registerWrite port bar offset size value => Sys2Proof.Machine.execRegisterWrite port bar offset size value s
  | .bar4Access port write offset len data => Sys2Proof.Machine.execBar4Access port write offset len data s
  | .hostCompletion port tag answer bytes => Sys2Proof.Machine.execHostCompletion port tag answer bytes s
  | .completionTimeout port tag => Sys2Proof.Machine.execCompletionTimeout port tag s
  | .tagQuarantineExpiry port tag => Sys2Proof.Machine.execTagQuarantineExpiry port tag s
  | .responseWrite mbx consumed => Sys2Proof.Machine.execResponseWrite mbx consumed s
  | .contextSwap ctx host => Sys2Proof.Machine.execContextSwap ctx host s
  | .exceptionDelivery die consumed => Sys2Proof.Machine.execExceptionDelivery die consumed s
  | .fwSwitchComplete => Sys2Proof.Machine.execFwSwitchComplete s
  | .fwSwitchTimeout => Sys2Proof.Machine.execFwSwitchTimeout s
  | .activateWhenClearStart => Sys2Proof.Machine.execActivateWhenClearStart s
  | .hello q hostLevel driverVersion features => Sys2Proof.Machine.execHello q hostLevel driverVersion features s
  | .goodbye q => Sys2Proof.Machine.execGoodbye q s
  | .deviceInfo q => Sys2Proof.Machine.execDeviceInfo q s
  | .readyQuery q => Sys2Proof.Machine.execReadyQuery q s
  | .operatorTransfer q port => Sys2Proof.Machine.execOperatorTransfer q port s
  | .violationRead q scope flags => Sys2Proof.Machine.execViolationRead q scope flags s
  | .faultLogRead q first count out => Sys2Proof.Machine.execFaultLogRead q first count out s
  | .faultLogRemove q entry => Sys2Proof.Machine.execFaultLogRemove q entry s
  | .eventConfig q count events => Sys2Proof.Machine.execEventConfig q count events s
  | .ialdoAbort q token => Sys2Proof.Machine.execIaldoAbort q token s
  | .mailboxQuery q mailbox => Sys2Proof.Machine.execMailboxQuery q mailbox s
  | .hepCountsClear q port mask => Sys2Proof.Machine.execHepCountsClear q port mask s
  | .launchArm q changeover kind unit slot table host => Sys2Proof.Machine.execLaunchArm q changeover kind unit slot table host s
  | .launchCounts q kind unit slot flags => Sys2Proof.Machine.execLaunchCounts q kind unit slot flags s
  | .partitionCreate q part policy tracker resident rate keySlots pageEntries => Sys2Proof.Machine.execPartitionCreate q part policy tracker resident rate keySlots pageEntries s
  | .partitionDelete q part => Sys2Proof.Machine.execPartitionDelete q part s
  | .partitionQuery q part => Sys2Proof.Machine.execPartitionQuery q part s
  | .quotaSet q part kind value => Sys2Proof.Machine.execQuotaSet q part kind value s
  | .partitionReset q part => Sys2Proof.Machine.execPartitionReset q part s
  | .exceptionRateSet q owner rate => Sys2Proof.Machine.execExceptionRateSet q owner rate s
  | .decodeTableLoad q owner table host => Sys2Proof.Machine.execDecodeTableLoad q owner table host s
  | .instanceCreate q inst part port pasid vectorBase vectorCount => Sys2Proof.Machine.execInstanceCreate q inst part port pasid vectorBase vectorCount s
  | .instanceDestroy q inst => Sys2Proof.Machine.execInstanceDestroy q inst s
  | .instanceReset q inst => Sys2Proof.Machine.execInstanceReset q inst s
  | .instanceQuery q inst rings => Sys2Proof.Machine.execInstanceQuery q inst rings s
  | .instanceFreeze q inst => Sys2Proof.Machine.execInstanceFreeze q inst s
  | .instanceSave q inst out => Sys2Proof.Machine.execInstanceSave q inst out s
  | .instanceRestore q inst part port pasid vectorBase vectorCount blob host => Sys2Proof.Machine.execInstanceRestore q inst part port pasid vectorBase vectorCount blob host s
  | .instanceThaw q inst => Sys2Proof.Machine.execInstanceThaw q inst s
  | .windowWrite q port entry barOffset length target owner perm => Sys2Proof.Machine.execWindowWrite q port entry barOffset length target owner perm s
  | .windowCommit q port => Sys2Proof.Machine.execWindowCommit q port s
  | .dirtyLogStart q inst count ranges host => Sys2Proof.Machine.execDirtyLogStart q inst count ranges host s
  | .dirtyLogRead q inst range out => Sys2Proof.Machine.execDirtyLogRead q inst range out s
  | .dirtyLogStop q inst => Sys2Proof.Machine.execDirtyLogStop q inst s
  | .plotAssign q owner mode die count firstSlot list host => Sys2Proof.Machine.execPlotAssign q owner mode die count firstSlot list host s
  | .plotRelease q owner slot count => Sys2Proof.Machine.execPlotRelease q owner slot count s
  | .plotQuery q owner firstSlot count out => Sys2Proof.Machine.execPlotQuery q owner firstSlot count out s
  | .memFill q owner flags addr len pattern => Sys2Proof.Machine.execMemFill q owner flags addr len pattern s
  | .memCopy q owner dst src len => Sys2Proof.Machine.execMemCopy q owner dst src len s
  | .stackRemove q stack rate => Sys2Proof.Machine.execStackRemove q stack rate s
  | .stackRestore q stack rate => Sys2Proof.Machine.execStackRestore q stack rate s
  | .memCountsRead q stack flags => Sys2Proof.Machine.execMemCountsRead q stack flags s
  | .memErrorLogRead q stack count first out => Sys2Proof.Machine.execMemErrorLogRead q stack count first out s
  | .scrubSet q stack hours => Sys2Proof.Machine.execScrubSet q stack hours s
  | .plotClearSet q slot clear => Sys2Proof.Machine.execPlotClearSet q slot clear s
  | .plotQuotaSet q part quota => Sys2Proof.Machine.execPlotQuotaSet q part quota s
  | .groupAssign q part group => Sys2Proof.Machine.execGroupAssign q part group s
  | .groupRelease q group => Sys2Proof.Machine.execGroupRelease q group s
  | .groupQuery q => Sys2Proof.Machine.execGroupQuery q s
  | .modelLoad q addr => Sys2Proof.Machine.execModelLoad q addr s
  | .modelUnload q model => Sys2Proof.Machine.execModelUnload q model s
  | .sessionOpen q descriptor => Sys2Proof.Machine.execSessionOpen q descriptor s
  | .sessionFeed q session count addr => Sys2Proof.Machine.execSessionFeed q session count addr s
  | .sessionClose q session => Sys2Proof.Machine.execSessionClose q session s
  | .sessionQuery q session => Sys2Proof.Machine.execSessionQuery q session s
  | .slipRead q session flags out => Sys2Proof.Machine.execSlipRead q session flags out s
  | .streamReserveSet q die reserve => Sys2Proof.Machine.execStreamReserveSet q die reserve s
  | .sessionReplace q session placement => Sys2Proof.Machine.execSessionReplace q session placement s
  | .zalPortBind q port owner => Sys2Proof.Machine.execZalPortBind q port owner s
  | .zalPortEnable q port enable => Sys2Proof.Machine.execZalPortEnable q port enable s
  | .zalTimeoutSet q port micros => Sys2Proof.Machine.execZalTimeoutSet q port micros s
  | .zalApertureAllot q port first count => Sys2Proof.Machine.execZalApertureAllot q port first count s
  | .zalApertureWrite q port entry data => Sys2Proof.Machine.execZalApertureWrite q port entry data s
  | .zalApertureCommit q port => Sys2Proof.Machine.execZalApertureCommit q port s
  | .zalPageMap q port data => Sys2Proof.Machine.execZalPageMap q port data s
  | .zalPageUnmap q port space va => Sys2Proof.Machine.execZalPageUnmap q port space va s
  | .zalPageQuotaSet q part entries => Sys2Proof.Machine.execZalPageQuotaSet q part entries s
  | .zalCountsClear q port mask => Sys2Proof.Machine.execZalCountsClear q port mask s
  | .dfStreamOpen q submitter port inst doorbell log2 vector flags sqAddr cqAddr stagingBase stagingLength ltDie ltSlot => Sys2Proof.Machine.execDfStreamOpen q submitter port inst doorbell log2 vector flags sqAddr cqAddr stagingBase stagingLength ltDie ltSlot s
  | .dfStreamClose q stream => Sys2Proof.Machine.execDfStreamClose q stream s
  | .dfAbort q stream index => Sys2Proof.Machine.execDfAbort q stream index s
  | .dfDoorbell port inst doorbell posted => Sys2Proof.Machine.execDfDoorbell port inst doorbell posted s
  | .namespaceCreate q nsid owner backing port flags source target keySlot base size => Sys2Proof.Machine.execNamespaceCreate q nsid owner backing port flags source target keySlot base size s
  | .namespaceDelete q nsid => Sys2Proof.Machine.execNamespaceDelete q nsid s
  | .namespaceAttach q nsid inst => Sys2Proof.Machine.execNamespaceAttach q nsid inst s
  | .namespaceDetach q nsid inst => Sys2Proof.Machine.execNamespaceDetach q nsid inst s
  | .fabricTargetAdd q port flags ownerEntry egressQueue dscp remoteIp localIp nextHopMac nqn host => Sys2Proof.Machine.execFabricTargetAdd q port flags ownerEntry egressQueue dscp remoteIp localIp nextHopMac nqn host s
  | .storagePowerPolicy q pipeline deepest => Sys2Proof.Machine.execStoragePowerPolicy q pipeline deepest s
  | .storageQuery q kind pipeline nsid => Sys2Proof.Machine.execStorageQuery q kind pipeline nsid s
  | .bulkQueueCreate q doorbell log2 vector sqAddr cqAddr => Sys2Proof.Machine.execBulkQueueCreate q doorbell log2 vector sqAddr cqAddr s
  | .bulkQueueDelete q doorbell => Sys2Proof.Machine.execBulkQueueDelete q doorbell s
  | .settings q port mode flags pfcClasses maxFrame => Sys2Proof.Machine.execSettings q port mode flags pfcClasses maxFrame s
  | .ownerWrite q port entry mac vid owner flags => Sys2Proof.Machine.execOwnerWrite q port entry mac vid owner flags s
  | .ownerClear q port entry => Sys2Proof.Machine.execOwnerClear q port entry s
  | .countsClear q port => Sys2Proof.Machine.execCountsClear q port s
  | .privetProgramLoad q program host => Sys2Proof.Machine.execPrivetProgramLoad q program host s
  | .privetShareSet q owner clusters base size cacheLimit => Sys2Proof.Machine.execPrivetShareSet q owner clusters base size cacheLimit s
  | .tableCreate q table owner kl log2 flags base seed1 seed2 => Sys2Proof.Machine.execTableCreate q table owner kl log2 flags base seed1 seed2 s
  | .tableUpdate q table count records host => Sys2Proof.Machine.execTableUpdate q table count records host s
  | .tableDelete q table => Sys2Proof.Machine.execTableDelete q table s
  | .ringCreate q kind log2 doorbell vector sqAddr cqAddr => Sys2Proof.Machine.execRingCreate q kind log2 doorbell vector sqAddr cqAddr s
  | .ringDelete q ring => Sys2Proof.Machine.execRingDelete q ring s
  | .exceptionRingSet q ring log2 addr slots => Sys2Proof.Machine.execExceptionRingSet q ring log2 addr slots s
  | .rdmaQpCreate q port flags mtu retry entry queue localIp remoteIp mac dscp remoteQpn timeout startPsn windowBase windowLength expectedPsn => Sys2Proof.Machine.execRdmaQpCreate q port flags mtu retry entry queue localIp remoteIp mac dscp remoteQpn timeout startPsn windowBase windowLength expectedPsn s
  | .rdmaQpDestroy q qpn => Sys2Proof.Machine.execRdmaQpDestroy q qpn s
  | .tmQueueConfig q queue owner port cls flags weight limit => Sys2Proof.Machine.execTmQueueConfig q queue owner port cls flags weight limit s
  | .tmPolicerSet q policer owner flags source cir pir cbs pbs yellow red => Sys2Proof.Machine.execTmPolicerSet q policer owner flags source cir pir cbs pbs yellow red s
  | .tmShaperSet q queue flags cir pir cbs pbs => Sys2Proof.Machine.execTmShaperSet q queue flags cir pir cbs pbs s
  | .tmOverheadSet q port overhead => Sys2Proof.Machine.execTmOverheadSet q port overhead s
  | .tmCountsRead q kind index => Sys2Proof.Machine.execTmCountsRead q kind index s
  | .gateListArm q port bank count cycleTime changeover list host => Sys2Proof.Machine.execGateListArm q port bank count cycleTime changeover list host s
  | .partitionKeyInit q part => Sys2Proof.Machine.execPartitionKeyInit q part s
  | .establish q slot len data host => Sys2Proof.Machine.execEstablish q slot len data host s
  | .wrapped q slot len data host => Sys2Proof.Machine.execWrapped q slot len data host s
  | .keyDestroy q slot => Sys2Proof.Machine.execKeyDestroy q slot s
  | .keySlotQuery q first count out => Sys2Proof.Machine.execKeySlotQuery q first count out s
  | .keySlotQuotaSet q part slots => Sys2Proof.Machine.execKeySlotQuotaSet q part slots s
  | .attestQuote q kind part nonce out => Sys2Proof.Machine.execAttestQuote q kind part nonce out s
  | .quoteSigningComplete => Sys2Proof.Machine.execQuoteSigningComplete s
  | .measurementRead q scope first count out => Sys2Proof.Machine.execMeasurementRead q scope first count out s
  | .ckpGroupCreate q g => Sys2Proof.Machine.execCkpGroupCreate q g s
  | .ckpGroupDelete q groupId => Sys2Proof.Machine.execCkpGroupDelete q groupId s
  | .ckpConfig q count ranges host => Sys2Proof.Machine.execCkpConfig q count ranges host s
  | .ckpStatus q => Sys2Proof.Machine.execCkpStatus q s
  | .ckpDigest q generation out => Sys2Proof.Machine.execCkpDigest q generation out s
  | .ckpSpareAssign q member peer => Sys2Proof.Machine.execCkpSpareAssign q member peer s
  | .ckpStandby q g => Sys2Proof.Machine.execCkpStandby q g s
  | .ckpWarningSet q memory replays fec flags holdoff => Sys2Proof.Machine.execCkpWarningSet q memory replays fec flags holdoff s
  | .powerQuery q => Sys2Proof.Machine.execPowerQuery q s
  | .powerLevelSet q level => Sys2Proof.Machine.execPowerLevelSet q level s
  | .powerCapSet q watts => Sys2Proof.Machine.execPowerCapSet q watts s
  | .thermalQuery q => Sys2Proof.Machine.execThermalQuery q s
  | .fwStage q image host => Sys2Proof.Machine.execFwStage q image host s
  | .fwActivateLive q flags => Sys2Proof.Machine.execFwActivateLive q flags s
  | .fwActivateReset q flags => Sys2Proof.Machine.execFwActivateReset q flags s
  | .fwQuery q => Sys2Proof.Machine.execFwQuery q s
  | .fwDiscard q => Sys2Proof.Machine.execFwDiscard q s
  | .unitOutOfService q unit => Sys2Proof.Machine.execUnitOutOfService q unit s
  | .bistRun q unit kind patterns => Sys2Proof.Machine.execBistRun q unit kind patterns s
  | .bistComplete unit misr expected failing addrs => Sys2Proof.Machine.execBistComplete unit misr expected failing addrs s
  | .unitReturn q unit => Sys2Proof.Machine.execUnitReturn q unit s
  | .testQuery q unit out => Sys2Proof.Machine.execTestQuery q unit out s
  | .counterConfig q unit counter event flags part master mask cls ctrl lo hi value slot => Sys2Proof.Machine.execCounterConfig q unit counter event flags part master mask cls ctrl lo hi value slot s
  | .counterRead q count units out host => Sys2Proof.Machine.execCounterRead q count units out host s
  | .counterCapture => Sys2Proof.Machine.execCounterCapture s
  | .tenantCounterAccess q part allow => Sys2Proof.Machine.execTenantCounterAccess q part allow s
  | .telemetryRingSet q addr log2 vector => Sys2Proof.Machine.execTelemetryRingSet q addr log2 vector s
  | .errorLogRead q first count out => Sys2Proof.Machine.execErrorLogRead q first count out s
  | .accel die => Sys2Proof.Machine.execAccel die s
  | .accelReply port payload => Sys2Proof.Machine.execAccelReply port payload s
  | .accelTimeout port => Sys2Proof.Machine.execAccelTimeout port s
  | .sensors die => Sys2Proof.Machine.execSensors die s
  | .counters die => Sys2Proof.Machine.execCounters die s
  | .telemetryRecordWrite consumed => Sys2Proof.Machine.execTelemetryRecordWrite consumed s
  | .createIoSq c qid size pc prio cqid => Sys2Proof.Machine.execCreateIoSq c qid size pc prio cqid s
  | .deleteIoSq c qid => Sys2Proof.Machine.execDeleteIoSq c qid s
  | .createIoCq c qid size pc ien vector => Sys2Proof.Machine.execCreateIoCq c qid size pc ien vector s
  | .deleteIoCq c qid => Sys2Proof.Machine.execDeleteIoCq c qid s
  | .getLogPage c lid numd offset => Sys2Proof.Machine.execGetLogPage c lid numd offset s
  | .identify c cns => Sys2Proof.Machine.execIdentify c cns s
  | .nvmeAbort c sqid cid => Sys2Proof.Machine.execNvmeAbort c sqid cid s
  | .setFeatures c fid save dw11 host => Sys2Proof.Machine.execSetFeatures c fid save dw11 host s
  | .getFeatures c fid => Sys2Proof.Machine.execGetFeatures c fid s
  | .asynchronousEventRequest c => Sys2Proof.Machine.execAsynchronousEventRequest c s
  | .nvmeFlush c => Sys2Proof.Machine.execNvmeFlush c s
  | .nvmeWrite c slba nlb fua => Sys2Proof.Machine.execNvmeWrite c slba nlb fua s
  | .nvmeRead c slba nlb => Sys2Proof.Machine.execNvmeRead c slba nlb s
  | .writeZeroes c slba nlb => Sys2Proof.Machine.execWriteZeroes c slba nlb s
  | .datasetManagement c deallocate count host => Sys2Proof.Machine.execDatasetManagement c deallocate count host s
  | .nvmeSqDoorbell port inst qid tail => Sys2Proof.Machine.execNvmeSqDoorbell port inst qid tail s
  | .nvmeCqDoorbell port inst qid head => Sys2Proof.Machine.execNvmeCqDoorbell port inst qid head s
  | .controllerEnable port inst cc => Sys2Proof.Machine.execControllerEnable port inst cc s
  | .controllerReset port inst cc => Sys2Proof.Machine.execControllerReset port inst cc s
  | .shutdownNotification port inst cc => Sys2Proof.Machine.execShutdownNotification port inst cc s
  | .bulkDoorbell port inst doorbell posted => Sys2Proof.Machine.execBulkDoorbell port inst doorbell posted s
  | .bulkRead inst doorbell c => Sys2Proof.Machine.execBulkRead inst doorbell c s
  | .bulkWrite inst doorbell c => Sys2Proof.Machine.execBulkWrite inst doorbell c s
  | .bulkWriteZeroes inst doorbell c => Sys2Proof.Machine.execBulkWriteZeroes inst doorbell c s
  | .bulkFlush inst doorbell c => Sys2Proof.Machine.execBulkFlush inst doorbell c s
  | .bulkFill inst doorbell c => Sys2Proof.Machine.execBulkFill inst doorbell c s
  | .bulkCopy inst doorbell c => Sys2Proof.Machine.execBulkCopy inst doorbell c s
  | .storageCompletion op result data => Sys2Proof.Machine.execStorageCompletion op result data s
  | .backingWaitTimeout op => Sys2Proof.Machine.execBackingWaitTimeout op s
  | .backingReconnect fabric index up speed width => Sys2Proof.Machine.execBackingReconnect fabric index up speed width s
  | .apstTransition inst => Sys2Proof.Machine.execApstTransition inst s
  | .pipelineHoldExpiry pipeline => Sys2Proof.Machine.execPipelineHoldExpiry pipeline s
  | .frameReceive port frame fecCorrected fecUncorrectable => Sys2Proof.Machine.execFrameReceive port frame fecCorrected fecUncorrectable s
  | .pfcRepeat port prio => Sys2Proof.Machine.execPfcRepeat port prio s
  | .pfcPauseExpiry port prio => Sys2Proof.Machine.execPfcPauseExpiry port prio s
  | .frameDispatch port cycle => Sys2Proof.Machine.execFrameDispatch port cycle s
  | .frameRelease port => Sys2Proof.Machine.execFrameRelease port s
  | .roceReceive port => Sys2Proof.Machine.execRoceReceive port s
  | .roceAckTimeout qpn => Sys2Proof.Machine.execRoceAckTimeout qpn s
  | .roceRateIncrease qpn => Sys2Proof.Machine.execRoceRateIncrease qpn s
  | .packetDoorbell port inst doorbell posted host => Sys2Proof.Machine.execPacketDoorbell port inst doorbell posted host s
  | .txDescriptor ring descriptor frame => Sys2Proof.Machine.execTxDescriptor ring descriptor frame s
  | .frameTransmit port => Sys2Proof.Machine.execFrameTransmit port s
  | .bucketRefill => Sys2Proof.Machine.execBucketRefill s
  | .gateEntryChange port => Sys2Proof.Machine.execGateEntryChange port s
  | .gateChangeover port => Sys2Proof.Machine.execGateChangeover port s
  | .alarm source => Sys2Proof.Machine.execAlarm source s
  | .alarmClear => Sys2Proof.Machine.execAlarmClear s
  | .entropyTestFail die => Sys2Proof.Machine.execEntropyTestFail die s
  | .entropyWaitTimeout => Sys2Proof.Machine.execEntropyWaitTimeout s
  | .maskingDrbgReseed engine => Sys2Proof.Machine.execMaskingDrbgReseed engine s
  | .doeDiscovery port index => Sys2Proof.Machine.execDoeDiscovery port index s
  | .doeAttestation port body => Sys2Proof.Machine.execDoeAttestation port body s
  | .setEndpointId bus eid => Sys2Proof.Machine.execSetEndpointId bus eid s
  | .pldmRequest bus type sensor => Sys2Proof.Machine.execPldmRequest bus type sensor s
  | .pldmFirmwareUpdate bus image => Sys2Proof.Machine.execPldmFirmwareUpdate bus image s
  | .bypass die => Sys2Proof.Machine.execBypass die s
  | .idcode die => Sys2Proof.Machine.execIdcode die s
  | .samplePreload die bits pins => Sys2Proof.Machine.execSamplePreload die bits pins s
  | .extest die => Sys2Proof.Machine.execExtest die s
  | .clamp die => Sys2Proof.Machine.execClamp die s
  | .highz die => Sys2Proof.Machine.execHighz die s
  | .entropySourceRestored die => Sys2Proof.Machine.execEntropySourceRestored die s
  | .modelLoadComplete op => Sys2Proof.Machine.execModelLoadComplete op s
  | .sessionLoadComplete session => Sys2Proof.Machine.execSessionLoadComplete session s
  | .fwStageComplete op => Sys2Proof.Machine.execFwStageComplete op s
  | .closeDeliveryTimeout session => Sys2Proof.Machine.execCloseDeliveryTimeout session s
  | .zalTagReuseExpiry port tag => Sys2Proof.Machine.execZalTagReuseExpiry port tag s
  | .zalLinkUp port rxMap txMap => Sys2Proof.Machine.execZalLinkUp port rxMap txMap s
  | .ethLinkUp port => Sys2Proof.Machine.execEthLinkUp port s
  | .storageLinkDown port => Sys2Proof.Machine.execStorageLinkDown port s
  | .fabricTargetTimeout target => Sys2Proof.Machine.execFabricTargetTimeout target s
  | .copyComplete op => Sys2Proof.Machine.execCopyComplete op s

end Sys2Proof.Machine
end

