-- ==== Sys2Proof/Safety.lean ====
section
/-! DEFINITION. What counts as a safe run, and the terms in which the statements say what a command does. -/

namespace Sys2Proof.Machine

/-- The command, run on a state, gives a next state of which `P` holds. -/
def After (c : Instr) (s : State) (P : State → Prop) : Prop := ∃ t, exec c s = .next t ∧ P t

/-- A response-ring entry that goes to a mailbox. -/
def Emit.entryFor (m : Nat) : Emit → Option IaldoEntry
  | .ialdo k _ e => if k = m then some e else none
  | _ => none

/-- The entries for a mailbox, newest first: those that wait to be written, then those written (R354). -/
def entriesFor (s : State) (m : Nat) : List IaldoEntry := (s.mbx m).pend.reverse ++ s.emitted.filterMap (Emit.entryFor m)

/-- The mailbox fetches this request now, and none of the refusals that R561 puts before a request's own statement holds: the
session exists, the header is right, the opcode is supported, the sender is admitted. -/
structure Served (s : State) (q : Req) (op len : Nat) (snd : Sender) : Prop where
  fetches : mbxFetches s q.mbx = true
  session : ∃ ses, (s.mbx q.mbx).session = some ses ∧ headerBad q ses (wrap32 ((s.mbx q.mbx).fetched + 1)) len = false ∧
    supported ses op = true
  sender : snd.admits (whoOf s q.mbx) = true
  bodyOk : q.bodyBad = false

/-- The entry of KIND `kind` that answers the request `q` of `s` (R356, R361). -/
def replyEntry (s : State) (q : Req) (op kind status token : Nat) (body : Bytes) : IaldoEntry :=
  { opcode := op, kind := kind, level := ((s.mbx q.mbx).session.map Session.level).getD 0
    index := wrap32 ((s.mbx q.mbx).fetched + 1), status := status, token := token, cookie := q.cookie, time := s.lc, body := body }

/-- The last entry for the sender's mailbox is the request's RESPONSE, of TOKEN 0 (R353, R356). -/
def Replied (s t : State) (q : Req) (op status : Nat) (body : Bytes) : Prop :=
  (entriesFor t q.mbx).head? = some (replyEntry s q op 2 status 0 body)

/-- The last entry is the request's RESPONSE with a TOKEN that a long operation of the mailbox holds (R361). -/
def Accepted (s t : State) (q : Req) (op status : Nat) : Prop :=
  ∃ token, token ≠ 0 ∧ (entriesFor t q.mbx).head? = some (replyEntry s q op 2 status token []) ∧
    (t.longOps.get? s.opNo).map LongOp.token = some token

/-- The last two entries are the request's RESPONSE ACCEPTED with a TOKEN and the COMPLETION with that TOKEN (R361). -/
def Completed (s t : State) (q : Req) (op status : Nat) (body : Bytes) : Prop :=
  ∃ token, token ≠ 0 ∧ (entriesFor t q.mbx).take 2 =
    [replyEntry s q op 3 status token body, replyEntry s q op 2 ACCEPTED token []]

/-- A long operation has ended: its number is free, and where the session that asked is still open its mailbox's last entry is the
COMPLETION with the request's OPCODE, INDEX, COOKIE and TOKEN (R355, R361). -/
structure Finished (s t : State) (n status : Nat) (body : Bytes) : Prop where
  gone : t.longOps.get? n = none
  told : ∀ (o : LongOp) (ses : Session), s.longOps.get? n = some o → (s.mbx o.mbx).session = some ses →
    (s.mbx o.mbx).sessionNo = o.sessionNo → (s.mbx o.mbx).enable = true → (entriesFor t o.mbx).head? = some
      { opcode := o.opcode, kind := 3, level := ses.level, index := o.index, status := status, token := o.token, cookie := o.cookie
        time := s.lc, body := body }

/-- Nothing differs but mailboxes, the instances' dirty logs, the host ports and what has been sent: a reply's own traffic. -/
def SameBut (s t : State) : Prop :=
  t = { s with mbxs := t.mbxs, insts := t.insts, ports := t.ports, emitted := t.emitted }

/-- As `SameBut`, but for the counters, logs and the telemetry ring too: reports to the operator. -/
def SameButReports (s t : State) : Prop :=
  t = { s with mbxs := t.mbxs, insts := t.insts, ports := t.ports, emitted := t.emitted, mon := t.mon }

/-- The rails are off for a cause, and every secret, register and memory of the device is gone; what R515 names is left: fuses,
boot flash and pointer, the fault log. No ring entry is written after the erasure (R505). -/
structure Off (s : State) (c : OffCause) (t : State) : Prop where
  rails : t.power.pwrGood = false
  cause : t.power.off = c
  secrets : t.sec = {}
  memory : t.dram = {}
  tiles : t.tiles = []
  owners : t.parts = [] ∧ t.insts = [] ∧ t.sessions = [] ∧ t.longOps = [] ∧ t.mbxs = []
  fuses : t.fuses = s.fuses
  boot : t.fw.bank = s.fw.bank ∧ t.fw.bootStaged = s.fw.bootStaged
  log : ∃ l, t.faultLog = s.faultLog ++ l
  pwrGood : Emit.signal 1 true ∈ t.emitted
  silent : ∀ m, t.emitted.filterMap (Emit.entryFor m) = s.emitted.filterMap (Emit.entryFor m)
  queue : t.pending = s.pending

/-! ### Knalys syllables -/

/-- A syllable of its class that can issue acts on its core alone, as it stands at the issue cycle (R147). -/
def Issues (s : State) (i : Issue) (k : SlotClass) (c : Instr) (g : Core → Core) : Prop :=
  canIssue s i k = true → exec c s = .next (s.modCore (coreNo i.core) fun x => g (x.advance i.cycle))

/-- N, Z, C and V of a result in bits 0 to 3 (R144, R145). -/
def nzcv {w : Nat} (r : BitVec w) (c v : Bool) : Nat := b2n r.msb + 2 * b2n (r == 0#w) + 4 * b2n c + 8 * b2n v

/-- What an integer operation gives: the result, the flags, and which of them it writes. -/
structure IntResult (w : Nat) where
  val : BitVec w
  flags : Nat
  mask : Nat
/-- N and Z from the result, C and V as given (R145). -/
def IntResult.arith {w : Nat} (r : BitVec w) (c v : Bool) : IntResult w := ⟨r, nzcv r c v, 15⟩
/-- N and Z from the result, C and V cleared (R145). -/
def IntResult.logic {w : Nat} (r : BitVec w) : IntResult w := ⟨r, nzcv r false false, 15⟩
/-- N and Z from the result, C cleared, V unchanged (R145). -/
def IntResult.shift {w : Nat} (r : BitVec w) : IntResult w := ⟨r, nzcv r false false, 7⟩

/-- The core with a result and, under .f, its flags in flight: both become visible after `lat` cycles, the result extended by
its sign; g0 takes none (R143, R146, R147, R158). -/
def inFlight {w : Nat} (x : Core) (i : Issue) (lat : Nat) (rd : Fin 32) (f : Bool) (r : IntResult w) : Core :=
  { x with
    pend := x.pend ++
      (if rd = 0 then [] else [{ due := i.cycle + lat, slot := i.slot, target := .reg rd, value := r.val.signExtend 64 }]) ++
      (if f then [{ due := i.cycle + lat, slot := i.slot, target := .flags r.mask, value := BitVec.ofNat 64 r.flags }] else []) }

/-- A syllable of two registers computes `op` on their low `w` bits and the carry, at a latency. -/
def Binary (w lat : Nat) (c : Issue → Fin 32 → Fin 32 → Fin 32 → Bool → Instr) (op : BitVec w → BitVec w → Bool → IntResult w) :
    Prop :=
  ∀ (s : State) (i : Issue) (rd ra rb : Fin 32) (f : Bool), Issues s i .compute (c i rd ra rb f) fun x =>
    inFlight x i lat rd f (op ((x.reg ra).setWidth w) ((x.reg rb).setWidth w) (bitOf x.flags 2))
/-- A syllable of one register computes `op` on its low `w` bits, at latency 1. -/
def Unary (w : Nat) (c : Issue → Fin 32 → Fin 32 → Bool → Instr) (op : BitVec w → IntResult w) : Prop :=
  ∀ (s : State) (i : Issue) (rd ra : Fin 32) (f : Bool), Issues s i .compute (c i rd ra f) fun x =>
    inFlight x i 1 rd f (op ((x.reg ra).setWidth w))

/-- The immediate of an I-format syllable: IMM14, or HI18 and IMM14 under the bundle's IMX, extended by its sign (R142, R153). -/
def immediate (x : Core) (slot : Nat) (imm : BitVec 14) : W64 :=
  match x.imx with
  | some (t, hi) => if t = slot then (BitVec.ofNat 18 hi ++ imm).signExtend 64 else imm.signExtend 64
  | none => imm.signExtend 64
/-- A syllable of a register and an immediate computes `op` at latency 1. -/
def WithImmediate (c : Issue → Fin 32 → Fin 32 → BitVec 14 → Bool → Instr) (op : W64 → W64 → IntResult 64) : Prop :=
  ∀ (s : State) (i : Issue) (rd ra : Fin 32) (imm : BitVec 14) (f : Bool), Issues s i .compute (c i rd ra imm f) fun x =>
    inFlight x i 1 rd f (op (x.reg ra) (immediate x i.slot imm))

/-- Bytes in the opposite order. -/
def bytesReversed (w : Nat) (a : BitVec w) : BitVec w :=
  (List.range (w / 8)).foldl (fun r k => r ||| ((a >>> (8 * k)) &&& 255#w) <<< (w - 8 - 8 * k)) 0#w
/-- Number of ones. -/
def onesOf {w : Nat} (a : BitVec w) : Nat := (List.range w).countP fun k => a.getLsbD k

/-- A load's address: the sum of base and immediate modulo 2^64, aligned down to the access size (R159). -/
def dataAddr (x : Core) (slot : Nat) (ra : Fin 32) (imm : BitVec 14) (n : Nat) : Nat :=
  (x.reg ra + immediate x slot imm).toNat / n * n
/-- What a load writes: its bytes, little-endian, extended by their sign or by zeros (R159). -/
def loaded (n : Nat) (signed : Bool) (bs : Bytes) : IntResult 64 :=
  ⟨if signed then (BitVec.ofNat (8 * n) (ofLe bs)).signExtend 64 else BitVec.ofNat 64 (ofLe bs), 0, 0⟩

/-- One violation counts against the owner that the tag blames, and the first one fills the record (R29 to R32). -/
def Violated (s t : State) (addr tag kind len target accessor : Nat) : Prop :=
  t.vio = s.vio.set (tagBlame tag)
    { count := sat32 (s.vio.getD (tagBlame tag) {}).count 1
      record := some ((s.vio.getD (tagBlame tag) {}).record.getD
        { time := s.lc, address := addr, tag := tag, kind := kind, length := len, target := target, accessor := accessor }) }

/-- The requester number of a core: its cluster's, or its group's (R12). -/
def requesterOf : CoreId → Nat
  | .privet c _ => 0x440 + c
  | .yew t => 0x480 + t / 9

/-- An access of a core outside its windows: one violation of the kind, nothing but counters changes beside the core (R29). -/
def CoreViolated (s t : State) (k : CoreId) (x : Core) (a kind len : Nat) : Prop :=
  Violated s t a (mkTag x.owner (requesterOf k)) kind len (requesterOf k) 0xFFFF ∧
    t = { s with cores := t.cores, vio := t.vio, mon := t.mon }

/-- A load of `n` bytes: from a Privet core's scratch and from its packet, zero beyond PRV_PKTLEN with PKT_SHORT, and from a tile's
SRAM; outside these windows it is a violation and reads zero (R29, R148, R158 to R160, R166). -/
def Loads (n : Nat) (signed : Bool) (c : Issue → Fin 32 → Fin 32 → BitVec 14 → Instr) : Prop :=
  ∀ (s : State) (i : Issue) (rd ra : Fin 32) (imm : BitVec 14), canIssue s i .memory = true →
    let x := (s.core (coreNo i.core)).advance i.cycle
    let a := dataAddr x i.slot ra imm n
    match i.core with
    | .privet _ _ =>
      (a + n ≤ 4096 → exec (c i rd ra imm) s = .next (s.modCore (coreNo i.core) fun _ =>
        inFlight x i 3 rd false (loaded n signed ((List.range n).map fun j => x.scratch.read (a + j))))) ∧
      (0x10000 ≤ a → a + n ≤ 0x14000 → exec (c i rd ra imm) s = .next (s.modCore (coreNo i.core) fun _ =>
        { inFlight x i 3 rd false (loaded n signed ((List.range n).map fun j =>
            if a - 0x10000 + j < x.pktLen then x.packet.getD (a - 0x10000 + j) 0 else 0)) with
          prvStat := x.prvStat ||| (if a + n ≤ 0x10000 + x.pktLen then 0 else 1) })) ∧
      (4096 < a + n → a + n ≤ 0x10000 ∨ 0x14000 < a + n → After (c i rd ra imm) s fun t =>
        t.core (coreNo i.core) = inFlight x i 3 rd false (loaded n signed []) ∧ CoreViolated s t i.core x a 1 n)
    | .yew k =>
      (a + n ≤ 10485760 → a / 32 ∉ (s.tile k).poisoned → exec (c i rd ra imm) s =
        .next (s.modCore (coreNo i.core) fun _ =>
          inFlight x i 3 rd false (loaded n signed ((List.range n).map fun j => (s.tile k).sram.read (a + j))))) ∧
      (10485760 < a + n → After (c i rd ra imm) s fun t =>
        t.core (coreNo i.core) = inFlight x i 3 rd false (loaded n signed []) ∧ CoreViolated s t i.core x a 1 n)

/-- Byte memory after `n` bytes of a value are stored from `a` up, little-endian; every other byte reads as before. -/
def StoredAt (m m' : Mem) (a n : Nat) (v : W64) : Prop :=
  ∀ b, m'.read b = if a ≤ b ∧ b < a + n then v.extractLsb' (8 * (b - a)) 8 else m.read b

/-- A store of the low `n` bytes of the RD register: into a Privet core's scratch; ignored in its packet; into a tile's SRAM outside
the regions of R100 and R102, with an OVERRUN slip and no store in a WEIGHT region; outside the windows a violation. -/
def Stores (n : Nat) (c : Issue → Fin 32 → Fin 32 → BitVec 14 → Instr) : Prop :=
  ∀ (s : State) (i : Issue) (rd ra : Fin 32) (imm : BitVec 14), canIssue s i .memory = true →
    let x := (s.core (coreNo i.core)).advance i.cycle
    let a := dataAddr x i.slot ra imm n
    match i.core with
    | .privet _ _ =>
      (a + n ≤ 4096 → Mem.wf x.scratch = true → After (c i rd ra imm) s fun t =>
        t.core (coreNo i.core) = { x with scratch := (t.core (coreNo i.core)).scratch } ∧
        StoredAt x.scratch (t.core (coreNo i.core)).scratch a n (x.reg rd) ∧
        t = s.modCore (coreNo i.core) fun _ => t.core (coreNo i.core)) ∧
      (0x10000 ≤ a → a + n ≤ 0x14000 → exec (c i rd ra imm) s = .next (s.modCore (coreNo i.core) fun _ => x)) ∧
      (4096 < a + n → a + n ≤ 0x10000 ∨ 0x14000 < a + n → After (c i rd ra imm) s fun t =>
        t.core (coreNo i.core) = x ∧ CoreViolated s t i.core x a 2 n)
    | .yew k =>
      (a + n ≤ 10485760 → Mem.wf (s.tile k).sram = true → (∀ r ∈ (s.tile k).regions, r.cls ≠ .weight ∧ r.cls ≠ .stream ∧ r.cls ≠ .persist) →
        After (c i rd ra imm) s fun t => t.core (coreNo i.core) = x ∧
          StoredAt (s.tile k).sram (t.tile k).sram a n (x.reg rd) ∧
          t = (s.modCore (coreNo i.core) fun _ => x).modTile k fun y =>
            { y with sram := (t.tile k).sram }) ∧
      (a + n ≤ 10485760 → touches s k a n .weight = true → After (c i rd ra imm) s fun t => t.core (coreNo i.core) = x ∧
        (t.tile k).sram = (s.tile k).sram ∧ (t.tile k).slips = sat32 (s.tile k).slips 1) ∧
      (10485760 < a + n → After (c i rd ra imm) s fun t => t.core (coreNo i.core) = x ∧ CoreViolated s t i.core x a 2 n)

/-! ### Tensor commands -/

/-- A tensor command of a tile has begun: `y` is the tile as it then stands, the completion in cycle `due` sets flags and lane
overflows, the step lasts until then; nothing else differs (R131, R137, R144, R168). -/
def Began (s t : State) (tile : Fin 144) (y : Tile) (due fp lovf : Nat) : Prop :=
  t = (s.modTile tile fun _ => { y with step := y.step.map fun r => { r with busyUntil := max r.busyUntil due } }).modCore (1024 + tile)
    fun x => { x with pend := x.pend ++ [{ due := due, slot := 4, target := .tensor fp lovf, value := 0 }] }

/-- The second operand of a vector command: VB, or the 32-bit immediate in every lane (R173). -/
def vectorB (y : Tile) (v : VecCmd) : List W32 :=
  if v.srcb then List.replicate 256 (BitVec.ofNat 32 v.imm) else y.vregs.getD v.vb (List.replicate 256 0)
/-- A vector register as it stands. -/
def vectorReg (y : Tile) (n : Nat) : List W32 := y.vregs.getD n (List.replicate 256 0)
/-- The tile with the front vector command started: the unit busy for `occ` cycles, VD's lanes in flight until `start + lat`. -/
def vectorStarted (y : Tile) (start occ lat vd : Nat) (lanes : List W32) : Tile :=
  { y with qVector := y.qVector.drop 1, vectorFree := start + occ
           lanes := y.lanes ++ [{ due := start + lat, acc := false, index := vd, value := lanes }] }

/-- A vector command on FP32 or INT32 lanes: what `f` gives of VA, VB or the immediate, VC and the mode goes to VD at its latency,
and its flags when it completes (R131, R150, R173). -/
def VectorFp (vop occ lat : Nat) (c : Fin 144 → B8 → Instr)
    (f : (ftz rtz : Bool) → List Nat → List Nat → List Nat → List Flagged) : Prop :=
  ∀ (s : State) (tile : Fin 144) (start w : Nat) (rest : List Nat), s.on = true → (s.tile tile).qVector = w :: rest →
    (VecCmd.ofWord w).vop = vop → (s.tile tile).vectorFree ≤ start →
    let v := VecCmd.ofWord w
    let y := (s.tile tile).settle start
    let mode := ((s.core (1024 + tile)).retire start).amode
    let r := f (mode.getLsbD 0) (mode.getLsbD 3) ((vectorReg y v.va).map BitVec.toNat) ((vectorB y v).map BitVec.toNat)
      ((vectorReg y v.vc).map BitVec.toNat)
    After (c tile start) s fun t => Began s t tile (vectorStarted y start occ lat v.vd (r.map fun p => BitVec.ofNat 32 p.1))
      (start + lat) ((r.map Prod.snd).foldl (· ||| ·) 0) 0

/-- A vector integer command: `op` on each lane, and the lanes where `ov` holds stick in the overflow mask (R137, R138, R173). -/
def VectorInt (vop lat : Nat) (c : Fin 144 → B8 → Instr) (op : W32 → W32 → W32) (ov : W32 → W32 → Bool) : Prop :=
  ∀ (s : State) (tile : Fin 144) (start w : Nat) (rest : List Nat), s.on = true → (s.tile tile).qVector = w :: rest →
    (VecCmd.ofWord w).vop = vop → (s.tile tile).vectorFree ≤ start →
    let v := VecCmd.ofWord w
    let y := (s.tile tile).settle start
    After (c tile start) s fun t => ∃ lovf : Nat,
      (∀ j, lovf.testBit j = ((List.zipWith ov (vectorReg y v.va) (vectorB y v))[j]?).getD false) ∧
      Began s t tile (vectorStarted y start 1 lat v.vd (List.zipWith op (vectorReg y v.va) (vectorB y v))) (start + lat) 0 lovf

/-! ### The accelerator link -/

/-- Nothing differs but ZAL port `p` and what has been sent. -/
structure PortOnly (s t : State) (p : Nat) : Prop where
  frame : t = { s with link := { s.link with ports := t.link.ports }, emitted := t.emitted }
  others : ∀ k, k ≠ p → t.zal k = s.zal k

/-- `k` messages can leave the port on a channel now: it is in service, nothing waits, and replay buffer and credits suffice (R258,
R264). -/
structure CanSend (s : State) (p vc k : Nat) : Prop where
  up : (s.zal p).link = .up
  service : (s.zal p).inService = true
  idle : (s.zal p).txWait = []
  replay : (s.zal p).unacked.length + 2 * k ≤ 512
  credit : 33 * k ≤ (s.zal p).credits.getD vc 0

/-- A request of the accelerator that R268 admits, while the port's owner is below its tracker quota (R264). -/
structure Asks (s : State) (p : Nat) (m : ZalReq) (cells : Nat) : Prop where
  service : (s.zal p).inService = true
  owner : mayFetch s (s.zal p).owner = true ∧ partResetting s (s.zal p).owner = false
  form : m.cells = cells ∧ m.bad = false ∧ m.status = 0
  place : (s.zal p).accOut.length < 4096 ∧ (s.zal p).accOut.get? (16 * m.tag + m.gen.toNat) = none

/-- The response to a request of the accelerator (R266, R267). -/
def response (m : ZalReq) (op status addr : Nat) (data : Bytes) : ZalMsg :=
  { op := op, gen := m.gen.toNat, last := false, status := status, tag := m.tag, aux := 0, addr := addr, data := data }

/-- READ_DATA messages that answer a read with `bs`: ascending, cut at 512-byte-aligned addresses, LAST on the last (R269). -/
structure ReadAnswer (ms : List ZalMsg) (m : ZalReq) (bs : Bytes) : Prop where
  data : ms.flatMap ZalMsg.data = bs
  head : ∀ x ∈ ms, x.op = 0x08 ∧ x.tag = m.tag ∧ x.gen = m.gen.toNat ∧ x.status = 0 ∧ x.aux = 0
  cut : ∀ (k : Nat) (x : ZalMsg), ms[k]? = some x → x.addr = m.addr + ((ms.take k).flatMap ZalMsg.data).length ∧
    x.data ≠ [] ∧ x.addr % 512 + x.data.length ≤ 512 ∧ (k + 1 < ms.length → (x.addr + x.data.length) % 512 = 0) ∧
    x.last = decide (k + 1 = ms.length)

/-- The reply slot that answers the lookup of the flit with a TXPOS (R275 to R277): RESULT, REASON, and for a HIT the page. -/
def LookupAnswer (s t : State) (p txPos result reason va size target perm : Nat) : Prop :=
  ∃ b : Bytes, t.emitted = .zalLookup p txPos b :: s.emitted ∧ b.length = 32 ∧ fieldAt b 0 1 = 2 ∧ fieldAt b 1 1 = result ∧
    fieldAt b 2 1 = reason ∧ fieldAt b 3 1 = size ∧ fieldAt b 4 2 = txPos ∧ fieldAt b 6 2 = 0 ∧ fieldAt b 8 8 = va ∧
    fieldAt b 16 8 = target ∧ fieldAt b 24 1 = perm ∧ fieldAt b 25 7 = 0

/-- An aperture that R271 admits maps bytes `b` to `b + n`, with the permission (R272). -/
def Aperture.maps (a : Aperture) (write : Bool) (b : Nat) : Prop :=
  (if write then a.write else a.read) = true ∧ a.base ≤ b ∧ b < a.base + a.length

/-- The addresses of plot space that the pieces of a range name, byte after byte. -/
def piecesAddr (ps : List (Nat × Nat × Nat)) : List Nat := ps.flatMap fun x => (List.range x.2.2).map (x.2.1 + ·)

/-- Where output byte `j` of a descriptor goes in accelerator memory (R287). -/
def scatterAddr (d : Descriptor) (j : Nat) : Nat := d.dstAddr + j / d.rowBytes * d.stride + j % d.rowBytes

/-- DF_WRITE messages scatter an output: each within one 512-byte block, every byte at its address (R287). -/
structure Scattered (ms : List ZalMsg) (d : Descriptor) (out : Bytes) : Prop where
  form : ∀ x ∈ ms, x.op = 0x10 ∧ x.data ≠ [] ∧ x.aux + 1 = x.data.length ∧ x.addr % 512 + x.data.length ≤ 512
  total : (ms.map fun x => x.data.length).sum = out.length
  every : ∀ j, j < out.length → ∃ x ∈ ms, x.addr ≤ scatterAddr d j ∧ scatterAddr d j < x.addr + x.data.length ∧
    x.data[scatterAddr d j - x.addr]? = out[j]?

/-! ### Hosts -/

/-- An access that its target rejects: one violation, the emissions that answer it, nothing else but counters (R29 to R32). -/
structure Rejects (s t : State) (addr tag kind len target accessor : Nat) (es : List Emit) : Prop where
  counted : Violated s t addr tag kind len target accessor
  answer : t.emitted = es ++ s.emitted
  frame : t = { s with vio := t.vio, mon := t.mon, emitted := t.emitted }

/-- Nothing differs but host port `p` and what has been sent. -/
structure HostOnly (s t : State) (p : Nat) : Prop where
  frame : t = { s with ports := t.ports, emitted := t.emitted }
  others : ∀ k, k ≠ p → t.port k = s.port k

/-- Pieces that cover a range once, in order, each within one block of `m` bytes (R329). -/
structure CutAt (m addr len off : Nat) (ps : List (Nat × Nat × Nat)) : Prop where
  total : (ps.map fun x => x.2.1).sum = len
  block : ∀ x ∈ ps, 0 < x.2.1 ∧ x.1 % m + x.2.1 ≤ m
  place : ∀ (k : Nat) (x : Nat × Nat × Nat), ps[k]? = some x →
    x.1 = addr + ((ps.take k).map fun y => y.2.1).sum ∧ x.2.2 = off + ((ps.take k).map fun y => y.2.1).sum

/-! ### The checkpoint group -/

/-- The group's areas are plots of the device that can be written and read, each once, and large enough; slots
begin at whole words (R295). -/
structure AreaSound (s : State) (g : CkpGroup) : Prop where
  once : g.areas.Nodup
  aligned : g.shardMax % 32 = 0
  room : g.areaBytes ≤ 2 ^ 30 * g.areas.length
  plots : ∀ n ∈ g.areas, n < 1024 ∧ (plotAt s n).state = .assigned ∧ keyHeld s (plotAt s n) = true ∧ (plotAt s n).garbled = none
  memory : Mem.wf s.dram.bytes = true

/-- Generation `r` is abandoned with a cause: no record is written, g_c stays, every accelerator that can be told is (R306). -/
structure Abandoned (s t : State) (g : CkpGroup) (r : GenRun) (cause : Nat) : Prop where
  group : ∃ g', t.ckp = some g' ∧ g'.gen = none ∧ g'.abandoned = r.g ∧ g'.abandonCause = cause ∧ g'.committed = g.committed ∧
    g'.committedStep = g.committedStep ∧ g'.pages = g.pages
  memory : t.dram = s.dram
  told : ∀ p ∈ ckpPorts s g, CanSend s p 2 2 →
    Emit.zal p 2 { op := 0x1D, gen := 0, tag := 0, aux := cause, addr := r.g } ∈ t.emitted

/-! ### Storage -/

/-- The host port of an instance. -/
def instPort (s : State) (inst : Nat) : Nat := ((s.insts.get? inst).map Instance.port).getD 0

/-- The controller fetches this command now, and its completion queue has room for the answer (R396, R400). -/
structure Takes (s : State) (c : NvmeCmd) (q : NvmeSq) (k : NvmeCq) : Prop where
  fetches : nvmeFetches s c.inst c.sq = true
  sq : (s.ctrl c.inst).sqs.get? c.sq = some q
  cq : (s.ctrl c.inst).cqs.get? q.cqid = some k
  room : (k.tail + 1) % (k.size + 1) ≠ k.head
  waits : (s.ctrl c.inst).wait.getD q.cqid [] = []
  dma : mayDma s (instPort s c.inst) c.inst = true

/-- After `data`, one completion entry goes to the next place of its queue, with one MSI-X message at most; the controller is `x` but
for its queues and its error log, which takes a status other than 0 (R398, R400). -/
structure Posted (s t : State) (inst sq cid : Nat) (q : NvmeSq) (k : NvmeCq) (head status dw0 : Nat) (data : List Emit) (x : Controller) :
    Prop where
  entry : ∃ es : List Emit, es.length ≤ 1 ∧ t.emitted = es ++ Emit.hostWrite (instPort s inst) inst (k.base + 16 * k.tail)
    (le 4 dw0 ++ zeros 4 ++ le 2 head ++ le 2 sq ++ le 2 cid ++ le 2 (b2n k.phase + 2 * status)) :: (data ++ s.emitted)
  cq : (t.ctrl inst).cqs.get? q.cqid = some
    { k with tail := (k.tail + 1) % (k.size + 1), phase := if (k.tail + 1) % (k.size + 1) = 0 then !k.phase else k.phase }
  log : (t.ctrl inst).errorLog =
    if status = 0 then x.errorLog else (((x.errorCount + 1) % 2 ^ 64, sq, cid, status) :: x.errorLog).take 64
  rest : t.ctrl inst = { x with sqs := (t.ctrl inst).sqs, cqs := (t.ctrl inst).cqs, errorLog := (t.ctrl inst).errorLog
                                errorCount := (t.ctrl inst).errorCount }
  others : ∀ n, n ≠ inst → t.ctrl n = s.ctrl n

/-- The answer to a command that is taken: the queue's head goes on, and the completion is posted. -/
def NvmeAnswered (s t : State) (c : NvmeCmd) (q : NvmeSq) (k : NvmeCq) (status dw0 : Nat) (data : List Emit) (x : Controller) : Prop :=
  Posted s t c.inst c.sq c.cid q k ((q.head + 1) % (q.size + 1)) status dw0 data x ∧
    (t.ctrl c.inst).sqs.get? c.sq = some { q with head := (q.head + 1) % (q.size + 1) }

/-- Nothing differs but controllers, contexts and what a completion to a host touches. -/
def NvmeOnly (s t : State) : Prop :=
  t = { s with
    stor := { s.stor with ctrls := t.stor.ctrls }
    ctxs := t.ctxs, insts := t.insts, ports := t.ports, emitted := t.emitted }

/-- Nothing goes to a storage medium. -/
def NoMedia (s t : State) : Prop := ∀ m n tag k l b d, Emit.media m n tag k l b d ∈ t.emitted → Emit.media m n tag k l b d ∈ s.emitted

/-- The tracker has an entry free. -/
def TagFree (s : State) : Prop := ∃ n, n < 65536 ∧ (s.track n).held = false

/-- The bulk queue fetches its next command now (R384, R407). -/
structure BulkTakes (s : State) (inst db : Nat) (b : BulkQueue) : Prop where
  fetches : bulkFetches s inst db = true
  queue : s.stor.bulk.get? (bulkKey inst db) = some b
  own : b.inst = inst ∧ b.log2 ≤ 16
  dma : mayDma s (instPort s inst) inst = true
  tag : TagFree s

/-- A bulk completion record is written after `data`: INDEX, STATUS, TAG, SEQ (R291, R408). -/
structure BulkPosted (s t : State) (inst db : Nat) (b : BulkQueue) (status tag : Nat) (data : List Emit) : Prop where
  entry : ∃ es : List Emit, es.length ≤ 1 ∧ t.emitted = es ++ Emit.hostWrite (instPort s inst) inst
    (b.cqAddr + 16 * (b.completed % 2 ^ b.log2))
    (le 4 b.fetched ++ le 1 status ++ zeros 3 ++ le 4 tag ++ le 4 ((b.completed + 1) % 2 ^ 32)) :: (data ++ s.emitted)
  queue : t.stor.bulk.get? (bulkKey inst db) =
    some { b with fetched := (b.fetched + 1) % 2 ^ 32, completed := (b.completed + 1) % 2 ^ 32 }

/-- A controller has a namespace of the pipeline attached (R414). -/
def PipeHas (s : State) (p i : Nat) : Prop := ∃ id n, (id, n) ∈ s.stor.spaces ∧ n.backing = 1 ∧ n.port = p ∧ i ∈ n.attached

/-- Pipelines without bulk-class work are in the shallowest state of their controllers, no deeper than their policy (R379, R414). -/
def PipesFollow (t : State) : Prop :=
  ∀ p, p < 4 → (t.pipe p).bulk = 0 → (t.pipe p).bulkEnd = none → (t.pipe p).ps ≤ (t.pipe p).deepest ∧ (t.pipe p).ps ≤ 4 ∧
    (∀ i, PipeHas t p i → (t.pipe p).ps ≤ (t.ctrl i).ps) ∧
    ((t.pipe p).ps = 4 ∨ (t.pipe p).ps = (t.pipe p).deepest ∨ ∃ i, PipeHas t p i ∧ (t.pipe p).ps = (t.ctrl i).ps)

/-! ### The packet path -/

/-- Nothing differs but Ethernet port `p` and what has been sent. -/
structure EthOnly (s t : State) (p : Nat) : Prop where
  frame : t = { s with pkt := { s.pkt with ports := t.pkt.ports }, emitted := t.emitted }
  others : ∀ k, k ≠ p → t.eth k = s.eth k

/-- A frame with a right FCS and a length that R416 admits arrives on a port that is up; `d` is the frame without FCS. -/
structure GoodFrame (s : State) (p : Nat) (frame d : Bytes) : Prop where
  on : s.on = true
  up : (s.eth p).link = 2
  fcs : frame = d ++ le 4 (crc32 d)
  size : 60 ≤ d.length ∧ d.length + 4 ≤ (s.eth p).maxFrame

/-- Nothing differs but the packet path and counters; nothing is sent. -/
def PktOnly (s t : State) : Prop := t = { s with pkt := t.pkt, mon := t.mon }

/-- A completion entry of 64 bytes (R438). -/
def rxRecord (index len status port flags seq : Nat) (words : List W64) (time : Nat) : Bytes :=
  le 4 index ++ le 2 len ++ le 1 status ++ le 1 port ++ le 4 flags ++ le 4 seq ++ padTo 40 (words.flatMap fun w => le 8 w.toNat) ++
    le 8 time

/-- An RX ring whose oldest posted buffer is (index, address, length) takes a frame now (R436, R437). -/
structure RxTakes (s : State) (r : Nat) (x : PktRing) (j a len : Nat) (l : List (Nat × Nat × Nat)) : Prop where
  ring : s.pkt.rings.get? r = some x
  kind : x.tx = false ∧ x.deleting = none ∧ x.log2 ≤ 14
  here : resident s (cxRing r) = true
  posted : x.buffers = (j, a, len) :: l
  running : ∃ i, s.insts.get? x.inst = some i ∧ i.state = .running
  dma : mayDma s (instPort s x.inst) x.inst = true

/-- The frame is written to the buffer, cut to it, and then its completion entry (R437, R438). -/
structure RxWritten (s t : State) (r : Nat) (x : PktRing) (j a len : Nat) (l : List (Nat × Nat × Nat)) (d : Delivery) : Prop where
  entry : ∃ es : List Emit, es.length ≤ 1 ∧ t.emitted = es ++ Emit.hostWrite (instPort s x.inst) x.inst
    (x.cqAddr + 64 * (x.completed % 2 ^ x.log2)) (rxRecord j (min d.data.length len)
      (if d.status = 0 ∧ len < d.data.length then 1 else d.status) d.port d.flags ((x.completed + 1) % 2 ^ 64) d.meta_ d.at_) ::
    Emit.hostWrite (instPort s x.inst) x.inst a (d.data.take (min d.data.length len)) :: s.emitted
  ring : t.pkt.rings.get? r = some { x with buffers := l, completed := (x.completed + 1) % 2 ^ 64 }

/-- A TX completion entry of 16 bytes (R439). -/
def TxCompleted (s t : State) (x : PktRing) (status tag : Nat) : Prop :=
  ∃ es : List Emit, es.length ≤ 1 ∧ t.emitted = es ++ Emit.hostWrite (instPort s x.inst) x.inst
    (x.cqAddr + 16 * (x.completed % 2 ^ x.log2))
    (le 4 x.fetched ++ le 1 status ++ zeros 3 ++ le 4 tag ++ le 4 ((x.completed + 1) % 2 ^ 64)) :: s.emitted

/-- No parse has ended or waits, and no program load is under way: what R423 and R425 act on is what the statement names. -/
def QuietExcept (s : State) (p : Nat) : Prop :=
  (∀ k, k ≠ p → (s.eth k).reorder = [] ∧ (s.eth k).buffer = []) ∧ ∀ o x, (o, x) ∈ s.pkt.shares → x.loading = []

/-- An egress queue whose head frame may start on a port now (R447, R451, R456). -/
structure Eligible (s : State) (p n : Nat) (q : EgressQueue) (f : TxFrame) : Prop where
  queue : (n, q) ∈ s.pkt.queues
  port : q.port = p
  head : q.frames.head? = some f
  bucket : q.shaper.enable = false ∨ 0 ≤ q.shaper.tp
  unpaused : (s.eth p).paused.getD q.cls 0 ≤ s.lc
  gate : gateLets s p q.cls f = true

/-- The order of R447: higher class, then COMMITTED, then the smaller finish tag, then the lower number. -/
def Before (n : Nat) (q : EgressQueue) (m : Nat) (r : EgressQueue) : Prop :=
  r.cls < q.cls ∨ (q.cls = r.cls ∧ ((q.state = .committed ∧ r.state ≠ .committed) ∨
    (q.state = r.state ∧ (q.ftag < r.ftag ∨ (q.ftag = r.ftag ∧ n ≤ m)))))

/-! ### Counters and telemetry -/

/-- The operator's telemetry ring takes a record at once: it is set, its driver is there, it has space, and nothing waits (R534). -/
structure TeleReady (s : State) : Prop where
  set : s.mon.ring.set = true
  driver : (s.port s.boot.opPort).driverPresent = true
  space : s.mon.ring.seq + 1 ≤ s.mon.ring.consumed + 2 ^ s.mon.ring.log2
  idle : s.mon.ring.queue = [] ∧ s.mon.ring.lostSince = 0

/-- One record of 128 bytes is written at its place of the ring, SEQ last, with one MSI-X message at most (R533). -/
structure TeleWritten (s t : State) (time type die source status : Nat) (payload : Bytes) : Prop where
  entry : ∃ es : List Emit, es.length ≤ 1 ∧ t.emitted = es ++ Emit.hostWrite s.boot.opPort 0xFFFF
    (s.mon.ring.addr + 64 + 128 * (s.mon.ring.seq % 2 ^ s.mon.ring.log2))
    (le 8 time ++ le 1 type ++ le 1 die ++ le 2 source ++ le 1 status ++ le 1 payload.length ++ zeros 2 ++ padTo 96 payload ++ zeros 8 ++
      le 8 (s.mon.ring.seq + 1)) :: s.emitted
  ring : t.mon.ring = { s.mon.ring with seq := s.mon.ring.seq + 1 }

/-! ### The invariant of every step -/

/-- The keys of a table rise strictly. -/
def Rising {α : Type} (t : Tbl α) : Prop := (t.map Prod.fst).Pairwise (· < ·)

/-- Memories in canonical form, tables in rising order, lists of members without repeats. -/
structure Sound (s : State) : Prop where
  plots : Mem.wf s.dram.bytes = true
  tiles : ∀ k, Mem.wf (s.tile k).sram = true
  cores : ∀ k, Mem.wf (s.core k).scratch = true
  hostData : ∀ e ∈ s.stor.ops, Mem.wf e.2.data = true
  insts : Rising s.insts
  ctxs : Rising s.ctxs
  queues : Rising s.pkt.queues
  memKeys : Rising s.sec.memKeys
  unseeded : s.sec.unseeded.Nodup
  areas : ∀ g, s.ckp = some g → g.areas.Nodup

end Sys2Proof.Machine
end

