-- ==== Sys2Proof/Certificates/Slice0/Obligations.lean ====
section
/-! DEFINITION. The statements for the provers. -/

open Sys2Proof Sys2Proof.Machine

/-- The queue is the model's own (DESIGN CHOICE, log entry 2); R46 for the nanosecond. -/
def Obligations.FrontCommandRuns : Prop :=
  (∀ (s : State) (c : Instr) (l : List Instr), step { s with pending := c :: l } = exec c { s with pending := l }) ∧
  (∀ s : State, s.pending = [] → ∃ t, step s = .next t ∧ t.pending = [] ∧ t.time = s.time + 1 ∧
    (s.longOps = [] → t.power = s.power ∧ t.dram = s.dram ∧
      (s.on = true → s.clk.rootLocked = true → t.clk = { s.clk with lc := wrap64 s.clk.lc 1 })))

/-- R46, R83, R92, R226, R335, R358, R454, R477, R502; `Sound` is the model's own form of memories and tables. -/
def Obligations.ResetState : Prop :=
  Sound State.reset ∧ State.reset.lc = 0 ∧ State.reset.pending = [] ∧
  (∀ n off, plotByte State.reset n off = 0) ∧
  (∀ g slot, slot < 8 → physOf State.reset g slot = 9 * g + slot) ∧
  (∀ g, (State.reset.group g).owner = 16 ∧ (State.reset.group g).session = none) ∧
  (∀ n, State.reset.insts.get? n = none) ∧ (∀ p, partExists State.reset p = false) ∧ State.reset.sessions = [] ∧
  (∀ m, (State.reset.mbx m).session = none) ∧ (∀ k, State.reset.sec.slots.get? k = none) ∧
  (∀ p, (State.reset.eth p).bank = 0 ∧ (State.reset.eth p).bank0.entries = [] ∧ (State.reset.eth p).bank1.entries = []) ∧
  State.reset.power.cap = 1600

/-- The premises of the other statements that rule out states no run reaches are kept by every step. -/
def Obligations.StepsKeepSound : Prop :=
  ∀ s t : State, Sound s → step s = .next t → Sound t

/-- R505, R515 (causes R496, R498, R499, R43, R503; the cause's alarm entries and the model's times are log entries). -/
def Obligations.Shutdown : Prop :=
  (∀ s : State, s.on = true → s.power.moduleEn = true → After .moduleEnDeassert s (Off s .enable)) ∧
  (∀ s : State, s.on = true → After .senseContactsLost s fun t => Off s .input t ∧ t.power.sense = false) ∧
  (∀ (s : State) (t0 : Nat), s.on = true → s.power.below40Since = some t0 → t0 + 100000 ≤ s.time →
    After .inputUndervoltageTimeout s (Off s .input)) ∧
  (∀ (s : State) (mv ma a b c d e : Nat), s.on = true → s.power.volts = [a, b, c, d, e] → 60000 < mv → mv ≤ 70000 →
    60000 < a → 60000 < b → After (.inputSample mv ma) s (Off s .input)) ∧
  (∀ s : State, s.on = true → ¬ s.clk.down.contains 0xFFFF → After (.clockLost .root) s (Off s .root)) ∧
  (∀ (s : State) (die : Fin 2) (x : BitVec 16), s.on = true → 1200 ≤ x.toInt → x.toInt ≤ 1500 →
    After (.tjSample die x x x) s fun t => Off s .trip t ∧ t.power.thermtrip = true ∧ Emit.signal 0 true ∈ t.emitted) ∧
  (∀ s : State, s.on = true → After .coldReset s fun t =>
    t.clk.lc = 0 ∧ t.clk.rootLocked = true ∧ t.sec = {} ∧ t.dram = {} ∧ t.parts = [] ∧ t.insts = [] ∧ t.models = [] ∧
    t.sessions = [] ∧ t.launch = [] ∧ t.ctxs = [] ∧ t.mbxs = [] ∧ t.stor = {} ∧ t.power.cap = 1600 ∧ t.power.pwrGood = true ∧
    t.fuses = s.fuses ∧ t.faultLog = s.faultLog ∧ t.fw.bank = s.fw.bank ∧ t.pending = s.pending)

/-- R497 to R499, R501, R502, R504, R40. -/
def Obligations.InputAndCap : Prop :=
  (∀ (s : State) (t0 : Nat), s.on = false → s.power.sense = true → s.power.bulk = true → s.power.off ≠ .root →
    s.power.thermtrip = false → s.power.inRangeSince = some t0 → t0 + 100000000 ≤ s.time →
    After .modulePowerGood s fun t => t.power.pwrGood = true ∧ t.power.moduleEn = true ∧
      t = { s with power := t.power, emitted := .signal 1 false :: s.emitted }) ∧
  (∀ s : State, After .senseContactsMate s fun t => t.power.sense = true ∧ t.power.bulk = true ∧
      t = { s with power := t.power }) ∧
  (∀ (s : State) (mv ma a b c d e : Nat), s.on = true → s.power.volts = [a, b, c, d, e] → 42000 < mv → mv ≤ 60000 → ma ≤ 60000 →
    (∀ v ∈ s.power.volts, 42000 < v ∧ v ≤ 60000) →
    After (.inputSample mv ma) s fun t => t.power.pwrGood = true ∧ t.power.volts = [mv, a, b, c, d] ∧
      t.power.amps = (ma :: s.power.amps).take 5 ∧ t.power.powerEmergency = s.power.powerEmergency ∧
      SameButReports { s with power := t.power } t) ∧
  (∀ (s : State) (t0 : Nat), s.on = true → s.power.powerEmergency = true → s.power.above43Since = some t0 →
    t0 + 100000000 ≤ s.time →
    After .powerEmergencyEnd s fun t => t.power.powerEmergency = false ∧
      t = { s with power := t.power, mbxs := t.mbxs, insts := t.insts, ports := t.ports, emitted := t.emitted, mon := t.mon,
                   fw := t.fw }) ∧
  (∀ (s : State) (t0 : Nat), s.on = true → s.boot.rom = true → 0 < s.power.capLimit → s.power.capBelowSince = some t0 →
    t0 + 10000000 ≤ s.time →
    After .capLimitRaise s fun t => t.power.capLimit = s.power.capLimit - 1 ∧ SameButReports { s with power := t.power } t) ∧
  (∀ (s : State) (t0 : Nat), s.on = true → s.power.capUnmet = false → s.power.capOverSince = some t0 → t0 + 1000000 ≤ s.time →
    After .capUnmet s fun t => t.power.capUnmet = true ∧ t.clk = s.clk ∧ SameButReports { s with power := t.power } t) ∧
  (∀ (s : State) (t0 : Nat), s.on = true → s.power.stepAt = some t0 → t0 + 100000000 ≤ s.time → s.clk.tclkDiv < levelInForce s →
    After .plannedStepTimeout s fun t => t.clk.tclkDiv = levelInForce s ∧ t.clk.lc = s.clk.lc ∧ t.dram = s.dram) ∧
  (∀ s : State, s.on = true → s.clk.tclkDiv < hardLevel s →
    After .tclkDividerChange s fun t => t.clk.tclkDiv = hardLevel s ∧ t.clk.lc = s.clk.lc ∧ t.dram = s.dram) ∧
  (∀ s : State, s.on = true → hardLevel s ≤ s.clk.tclkDiv → levelInForce s < s.clk.tclkDiv →
    After .tclkDividerChange s fun t => t.clk.tclkDiv = levelInForce s ∧ t = { s with clk := t.clk, power := t.power } ∧
      t.clk.lc = s.clk.lc)

/-- R503, R504; the requests of R382, R501, R502, R508. -/
def Obligations.Temperature : Prop :=
  (∀ (s : State) (die : Fin 2) (x y z : BitVec 16), s.on = true → s.boot.rom = true → -400 ≤ x.toInt → x.toInt ≤ y.toInt →
    y.toInt ≤ z.toInt → z.toInt ≤ x.toInt + 100 → y.toInt < 1000 →
    After (.tjSample die x y z) s fun t => tjOf t die.val = y.toInt ∧ t.power.pwrGood = true ∧
      t.power.thermal0 = s.power.thermal0 ∧ t.power.thermal1 = s.power.thermal1 ∧ t.dram = s.dram ∧ t.sec = s.sec) ∧
  (∀ (s : State) (t0 : Nat), s.on = true → s.power.throttleAt = some t0 → t0 + 100000000 ≤ s.time → 1000 ≤ hotTj s →
    s.power.thermal0 = false → s.power.thermal1 = false →
    After .throttleStep s fun t => t.power.throttle = min 2 (max s.power.throttle (levelInForce s + 1)) ∧
      t.power.throttleAt = some s.time ∧ SameButReports { s with power := t.power } t) ∧
  (∀ (s : State) (t0 : Nat), s.on = true → s.power.coolSince = some t0 → 0 < s.power.throttle → t0 + 1000000000 ≤ s.time →
    After .throttleClear s fun t => t.power.throttle = s.power.throttle - 1 ∧ SameButReports { s with power := t.power } t) ∧
  (∀ (s : State) (die : Fin 2) (t0 : Nat), s.on = true → thermalOf s die.val = true →
    (if die.val = 0 then s.power.below105a else s.power.below105b) = some t0 → t0 + 1000000000 ≤ s.time →
    After (.thermalEmergencyEnd die) s fun t => thermalOf t die.val = false ∧ t.power.throttle = 2 ∧
      t = { s with power := t.power, mbxs := t.mbxs, insts := t.insts, ports := t.ports, emitted := t.emitted, mon := t.mon,
                   fw := t.fw }) ∧
  (∀ (s : State) (q : Req), Served s q 0x0C01 0 .any → After (.powerQuery q) s fun t => SameBut s t ∧ ∃ b : Bytes, Replied s t q 0x0C01 OK b ∧
    b.length = 32 ∧ fieldAt b 0 4 = filteredMv s % 2 ^ 32 ∧ fieldAt b 4 4 = inputW s % 2 ^ 32 ∧ fieldAt b 8 4 = s.power.cap % 2 ^ 32 ∧
    fieldAt b 12 1 = s.power.planned % 256 ∧ fieldAt b 13 1 = s.clk.tclkDiv % 256 ∧
    fieldAt b 15 1 = b2n s.power.powerEmergency + 2 * b2n (s.power.thermal0 || s.power.thermal1) + 4 * b2n (decide (0 < throttleLimit s)) +
      8 * b2n s.power.capUnmet ∧
    (s.power.powerEmergency = true → fieldAt b 14 1 = 5) ∧
    (s.power.powerEmergency = false → (s.power.thermal0 = true ∨ s.power.thermal1 = true) → fieldAt b 14 1 = 4) ∧
    (s.power.powerEmergency = false → s.power.thermal0 = false → s.power.thermal1 = false → 0 < s.power.capLimit → s.power.capLimit = levelInForce s →
      fieldAt b 14 1 = 3) ∧
    fieldAt b 16 2 = (s.power.tj0 % 65536).toNat ∧ fieldAt b 18 2 = (s.power.tj1 % 65536).toNat ∧ fieldAt b 20 1 = s.power.excluded % 256 ∧
    b.drop 21 = zeros 11) ∧
  (∀ (s : State) (q : Req) (a b c d e f : Int), Served s q 0x0C04 0 .operator → s.power.sensors = [a, b, c, d, e, f] →
    After (.thermalQuery q) s fun t => SameBut s t ∧ ∃ r : Bytes, Replied s t q 0x0C04 OK r ∧ r.length = 16 ∧
      (∀ k x, [a, b, c, d, e, f][k]? = some x → fieldAt r (2 * k) 2 = (x % 65536).toNat) ∧ fieldAt r 12 1 = s.power.excluded % 256 ∧
      fieldAt r 13 3 = 0) ∧
  (∀ (s : State) (q : Req) (level : Nat), Served s q 0x0C02 8 .operator →
    (level < 3 → After (.powerLevelSet q level) s fun t => t.power = { s.power with planned := level, stepAt := t.power.stepAt } ∧
      (t.power.stepAt.isSome = true ↔ hardLevel t ≤ s.clk.tclkDiv ∧ s.clk.tclkDiv < levelInForce t) ∧ Replied s t q 0x0C02 OK [] ∧
      SameBut { s with power := t.power } t) ∧
    (3 ≤ level → After (.powerLevelSet q level) s fun t => Replied s t q 0x0C02 INVALID [] ∧ SameBut s t)) ∧
  (∀ (s : State) (q : Req) (watts : Nat), Served s q 0x0C03 8 .operator →
    (watts = 0 ∨ 1250 ≤ watts ∧ watts ≤ 1600 → After (.powerCapSet q watts) s fun t => t.power = { s.power with cap := if watts = 0 then 1600 else watts } ∧
      Replied s t q 0x0C03 OK [] ∧ SameBut { s with power := t.power } t) ∧
    (watts ≠ 0 → watts < 1250 ∨ 1600 < watts → After (.powerCapSet q watts) s fun t => Replied s t q 0x0C03 INVALID [] ∧ SameBut s t))

/-- R464, R465, R509 to R513, R43, R44. -/
def Obligations.BringUp : Prop :=
  (∀ (s : State) (i : BootImage) (b1 : Option BootImage), s.on = true → s.boot.rom = false → s.clk.rootLocked = true →
    s.fw.bootStaged = false → s.fw.bank = 0 → s.fuses.lifecycle = 0x5A → i.verifies = true → 2 ≤ i.levelMax → i.levelMax ≤ 3 →
    keyFused s i.keyIndex = true → fusedVersion s ≤ i.securityVersion →
    After (.bootRom none (some i) b1 true) s fun t => t.boot.rom = true ∧ t.boot.level = 1 ∧ t.boot.failed = false ∧
      t.fw.version = i.fwVersion ∧ t.fw.security = i.securityVersion ∧ t.fw.bank = 0 ∧ t.sec.deviceKey.isSome = true ∧
      t.sec.firmwareKey = true ∧ t.clk.aligned = true ∧ t.clk.lc = s.clk.lc ∧ t.fuses = s.fuses ∧
      t = { s with fw := t.fw, sec := t.sec, clk := t.clk, boot := t.boot, free := t.free }) ∧
  (∀ s : State, s.on = true → s.boot.rom = true → s.boot.level = 1 → s.boot.failed = false → fatalCause s = none →
    After (.quicksetReached []) s fun t => t.boot.level = 2 ∧ t.dram.map0 = quickStack s 0 ∧ t.dram.map1 = quickStack s 1 ∧
      (∀ u ∈ quickUnits, heldOut s u = false → unitIn t u = true) ∧ t.clk = s.clk ∧ t.sec = s.sec ∧ t.fuses = s.fuses ∧
      t.power = s.power) ∧
  (∀ s : State, s.on = true → s.boot.level = 2 → s.boot.failed = false → quickLost s = none → fatalCause s = none →
    After (.fullReached []) s fun t => t.boot.level = 3 ∧ t.boot.failed = false ∧ t.dram.quickset = false ∧
      t.dram.map0 = (passing s 0x160 4).map (fun u => u - 0x160) ∧ t.dram.map1 = (passing s 0x164 4).map (fun u => u - 0x160) ∧
      t.dram.bytes = s.dram.bytes ∧ t.clk = s.clk ∧ t.sec = s.sec ∧ t.fuses = s.fuses) ∧
  (∀ (s : State) (p : Fin 2), s.on = true → ¬ s.clk.down.contains p.val →
    After (.clockLost (.host p)) s fun t => (t.port p.val).perst = true ∧ (t.port p.val).linkUp = false ∧ p.val ∈ t.clk.down ∧
      (if p.val = 0 then t.clk.lostHost0 else t.clk.lostHost1) = true ∧ t.clk.lc = s.clk.lc ∧ t.dram = s.dram) ∧
  (∀ (s : State) (p : Fin 8), s.on = true → ¬ s.clk.down.contains (8 + p.val) →
    After (.clockLost (.eth p)) s fun t => (8 + p.val) ∈ t.clk.down ∧ t.clk.lostEth = true ∧ (t.eth p.val).speed = 0 ∧
      (∀ k, k ≠ p.val → t.eth k = s.eth k) ∧ SameButReports { s with clk := t.clk, pkt := t.pkt } t) ∧
  (∀ (s : State) (p : Fin 8) (l : Fin 12), s.on = true → ¬ s.clk.down.contains (laneClock p.val l.val) →
    After (.clockLost (.zalLane p l)) s fun t => laneClock p.val l.val ∈ t.clk.down ∧ t.clk.lostZal = true ∧
      (t.zal p.val).rxFailed.testBit l.val = true ∧ (∀ k, k ≠ p.val → t.zal k = s.zal k) ∧
      SameButReports { s with clk := t.clk, link := t.link } t) ∧
  (∀ s : State, s.on = true → ¬ s.clk.down.contains 24 →
    After (.clockLost .storage) s fun t => 24 ∈ t.clk.down ∧ t.clk.lostStor = true ∧ t.clk.lc = s.clk.lc ∧
      ∀ k, k < 4 → (t.pipe k).link = false) ∧
  (∀ (s : State) (p : Fin 2), s.on = true → s.clk.down.contains p.val →
    After (.clockRestored (.host p)) s fun t => p.val ∉ t.clk.down ∧ t = { s with clk := t.clk } ∧ t.clk.lc = s.clk.lc)

/-- R69, R58 to R60, R62, R371, R373. -/
def Obligations.CrossingsAndLaunch : Prop :=
  (∀ (s : State) (k : Nat), s.on = true → (s.crossings.getD k {}).severed = true → crossingOut s k = true →
    ¬ s.clk.down.contains (crossingClock k) →
    After (.crossingRearm k) s fun t => (t.crossings.getD k {}).severed = false ∧ (t.crossings.getD k {}).req = false ∧
      (t.crossings.getD k {}).ack = false ∧ (t.crossings.getD k {}).drops = (s.crossings.getD k {}).drops ∧
      (t.crossings.getD k {}).readyAt = s.lc + crossingTrip k ∧ t = { s with crossings := t.crossings }) ∧
  (∀ (s : State) (kind unit slot : Nat) (x : LaunchTable), (s.slot (slotKey kind unit slot)).staged = some x →
    (s.slot (slotKey kind unit slot)).changeover ≤ s.lc →
    After (.launchChangeover kind unit slot) s fun t =>
      (t.slot (slotKey kind unit slot)).staged = none ∧
      (t.slot (slotKey kind unit slot)).active = some { x with base := rollBase x (s.slot (slotKey kind unit slot)).changeover } ∧
      (t.slot (slotKey kind unit slot)).late = (s.slot (slotKey kind unit slot)).late ∧
      (t.slot (slotKey kind unit slot)).skip = (s.slot (slotKey kind unit slot)).skip ∧
      (∀ k, k ≠ slotKey kind unit slot → t.slot k = s.slot k) ∧ t = { s with launch := t.launch }) ∧
  (∀ (s : State) (q : Req) (changeover kind unit slot : Nat) (table : BufRef) (bs : Bytes),
    Served s q 0x0140 32 .opOrTenant → slotNamed kind unit slot = true →
    mayActOn (whoOf s q.mbx) (slotOwner s (slotKey kind unit slot)) = true → table.space = 1 → 48 ≤ table.len →
    tableOk kind table.len (padTo table.len bs) = true → s.lc + 10000 ≤ changeover →
    (s.slot (slotKey kind unit slot)).staged = none →
    After (.launchArm q changeover kind unit slot table (.data bs)) s fun t =>
      (t.slot (slotKey kind unit slot)).staged = some (parseTable (padTo table.len bs)) ∧
      (t.slot (slotKey kind unit slot)).changeover = changeover ∧
      (t.slot (slotKey kind unit slot)).active = (s.slot (slotKey kind unit slot)).active ∧
      Replied s t q 0x0140 OK (zeros 8) ∧ SameBut { s with launch := t.launch } t) ∧
  (∀ (s : State) (q : Req) (changeover kind unit slot : Nat) (table : BufRef) (bs : Bytes),
    Served s q 0x0140 32 .opOrTenant → slotNamed kind unit slot = true →
    mayActOn (whoOf s q.mbx) (slotOwner s (slotKey kind unit slot)) = true → table.space = 1 → 48 ≤ table.len →
    tableOk kind table.len (padTo table.len bs) = true → changeover ≠ 0 → changeover < s.lc + 10000 →
    (s.slot (slotKey kind unit slot)).staged = none →
    After (.launchArm q changeover kind unit slot table (.data bs)) s fun t =>
      Replied s t q 0x0140 TIME_PASSED [] ∧ SameBut s t) ∧
  (∀ (s : State) (q : Req) (kind unit slot flags : Nat), Served s q 0x0141 8 .opOrTenant → slotNamed kind unit slot = true →
    mayActOn (whoOf s q.mbx) (slotOwner s (slotKey kind unit slot)) = true → flags < 2 →
    After (.launchCounts q kind unit slot flags) s fun t =>
      (t.slot (slotKey kind unit slot)).late = (if flags = 1 then 0 else (s.slot (slotKey kind unit slot)).late) ∧
      (t.slot (slotKey kind unit slot)).skip = (if flags = 1 then 0 else (s.slot (slotKey kind unit slot)).skip) ∧
      (∃ l, Replied s t q 0x0141 OK (le 4 (s.slot (slotKey kind unit slot)).late ++ le 4 (s.slot (slotKey kind unit slot)).skip ++ l)) ∧
      SameBut { s with launch := t.launch } t)

/-- R83 to R98, R564. -/
def Obligations.TilesAndSpares : Prop :=
  (∀ (s : State) (tile : Fin 144) (slot : Nat), s.on = true → (s.tile tile.val).health = .good →
    (s.group (tile.val / 9)).state ≠ .retired → logicalOf s tile.val = some slot → (s.group (tile.val / 9)).session = none →
    (s.group (tile.val / 9)).renamed = none → (s.group (tile.val / 9)).noSpare = false →
    After (.tilePredictedFailure tile) s fun t => (t.tile tile.val).health = .predicted ∧
      (t.group (tile.val / 9)).renamed = some slot ∧ (∃ l, t.faultLog = s.faultLog ++ l) ∧ t.dram = s.dram ∧ t.clk = s.clk) ∧
  (∀ (s : State) (tile : Fin 144) (slot h : Nat) (v : YewSession), s.on = true → (s.tile tile.val).health = .good →
    (s.group (tile.val / 9)).state ≠ .retired → logicalOf s tile.val = some slot → hosted s (tile.val / 9) = some (h, v) →
    (s.group (tile.val / 9)).renamed = none → (s.group (tile.val / 9)).noSpare = false → (s.group (tile.val / 9)).takeover = none →
    After (.tilePredictedFailure tile) s fun t => (t.tile tile.val).health = .predicted ∧
      (t.group (tile.val / 9)).takeover = some { slot := slot, sudden := false, since := s.lc, copied := false } ∧
      (t.group (tile.val / 9)).renamed = none ∧ t.sessions = s.sessions ∧ t.dram = s.dram) ∧
  (∀ (s : State) (tile : Fin 144) (slot : Nat), s.on = true → (s.tile tile.val).health ≠ .failed →
    (s.group (tile.val / 9)).state ≠ .retired → logicalOf s tile.val = some slot → (s.group (tile.val / 9)).session = none →
    (s.group (tile.val / 9)).renamed = none → (s.group (tile.val / 9)).noSpare = false →
    After (.tileSuddenFailure tile) s fun t => (t.tile tile.val).health = .failed ∧ unitIn t tile.val = false ∧
      (t.group (tile.val / 9)).renamed = some slot ∧ (∃ l, t.faultLog = s.faultLog ++ l) ∧ t.dram = s.dram) ∧
  (∀ (s : State) (tile : Fin 144) (slot h : Nat) (v : YewSession), s.on = true → (s.tile tile.val).health ≠ .failed →
    (s.group (tile.val / 9)).state ≠ .retired → logicalOf s tile.val = some slot → hosted s (tile.val / 9) = some (h, v) →
    (s.group (tile.val / 9)).renamed = none → (s.group (tile.val / 9)).noSpare = false → (s.group (tile.val / 9)).takeover = none →
    After (.tileSuddenFailure tile) s fun t => (t.tile tile.val).health = .failed ∧
      (t.group (tile.val / 9)).takeover = some { slot := slot, sudden := true, since := s.lc, copied := false } ∧
      (t.sessions.get? h).map YewSession.slipLine = some true ∧ (t.core (1024 + tile.val)).running = false ∧ t.dram = s.dram) ∧
  (∀ (s : State) (g : Fin 16) (k : Takeover), s.on = true → (s.group g.val).takeover = some k → k.sudden = false → k.copied = false →
    k.timedOut = false → k.since + tclkNs s 20480 ≤ s.lc →
    After (.spareCopyComplete g) s fun t => (t.group g.val).takeover = some { k with copied := true } ∧
      t = { s with groups := t.groups }) ∧
  (∀ (s : State) (g : Fin 16) (k : Takeover), s.on = true → (s.group g.val).takeover = some k → k.sudden = false → k.copied = false →
    k.timedOut = false → k.since + 100000000 ≤ s.lc →
    After (.spareCopyTimeout g) s fun t => (t.group g.val).takeover = some { k with timedOut := true } ∧
      t = { s with groups := t.groups }) ∧
  (∀ (s : State) (g : Fin 16) (k : Takeover), s.on = true → (s.group g.val).takeover = some k → k.sudden = true →
    hosted s g.val = none →
    After (.spareLoadComplete g) s fun t => (t.group g.val).renamed = some k.slot ∧ (t.group g.val).takeover = none ∧
      physOf t g.val k.slot = 9 * g.val + 8 ∧ t = { s with groups := t.groups, units := t.units }) ∧
  (∀ (s : State) (g : Fin 16) (k : Takeover) (h : Nat) (v : YewSession) (m : Image), s.on = true →
    (s.group g.val).takeover = some k → k.sudden = true → hosted s g.val = some (h, v) → sessImage s v = some m →
    After (.spareLoadComplete g) s fun t => (t.group g.val).renamed = some k.slot ∧ (t.group g.val).takeover = none ∧
      physOf t g.val k.slot = 9 * g.val + 8 ∧ t.clk = s.clk) ∧
  (∀ (s : State) (tile : Fin 144), s.on = true → ¬ (faultyStops s).contains tile.val → s.sessions = [] →
    After (.meshStopFault tile) s fun t => (t.group (tile.val / 9)).state = .retired ∧
      (∃ l, t.faultLog = s.faultLog ++ l) ∧ t.dram = s.dram ∧ t.sessions = []) ∧
  (∀ (s : State) (tile : Fin 144), s.on = true → (s.tile tile.val).passCorrected < 15 →
    After (.sramScrubRead tile 1) s fun t => (t.tile tile.val).corrected = sat32 (s.tile tile.val).corrected 1 ∧
      (t.tile tile.val).scrubWord = ((s.tile tile.val).scrubWord + 1 - (if (s.tile tile.val).scrubWord + 1 = 327680 then 327680 else 0)) ∧
      (t.tile tile.val).sram = (s.tile tile.val).sram ∧ (∀ k, k ≠ tile.val → t.tile k = s.tile k) ∧ t = { s with tiles := t.tiles }) ∧
  (∀ (s : State) (tile : Fin 144) (n : Nat), s.on = true → 2 ≤ n → ¬ (s.tile tile.val).rewritten.contains (s.tile tile.val).scrubWord →
    After (.sramScrubRead tile n) s fun t => (s.tile tile.val).scrubWord ∈ (t.tile tile.val).poisoned ∧
      (t.tile tile.val).corrected = (s.tile tile.val).corrected ∧ t = { s with tiles := t.tiles }) ∧
  (∀ (s : State) (g : Fin 16), s.on = true → (s.group g.val).state = .zeroing →
    After (.groupZeroingComplete g) s fun t => (t.group g.val).state = .free ∧ (t.group g.val).owner = 16 ∧
      (∀ k, k < 9 → (t.tile (9 * g.val + k)).sram = [] ∧ (t.tile (9 * g.val + k)).store = [] ∧ (t.tile (9 * g.val + k)).landing = [] ∧
        (t.tile (9 * g.val + k)).acc = [] ∧ (t.tile (9 * g.val + k)).vregs = []) ∧ t.dram = s.dram ∧ t.sessions = s.sessions) ∧
  (∀ (s : State) (h : Nat) (v : YewSession), s.on = true → s.sessions.get? h = some v → v.replacing.isSome = true →
    v.replaceReady = false →
    After (.placementLoadComplete h) s fun t => (t.sessions.get? h).map YewSession.replaceReady = some true ∧
      t = { s with sessions := t.sessions })

/-- R105 to R110, R190 to R196, R208 to R210. -/
def Obligations.Epochs : Prop :=
  (∀ (s : State) (h : Nat) (v : YewSession) (m : Image), s.on = true → s.sessions.get? h = some v → v.state = .running →
    v.inEpoch = false → v.closing = false → v.abandonedRun < 16 → boundaryWork s v = false → loadingHold s v = false →
    v.waits = false → v.verdict = none → v.input ≠ [] → v.rerun = false → v.addMargin = false → sessImage s v = some m →
    v.nextStart ≤ s.lc →
    After (.epochStart h) s fun t => ∃ w, t.sessions.get? h = some w ∧ w.inEpoch = true ∧ w.epochStart = v.nextStart ∧
      w.epoch = v.epoch ∧ w.slipLine = false ∧ w.draws = [] ∧ w.kind = kindFor v m (variantAt s v v.nextStart) ∧
      w.variant = variantAt s v v.nextStart ∧ w.shift = v.shift ∧ t.clk = s.clk) ∧
  (∀ (s : State) (tile : Fin 144) (h due : Nat) (v : YewSession) (e : LaunchEntry), s.on = true →
    tileSession s tile.val = some (h, v) → dueEntry s tile.val = some (due, e) → v.inEpoch = true → v.state = .running →
    e.action = 1 → v.slipLine = false → (s.tile tile.val).step = none → v.shadowDue ≤ due →
    shortBuffer (s.tile tile.val) ((((s.tile tile.val).steps.getD (3 * v.variant + v.kind) [])[(s.slot (slotKey 5 tile.val 0)).index]?).getD
      { finish := 0, need := 0, release := 0, sendSlack := 0 }).need = none →
    After (.yewStep tile) s fun t => (t.core (1024 + tile.val)).running = true ∧ (t.core (1024 + tile.val)).pc = e.arg ∧
      (t.core (1024 + tile.val)).stepBase = due ∧ (t.tile tile.val).slips = (s.tile tile.val).slips ∧
      (t.tile tile.val).step.map StepRun.due = some due ∧ t.sessions = s.sessions ∧
      t = { s with tiles := t.tiles, cores := t.cores, launch := t.launch }) ∧
  (∀ (s : State) (tile : Fin 144) (h due k : Nat) (v : YewSession) (e : LaunchEntry) (b : Landing), s.on = true →
    tileSession s tile.val = some (h, v) → dueEntry s tile.val = some (due, e) → v.inEpoch = true → v.state = .running →
    e.action = 1 → v.slipLine = false → (s.tile tile.val).step = none →
    shortBuffer (s.tile tile.val) ((((s.tile tile.val).steps.getD (3 * v.variant + v.kind) [])[(s.slot (slotKey 5 tile.val 0)).index]?).getD
      { finish := 0, need := 0, release := 0, sendSlack := 0 }).need = some (k, b) →
    After (.yewStep tile) s fun t => (t.tile tile.val).step = none ∧ (t.tile tile.val).slips = sat32 (s.tile tile.val).slips 1 ∧
      t.cores = s.cores ∧ (∃ w, t.sessions.get? h = some w ∧ w.slipLine = true ∧
        (v.firstSlip = none → w.firstSlip.map SlipRecord.cause = some 1 ∧ w.firstSlip.map SlipRecord.buffer = some k ∧
          w.firstSlip.map SlipRecord.fill = some b.fill ∧ w.firstSlip.map SlipRecord.expected = some b.expected))) ∧
  (∀ (s : State) (h : Nat) (v : YewSession), s.on = true → s.sessions.get? h = some v → v.inEpoch = true → v.state = .running →
    v.closing = false → v.spoiled = true → v.drawing = none →
    (∀ t ∈ sessTiles s v, (dueEntry s t).map (fun e => e.2.action) = some 2) → (∀ t ∈ sessTiles s v, (s.tile t).step = none) →
    After (.epochEnd h) s fun t => ∃ w, t.sessions.get? h = some w ∧ w.inEpoch = false ∧ w.epoch = v.epoch ∧ w.rerun = true ∧
      w.abandonedRun = v.abandonedRun + 1 ∧ w.drbg = v.drbgSaved ∧ w.pend = v.pend ∧ w.emitted = v.emitted ∧
      w.nextStart = v.epochStart + v.def_.period ∧ t = { s with sessions := t.sessions, launch := t.launch }) ∧
  (∀ (s : State) (h : Nat) (v : YewSession), s.on = true → s.sessions.get? h = some v → v.inEpoch = true → v.state = .running →
    v.closing = false → v.spoiled = false → v.drawing = none → v.kind = 1 → v.verdict = none →
    (∀ t ∈ sessTiles s v, (dueEntry s t).map (fun e => e.2.action) = some 2) → (∀ t ∈ sessTiles s v, (s.tile t).step = none) →
    After (.epochEnd h) s fun t => ∃ w, t.sessions.get? h = some w ∧ w.inEpoch = false ∧ w.epoch = v.epoch + 1 ∧
      w.abandonedRun = 0 ∧ w.drbgSaved = v.drbg ∧ w.input = v.input.drop v.def_.batch ∧ w.position = v.position + v.def_.batch ∧
      w.emitted = v.emitted ∧ w.nextStart = v.epochStart + v.def_.period) ∧
  (∀ (s : State) (h : Nat) (v : YewSession), s.on = true → s.sessions.get? h = some v → 16 ≤ v.abandonedRun → v.state ≠ .stopped →
    v.closing = false →
    After (.sessionScheduleFault h) s fun t => ∃ w, t.sessions.get? h = some w ∧ w.state = .stopped ∧ w.stopStatus = SCHEDULE_FAULT ∧
      w.inEpoch = false ∧ t.groups = s.groups ∧ t.dram = s.dram) ∧
  (∀ (s : State) (h : Nat) (v : YewSession), s.on = true → s.sessions.get? h = some v → v.params.tenantSeed = true →
    2 ^ 48 ≤ v.drbg.requests → v.state ≠ .stopped → v.closing = false →
    After (.drbgRequestLimit h) s fun t => ∃ w, t.sessions.get? h = some w ∧ w.state = .stopped ∧ w.stopStatus = SCHEDULE_FAULT) ∧
  (∀ (s : State) (h due : Nat) (v : YewSession) (e : LaunchEntry), s.on = true → s.sessions.get? h = some v →
    dueEntry s (leadTile s v) = some (due, e) → v.inEpoch = true → v.state = .running → e.action = 3 → v.slipLine = false →
    v.drawing = none → v.params.temperature = 0 → poisonedSource s v = none →
    After (.sample h) s fun t => ∃ w, t.sessions.get? h = some w ∧ w.drawing = some (drawOf s v).1 ∧ w.drbg = v.drbg ∧
      w.draws = v.draws ∧ t = { s with sessions := t.sessions, launch := t.launch, tiles := t.tiles }) ∧
  (∀ (s : State) (h : Nat) (v : YewSession) (d : Draw) (b : Landing), s.on = true → s.sessions.get? h = some v → v.drawing = some d →
    (s.tile (leadTile s v)).landing.get? v.sampler.tokenBuf = some b → Mem.wf (s.tile (leadTile s v)).sram = true →
    (v.inEpoch = false ∨ s.lc ≤ v.guard) →
    After (.drawComplete h) s fun t => ∃ w, t.sessions.get? h = some w ∧ w.drawing = none ∧ w.draws = v.draws ++ [d] ∧
      w.slipLine = v.slipLine ∧ ((t.tile (leadTile s v)).landing.get? v.sampler.tokenBuf).map Landing.fill = some 32 ∧
      (t.tile (leadTile s v)).sram.readN b.base 4 = le 4 d.token) ∧
  (∀ (s : State) (h : Nat) (v : YewSession), s.on = true → s.sessions.get? h = some v → v.params.tenantSeed = false →
    65536 ≤ v.drbg.requests → noEntropy s = false →
    After (.drbgReseed h) s fun t => ∃ w, t.sessions.get? h = some w ∧ w.drbg.requests = 0 ∧
      w.drbg.seed.length = v.drbg.seed.length + 48 ∧ t = { s with sessions := t.sessions, free := t.free })

/-- R187, R188, R195, R197, R199, R213 to R215. -/
def Obligations.SessionEvents : Prop :=
  (∀ (s : State) (p : Fin 8) (m : ZalReq) (h : Nat) (v : YewSession) (a : Awaited) (mo : Model), s.on = true → (s.zal p).inService = true →
    m.cells = 2 → m.bad = false → m.status = 0 → m.aux = 0 → m.addr = 0 → s.sessions = [(h, v)] → v.params.speculative = true →
    v.params.verifier = p → v.params.streamId = fieldAt m.data 0 4 → v.state = .running → v.awaited = some a →
    s.models.get? v.params.model = some mo →
    let taken : YewSession := { v with
      awaited := none, position := a.position + fieldAt m.data 16 1 + 1
      input := if fieldAt m.data 17 1 = 1 then v.input else fieldAt m.data 20 4 :: v.input
      verdict := some { accepted := fieldAt m.data 16 1, correction := fieldAt m.data 20 4, stop := decide (fieldAt m.data 17 1 = 1)
                        drafts := a.drafts, position := a.position } }
    (fieldAt m.data 8 8 = a.round → fieldAt m.data 16 1 ≤ a.drafts.length → fieldAt m.data 20 4 < mo.header.vocab → fieldAt m.data 17 1 ≤ 1 →
      zeroAt m.data 4 8 = true → zeroAt m.data 18 20 = true → zeroAt m.data 24 32 = true →
      After (.verdict p m) s fun t => ∃ w, t.sessions.get? h = some w ∧ w = { taken with nextStart := w.nextStart, shift := w.shift } ∧
        t = { s with sessions := t.sessions, link := t.link }) ∧
    (fieldAt m.data 8 8 ≠ a.round ∨ a.drafts.length < fieldAt m.data 16 1 ∨ mo.header.vocab ≤ fieldAt m.data 20 4 →
      After (.verdict p m) s fun t => t.sessions.get? h = some { v with verdictFaults := sat32 v.verdictFaults 1 } ∧
        t = { s with sessions := t.sessions, link := t.link })) ∧
  (∀ (s : State) (h : Nat) (v : YewSession) (a : Awaited) (t0 : Nat), s.on = true → s.sessions.get? h = some v →
    v.awaited = some a → a.sentAt = some t0 → t0 + 1000000 * (if v.params.verdictTimeout = 0 then 10 else v.params.verdictTimeout) ≤ s.lc →
    v.state = .running → v.closing = false → v.verdict = none →
    After (.verdictTimeout h) s fun t => ∃ w, t.sessions.get? h = some w ∧ w.state = .stopped ∧ w.stopStatus = VERIFIER_LOST ∧
      w.awaited = none ∧ w.emitted = v.emitted) ∧
  (∀ (s : State) (h : Nat) (v : YewSession) (a : Awaited) (x : ZalTx), s.on = true → s.sessions.get? h = some v → v.awaited = some a →
    (s.zal v.params.verifier).txWait = [x] → x.vc = 3 → canSend (s.zal v.params.verifier) x = true →
    After (.draft h) s fun t => Emit.zal v.params.verifier 3 x.msg ∈ t.emitted ∧ (t.zal v.params.verifier).txWait = [] ∧
      t = { s with link := t.link, emitted := t.emitted, sessions := t.sessions }) ∧
  (∀ (s : State) (h consumed : Nat) (v : YewSession), s.on = true → s.sessions.get? h = some v → v.params.ringInHost = true →
    v.pend = [] → v.closeAt = none →
    After (.pendingRecordWrite h consumed) s fun t => ∃ w, t.sessions.get? h = some w ∧ w.consumed = consumed ∧ w.seq = v.seq ∧
      w.pend = [] ∧ t = { s with sessions := t.sessions }) ∧
  (∀ (s : State) (h t0 : Nat) (v : YewSession), s.on = true → s.sessions.get? h = some v → v.closeAt = some t0 →
    t0 + 10000000 ≤ s.lc →
    After (.closeDeliveryTimeout h) s fun t => t.sessions.get? h = none ∧ t.dram = s.dram ∧ t.groups = s.groups) ∧
  (∀ (s : State) (op part a total : Nat) (o : LongOp), s.on = true → s.longOps.get? op = some o →
    o.data = .modelLoad part a total → checkImage s part a = .good → rangeBad s part a total = false →
    After (.modelLoadComplete op) s fun t => t.longOps.get? op = none ∧
      t.models.get? (freeModel s) = some { part := part, header := (imageAt s part a).header, sections := (imageAt s part a).sections
                                           usesCustom := (imageAt s part a).sections.any fun x =>
                                             decide (x.type = 3) && programCustom (secBytes s (imageAt s part a) x) } ∧
      (t.sec.logs.getD part []).length = (s.sec.logs.getD part []).length + 1 ∧ t.dram = s.dram) ∧
  (∀ (s : State) (op part a total i : Nat) (o : LongOp), s.on = true → s.longOps.get? op = some o →
    o.data = .modelLoad part a total → checkImage s part a = .section_ i →
    After (.modelLoadComplete op) s fun t => t.longOps.get? op = none ∧ t.models = s.models ∧ t.sec = s.sec ∧
      t.dram = s.dram) ∧
  (∀ (s : State) (h : Nat) (v : YewSession), s.on = true → s.sessions.get? h = some v → v.state = .loading →
    (∀ g ∈ v.groups, (s.group g).state = .assigned) → v.params.tenantSeed = true →
    After (.sessionLoadComplete h) s fun t => ∃ w, t.sessions.get? h = some w ∧ w.state = .idle ∧ w.drbg.seed = v.drbg.seed ∧
      w.drbg.requests = 0 ∧ w.nextStart = (if v.params.start = 0 then s.lc + 10000 else v.params.start) ∧ t.clk = s.clk)

/-- R92 to R95, R187, R188, R195, R199, R205, R377. -/
def Obligations.GroupAndModelRequests : Prop :=
  (∀ (s : State) (q : Req) (part g : Nat), Served s q 0x0501 8 .operator → g < 16 → part < 16 → partExists s part = true →
    (s.group g).state = .free →
    After (.groupAssign q part g) s fun t => (t.group g).state = .assigned ∧ (t.group g).owner = part ∧
      (∀ k, k ≠ g → t.group k = s.group k) ∧ Replied s t q 0x0501 OK [] ∧ SameBut { s with groups := t.groups } t) ∧
  (∀ (s : State) (q : Req) (part g : Nat), Served s q 0x0501 8 .operator → g < 16 → part < 16 → partExists s part = true →
    (s.group g).state ≠ .free →
    After (.groupAssign q part g) s fun t => Replied s t q 0x0501 IN_USE [] ∧ SameBut s t) ∧
  (∀ (s : State) (q : Req) (g : Nat), Served s q 0x0502 8 .operator → g < 16 → (s.group g).state = .assigned →
    (s.group g).session = none →
    After (.groupRelease q g) s fun t => (t.group g).state = .zeroing ∧ (t.group g).owner = 16 ∧
      (∀ k, k ≠ g → t.group k = s.group k) ∧ Replied s t q 0x0502 OK [] ∧ SameBut { s with groups := t.groups } t) ∧
  (∀ (s : State) (q : Req), Served s q 0x0503 0 .opOrTenant →
    After (.groupQuery q) s fun t =>
      Replied s t q 0x0503 OK ((List.range 16).flatMap (groupBytes s (whoOf s q.mbx))) ∧ SameBut s t) ∧
  (∀ (s : State) (q : Req) (addr : Nat), Served s q 0x0504 8 .tenant → modelsOf s (whoOf s q.mbx).owner < 8 →
    logRoom s (whoOf s q.mbx).owner 1 = true →
    After (.modelLoad q addr) s fun t => Accepted s t q 0x0504 ACCEPTED ∧ t.models = s.models ∧ t.dram = s.dram ∧
      SameBut { s with longOps := t.longOps, opNo := t.opNo } t) ∧
  (∀ (s : State) (q : Req) (h : Nat) (m : Model), Served s q 0x0505 8 .tenant → s.models.get? h = some m →
    m.part = (whoOf s q.mbx).owner → (∀ x ∈ s.sessions, x.2.params.model ≠ h) →
    After (.modelUnload q h) s fun t => t.models.get? h = none ∧ Replied s t q 0x0505 OK [] ∧
      SameBut { s with models := t.models } t) ∧
  (∀ (s : State) (q : Req) (h : Nat) (m : Model), Served s q 0x0505 8 .tenant → s.models.get? h = some m →
    m.part = (whoOf s q.mbx).owner → (∃ x ∈ s.sessions, x.2.params.model = h) →
    After (.modelUnload q h) s fun t => Replied s t q 0x0505 IN_USE [] ∧ SameBut s t) ∧
  (∀ (s : State) (q : Req) (b : Bytes) (mo : Model) (p : Nat), Served s q 0x0506 128 .tenant → bitOf (fieldAt b 6 1) 0 = false →
    bitOf (fieldAt b 6 1) 1 = false → fieldAt b 104 2 = 0 → b.length = 128 → s.models.get? (fieldAt b 0 4) = some mo →
    mo.part = (whoOf s q.mbx).owner → s.full = true → descriptorBad s mo.part mo.image b = false →
    openPlacement s mo.part mo.image b = some p → streamRateBad s mo.image p = false → fieldAt b 4 2 = 0xFFFF →
    reserveShort s mo.image p none = false →
    After (.sessionOpen q b) s fun t => Accepted s t q 0x0506 ACCEPTED ∧
      (t.sessions.get? (freeSession s)).map YewSession.state = some .loading ∧
      (t.sessions.get? (freeSession s)).map YewSession.placement = some p ∧
      (∀ g ∈ placementGroups s mo.image p, (t.group g).session = some (freeSession s)) ∧ t.dram = s.dram) ∧
  (∀ (s : State) (q : Req) (h count addr : Nat) (v : YewSession) (bs : Bytes), Served s q 0x0507 16 .tenant →
    s.sessions.get? h = some v → v.part = (whoOf s q.mbx).owner → 1 ≤ count → count ≤ 1048576 → v.state ≠ .loading →
    v.state ≠ .stopped → v.closing = false → readPlot s v.part addr (4 * count) = .bytes bs →
    (∀ e ∈ chunks 4 count bs, fieldAt e 0 4 < ((s.models.get? v.params.model).map fun m => m.header.vocab).getD 0) →
    v.position + v.input.length + count < ((s.models.get? v.params.model).map fun m => m.header.context).getD 0 →
    After (.sessionFeed q h count addr) s fun t => ∃ w, t.sessions.get? h = some w ∧
      w.input = v.input ++ (chunks 4 count bs).map (fun e => fieldAt e 0 4) ∧ w.sinceFeed = 0 ∧ w.state = .running ∧
      Replied s t q 0x0507 OK (le 4 (v.input.length + count) ++ zeros 4) ∧ SameBut { s with sessions := t.sessions } t) ∧
  (∀ (s : State) (q : Req) (h : Nat) (v : YewSession), Served s q 0x0508 8 .opOrTenant → s.sessions.get? h = some v →
    mayActOn (whoOf s q.mbx) v.part = true → v.state ≠ .loading → v.closing = false → v.inEpoch = true →
    After (.sessionClose q h) s fun t => Accepted s t q 0x0508 ACCEPTED ∧
      (t.sessions.get? h).map YewSession.closing = some true ∧
      SameBut { s with sessions := t.sessions, longOps := t.longOps, opNo := t.opNo } t) ∧
  (∀ (s : State) (q : Req) (h : Nat) (v : YewSession), Served s q 0x0509 8 .opOrTenant → s.sessions.get? h = some v →
    mayActOn (whoOf s q.mbx) v.part = true → v.state ≠ .loading →
    After (.sessionQuery q h) s fun t => (∃ l, Replied s t q 0x0509 OK (le 4 h ++ le 4 v.params.model ++ le 2 v.placement ++ l)) ∧
      SameBut s t) ∧
  (∀ (s : State) (q : Req) (h flags : Nat) (v : YewSession), Served s q 0x050A 24 .opOrTenant → s.sessions.get? h = some v →
    mayActOn (whoOf s q.mbx) v.part = true → v.state ≠ .loading → flags < 2 →
    After (.slipRead q h flags { addr := 0, len := 0, space := 0 }) s fun t =>
      (∃ l, Replied s t q 0x050A OK (slipBytes (whoOf s q.mbx).op v.firstSlip ++ l)) ∧
      (t.sessions.get? h).map YewSession.firstSlip = some (if flags = 1 then none else v.firstSlip) ∧
      SameBut { s with sessions := t.sessions, tiles := t.tiles } t) ∧
  (∀ (s : State) (q : Req) (die reserve : Nat), Served s q 0x050B 8 .operator → die < 2 → reserve ≤ 6222500 →
    admitted s die none ≤ reserve →
    After (.streamReserveSet q die reserve) s fun t => reserveOf t die = reserve ∧ Replied s t q 0x050B OK [] ∧
      SameBut { s with reserve := t.reserve } t) ∧
  (∀ (s : State) (q : Req) (die reserve : Nat), Served s q 0x050B 8 .operator → die < 2 → reserve ≤ 6222500 →
    reserve < admitted s die none →
    After (.streamReserveSet q die reserve) s fun t => Replied s t q 0x050B IN_USE [] ∧ SameBut s t) ∧
  (∀ (s : State) (q : Req) (h placement : Nat) (v : YewSession) (m : Image), Served s q 0x050C 8 .tenant →
    s.sessions.get? h = some v → v.part = (whoOf s q.mbx).owner → v.state ≠ .loading → v.state ≠ .stopped → v.closing = false →
    v.replacing = none → sessImage s v = some m → placement < m.header.placements → streamRateBad s m placement = false →
    groupsFit s v.part (some h) (placementGroups s m placement) = true → reserveShort s m placement (some h) = false →
    After (.sessionReplace q h placement) s fun t => Accepted s t q 0x050C ACCEPTED ∧
      (t.sessions.get? h).map YewSession.replacing = some (some placement) ∧
      (t.sessions.get? h).map YewSession.placement = some v.placement ∧ t.dram = s.dram)

/-- R137, R138, R145, R147, R148, R158. -/
def Obligations.KnalysArithmetic : Prop :=
  let add := fun (w : Nat) (a b : BitVec w) (_ : Bool) =>
    IntResult.arith (a + b) (decide (2 ^ w ≤ a.toNat + b.toNat)) (decide ((a + b).toInt ≠ a.toInt + b.toInt))
  let sub := fun (w : Nat) (a b : BitVec w) (_ : Bool) =>
    IntResult.arith (a - b) (decide (b.toNat ≤ a.toNat)) (decide ((a - b).toInt ≠ a.toInt - b.toInt))
  let adc := fun (w : Nat) (a b : BitVec w) (c : Bool) => IntResult.arith (a + b + BitVec.ofNat w (b2n c))
    (decide (2 ^ w ≤ a.toNat + b.toNat + b2n c)) (decide ((a + b + BitVec.ofNat w (b2n c)).toInt ≠ a.toInt + b.toInt + b2n c))
  let neg := fun (w : Nat) (a : BitVec w) => IntResult.arith (-a) (a == 0#w) (a == BitVec.intMin w)
  let mul := fun (w : Nat) (a b : BitVec w) (_ : Bool) =>
    IntResult.arith (a * b) false (decide ((a * b).toInt ≠ a.toInt * b.toInt))
  let div := fun (w : Nat) (a b : BitVec w) => b == 0#w || (a == BitVec.intMin w && b == BitVec.allOnes w)
  (Binary 64 1 .add (add 64) ∧ Binary 32 1 .addw (add 32) ∧ Binary 64 1 .sub (sub 64) ∧ Binary 32 1 .subw (sub 32)) ∧
  (Binary 64 1 .adc (adc 64) ∧ Binary 32 1 .adcw (adc 32) ∧
    Binary 64 1 .sbc (fun a b => adc 64 a (~~~b)) ∧ Binary 32 1 .sbcw (fun a b => adc 32 a (~~~b))) ∧
  (Unary 64 .neg (neg 64) ∧ Unary 32 .negw (neg 32)) ∧
  (Binary 64 3 .mul (mul 64) ∧ Binary 32 3 .mulw (mul 32) ∧
    Binary 64 3 .mulhs (fun a b _ => .logic ((a.signExtend 128 * b.signExtend 128).extractLsb' 64 64)) ∧
    Binary 64 3 .mulhu (fun a b _ => .logic ((a.setWidth 128 * b.setWidth 128).extractLsb' 64 64))) ∧
  (Binary 64 18 .div (fun a b _ => .arith (a.sdiv b) false (div 64 a b)) ∧
    Binary 32 18 .divw (fun a b _ => .arith (a.sdiv b) false (div 32 a b)) ∧
    Binary 64 18 .rem (fun a b _ => .arith (a.srem b) false (div 64 a b)) ∧
    Binary 32 18 .remw (fun a b _ => .arith (a.srem b) false (div 32 a b)) ∧
    Binary 64 18 .divu (fun a b _ => .arith (a / b) false (b == 0)) ∧
    Binary 32 18 .divuw (fun a b _ => .arith (a / b) false (b == 0)) ∧
    Binary 64 18 .remu (fun a b _ => .arith (a % b) false (b == 0)) ∧
    Binary 32 18 .remuw (fun a b _ => .arith (a % b) false (b == 0)))

/-- R138, R145, R147, R148, R158. -/
def Obligations.KnalysLogic : Prop :=
  (Binary 64 1 .knAnd (fun a b _ => .logic (a &&& b)) ∧ Binary 32 1 .andw (fun a b _ => .logic (a &&& b)) ∧
    Binary 64 1 .knOr (fun a b _ => .logic (a ||| b)) ∧ Binary 32 1 .orw (fun a b _ => .logic (a ||| b)) ∧
    Binary 64 1 .xor (fun a b _ => .logic (a ^^^ b)) ∧ Binary 32 1 .xorw (fun a b _ => .logic (a ^^^ b)) ∧
    Binary 64 1 .andn (fun a b _ => .logic (a &&& ~~~b)) ∧ Binary 32 1 .andnw (fun a b _ => .logic (a &&& ~~~b))) ∧
  (Binary 64 1 .sll (fun a b _ => .shift (a <<< b.toNat)) ∧ Binary 32 1 .sllw (fun a b _ => .shift (a <<< b.toNat)) ∧
    Binary 64 1 .srl (fun a b _ => .shift (a >>> b.toNat)) ∧ Binary 32 1 .srlw (fun a b _ => .shift (a >>> b.toNat)) ∧
    Binary 64 1 .sra (fun a b _ => .shift (a.sshiftRight b.toNat)) ∧ Binary 32 1 .sraw (fun a b _ => .shift (a.sshiftRight b.toNat)) ∧
    Binary 64 1 .rol (fun a b _ => .shift (a.rotateLeft b.toNat)) ∧ Binary 32 1 .rolw (fun a b _ => .shift (a.rotateLeft b.toNat)) ∧
    Binary 64 1 .ror (fun a b _ => .shift (a.rotateRight b.toNat)) ∧ Binary 32 1 .rorw (fun a b _ => .shift (a.rotateRight b.toNat))) ∧
  (Binary 64 1 .knMin (fun a b _ => .logic (if a.toInt ≤ b.toInt then a else b)) ∧
    Binary 32 1 .minw (fun a b _ => .logic (if a.toInt ≤ b.toInt then a else b)) ∧
    Binary 64 1 .knMax (fun a b _ => .logic (if a.toInt ≤ b.toInt then b else a)) ∧
    Binary 32 1 .maxw (fun a b _ => .logic (if a.toInt ≤ b.toInt then b else a)) ∧
    Binary 64 1 .minu (fun a b _ => .logic (if a.toNat ≤ b.toNat then a else b)) ∧
    Binary 32 1 .minuw (fun a b _ => .logic (if a.toNat ≤ b.toNat then a else b)) ∧
    Binary 64 1 .maxu (fun a b _ => .logic (if a.toNat ≤ b.toNat then b else a)) ∧
    Binary 32 1 .maxuw (fun a b _ => .logic (if a.toNat ≤ b.toNat then b else a))) ∧
  (Unary 64 .clz (fun a => .logic a.clz) ∧ Unary 32 .clzw (fun a => .logic a.clz) ∧
    Unary 64 .popc (fun a => .logic (BitVec.ofNat 64 (onesOf a))) ∧ Unary 32 .popcw (fun a => .logic (BitVec.ofNat 32 (onesOf a))) ∧
    Unary 64 .bswap (fun a => .logic (bytesReversed 64 a)) ∧ Unary 32 .bswapw (fun a => .logic (bytesReversed 32 a)))

/-- R142 to R146, R153, R158, R176, R181. -/
def Obligations.KnalysImmediate : Prop :=
  (WithImmediate .addi (fun a b => .arith (a + b) (decide (2 ^ 64 ≤ a.toNat + b.toNat)) (decide ((a + b).toInt ≠ a.toInt + b.toInt))) ∧
    WithImmediate .andi (fun a b => .logic (a &&& b)) ∧ WithImmediate .ori (fun a b => .logic (a ||| b)) ∧
    WithImmediate .xori (fun a b => .logic (a ^^^ b)) ∧ WithImmediate .slli (fun a b => .shift (a <<< b.toNat)) ∧
    WithImmediate .srli (fun a b => .shift (a >>> b.toNat)) ∧ WithImmediate .srai (fun a b => .shift (a.sshiftRight b.toNat)) ∧
    WithImmediate .rori (fun a b => .shift (a.rotateRight b.toNat))) ∧
  (∀ (s : State) (i : Issue) (rd : Fin 32) (imm : BitVec 19) (f : Bool), Issues s i .compute (.movi i rd imm f) fun x =>
    inFlight x i 1 rd f (.logic (imm.signExtend 64))) ∧
  (∀ (s : State) (i : Issue) (rd ra rb : Fin 32) (cond : BitVec 4) (f : Bool), Issues s i .compute (.csel i rd ra rb cond f) fun x =>
    inFlight x i 1 rd f (.logic (if condHolds cond.toNat x.flags then x.reg ra else x.reg rb))) ∧
  (∀ (s : State) (i : Issue) (rd : Fin 32) (n : BitVec 8) (f : Bool) (v : Nat),
    specialValue (s.modCore (coreNo i.core) fun x => x.advance i.cycle) i.core n.toNat = some v →
    Issues s i .compute (.mfs i rd n f) fun x => inFlight x i 1 rd f (.logic (BitVec.ofNat 64 v))) ∧
  (∀ (s : State) (k : CoreId), (specialValue s k 0 = some (s.core (coreNo k)).pc ∧ specialValue s k 1 = some (s.core (coreNo k)).flags ∧
    specialValue s k 2 = some (s.core (coreNo k)).rptc.toNat ∧ specialValue s k 3 = some s.lc) ∧
    (∀ c j, k = .privet c j → specialValue s k 4 = some j ∧ specialValue s k 0x40 = some (s.core (coreNo k)).pktLen ∧
      specialValue s k 0x41 = some (s.core (coreNo k)).pktPort ∧ specialValue s k 0x42 = some (s.core (coreNo k)).prvStat ∧
      specialValue s k 0x43 = some (16384 - ((s.core (coreNo k)).cycle - (s.core (coreNo k)).started)) ∧ specialValue s k 0x10 = none) ∧
    (∀ t, k = .yew t → specialValue s k 0x10 = some (s.core (coreNo k)).stepBase ∧
      specialValue s k 0x11 = some (s.core (coreNo k)).amode.toNat ∧ specialValue s k 0x12 = some (s.core (coreNo k)).fpstat.toNat ∧
      specialValue s k 0x40 = none ∧
      (∀ j, j < 32 → specialValue s k (0x20 + j) = some ((((s.tile t).landing.get? j).map Landing.fill).getD 0)))) ∧
  (∀ (s : State) (i : Issue) (n : BitVec 8) (ra : Fin 32), n = 1 ∨ n = 2 ∨ (isYew i.core = true ∧ (n = 0x11 ∨ n = 0x12 ∨ (0x14 ≤ n ∧ n ≤ 0x17))) ∨
      (isYew i.core = false ∧ n = 0x42) → Issues s i .compute (.mts i n ra) fun x => { x with
    pend := x.pend ++ [{ due := i.cycle + 1, slot := i.slot, target := .special n.toNat, value := x.reg ra }] }) ∧
  (∀ (s : State) (i : Issue) (k : Fin 16) (rd ra rb : Fin 32) (imm : BitVec 9) (f : Bool) (e : Bytes),
    decodeEntry (s.decode.getD (s.core (coreNo i.core)).owner []) k = e → isYew i.core = false → fieldAt e 3 1 % 2 = 1 →
    entryFlags e = 1 → fieldAt e 0 1 % 2 = 1 → entryWidth e = 64 → Issues s i .compute (.custom i k rd ra rb imm f) fun x =>
      inFlight x i (fieldAt e 2 1) rd f
        (.logic (BitVec.ofNat 64 (runEntry e (x.reg ra).toNat (x.reg rb).toNat (imm.signExtend 64).toNat).val)))

/-- R141, R146, R151 to R156, R162, R167, R168. -/
def Obligations.KnalysControl : Prop :=
  (∀ (s : State) (i : Issue), Issues s i .any (.nop i) fun x => x) ∧
  (∀ (s : State) (i : Issue) (cond : BitVec 4) (off : BitVec 21), Issues s i .control (.b i cond off) fun x =>
    if condHolds cond.toNat x.flags then { x with branch := some (2, ((x.pc + off.toInt) % x.region).toNat) } else x) ∧
  (∀ (s : State) (i : Issue) (off : BitVec 21), Issues s i .control (.jal i off) fun x =>
    { inFlight x i 1 31 false (.logic (BitVec.ofNat 64 (x.pc + 3))) with branch := some (2, ((x.pc + off.toInt) % x.region).toNat) }) ∧
  (∀ (s : State) (i : Issue) (ra : Fin 32), Issues s i .control (.jr i ra) fun x =>
    { x with branch := some (2, (x.reg ra).toNat % x.region) }) ∧
  (∀ (s : State) (i : Issue) (ra : Fin 32), Issues s i .control (.jalr i ra) fun x =>
    { inFlight x i 1 31 false (.logic (BitVec.ofNat 64 (x.pc + 3))) with branch := some (2, (x.reg ra).toNat % x.region) }) ∧
  (∀ (x : Core) (t c1 c2 c3 : Nat), x.branch = some (2, t) → x.first = false → x.hidden = 0 → x.cycle < c1 → c1 < c2 → c2 < c3 →
    (x.advance c1).pc = (x.pc + 1) % x.region ∧ ((x.advance c1).advance c2).pc = (x.pc + 2) % x.region ∧
    (((x.advance c1).advance c2).advance c3).pc = t ∧ (((x.advance c1).advance c2).advance c3).branch = none) ∧
  (∀ (s : State) (i : Issue) (n : BitVec 16), Issues s i .control (.rpt i n) fun x =>
    { x with hidden := n.toNat - 1, skip := decide (n = 0) }) ∧
  (∀ (s : State) (i : Issue), Issues s i .control (.rptr i) fun x =>
    { x with hidden := min x.rptc.toNat 65535 - 1, skip := decide (x.rptc = 0) }) ∧
  (∀ (x : Core) (c : Nat), x.first = false → x.cycle ≤ c → ∀ n, n ≤ x.hidden →
    let y := ((List.range n).map (c + 1 + ·)).foldl Core.advance x
    y.pc = x.pc ∧ y.hidden = x.hidden - n ∧ (0 < n → y.again = true) ∧ y.imx = x.imx ∧ y.branch = x.branch) ∧
  (∀ (s : State) (i : Issue), i.slot ≠ 0 → (s.core (coreNo i.core)).skip = true → (s.core (coreNo i.core)).first = false →
    i.cycle = (s.core (coreNo i.core)).cycle → ∀ k, canIssue s i k = false) ∧
  (∀ (s : State) (i : Issue) (target : BitVec 2) (hi : BitVec 18), Issues s i .control (.imx i target hi) fun x =>
    { x with imx := some (target.toNat, hi.toNat) }) ∧
  (∀ (s : State) (i : Issue) (ra : Fin 32) (k : Fin 144), i.core = .yew k → Issues s i .control (.lwait i ra) fun x =>
    { x with waitUntil := some (x.reg ra).toNat }) ∧
  (∀ (s : State) (i : Issue) (w : BitVec 21) (k : Fin 144), i.core = .yew k → Issues s i .control (.lwaits i w) fun x =>
    { x with waitUntil := some (x.stepBase + w.toNat) }) ∧
  (∀ (s : State) (i : Issue) (w : Nat) (k : SlotClass), (s.core (coreNo i.core)).waitUntil = some w → s.lc < w →
    (s.core (coreNo i.core)).first = false → (s.core (coreNo i.core)).hidden = 0 → (s.core (coreNo i.core)).cycle < i.cycle →
    canIssue s i k = false) ∧
  (∀ (s : State) (i : Issue) (k : Fin 144), i.core = .yew k → Issues s i .control (.endStep i) fun x => { x with ended := true }) ∧
  (∀ (s : State) (i : Issue) (st : BitVec 8) (c : Fin 64) (k : Fin 16), i.core = .privet c k → Issues s i .control (.done i st) fun x =>
    { x with ended := true, status := some st.toNat }) ∧
  (∀ (s : State) (i : Issue) (k : SlotClass), (s.core (coreNo i.core)).ended = true → (s.core (coreNo i.core)).first = false →
    (s.core (coreNo i.core)).hidden = 0 → (s.core (coreNo i.core)).cycle < i.cycle → canIssue s i k = false) ∧
  (∀ (s : State) (k : Fin 1024), s.on = true → (s.core k).running = true → (s.core k).ended = false →
    exec (.parseLimit k) s = .next (s.modCore k fun x => { x with ended := true, status := some 255 }))

/-- R143, R147, R149. -/
def Obligations.KnalysResults : Prop :=
  (∀ (x : Core) (t n : Nat) (p : KnPending), p ∈ x.pend → p.target = .reg n → p.due ≤ t → p.slot < 8 →
    (∀ q ∈ x.pend, q ≠ p → q.target = .reg n → q.due ≤ t → q.slot < 8 ∧ (q.due < p.due ∨ (q.due = p.due ∧ q.slot < p.slot))) →
    (x.retire t).regs.getD n 0 = p.value) ∧
  (∀ (x : Core) (t n : Nat), (∀ q ∈ x.pend, q.target = .reg n → t < q.due) → (x.retire t).regs.getD n 0 = x.regs.getD n 0) ∧
  (∀ (x : Core) (t : Nat), (∀ q ∈ x.pend, ∀ m, q.target = .flags m → t < q.due) → (∀ q ∈ x.pend, q.target = .special 1 → t < q.due) →
    (x.retire t).flags = x.flags) ∧
  (∀ (x : Core) (t : Nat) (p : KnPending), p ∈ (x.retire t).pend ↔ p ∈ x.pend ∧ t < p.due) ∧
  (∀ (x : Core) (t : Nat), (x.retire t).pc = x.pc ∧ (x.retire t).hidden = x.hidden ∧ (x.retire t).branch = x.branch ∧
    (x.retire t).scratch = x.scratch ∧ (x.retire t).packet = x.packet ∧ (x.retire t).metadata = x.metadata ∧
    (x.retire t).handles = x.handles) ∧
  (∀ x : Core, x.reg 0 = 0)

/-- R29, R98, R100, R158 to R160, R163 to R166. -/
def Obligations.KnalysMemory : Prop :=
  (Loads 1 true .ldb ∧ Loads 1 false .ldbu ∧ Loads 2 true .ldh ∧ Loads 2 false .ldhu ∧ Loads 4 true .ldw ∧ Loads 4 false .ldwu ∧
    Loads 8 false .ldd) ∧
  (Stores 1 .stb ∧ Stores 2 .sth ∧ Stores 4 .stw ∧ Stores 8 .std) ∧
  (∀ (s : State) (c : Fin 64) (k : Fin 16) (slot : Fin 4) (cycle : Nat) (rd ra : Fin 32) (imm : BitVec 14),
    canIssue s ⟨.privet c k, slot, cycle⟩ .memory = true →
    let x := (s.core (coreNo (.privet c k))).advance cycle
    let pos := ((x.reg ra).toNat + ((immediate x slot imm).extractLsb' 0 5).toNat) * 8 + ((immediate x slot imm).extractLsb' 11 3).toNat
    let w := ((immediate x slot imm).extractLsb' 5 6).toNat + 1
    ∃ v : W64, (∀ j, j < 64 → v.getLsbD j = (decide (j < w) && decide ((pos + w - 1 - j) / 8 < x.pktLen) &&
        (x.packet.getD ((pos + w - 1 - j) / 8) 0).getMsbD ((pos + w - 1 - j) % 8))) ∧
      exec (.hx ⟨.privet c k, slot, cycle⟩ rd ra imm) s = .next (s.modCore (coreNo (.privet c k)) fun _ =>
        { inFlight x ⟨.privet c k, slot, cycle⟩ 2 rd false ⟨v, 0, 0⟩ with
          prvStat := x.prvStat ||| (if pos + w ≤ 8 * x.pktLen then 0 else 1) })) ∧
  (∀ (s : State) (c : Fin 64) (k : Fin 16) (slot : Fin 4) (cycle : Nat) (ra rb : Fin 32) (fn : BitVec 8) (tb : MatchTable),
    canIssue s ⟨.privet c k, slot, cycle⟩ .memory = true →
    let n := coreNo (.privet c k)
    let x := (s.core n).advance cycle
    ((x.handles.getD (fn.toNat / 64) {}).busy = false → s.pkt.tables.get? (fn.toNat % 64) = some tb → tb.owner = x.owner →
      (x.reg ra).toNat + tb.kl ≤ 4096 → (x.reg rb).toNat + 32 ≤ 4096 →
      After (.probe ⟨.privet c k, slot, cycle⟩ ra rb fn) s fun t => t = { s with cores := t.cores, mon := t.mon } ∧
        t.cores = s.cores.set n { x with handles := x.handles.set (fn.toNat / 64) ({
            busy := true, table := fn.toNat % 64, dst := (x.reg rb).toNat, issued := cycle,
            key := x.scratch.readN (x.reg ra).toNat tb.kl } : ProbeHandle) }) ∧
    ((x.handles.getD (fn.toNat / 64) {}).busy = true →
      exec (.probe ⟨.privet c k, slot, cycle⟩ ra rb fn) s = .next (s.modCore n fun _ => { x with prvStat := x.prvStat ||| 2 })) ∧
    ((x.handles.getD (fn.toNat / 64) {}).busy = false → s.pkt.tables.get? (fn.toNat % 64) = some tb → tb.owner = x.owner →
      4096 < (x.reg ra).toNat + tb.kl →
      After (.probe ⟨.privet c k, slot, cycle⟩ ra rb fn) s fun t =>
        CoreViolated s t (.privet c k) x (x.reg ra).toNat 1 tb.kl ∧ (t.core n).scratch = x.scratch)) ∧
  (∀ (s : State) (i : Issue) (rd : Fin 32) (h : Fin 4) (c : Fin 64) (k : Fin 16), i.core = .privet c k →
    Issues s i .memory (.pres i rd h) fun x => inFlight x i 3 rd false ⟨BitVec.ofNat 64 (
      let p := x.handles.getD h {}
      if p.busy then 0 else b2n p.done + 2 * b2n p.hit + 4 * b2n p.fault + 8 * b2n p.flowCache), 0, 0⟩) ∧
  (∀ (s : State) (i : Issue) (rb : Fin 32) (w : Fin 8) (c : Fin 64) (k : Fin 16), i.core = .privet c k →
    Issues s i .memory (.emit i rb w) fun x => { x with metadata := x.metadata.set w (x.reg rb) })

/-- R118, R122, R150, R169, R171, R172, R175. -/
def Obligations.MatrixUnit : Prop :=
  (∀ (s : State) (k : Fin 144) (slot : Fin 4) (cycle : Nat) (q : Fin 4) (ra rb : Fin 32), canIssue s ⟨.yew k, slot, cycle⟩ .memory = true →
    ((s.tile k).queue q).length < 32 →
    let x := (s.core (1024 + k)).advance cycle
    let c := (x.reg rb ++ x.reg ra).toNat
    (tissOk s k q c = true → After (.tiss ⟨.yew k, slot, cycle⟩ q ra rb) s fun t => (t.tile k).queue q = (s.tile k).queue q ++ [c] ∧
      t.core (1024 + k) = x ∧ (t.tile k).sram = (s.tile k).sram ∧ (t.tile k).acc = (s.tile k).acc ∧
      (q = 0 → c.testBit 14 = true → bitsOf c 3 0 = 1 → (t.tile k).accFloat.getD (bitsOf c 13 12) false = !c.testBit 15) ∧
      t = { s with tiles := t.tiles, cores := t.cores }) ∧
    (tissOk s k q c = false → After (.tiss ⟨.yew k, slot, cycle⟩ q ra rb) s fun t => (t.tile k).queue q = (s.tile k).queue q ∧
      (t.tile k).refused = sat32 (s.tile k).refused 1 ∧ (t.tile k).poisonStep = true ∧ (t.tile k).slips = sat32 (s.tile k).slips 1 ∧
      (t.tile k).sram = (s.tile k).sram ∧ t = { s with tiles := t.tiles, cores := t.cores, sessions := t.sessions })) ∧
  (∀ (x : Tile) (c : Nat), bitsOf c 3 0 = 1 →
    (bitsOf c 118 112 = 0 ∨ 64 < bitsOf c 118 112 ∨ bitsOf c 127 119 ≠ 0 ∨ (bitsOf c 7 4 = 10) ≠ (bitsOf c 11 8 = 10) ∨
      (c.testBit 14 = false ∧ x.accFloat.getD (bitsOf c 13 12) false = c.testBit 15)) → matrixOk x c = false) ∧
  (∀ (s : State) (k : Fin 144) (start w : Nat) (rest : List Nat), s.on = true → (s.tile k).qMatrix = w :: rest → bitsOf w 3 0 = 1 →
    (s.tile k).matrixFree ≤ start → (s.tile k).poisoned = [] →
    let load := if bitsOf w 7 4 = 1 ∨ bitsOf w 7 4 = 2 then 4 else if bitsOf w 7 4 = 8 ∨ bitsOf w 7 4 = 9 then 2
      else if bitsOf w 7 4 = 10 then 4 else 5
    let rows := bitsOf w 118 112
    (bitsOf w 7 4 ≤ 5 ∨ bitsOf w 7 4 = 8 ∨ bitsOf w 7 4 = 9 ∨ bitsOf w 7 4 = 10) →
    (bitsOf w 7 4 = 0 → bitsOf w 11 8 = 0) →
    After (.mma k start) s fun t => (t.tile k).qMatrix = rest ∧ (t.tile k).matrixFree = start + load + rows ∧
      (t.tile k).lanes.length = ((s.tile k).settle start).lanes.length + rows ∧
      (∀ r, r < rows → ∃ v, (t.tile k).lanes[((s.tile k).settle start).lanes.length + r]? =
        some { due := start + load + r + 9, acc := true, index := 64 * bitsOf w 13 12 + r, value := v }) ∧
      ((t.core (1024 + k)).pend.getLast?).map KnPending.due = some (start + load + rows + 8) ∧ (t.tile k).sram = (s.tile k).sram ∧
      t = { s with tiles := t.tiles, cores := t.cores, free := t.free }) ∧
  (∀ (s : State) (k : Fin 144) (start w : Nat) (rest : List Nat), s.on = true → (s.tile k).qMatrix = w :: rest → bitsOf w 3 0 = 2 →
    (s.tile k).matrixFree ≤ start → (s.tile k).poisoned = [] →
    After (.mmak k start) s fun t => (t.tile k).qMatrix = rest ∧ (t.tile k).matrixFree = start + bitsOf w 118 112 ∧
      (t.tile k).stationary = (s.tile k).stationary ∧ (t.tile k).sram = (s.tile k).sram ∧
      t = { s with tiles := t.tiles, cores := t.cores, free := t.free }) ∧
  (∀ (s : State) (k : Fin 144) (start w : Nat) (rest : List Nat), s.on = true → (s.tile k).qMatrix = w :: rest → bitsOf w 3 0 = 3 →
    (s.tile k).matrixFree ≤ start →
    After (.aclr k start) s fun t => (t.tile k).qMatrix = rest ∧
      (∀ r, r < 64 → ((t.tile k).settle (start + 1)).acc.getD (64 * bitsOf w 13 12 + r) [] = List.replicate 64 0) ∧
      (t.tile k).sram = (s.tile k).sram ∧ t = { s with tiles := t.tiles, cores := t.cores }) ∧
  (∀ (m : MatCmd) (ftz : Bool) (old n : Nat) (arow w : Bytes), m.int = true → m.start = true → m.wfmt = 10 → m.afmt = 10 →
    (matElem m ftz old n arow [] w []).1 = (((List.range 2).map fun k =>
      intChunk (elems32 10 arow (32 * k)) (elems32 10 w (weightBlock 10 k n 128 * 32))).foldl (· + ·) 0 % 2 ^ 32 : Int).toNat)

/-- R125, R128, R132, R135, R137, R138, R150, R173. -/
def Obligations.VectorUnit : Prop :=
  let z := fun (f : Bool → Nat → Nat → Flagged) (ftz _ : Bool) (a b _ : List Nat) => (a.zip b).map fun p => f ftz p.1 p.2
  let u := fun (f : Bool → Nat → Flagged) (ftz _ : Bool) (a _ _ : List Nat) => a.map (f ftz)
  (VectorFp 0x01 1 6 .vadd (z faddOp) ∧ VectorFp 0x02 1 6 .vsub (z fsubOp) ∧ VectorFp 0x03 1 6 .vmul (z fmulOp) ∧
    VectorFp 0x04 1 6 .vfma (fun ftz _ a b c => (a.zip (b.zip c)).map fun p => fmaOp ftz p.1 p.2.1 p.2.2) ∧
    VectorFp 0x05 1 2 .vmin (z fun ftz => minMax ftz false) ∧ VectorFp 0x06 1 2 .vmax (z fun ftz => minMax ftz true) ∧
    VectorFp 0x23 1 4 .vcvti (fun ftz rtz a _ _ => a.map (toInt 32 ftz rtz)) ∧ VectorFp 0x24 1 4 .vcvtf (u fun _ => ofInt32)) ∧
  (VectorFp 0x30 4 15 .exp2 (u exp2Op) ∧ VectorFp 0x31 4 15 .vlog2 (u log2Op) ∧ VectorFp 0x32 4 15 .rcp (u rcpOp) ∧
    VectorFp 0x33 4 15 .rsqrt (u rsqrtOp) ∧ VectorFp 0x34 4 15 .sqrt (u sqrtOp) ∧ VectorFp 0x35 4 15 .tanh (u tanhOp) ∧
    VectorFp 0x36 4 15 .sigmoid (u sigmoidOp)) ∧
  (VectorInt 0x10 4 .viadd (· + ·) (fun a b => decide ((a + b).toInt ≠ a.toInt + b.toInt)) ∧
    VectorInt 0x11 4 .visub (· - ·) (fun a b => decide ((a - b).toInt ≠ a.toInt - b.toInt)) ∧
    VectorInt 0x12 4 .vimul (· * ·) (fun a b => decide ((a * b).toInt ≠ a.toInt * b.toInt)) ∧
    VectorInt 0x13 4 .vand (· &&& ·) (fun _ _ => false) ∧ VectorInt 0x14 4 .vor (· ||| ·) (fun _ _ => false) ∧
    VectorInt 0x15 4 .vxor (· ^^^ ·) (fun _ _ => false) ∧ VectorInt 0x16 4 .vsll (fun a b => a <<< b.toNat) (fun _ _ => false) ∧
    VectorInt 0x17 4 .vsrl (fun a b => a >>> b.toNat) (fun _ _ => false) ∧
    VectorInt 0x18 4 .vsra (fun a b => a.sshiftRight b.toNat) (fun _ _ => false) ∧
    VectorInt 0x19 18 .vidiv (fun a b => a.sdiv b) (fun a b => b == 0 || (a == BitVec.intMin 32 && b == BitVec.allOnes 32)) ∧
    VectorInt 0x1A 18 .virem (fun a b => a.srem b) (fun a b => b == 0 || (a == BitVec.intMin 32 && b == BitVec.allOnes 32)) ∧
    VectorInt 0x1B 18 .vineg (fun a _ => -a) (fun a _ => a == BitVec.intMin 32)) ∧
  (∀ (s : State) (k : Fin 144) (start w : Nat) (rest : List Nat), s.on = true → (s.tile k).qVector = w :: rest → bitsOf w 7 0 = 0x20 →
    bitsOf w 59 56 = 11 → (s.tile k).vectorFree ≤ start → (s.tile k).poisoned = [] →
    After (.vld k start) s fun t => Began s t k (vectorStarted ((s.tile k).settle start) start 1 5 (bitsOf w 12 8)
      ((List.range 256).map fun j => BitVec.ofNat 32 (ofLe ((s.tile k).sram.readN (bitsOf w 55 32 + 4 * j) 4)))) (start + 5) 0 0) ∧
  (∀ (s : State) (k : Fin 144) (start w : Nat) (rest : List Nat), s.on = true → (s.tile k).qVector = w :: rest → bitsOf w 7 0 = 0x21 →
    bitsOf w 59 56 = 11 → (s.tile k).vectorFree ≤ start →
    (∀ r ∈ (s.tile k).regions, r.cls ≠ .weight ∧ r.cls ≠ .stream ∧ r.cls ≠ .persist) → Mem.wf (s.tile k).sram = true →
    (vectorReg ((s.tile k).settle start) (bitsOf w 17 13)).length = 256 →
    After (.vst k start) s fun t => (t.tile k).qVector = rest ∧ (t.tile k).vectorFree = start + 1 ∧
      (∀ a, (t.tile k).sram.read a = if bitsOf w 55 32 ≤ a ∧ a < bitsOf w 55 32 + 1024 then
        (((vectorReg ((s.tile k).settle start) (bitsOf w 17 13))[(a - bitsOf w 55 32) / 4]?).getD 0).extractLsb'
          (8 * ((a - bitsOf w 55 32) % 4)) 8 else (s.tile k).sram.read a) ∧
      t = { s with tiles := t.tiles, cores := t.cores }) ∧
  (∀ (s : State) (k : Fin 144) (start w : Nat) (rest : List Nat), s.on = true → (s.tile k).qVector = w :: rest → bitsOf w 7 0 = 0x28 →
    (s.tile k).vectorFree ≤ start → bitsOf w 59 56 ≤ 5 →
    (∀ r ∈ (s.tile k).regions, r.cls ≠ .weight ∧ r.cls ≠ .stream ∧ r.cls ≠ .persist) →
    After (.vquant k start) s fun t => (t.tile k).qVector = rest ∧ (t.tile k).vectorFree = start + 2 ∧
      ((t.core (1024 + k)).pend.getLast?).map KnPending.due = some (start + 8) ∧ t = { s with tiles := t.tiles, cores := t.cores }) ∧
  (∀ (s : State) (k : Fin 144) (start w : Nat) (rest : List Nat), s.on = true → (s.tile k).qVector = w :: rest → bitsOf w 7 0 = 0x22 →
    (s.tile k).vectorFree ≤ start → bitsOf w 39 34 ≤ 60 →
    let y := (s.tile k).settle start
    After (.vacc k start) s fun t => Began s t k (vectorStarted y start 1 4 (bitsOf w 12 8)
      ((List.range 4).flatMap fun j => y.acc.getD (64 * bitsOf w 33 32 + bitsOf w 39 34 + j) (List.replicate 64 0))) (start + 4) 0 0) ∧
  (∀ (s : State) (k : Fin 144) (start w : Nat) (rest : List Nat), s.on = true → (s.tile k).qVector = w :: rest → bitsOf w 7 0 = 0x38 →
    (s.tile k).vectorFree ≤ start →
    let y := (s.tile k).settle start
    After (.vrsum k start) s fun t => ∃ (v : W32) (fp : Nat), Began s t k (vectorStarted y start 2 10 (bitsOf w 12 8)
      (v :: (vectorReg y (bitsOf w 12 8)).drop 1)) (start + 10) fp 0) ∧
  (∀ (s : State) (k : Fin 144) (start w : Nat) (rest : List Nat), s.on = true → (s.tile k).qVector = w :: rest → bitsOf w 7 0 = 0x39 →
    (s.tile k).vectorFree ≤ start →
    let y := (s.tile k).settle start
    After (.vrmax k start) s fun t => ∃ fp, Began s t k (vectorStarted y start 2 10 (bitsOf w 12 8)
      (BitVec.ofNat 32 (((vectorReg y (bitsOf w 17 13)).map BitVec.toNat).foldl
          (fun r a => (minMax (((s.core (1024 + k)).retire start).amode.getLsbD 0) true r a).1)
          ((((vectorReg y (bitsOf w 17 13)).map BitVec.toNat).headD 0))) :: (vectorReg y (bitsOf w 12 8)).drop 1)) (start + 10) fp 0)

/-- R79, R81, R82, R103, R104, R174, R237, R240. -/
def Obligations.SendsAndGateways : Prop :=
  (∀ (s : State) (k : Fin 144) (start c h : Nat) (rest : List Nat) (v : YewSession), s.on = true → (s.tile k).qSend = c :: rest →
    (s.tile k).sendFree ≤ start → tileSession s k = some (h, v) → (s.tile k).poisoned = [] → (s.tile k).poisonStep = false →
    After (.send k start) s fun t => (t.tile k).qSend = rest ∧ (t.tile k).sendFree = start + (bitsOf c 87 64 + 255) / 256 ∧
      (∃ m, t.mesh = s.mesh ++ [m] ∧ m.dst = 9 * v.groups.getD (bitsOf c 54 51) 0 + bitsOf c 50 48 ∧ m.addr = bitsOf c 47 24 ∧
        m.data = (s.tile k).sram.readN (bitsOf c 23 0) (bitsOf c 87 64) ∧ m.src = k.val ∧ m.session = h ∧ m.gateway = false ∧
        (∀ slot, logicalOf s k = some slot → m.arrive = start + sendCycles s (k / 9) slot (v.groups.getD (bitsOf c 54 51) 0) (bitsOf c 50 48) (bitsOf c 87 64))) ∧
      t = { s with tiles := t.tiles, cores := t.cores, mesh := t.mesh }) ∧
  (∀ (s : State) (k : Fin 144) (start c h : Nat) (rest : List Nat) (v : YewSession), s.on = true → (s.tile k).qGate = c :: rest →
    tileSession s k = some (h, v) → bitsOf c 1 0 = 0 →
    (translates s v.part (biased s v (bitsOf c 111 64)) (bitsOf c 63 32) = false → After (.gatewayRead k start) s fun t =>
      (t.tile k).qGate = rest ∧ Violated s t (biased s v (bitsOf c 111 64)) (mkTag v.part (0x480 + k / 9)) 1 (bitsOf c 63 32) 0xFFF 0xFFFF ∧
      (∃ m, t.mesh = s.mesh ++ [m] ∧ m.data = zeros (bitsOf c 63 32) ∧ m.addr = bitsOf c 25 2 ∧ m.gateway = true) ∧
      t = { s with tiles := t.tiles, mesh := t.mesh, vio := t.vio, mon := t.mon }) ∧
    (translates s v.part (biased s v (bitsOf c 111 64)) (bitsOf c 63 32) = true →
      (gateBytes s v.part (biased s v (bitsOf c 111 64)) (bitsOf c 63 32)).2 = [] → After (.gatewayRead k start) s fun t =>
      (t.tile k).qGate = rest ∧ (∃ m, t.mesh = s.mesh ++ [m] ∧ m.addr = bitsOf c 25 2 ∧ m.gateway = true ∧
        m.data = (gateBytes s v.part (biased s v (bitsOf c 111 64)) (bitsOf c 63 32)).1 ∧
        m.reads = [(biased s v (bitsOf c 111 64), bitsOf c 25 2, bitsOf c 63 32)]) ∧
      t = { s with tiles := t.tiles, mesh := t.mesh })) ∧
  (∀ (s : State) (k : Fin 144) (start c h : Nat) (rest : List Nat) (v : YewSession), s.on = true → (s.tile k).qGate = c :: rest →
    tileSession s k = some (h, v) → bitsOf c 1 0 = 1 → (s.tile k).poisoned = [] →
    After (.gatewayWrite k start) s fun t => (t.tile k).qGate = rest ∧ (t.tile k).sram = (s.tile k).sram ∧
      ((writePlot s v.part (biased s v (bitsOf c 111 64)) ((s.tile k).sram.readN (bitsOf c 25 2) (bitsOf c 63 32))).1 ≠ .violation →
        t.dram = (writePlot s v.part (biased s v (bitsOf c 111 64)) ((s.tile k).sram.readN (bitsOf c 25 2) (bitsOf c 63 32))).2.dram) ∧
      ((writePlot s v.part (biased s v (bitsOf c 111 64)) ((s.tile k).sram.readN (bitsOf c 25 2) (bitsOf c 63 32))).1 = .violation →
        Violated s t (biased s v (bitsOf c 111 64)) (mkTag v.part (0x480 + k / 9)) 2 (bitsOf c 63 32) 0xFFF 0xFFFF ∧ t.dram = s.dram)) ∧
  (∀ (s : State) (k : Fin 144) (start c h : Nat) (rest : List Nat) (v : YewSession), s.on = true → (s.tile k).qGate = c :: rest →
    tileSession s k = some (h, v) → bitsOf c 1 0 = 2 → translates s v.part (biased s v (bitsOf c 111 64)) 16 = true →
    fieldAt (gateBytes s v.part (biased s v (bitsOf c 111 64)) 16).1 0 4 = 0 →
    After (.gatewayGather k start) s fun t => (t.tile k).refused = sat32 (s.tile k).refused 1 ∧ (t.tile k).qGate = rest ∧
      (∃ m, t.mesh = s.mesh ++ [m] ∧ m.data = zeros (bitsOf c 63 32)) ∧ t = { s with tiles := t.tiles, mesh := t.mesh }) ∧
  (∀ (s : State) (k : Fin 144) (start c h a n : Nat) (rest : List Nat) (v : YewSession), s.on = true → (s.tile k).qGate = c :: rest →
    tileSession s k = some (h, v) → bitsOf c 1 0 = 2 → translates s v.part (biased s v (bitsOf c 111 64)) 16 = true →
    pageList s v.part v (biased s v (bitsOf c 111 64)) = some [(a, n)] → translates s v.part a n = true → a % 32 = 0 → n % 32 = 0 →
    32 ≤ n → n ≤ 65536 → 0 < bitsOf c 63 32 →
    After (.gatewayGather k start) s fun t => (t.tile k).refused = (s.tile k).refused ∧ (t.tile k).qGate = rest ∧
      (∃ m, t.mesh = s.mesh ++ [m] ∧ m.data = (gateBytes s v.part a (min n (bitsOf c 63 32))).1 ∧
        m.reads = [(a, bitsOf c 25 2, min n (bitsOf c 63 32))]) ∧ t = { s with tiles := t.tiles, mesh := t.mesh }) ∧
  (∀ (s : State) (k : Fin 144) (m : MeshMsg) (rest : List MeshMsg) (j : Nat) (b : Landing), s.on = true → s.mesh = m :: rest →
    physOf s (m.dst / 9) (m.dst % 9) = k → m.arrive ≤ tclkNow s → (s.group (m.dst / 9)).session = some m.session → m.gateway = false →
    (s.tile k).step = none → (∀ r ∈ (s.tile k).regions, r.cls ≠ .persist) → landingOf (s.tile k) m.addr m.data.length = some (j, b) →
    (s.tile k).landing.get? j = some b → b.fill + m.data.length ≤ b.expected →
    After (.meshArrival k) s fun t => t.mesh = rest ∧ (t.tile k).sram = (s.tile k).sram.writeN m.addr m.data ∧
      ((t.tile k).landing.get? j).map Landing.fill = some (b.fill + m.data.length) ∧ (t.tile k).slips = (s.tile k).slips ∧
      t = { s with tiles := t.tiles, mesh := t.mesh }) ∧
  (∀ (s : State) (k : Fin 144) (m : MeshMsg) (rest : List MeshMsg), s.on = true → s.mesh = m :: rest →
    physOf s (m.dst / 9) (m.dst % 9) = k → m.arrive ≤ tclkNow s → (s.group (m.dst / 9)).session = some m.session → m.gateway = false →
    (s.tile k).step = none → landingOf (s.tile k) m.addr m.data.length = none →
    After (.meshArrival k) s fun t => t.mesh = rest ∧ (t.tile k).sram = (s.tile k).sram ∧
      (t.tile k).discarded = sat32 (s.tile k).discarded 1 ∧ (t.tile k).slips = sat32 (s.tile k).slips 1)

/-- R116, R119, R120, R122, R125, R127 to R129, R132, R133, R135. -/
def Obligations.NumberRules : Prop :=
  let isNan := fun (a : Nat) => 0x7F800000 < a % 2 ^ 31
  let subnormal := fun (a : Nat) => a % 2 ^ 31 ≠ 0 ∧ a % 2 ^ 31 < 2 ^ 23
  (∀ (ftz : Bool) (a b c : W32), (isNan (fmaOp ftz a.toNat b.toNat c.toNat).1 → (fmaOp ftz a.toNat b.toNat c.toNat).1 = 0x7FC00000) ∧
    (ftz = true → ¬ subnormal (fmaOp ftz a.toNat b.toNat c.toNat).1) ∧
    (isNan a.toNat ∨ isNan b.toNat ∨ isNan c.toNat → (fmaOp ftz a.toNat b.toNat c.toNat).1 = 0x7FC00000) ∧
    (a.toNat % 2 ^ 31 = 0x7F800000 → b.toNat % 2 ^ 31 = 0 → fmaOp ftz a.toNat b.toNat c.toNat = (0x7FC00000, 1))) ∧
  (∀ (ftz m : Bool) (a b : W32), (isNan a.toNat → isNan b.toNat → (minMax ftz m a.toNat b.toNat).1 = 0x7FC00000) ∧
    (isNan a.toNat → ¬ isNan b.toNat → ftz = false → (minMax ftz m a.toNat b.toNat).1 = b.toNat) ∧
    (¬ isNan a.toNat → isNan b.toNat → ftz = false → (minMax ftz m a.toNat b.toNat).1 = a.toNat) ∧
    (ftz = false → minMax false false 0x80000000 0 = (0x80000000, 0) ∧ minMax false true 0x80000000 0 = (0, 0))) ∧
  (∀ ftz : Bool, (∀ a : W32, a.toNat % 2 ^ 31 = 0 → (exp2Op ftz a.toNat = (0x3F800000, 0) ∧ log2Op ftz a.toNat = (0xFF800000, 2) ∧
      rcpOp ftz a.toNat = (a.toNat + 0x7F800000, 2) ∧ rsqrtOp ftz a.toNat = (a.toNat + 0x7F800000, 2) ∧ sqrtOp ftz a.toNat = (a.toNat, 0) ∧
      tanhOp ftz a.toNat = (a.toNat, 0) ∧ sigmoidOp ftz a.toNat = (0x3F000000, 0))) ∧
    (∀ a : W32, 0x80000000 < a.toNat → a.toNat ≤ 0xFF800000 → ftz = false → (sqrtOp ftz a.toNat = (0x7FC00000, 1) ∧
      rsqrtOp ftz a.toNat = (0x7FC00000, 1) ∧ log2Op ftz a.toNat = (0x7FC00000, 1)))) ∧
  (∀ (ftz rtz : Bool) (a : W32), (isNan a.toNat → toInt 32 ftz rtz a.toNat = (0, 1)) ∧
    (0x4F000000 ≤ a.toNat → a.toNat ≤ 0x7F800000 → toInt 32 ftz rtz a.toNat = (0x7FFFFFFF, 33)) ∧
    (0xCF000001 ≤ a.toNat → a.toNat ≤ 0xFF800000 → toInt 32 ftz rtz a.toNat = (0x80000000, 33))) ∧
  (∀ (k : Nat) (ftz rtz : Bool), k < 2 ^ 24 → (ofInt32 k).2 = 0 ∧ toInt 32 ftz rtz (ofInt32 k).1 = (k, 0)) ∧
  (∀ (ftz : Bool) (fmt : Nat) (xs : List W32), ((∃ x ∈ xs, 0x7F800000 ≤ x.toNat % 2 ^ 31) → mxScale ftz fmt (xs.map BitVec.toNat) = 0xFF) ∧
    ((∀ x ∈ xs, x.toNat % 2 ^ 31 = 0) → mxScale ftz fmt (xs.map BitVec.toNat) = 0)) ∧
  (∀ (ftz : Bool) (fa sa fw sw : Nat) (a w : List Nat), (sa = 0xFF ∨ sw = 0xFF → mxChunk ftz fa sa fw sw a w = (0x7FC00000, 0)) ∧
    (sa < 0xFF → sw < 0xFF → (∀ x ∈ a, ∃ n m e, mxElem fa x = .fin n m e) → (∀ x ∈ w, ∃ n m e, mxElem fw x = .fin n m e) →
      ∃ (n : Bool) (m : Nat) (e : Int), mxChunk ftz fa sa fw sw a w = pack fp32 false ftz n m (e + sa + sw - 254) ∧
        ∀ q : Nat, -(q : Int) ≤ e → (∀ x ∈ a.zip w, ∀ n1 m1 e1 n2 m2 e2, mxElem fa x.1 = .fin n1 m1 e1 → mxElem fw x.2 = .fin n2 m2 e2 → -(q : Int) ≤ e1 + e2) →
          (if n then -(m : Int) else m) * 2 ^ (e + q).toNat = ((a.zip w).map fun x => match mxElem fa x.1, mxElem fw x.2 with
            | .fin n1 m1 e1, .fin n2 m2 e2 => (if n1 = n2 then ((m1 * m2 : Nat) : Int) else -((m1 * m2 : Nat) : Int)) * 2 ^ (e1 + e2 + q).toNat
            | _, _ => 0).foldl (· + ·) 0)) ∧
  (∀ (acc : W32) (c : Int), (BitVec.ofNat 32 (intAcc acc.toNat c).1 = acc + BitVec.ofInt 32 c) ∧
    ((intAcc acc.toNat c).2 = 64 ↔ (acc + BitVec.ofInt 32 c).toInt ≠ acc.toInt + c))

/-- R219, R220, R222, R223, R229. -/
def Obligations.PlotSpace : Prop :=
  (∀ n i j off off' : Nat, 1 ≤ n → n ≤ 4 → off < 2 ^ 30 → off' < 2 ^ 30 → place i off n = place j off' n → i = j ∧ off = off') ∧
  (∀ i off : Nat, (place i off 4).1 = quarter off) ∧
  (∀ (s : State) (o : Owner) (a : Nat), (2 ^ 40 ≤ a ∨ slotPlot s o (a / 2 ^ 30) = none) → translate s o a = none) ∧
  (∀ (s : State) (o : Owner) (a n off : Nat), translate s o a = some (n, off) → (plotAt s n).owner = o ∧ off = a % 2 ^ 30 ∧
    ((plotAt s n).state = .assigned ∨ (plotAt s n).state = .lost)) ∧
  (∀ (s t : State) (o : Owner) (a n off : Nat) (data : Bytes), Mem.wf s.dram.bytes = true → translate s o a = some (n, off) →
    off + data.length ≤ 2 ^ 30 → data ≠ [] → n < 1024 → (∀ w ∈ s.dram.poison, 32 * w + 32 ≤ dpaOf n off ∨ dpaOf n off + data.length ≤ 32 * w) →
    writeRaw s o a data = (.done, t) → readPlot t o a data.length = .bytes data ∧
      (∀ m k, m ≠ n → m < 1024 → k < 2 ^ 30 → plotByte t m k = plotByte s m k) ∧ Mem.wf t.dram.bytes = true ∧ t = { s with dram := t.dram })

/-- R29, R226, R237, R238, R242. -/
def Obligations.NearMemory : Prop :=
  (∀ (s : State) (tag : BitVec 17) (o a len pattern n off : Nat), s.on = true → tagOwner tag.toNat = some o →
    translate s o a = some (n, off) → translates s o a len = true → guarded s o a len = false → a % 32 = 0 → len % 32 = 0 → 0 < len →
    a % 2 ^ 30 + len ≤ 2 ^ 30 → (plotAt s n).state = .assigned → keyHeld s (plotAt s n) = true → Mem.wf s.dram.bytes = true →
    After (.fill tag a len pattern) s fun t =>
      (∀ b, t.dram.bytes.read b = if dpaOf n off ≤ b ∧ b < dpaOf n off + len then BitVec.ofNat 8 (pattern / 256 ^ ((b - dpaOf n off) % 8))
        else s.dram.bytes.read b) ∧ (∀ w ∈ t.dram.poison, w ∈ s.dram.poison) ∧ t = { s with dram := t.dram }) ∧
  (∀ (s : State) (tag : BitVec 17) (o a len pattern : Nat), s.on = true → tagOwner tag.toNat = some o → translates s o a len = false →
    After (.fill tag a len pattern) s fun t => Violated s t a tag.toNat 3 len 0xFFF 0xFFFF ∧ t = { s with vio := t.vio, mon := t.mon }) ∧
  (∀ (s : State) (tag : BitVec 17) (o dst src len n m j k : Nat), s.on = true → tagOwner tag.toNat = some o → translate s o dst = some (n, j) →
    translate s o src = some (m, k) → n ≠ m → n < 1024 → m < 1024 → j + len ≤ 2 ^ 30 → k + len ≤ 2 ^ 30 → dst % 32 = 0 → src % 32 = 0 → len % 32 = 0 → 0 < len →
    overlap dst len src len = false → guarded s o dst len = false → (plotAt s n).state = .assigned → (plotAt s m).state = .assigned →
    keyHeld s (plotAt s n) = true → keyHeld s (plotAt s m) = true → s.dram.poison = [] → Mem.wf s.dram.bytes = true →
    After (.copy tag dst src len) s fun t => (∀ i, i < len → plotByte t n (j + i) = plotByte s m (k + i)) ∧
      (∀ i p, p ≠ n → p < 1024 → i < 2 ^ 30 → plotByte t p i = plotByte s p i) ∧ t = { s with dram := t.dram }) ∧
  (∀ (s : State) (tag : BitVec 17) (o dst src len : Nat), s.on = true → tagOwner tag.toNat = some o → translates s o src len = false →
    After (.copy tag dst src len) s fun t => Violated s t (copyMiss s o dst src len) tag.toNat 3 len 0xFFF 0xFFFF ∧ t = { s with vio := t.vio, mon := t.mon }) ∧
  (∀ (s : State) (op n die index : Nat) (o : LongOp), s.on = true → s.longOps.get? op = some o → die < 2 → index < mapLimit s die → index < 512 →
    n = 512 * die + index → o.data = .fill 16 true (dpaOf n 0) (2 ^ 30) 0 → (plotAt s n).state = .dirty →
    After (.fillComplete op) s fun t => (plotAt t n).state = .free ∧ (plotAt t n).owner = 16 ∧
      (∀ b, b < 2 ^ 30 → t.dram.bytes.read (dpaOf n b) = 0) ∧ t.longOps.get? op = none) ∧
  (∀ (s : State) (op n die index pattern : Nat) (o : LongOp), s.on = true → s.longOps.get? op = some o → die < 2 → index < mapLimit s die →
    index < 512 → n = 512 * die + index → pattern ≠ 0 → o.data = .fill 16 true (dpaOf n 0) (2 ^ 30) pattern → (plotAt s n).state = .dirty →
    After (.fillComplete op) s fun t => (plotAt t n).state = .dirty ∧ t.longOps.get? op = none) ∧
  (∀ (s : State) (op owner dst src len : Nat) (o : LongOp), s.on = true → s.longOps.get? op = some o → o.data = .copy owner dst src len →
    guarded s owner dst len = false → (copyPlots owner (len / 32) dst src s).1 = OK →
    After (.copyComplete op) s fun t => t.longOps.get? op = none ∧ t.dram = (copyPlots owner (len / 32) dst src s).2.dram)

/-- R227 to R235. -/
def Obligations.StackErrors : Prop :=
  (∀ (s : State) (k : Fin 8) (slice dpa : Nat), s.on = true → unitIn s (uStack k) = true →
    granuleDpa s k (s.stack k).granule = some dpa → ¬ s.dram.poison.contains (dpa / 32) → (s.stack k).retired = [] →
    (s.stack k).seen = [] → (s.stack k).rowErrors = [] → (s.stack k).quadBad = [] → (s.stack k).log.length < 256 →
    (s.stack k).granule + 1 < granules s →
    After (.stackScrubRead k none [(1, slice)]) s fun t => (t.stack k).corrected = sat32 (s.stack k).corrected 1 ∧
      (t.stack k).passCorrected = (s.stack k).passCorrected + 1 ∧ (t.stack k).granule = (s.stack k).granule + 1 ∧
      (∃ r, (t.stack k).log = (s.stack k).log ++ [r] ∧ r.kind = 1 ∧ r.dpa = dpa ∧ r.foundBy = 1 ∧ r.slice = slice % 72) ∧
      (t.stack k).repair = (s.stack k).repair ∧ t.dram.bytes = s.dram.bytes ∧ t.dram.poison = s.dram.poison ∧
      (∀ j, j ≠ k.val → t.stack j = s.stack j) ∧ SameButReports { s with dram := t.dram } t) ∧
  (∀ (s : State) (k : Fin 8) (g slice dpa : Nat), s.on = true → unitIn s (uStack k) = true → granuleDpa s k g = some dpa →
    dpa % 32 = 0 → ¬ s.dram.poison.contains (dpa / 32) → (s.stack k).quadBad = [] → (s.stack k).moving = [] → (s.stack k).rowsUsed = [] →
    After (.stackScrubRead k (some g) [(2, slice)]) s fun t => dpa / 32 ∈ t.dram.poison ∧ t.dram.bytes = s.dram.bytes ∧
      (t.stack k).uncorrectable = sat32 (s.stack k).uncorrectable 1 ∧ (t.stack k).corrected = (s.stack k).corrected ∧
      (t.stack k).repair = sat32 (s.stack k).repair 1 ∧ (t.stack k).moving.length = 1 ∧ (t.stack k).granule = (s.stack k).granule ∧
      SameButReports { s with dram := t.dram } t) ∧
  (∀ (s : State) (k : Fin 8), s.on = true → unitIn s (uStack k) = true → (s.stack k).granule + 1 = granules s → (s.stack k).quadBad = [] →
    After (.stackScrubRead k none []) s fun t => (t.stack k).granule = 0 ∧ (t.stack k).passes = (s.stack k).passes + 1 ∧
      (t.stack k).passCorrected = 0 ∧ (t.stack k).hours = (s.stack k).nextHours ∧ (t.stack k).corrected = (s.stack k).corrected ∧
      t = { s with dram := t.dram }) ∧
  (∀ (s : State) (k : Fin 8) (row : Nat) (column : Bool), After (.repairMoveComplete k row column) s fun t =>
    (row, column) ∉ (t.stack k).moving ∧ (∀ x ∈ (s.stack k).moving, x ≠ (row, column) → x ∈ (t.stack k).moving) ∧
      t.dram.bytes = s.dram.bytes ∧ t.dram.poison = s.dram.poison ∧ t = { s with dram := t.dram }) ∧
  (∀ (s : State) (k quad : Fin 8) (ns : Nat), s.on = true → unitIn s (uStack k) = true →
    After (.refreshBurst k quad ns) s fun t => (t.stack k).refresh.get? quad = some (s.lc + min ns 350) ∧ t.dram.bytes = s.dram.bytes ∧
      t = { s with dram := t.dram })

/-- R225, R246 to R249. -/
def Obligations.LosingStacks : Prop :=
  (∀ (s : State) (k : Fin 8), s.on = true → (s.stack k).failed = false → (s.units.get? (uStack k)).isSome = true → k.val ∈ mapOf s (k / 4) →
    (∃ j ∈ mapOf s (k / 4), j ≠ k.val) → s.longOps = [] →
    After (.stackFailed k) s fun t => (t.stack k).failed = true ∧ mapOf t (k / 4) = (mapOf s (k / 4)).filter (fun j => decide (j ≠ k.val)) ∧
      k.val / 4 ∈ t.dram.rebuilding ∧
      (∀ n, n / 512 = k.val / 4 → 4 ≤ n % 512 → (plotAt s n).state = .assigned → (plotAt t n).state = .lost ∧ (plotAt t n).owner = (plotAt s n).owner) ∧
      (∀ n, n / 512 ≠ k.val / 4 → plotAt t n = plotAt s n) ∧ (∃ l, t.faultLog = s.faultLog ++ l) ∧ t.dram.bytes = s.dram.bytes ∧
      t.dram.slots = s.dram.slots ∧ t.clk = s.clk) ∧
  (∀ (s : State) (d : Fin 2), s.on = true → d.val ∈ s.dram.rebuilding → (∀ x ∈ s.longOps, ∀ p n, x.2.data ≠ .plotQuota p n) →
    After (.reservedRebuildComplete d) s fun t => d.val ∉ t.dram.rebuilding ∧
      (∀ n, n / 512 = d → (plotAt s n).state = .lost → mapLimit s d ≤ n % 512 → t.dram.plots.get? n = none ∧
        ∀ k, t.dram.slots.get? k ≠ some n) ∧
      (∀ n, n % 512 < mapLimit s d → plotAt t n = plotAt s n) ∧ t.dram.bytes = s.dram.bytes ∧ SameBut { s with dram := t.dram } t) ∧
  (∀ (s : State) (d : Fin 2) (n : Nat), s.on = true → d.val ∉ s.dram.rebuilding → nextLost s d = some n → n < 1024 →
    (plotAt s n).released = false → After (.plotZeroingComplete d) s fun t => (plotAt t n).state = .assigned ∧
      (plotAt t n).owner = (plotAt s n).owner ∧ (plotAt t n).slot = (plotAt s n).slot ∧
      (∀ b, b < 2 ^ 30 → t.dram.bytes.read (dpaOf n b) = 0) ∧ (∀ m, m ≠ n → plotAt t m = plotAt s m) ∧ SameBut { s with dram := t.dram } t) ∧
  (∀ (s : State) (d : Fin 2) (n : Nat), s.on = true → d.val ∉ s.dram.rebuilding → nextLost s d = some n → n < 1024 →
    (plotAt s n).released = true → After (.plotZeroingComplete d) s fun t => (plotAt t n).state = .dirty ∧ (plotAt t n).owner = 16 ∧
      (∀ b, b < 2 ^ 30 → t.dram.bytes.read (dpaOf n b) = 0) ∧ t = { s with dram := t.dram }) ∧
  (∀ (s : State) (d : Fin 2) (m : StackMove) (op : Nat) (o : LongOp), s.on = true → s.dram.moves.get? d = some m → m.adding = false →
    s.longOps = [(op, o)] → o.data = .stackRemove m.stack →
    After (.stackMoveComplete d) s fun t => mapOf t d = (mapOf s d).filter (fun j => decide (j ≠ m.stack)) ∧ t.dram.moves.get? d = none ∧
      (t.units.getD (uStack m.stack) {}).state = .out ∧ t.longOps = [] ∧ t.dram.bytes = s.dram.bytes ∧
      (∀ n, n / 512 = d → n % 512 < mapLimit t d → plotAt t n = plotAt s n)) ∧
  (∀ (s : State) (d : Fin 2) (m : StackMove) (op : Nat) (o : LongOp), s.on = true → s.dram.moves.get? d = some m → m.adding = true →
    s.longOps = [(op, o)] → o.data = .stackRestore m.stack → m.stack < 8 →
    After (.stackMoveComplete d) s fun t => m.stack ∈ mapOf t d ∧ (∀ j ∈ mapOf s d, j < 8 → j ∈ mapOf t d) ∧ t.dram.moves.get? d = none ∧
      (t.units.getD (uStack m.stack) {}).state = .inService ∧ t.longOps = [] ∧ t.dram.plots = s.dram.plots ∧
      (∀ i b, mapLimit s d ≤ i → i < 512 → b < 2 ^ 30 → t.dram.bytes.read (dpaOf (512 * d + i) b) = 0))

/-- R225, R226, R231, R238, R243, R248, R249, R370, R376. -/
def Obligations.PlotRequests : Prop :=
  (∀ (s : State) (q : Req) (part die count f : Nat) (r : BufRef) (host : HostData), Served s q 0x0401 32 .operator → part < 16 →
    partExists s part = true → die < 2 → 1 ≤ count → count ≤ 380 → refZero r = true → s.dram.quickset = false → (mapOf s die).length ≤ 4 →
    count ≤ (freePlots s die).length → freeRun s part count 1024 0 = some f → plotsHeld s part + count ≤ plotQuota s part →
    After (.plotAssign q part 1 die count 0xFFFF r host) s fun t =>
      (∀ j n, j < count → (freePlots s die)[j]? = some n → (plotAt t n).state = .assigned ∧ (plotAt t n).owner = part ∧
        slotPlot t part (f + j) = some n) ∧ t.dram.bytes = s.dram.bytes ∧
      (∀ n, n ∉ (freePlots s die).take count → plotAt t n = plotAt s n) ∧
      Replied s t q 0x0401 OK (le 2 f ++ zeros 2 ++ le 4 count) ∧ SameBut { s with dram := t.dram } t) ∧
  (∀ (s : State) (q : Req) (part d : Nat) (r : BufRef) (bs : Bytes), Served s q 0x0401 32 .operator → part < 16 → partExists s part = true →
    s.dram.quickset = false → r.space = 1 → 8 ≤ r.len → dpaBad s (fieldAt bs 0 8) = false → bs.length = r.len → d = fieldAt bs 0 8 →
    (plotAt s (plotNo (bitsOf d 39 39) (bitsOf d 38 30))).state ≠ .free →
    After (.plotAssign q part 2 0 1 0xFFFF r (.data bs)) s fun t => Replied s t q 0x0401 IN_USE [] ∧ SameBut s t) ∧
  (∀ (s : State) (q : Req) (slot n : Nat), Served s q 0x0402 8 .opOrTenant → (whoOf s q.mbx).inst ≠ 0xFFFF → (whoOf s q.mbx).op = false →
    ownerExists s (whoOf s q.mbx).owner = true → s.boot.opAbsent = false → slot < 1024 → slotPlot s (whoOf s q.mbx).owner slot = some n →
    slotInUse s (whoOf s q.mbx).owner slot = false → plotBusy s n = false → (∀ x ∈ s.longOps, ∀ p n, x.2.data ≠ .plotQuota p n) →
    After (.plotRelease q 0 slot 1) s fun t => slotPlot t (whoOf s q.mbx).owner slot = none ∧ (plotAt t n).owner = 16 ∧
      ((plotAt s n).state ≠ .lost → (plotAt t n).state = .dirty) ∧ ((plotAt s n).state = .lost → (plotAt t n).state = .lost ∧ (plotAt t n).released = true) ∧
      t.dram.bytes = s.dram.bytes ∧ Replied s t q 0x0402 OK [] ∧ SameBut { s with dram := t.dram } t) ∧
  (∀ (s : State) (q : Req) (slot n : Nat), Served s q 0x0402 8 .opOrTenant → (whoOf s q.mbx).op = false →
    ownerExists s (whoOf s q.mbx).owner = true → slot < 1024 → slotPlot s (whoOf s q.mbx).owner slot = some n →
    slotInUse s (whoOf s q.mbx).owner slot = true →
    After (.plotRelease q 0 slot 1) s fun t => Replied s t q 0x0402 IN_USE [] ∧ SameBut s t) ∧
  (∀ (s : State) (q : Req) (first count : Nat) (out : BufRef), Served s q 0x0403 24 .opOrTenant → (whoOf s q.mbx).op = false →
    ownerExists s (whoOf s q.mbx).owner = true → 1 ≤ count → first + count ≤ 1024 → out.space = 1 → count ≤ out.len →
    After (.plotQuery q 0 first count out) s fun t => SameBut s t ∧
      Replied s t q 0x0403 OK (le 4 ((List.range count).countP fun j => (slotPlot s (whoOf s q.mbx).owner (first + j)).isSome) ++ zeros 4)) ∧
  (∀ (s : State) (q : Req) (addr len pattern : Nat), Served s q 0x0404 32 .opOrTenant → (whoOf s q.mbx).op = false →
    ownerExists s (whoOf s q.mbx).owner = true → fillFits s (whoOf s q.mbx).owner addr len = true → guarded s (whoOf s q.mbx).owner addr len = false →
    s.longOps = [] → After (.memFill q 0 0 addr len pattern) s fun t => Accepted s t q 0x0404 ACCEPTED ∧ t.dram = s.dram ∧
      SameBut { s with longOps := t.longOps, opNo := t.opNo } t) ∧
  (∀ (s : State) (q : Req) (addr len pattern : Nat), Served s q 0x0404 32 .opOrTenant → (whoOf s q.mbx).op = false →
    guarded s (whoOf s q.mbx).owner addr len = false → len % 32 ≠ 0 →
    After (.memFill q 0 0 addr len pattern) s fun t => Replied s t q 0x0404 INVALID [] ∧ SameBut s t) ∧
  (∀ (s : State) (q : Req) (dst src len : Nat), Served s q 0x0405 32 .opOrTenant → (whoOf s q.mbx).op = false →
    ownerExists s (whoOf s q.mbx).owner = true → copyFits s (whoOf s q.mbx).owner dst src len = true →
    guarded s (whoOf s q.mbx).owner dst len = false → s.longOps = [] →
    After (.memCopy q 0 dst src len) s fun t => Accepted s t q 0x0405 ACCEPTED ∧ t.dram = s.dram ∧
      SameBut { s with longOps := t.longOps, opNo := t.opNo } t) ∧
  (∀ (s : State) (q : Req) (slot clear n : Nat), Served s q 0x040B 8 .operator → slotPlot s 16 slot = some n → clear < 2 →
    (plotAt s n).state = .assigned → plotBusy s n = false → s.ckp = none →
    After (.plotClearSet q slot clear) s fun t => (plotAt t n).clear = decide (clear = 1) ∧ (plotAt t n).owner = (plotAt s n).owner ∧
      t.dram.bytes = s.dram.bytes ∧ Replied s t q 0x040B OK [] ∧ SameBut { s with dram := t.dram, free := t.free } t) ∧
  (∀ (s : State) (q : Req) (p quota : Nat), Served s q 0x040C 8 .operator → p < 16 → quota ≤ 760 → partExists s p = true → s.longOps = [] →
    plotsHeld s p ≤ quota →
    After (.plotQuotaSet q p quota) s fun t => t.dram.quotas.get? p = some quota ∧ Completed s t q 0x040C OK [] ∧ t.longOps = [] ∧
      SameBut { s with dram := t.dram, opNo := t.opNo } t) ∧
  (∀ (s : State) (q : Req) (k : Nat), Served s q 0x0408 8 .operator → k < 8 →
    After (.memCountsRead q k 1) s fun t => (t.stack k).corrected = 0 ∧ (t.stack k).uncorrectable = 0 ∧ (t.stack k).poisonRead = 0 ∧
      (t.stack k).poisonedWrite = 0 ∧ (t.stack k).repair = 0 ∧ (t.stack k).passCorrected = (s.stack k).passCorrected ∧
      Replied s t q 0x0408 OK (countsBody (s.stack k)) ∧ SameBut { s with dram := t.dram } t) ∧
  (∀ (s : State) (q : Req) (k : Nat), Served s q 0x0408 8 .operator → k < 8 →
    After (.memCountsRead q k 0) s fun t => Replied s t q 0x0408 OK (countsBody (s.stack k)) ∧ SameBut s t) ∧
  (∀ (s : State) (q : Req) (k count first : Nat) (out : BufRef), Served s q 0x0409 24 .operator → k < 8 → 1 ≤ count → count ≤ 256 →
    out.space = 1 → 32 * count ≤ out.len →
    After (.memErrorLogRead q k count first out) s fun t => SameBut s t ∧
      Replied s t q 0x0409 OK (le 4 (s.stack k).log.length ++ le 4 (s.stack k).overwrites)) ∧
  (∀ (s : State) (q : Req) (hours : Nat), Served s q 0x040A 8 .operator → 1 ≤ hours → hours ≤ 168 →
    After (.scrubSet q 0xFF hours) s fun t => (∀ k, k < 8 → (t.stack k).nextHours = hours ∧ (t.stack k).hours = (s.stack k).hours) ∧
      Replied s t q 0x040A OK [] ∧ SameBut { s with dram := t.dram } t) ∧
  (∀ (s : State) (q : Req) (k rate : Nat), Served s q 0x0406 8 .operator → s.full = true → k < 8 → 500 ≤ rate → rate ≤ 2500 →
    k ∈ mapOf s (k / 4) → 2 ≤ (mapOf s (k / 4)).length → s.dram.moves.get? (k / 4) = none → emergency s = false →
    (∀ n p, (n, p) ∈ s.dram.plots → n / 512 = k / 4 → (if s.fuses.lx then 96 else 48) * ((mapOf s (k / 4)).length - 1) ≤ n % 512 →
      (plotAt s n).state = .free) →
    After (.stackRemove q k rate) s fun t => Accepted s t q 0x0406 ACCEPTED ∧
      t.dram.moves.get? (k / 4) = some { stack := k, adding := false, rate := rate } ∧ mapOf t (k / 4) = mapOf s (k / 4) ∧
      SameBut { s with dram := t.dram, longOps := t.longOps, opNo := t.opNo } t) ∧
  (∀ (s : State) (q : Req) (k : Nat), Served s q 0x0407 8 .operator → s.full = true → k < 8 → k ∉ mapOf s (k / 4) → stackIdle s k = true →
    s.dram.moves.get? (k / 4) = none → emergency s = false → (s.stack k).failed = false → heldOut s (uStack k) = false →
    After (.stackRestore q k 0) s fun t => Accepted s t q 0x0407 ACCEPTED ∧
      t.dram.moves.get? (k / 4) = some { stack := k, adding := true, rate := 1000 } ∧
      SameBut { s with dram := t.dram, longOps := t.longOps, opNo := t.opNo } t)

/-- R251, R258 to R262, R282. Which good lanes a retrain takes is the model's choice; the statement does not fix it. -/
def Obligations.LinkTraining : Prop :=
  (∀ (s : State) (p : Fin 8), s.on = true → s.full = true → (s.zal p).enabled = true → (s.zal p).inService = false →
    (s.zal p).link ≠ .retraining → unitIn s (uZal p) = true → ((s.zal p).lastAttempt = 0 ∨ (s.zal p).lastAttempt + 1000000000 ≤ s.lc) →
    After (.zalTrainingAttempt p) s fun t => (t.zal p).link = .training ∧ (t.zal p).lastAttempt = s.lc ∧ PortOnly s t p ∧ t.emitted = s.emitted) ∧
  (∀ (s : State) (p : Fin 8), (s.full = false ∨ (s.zal p).enabled = false) → After (.zalTrainingAttempt p) s fun t => t = s) ∧
  (∀ (s : State) (p : Fin 8) (rx tx : BitVec 40), s.on = true → (s.zal p).link = .training → mapOk rx.toNat = true → mapOk tx.toNat = true →
    After (.zalLinkUp p rx tx) s fun t => t.emitted = .zalControl p 1 0 :: s.emitted ∧ (t.zal p).link = .up ∧ (t.zal p).initSent = true ∧
      (t.zal p).inService = (s.zal p).inService ∧ (t.zal p).rxMap = rx.toNat ∧ (t.zal p).txMap = tx.toNat ∧ PortOnly s t p) ∧
  (∀ (s : State) (p : Fin 8) (seq : BitVec 12) (req rsp blk tok limit : Nat), s.on = true → (s.zal p).link = .up → seq.toNat = (s.zal p).rxSeq →
    33 ≤ req → 33 ≤ tok → 66 ≤ rsp → 66 ≤ blk → 1 ≤ limit → limit ≤ 4096 → (s.zal p).initSent = true → (s.zal p).txWait = [] →
    After (.init p seq 1 req rsp blk tok limit false) s fun t => (t.zal p).inService = true ∧ (t.zal p).peerLimit = limit ∧
      (t.zal p).credits = [(0, req), (1, rsp), (2, blk), (3, tok)] ∧ (t.zal p).rxSeq = ((s.zal p).rxSeq + 1) % 4096 ∧
      (t.zal p).protocolErrors = (s.zal p).protocolErrors ∧ PortOnly s t p ∧ t.emitted = s.emitted) ∧
  (∀ (s : State) (p : Fin 8) (seq : BitVec 12) (version req rsp blk tok limit : Nat), s.on = true → (s.zal p).link = .up → seq.toNat = (s.zal p).rxSeq →
    (version ≠ 1 ∨ req < 33 ∨ tok < 33 ∨ rsp < 66 ∨ blk < 66) →
    After (.init p seq version req rsp blk tok limit false) s fun t => (t.zal p).inService = (s.zal p).inService ∧
      (t.zal p).protocolErrors = sat32 (s.zal p).protocolErrors 1 ∧ PortOnly s t p ∧ t.emitted = s.emitted) ∧
  (∀ (s : State) (p : Fin 8) (seq : BitVec 12) (version req rsp blk tok limit : Nat), s.on = true → (s.zal p).link = .up → seq.toNat ≠ (s.zal p).rxSeq →
    (s.zal p).inGap = false → After (.init p seq version req rsp blk tok limit false) s fun t => (t.zal p).inGap = true ∧
      t.emitted = .zalAck p (((s.zal p).rxSeq + 4095) % 4096) true :: s.emitted ∧ (t.zal p).rxSeq = (s.zal p).rxSeq ∧
      (t.zal p).inService = (s.zal p).inService ∧ PortOnly s t p) ∧
  (∀ (s : State) (p : Fin 8) (seq : BitVec 12) (map : BitVec 40), s.on = true → (s.zal p).link = .up → seq.toNat = (s.zal p).rxSeq →
    mapOk map.toNat = true → (s.zal p).txWait = [] → (s.zal p).unacked.length < 512 →
    After (.laneMap p seq map false) s fun t => t.emitted = .zalControl p 3 0 :: s.emitted ∧ (t.zal p).txMap = map.toNat ∧
      (t.zal p).txNarrow = narrow map.toNat ∧ (t.zal p).rxMap = (s.zal p).rxMap ∧ PortOnly s t p) ∧
  (∀ (s : State) (p : Fin 8) (seq : BitVec 12) (m : Nat), s.on = true → (s.zal p).link = .up → seq.toNat = (s.zal p).rxSeq → (s.zal p).rxNext = some m →
    After (.mapSwitch p seq false) s fun t => (t.zal p).rxMap = m ∧ (t.zal p).rxNarrow = narrow m ∧ (t.zal p).rxNext = none ∧
      (t.zal p).txMap = (s.zal p).txMap ∧ PortOnly s t p ∧ t.emitted = s.emitted) ∧
  (∀ (s : State) (p : Fin 8) (lane : Fin 12) (g : Nat), s.on = true → (s.zal p).link = .up → (s.zal p).rxFailed.testBit lane = false →
    (s.zal p).rxNext = none → mapOk (s.zal p).rxMap = true → lane.val ∈ mapLanes (s.zal p).rxMap → g < 12 → g ∉ mapLanes (s.zal p).rxMap →
    (s.zal p).rxFailed.testBit g = false → (∀ l ∈ mapLanes (s.zal p).rxMap, l ≠ lane → (s.zal p).rxFailed.testBit l = false) →
    (s.zal p).txWait = [] → (s.zal p).unacked.length < 512 →
    After (.lanePredictedFailed p lane) s fun t => ∃ m, t.emitted = .zalControl p 2 m :: s.emitted ∧ (t.zal p).rxNext = some m ∧
      (t.zal p).rxMap = (s.zal p).rxMap ∧ lane.val ∉ mapLanes m ∧ (mapLanes m).length = (mapLanes (s.zal p).rxMap).length ∧
      (∀ l ∈ mapLanes (s.zal p).rxMap, l ≠ lane → l ∈ mapLanes m) ∧ (t.zal p).rxFailed.testBit lane = true ∧ PortOnly s t p) ∧
  (∀ (s : State) (p : Fin 8) (lane : Fin 12), s.on = true → (s.zal p).rxFailed.testBit lane = true → ¬ s.clk.down.contains (laneClock p lane) →
    narrow (((s.zal p).rxNext).getD (s.zal p).rxMap) = false →
    After (.laneTestPass p lane) s fun t => (t.zal p).rxFailed.testBit lane = false ∧
      (∀ k, k ≠ lane.val → (t.zal p).rxFailed.testBit k = (s.zal p).rxFailed.testBit k) ∧ PortOnly s t p ∧ t.emitted = s.emitted) ∧
  (∀ (s : State) (p : Fin 8) (lane : Fin 12), s.on = true → (s.zal p).rxFailed.testBit lane = true → ¬ s.clk.down.contains (laneClock p lane) →
    (s.zal p).link = .up → (s.zal p).rxNext = none → narrow (s.zal p).rxMap = true → 9 ≤ (goodRx (s.zal p)).length →
    (s.zal p).txWait = [] → (s.zal p).unacked.length < 512 →
    After (.laneTestPass p lane) s fun t => ∃ m, t.emitted = .zalControl p 2 m :: s.emitted ∧ (t.zal p).rxNext = some m ∧
      (mapLanes m).length = 10 ∧ (∀ l ∈ mapLanes m, l = lane.val ∨ l ∈ goodRx (s.zal p)) ∧ PortOnly s t p) ∧
  (∀ (s : State) (p : Fin 8) (rx tx : BitVec 12) (q : Nat) (l : List Nat), s.on = true → (s.zal p).link = .retraining → (s.zal p).txWait = [] →
    (s.zal p).unacked = q :: l → (s.zal p).retrainTimes = [] → 8 ≤ (lanesIn rx.toNat).length → 8 ≤ (lanesIn tx.toNat).length →
    After (.zalRetrain p rx tx true) s fun t => (t.zal p).link = .up ∧ (t.zal p).retrains = sat32 (s.zal p).retrains 1 ∧
      t.emitted = .zalReplay p q :: s.emitted ∧ (t.zal p).unacked = (s.zal p).unacked ∧ (t.zal p).inService = (s.zal p).inService ∧
      (mapLanes (t.zal p).rxMap).length = (if 10 ≤ (lanesIn rx.toNat).length then 10 else 8) ∧
      (mapLanes (t.zal p).txMap).length = (if 10 ≤ (lanesIn tx.toNat).length then 10 else 8) ∧
      (∀ k ∈ mapLanes (t.zal p).rxMap, rx.toNat.testBit k = true) ∧ (∀ k ∈ mapLanes (t.zal p).txMap, tx.toNat.testBit k = true) ∧ PortOnly s t p) ∧
  (∀ (s : State) (p : Fin 8) (rx tx : BitVec 12) (ok : Bool), s.on = true → ((s.zal p).link = .up ∨ (s.zal p).link = .retraining) →
    (ok = false ∨ (lanesIn rx.toNat).length < 8 ∨ (lanesIn tx.toNat).length < 8) → s.link.runs = [] → s.sessions = [] →
    After (.zalRetrain p rx tx ok) s fun t => (t.zal p).link = .down ∧ (t.zal p).inService = false ∧
      (t.zal p).retrains = sat32 (s.zal p).retrains 1 ∧ (t.zal p).copy = (s.zal p).copy ∧ (t.zal p).owner = (s.zal p).owner ∧
      PortOnly s t p ∧ t.emitted = s.emitted) ∧
  (∀ (s : State) (p : Fin 8) (q : Nat) (l : List Nat), s.on = true → (s.zal p).link = .up → (s.zal p).ackAt + 2000 ≤ s.lc → (s.zal p).unacked = q :: l →
    After (.replayTimeout p) s fun t => t.emitted = .zalReplay p q :: s.emitted ∧ (t.zal p).replays = sat32 (s.zal p).replays 1 ∧
      (t.zal p).link = (if (s.zal p).stuck < 7 then .up else .retraining) ∧ (t.zal p).unacked = (s.zal p).unacked ∧ PortOnly s t p)

/-- R253 to R255, R258, R275 to R277. -/
def Obligations.FlitsAndLookups : Prop :=
  (∀ (s : State) (p : Fin 8) (fec : Bool) (b : Bytes) (pre post : List Nat), s.on = true → (s.zal p).link = .up → b.length = 512 →
    fieldAt b 504 8 = crc64 (b.take 504) → fieldAt b 8 1 = 0 → bitsOf (fieldAt b 0 8) 1 0 = 0 → bitOf (fieldAt b 0 8) 26 = false →
    (s.zal p).unacked = pre ++ bitsOf (fieldAt b 0 8) 25 14 :: post → bitsOf (fieldAt b 0 8) 25 14 ∉ pre → (s.zal p).txWait = [] →
    After (.flitReceive p fec false b) s fun t => (t.zal p).unacked = post ∧ (t.zal p).stuck = 0 ∧
      (t.zal p).credits.getD (bitsOf (fieldAt b 0 8) 40 39) 0 = (s.zal p).credits.getD (bitsOf (fieldAt b 0 8) 40 39) 0 + bitsOf (fieldAt b 0 8) 51 41 ∧
      (∀ c, c ≠ bitsOf (fieldAt b 0 8) 40 39 → (t.zal p).credits.getD c 0 = (s.zal p).credits.getD c 0) ∧
      (t.zal p).accPos = bitsOf (fieldAt b 0 8) 38 27 ∧ (t.zal p).rxSeq = (s.zal p).rxSeq ∧ PortOnly s t p ∧ t.emitted = s.emitted) ∧
  (∀ (s : State) (p : Fin 8) (b : Bytes), s.on = true → (s.zal p).link = .up → (s.zal p).inGap = false →
    After (.flitReceive p false true b) s fun t => (t.zal p).fecUncorrectable = sat32 (s.zal p).fecUncorrectable 1 ∧
      (t.zal p).accPos = ((s.zal p).accPos + 1) % 4096 ∧ (t.zal p).credits = (s.zal p).credits ∧ (t.zal p).unacked = (s.zal p).unacked ∧
      (t.zal p).rxSeq = (s.zal p).rxSeq ∧ PortOnly s t p ∧ ∃ r, t.emitted = .zalAck p (((s.zal p).rxSeq + 4095) % 4096) true ::
        .zalLookup p (((s.zal p).accPos + 1) % 4096) r :: s.emitted ∧ fieldAt r 0 1 = 2 ∧ fieldAt r 1 1 = 2 ∧ fieldAt r 2 1 = 2) ∧
  (∀ (s : State) (p : Fin 8) (b : Bytes), s.on = true → (s.zal p).link = .up → (s.zal p).inGap = true → b.length = 512 →
    fieldAt b 504 8 ≠ crc64 (b.take 504) →
    After (.flitReceive p false false b) s fun t => (t.zal p).crcErrors = sat32 (s.zal p).crcErrors 1 ∧
      (t.zal p).credits = (s.zal p).credits ∧ (t.zal p).unacked = (s.zal p).unacked ∧ (t.zal p).rxSeq = (s.zal p).rxSeq ∧ PortOnly s t p) ∧
  (∀ (s : State) (p : Fin 8) (b : Bytes), s.on = true → (s.zal p).link = .up → b.length = 512 → fieldAt b 504 8 = crc64 (b.take 504) →
    fieldAt b 8 1 = 0 → bitsOf (fieldAt b 0 8) 1 0 = 1 → bitOf (fieldAt b 0 8) 26 = false → bitsOf (fieldAt b 0 8) 13 2 = (s.zal p).rxSeq →
    fieldAt b 40 1 = 0 → (s.zal p).rxPart = [] → (s.zal p).unacked = [] → (s.zal p).txWait = [] →
    After (.flitReceive p false false b) s fun t => (t.zal p).rxSeq = ((s.zal p).rxSeq + 1) % 4096 ∧ (t.zal p).inGap = false ∧ PortOnly s t p ∧
      t.emitted = s.emitted) ∧
  (∀ (s : State) (p : Fin 8) (x : BitVec 12) (b : Bytes), fieldAt b 0 1 = 0 → After (.lookup p x b) s fun t => t = s) ∧
  (∀ (s : State) (p : Fin 8) (x : BitVec 12) (b : Bytes), (s.zal p).link = .up → b.length = 32 → fieldAt b 0 1 = 1 → 2 ^ 60 ≤ fieldAt b 8 8 →
    After (.lookup p x b) s fun t => LookupAnswer s t p x.toNat 3 3 (fieldAt b 8 8) 0 0 0 ∧ PortOnly s t p) ∧
  (∀ (s : State) (p : Fin 8) (x : BitVec 12) (b : Bytes), (s.zal p).link = .up → b.length = 32 → fieldAt b 0 1 = 1 → fieldAt b 1 1 < 2 →
    fieldAt b 3 5 = 0 → fieldAt b 16 16 = 0 → fieldAt b 8 8 < 2 ^ 60 → (∀ e ∈ (s.zal p).cache, e.covers (fieldAt b 2 1) (fieldAt b 8 8) = false) →
    After (.lookup p x b) s fun t => LookupAnswer s t p x.toNat 2 1 (fieldAt b 8 8) 0 0 0 ∧ t.zal p = s.zal p ∧ PortOnly s t p) ∧
  (∀ (s : State) (p : Fin 8) (x : BitVec 12) (b : Bytes) (e : PageEntry), (s.zal p).link = .up → b.length = 32 → fieldAt b 0 1 = 1 → fieldAt b 1 1 < 2 →
    fieldAt b 3 5 = 0 → fieldAt b 16 16 = 0 → fieldAt b 8 8 < 2 ^ 60 → e.size < 3 → e.target < 2 ^ 64 →
    ((s.zal p).cache.find? fun f => f.covers (fieldAt b 2 1) (fieldAt b 8 8)) = some e →
    After (.lookup p x b) s fun t => PortOnly s t p ∧ (∀ f ∈ (t.zal p).cache, f ∈ (s.zal p).cache) ∧
      (if (if fieldAt b 1 1 = 1 then e.write else e.read) = false then LookupAnswer s t p x.toNat 3 1 (fieldAt b 8 8) 0 0 0
       else if mapPort s p (s.zal p).copy (decide (fieldAt b 1 1 = 1)) e.target (pageBytes e.size) = none then
         LookupAnswer s t p x.toNat 3 2 (fieldAt b 8 8) 0 0 0
       else LookupAnswer s t p x.toNat 1 0 (fieldAt b 8 8) e.size e.target (b2n e.read + 2 * b2n e.write)))

/-- R267 to R269, R272, R273, R278, R281; violations by R29 to R32. -/
def Obligations.AcceleratorRequests : Prop :=
  (∀ (s : State) (p : Nat) (copy write : Bool) (b n : Nat), n ≤ 4096 →
    (mapPort s p copy write b n = none ↔ ∃ j, j < n ∧ ∀ a ∈ portApers s p copy, ¬ a.maps write (b + j))) ∧
  (∀ (s : State) (p : Nat) (copy write : Bool) (b n : Nat) (ps : List (Nat × Nat × Nat)), mapPort s p copy write b n = some ps →
    (piecesAddr ps).length = n ∧ ∀ j, j < n → ∃ a ∈ portApers s p copy, a.maps write (b + j) ∧ (piecesAddr ps)[j]? = some (a.target + (b + j - a.base))) ∧
  (∀ (s : State) (p : Fin 8) (m : ZalReq) (ps : List (Nat × Nat × Nat)) (bs : Bytes), Asks s p m 0 → m.aux < 4096 → CanSend s p 1 9 →
    mapPort s p (s.zal p).copy false m.addr (m.aux + 1) = some ps → piecesOk s (s.zal p).owner ps = true →
    accBytes s (s.zal p).owner ps = bs.map (fun b => (b, false)) →
    After (.read p m) s fun t => PortOnly s t p ∧ ∃ ms : List ZalMsg, t.emitted = (ms.map (Emit.zal p 1)).reverse ++ s.emitted ∧ ReadAnswer ms m bs) ∧
  (∀ (s : State) (p : Fin 8) (m : ZalReq), Asks s p m 0 → m.aux < 4096 → CanSend s p 1 9 →
    mapPort s p (s.zal p).copy false m.addr (m.aux + 1) = none →
    After (.read p m) s fun t => Violated s t m.addr (zalTag s p) 1 (m.aux + 1) (0x410 + p) (0x100 + p) ∧
      (∃ ms : List ZalMsg, t.emitted = (ms.map (Emit.zal p 1)).reverse ++ s.emitted ∧ ReadAnswer ms m (zeros (m.aux + 1))) ∧
      PortOnly { s with vio := t.vio, mon := t.mon } t p) ∧
  (∀ (s : State) (p : Fin 8) (m : ZalReq) (a n off : Nat), Asks s p m ((m.aux + 16) / 16) → m.aux < 512 → CanSend s p 1 1 →
    mapPort s p (s.zal p).copy true m.addr (m.aux + 1) = some [(m.addr, a, m.aux + 1)] → translate s (s.zal p).owner a = some (n, off) →
    off + m.aux < 2 ^ 30 → guarded s (s.zal p).owner a (m.aux + 1) = false → (plotAt s n).state = .assigned → keyHeld s (plotAt s n) = true →
    (plotAt s n).garbled = none → s.dram.poison = [] → Mem.wf s.dram.bytes = true →
    After (.write p m) s fun t => t.emitted = .zal p 1 (response m 0x09 0 0 []) :: s.emitted ∧
      (∀ b, t.dram.bytes.read b = if dpaOf n off ≤ b ∧ b ≤ dpaOf n off + m.aux then (padTo (m.aux + 1) m.data).getD (b - dpaOf n off) 0
        else s.dram.bytes.read b) ∧ PortOnly { s with dram := t.dram } t p) ∧
  (∀ (s : State) (p : Fin 8) (m : ZalReq), Asks s p m ((m.aux + 16) / 16) → m.aux < 512 → CanSend s p 1 1 →
    mapPort s p (s.zal p).copy true m.addr (m.aux + 1) = none →
    After (.write p m) s fun t => Violated s t m.addr (zalTag s p) 2 (m.aux + 1) (0x410 + p) (0x100 + p) ∧
      t.emitted = .zal p 1 (response m 0x09 0 0 []) :: s.emitted ∧ PortOnly { s with vio := t.vio, mon := t.mon } t p) ∧
  (∀ (s : State) (p : Fin 8) (m : ZalReq), Asks s p m 0 → m.aux % 256 < 2 → CanSend s p 1 1 → m.addr < 2 ^ 60 →
    (∀ e ∈ s.link.pages.getD (s.zal p).owner [], e.covers (m.aux / 256) m.addr = false) →
    After (.translate p m) s fun t => t.emitted = .zal p 1 (response m 0x0A 0 0 (le 1 3 ++ le 1 4 ++ zeros 14)) :: s.emitted ∧
      (t.zal p).cache = (s.zal p).cache ∧ PortOnly s t p) ∧
  (∀ (s : State) (p : Fin 8) (m : ZalReq) (e : PageEntry), Asks s p m 0 → m.aux % 256 < 2 → CanSend s p 1 1 → m.addr < 2 ^ 60 →
    ((s.link.pages.getD (s.zal p).owner []).find? fun f => f.covers (m.aux / 256) m.addr) = some e →
    (if m.aux % 2 = 1 then e.write else e.read) = true →
    mapPort s p (s.zal p).copy (decide (m.aux % 2 = 1)) e.target (pageBytes e.size) ≠ none →
    After (.translate p m) s fun t => (t.zal p).cache.head? = some e ∧ PortOnly s t p ∧
      t.emitted = .zal p 1 (response m 0x0A 0 0 (le 1 1 ++ le 1 0 ++ le 1 e.size ++ le 1 (b2n e.read + 2 * b2n e.write) ++ zeros 4 ++ le 8 e.target)) ::
        s.emitted) ∧
  (∀ (s : State) (p : Fin 8) (m : ZalReq), Asks s p m 0 → m.aux = 0 → m.addr < 2 ^ 20 → CanSend s p 1 1 →
    (s.zal p).accOut.get? (16 * (m.addr % 65536) + m.addr / 65536) = none → m.addr % 65536 ≠ m.tag →
    After (.abort p m) s fun t => PortOnly s t p ∧ t.emitted = .zal p 1 (response m 0x0C
      (if (s.zal p).accDone.get? (m.addr % 65536) = some (m.addr / 65536) then 2 else 3) m.addr []) :: s.emitted) ∧
  (∀ (s : State) (p : Fin 8) (m : ZalReq) (c : Instr), c ∈ [Instr.read p m, .write p m, .translate p m, .abort p m] → (s.zal p).inService = true →
    mayFetch s (s.zal p).owner = true → partResetting s (s.zal p).owner = false → m.cells ≤ 32 → m.bad = true →
    After c s fun t => (t.zal p).protocolErrors = sat32 (s.zal p).protocolErrors 1 ∧ (t.zal p).accOut = (s.zal p).accOut ∧ PortOnly s t p ∧
      t.emitted = s.emitted)

/-- R273, R274, R280, R281, R290. -/
def Obligations.LinkAnswers : Prop :=
  (∀ (s : State) (p : Fin 8) (m : ZalReq) (r : ZalRequest) (run : DfRun) (st : DfStream) (a : AccRequest) (status written : Nat),
    CanSend s p 1 1 → m.cells = 0 → m.bad = false → m.aux = 0 → m.addr = 0 → m.gen = 0 → (s.zal p).devOut.get? m.tag = some r →
    r.flush = true → r.timedOut = false → r.aborting = false → s.link.runs = [(r.op, run)] → run.stage = .flushing status written →
    s.link.streams.get? run.stream = some st → st.port = some p.val → st.closing = false →
    (s.zal p).accOut.get? (16 * run.zalTag + run.zalGen) = some a → a.op = some r.op → s.pkt.qps = [] →
    After (.flushAck p m) s fun t => t.link.runs = [] ∧ (t.zal p).devOut.get? m.tag = none ∧ (t.track r.op).recorded = true ∧
      (t.zal p).accDone.get? run.zalTag = some run.zalGen ∧ t.dram = s.dram ∧
      t.emitted = .zal p 1 { op := 0x0B, gen := run.zalGen, status := status, tag := run.zalTag, addr := written } :: s.emitted) ∧
  (∀ (s : State) (p : Fin 8) (m : ZalReq) (c : Instr), c = .flushAck p m ∨ c = .abortAnswer p m → (s.zal p).inService = true → m.cells = 0 →
    m.bad = false → m.aux = 0 → m.addr = 0 → (s.zal p).devOut.get? m.tag = none → (s.zal p).txWait = [] →
    After c s fun t => (t.zal p).lateResponses = sat32 (s.zal p).lateResponses 1 ∧ PortOnly s t p ∧ t.emitted = s.emitted) ∧
  (∀ (s : State) (p : Fin 8) (m : ZalReq) (r f : ZalRequest), (s.zal p).inService = true → m.cells = 0 → m.bad = false → m.aux = 0 → m.addr < 2 ^ 20 →
    m.gen = 0 → (s.zal p).devOut.get? m.tag = some r → r.flush = false → r.timedOut = false → r.op ≠ m.tag →
    (s.zal p).devOut.get? r.op = some f → (s.zal p).txWait = [] →
    After (.abortAnswer p m) s fun t => (t.zal p).devOut.get? m.tag = none ∧
      (t.zal p).devOut.get? r.op = (if m.status ≠ 2 ∨ f.answered = true then none else some { f with aborting := false }) ∧
      PortOnly s t p ∧ t.emitted = s.emitted) ∧
  (∀ (s : State) (p : Fin 8) (tag : Nat) (r : ZalRequest) (run : DfRun) (st : DfStream) (a : AccRequest) (status written : Nat),
    CanSend s p 1 1 → (s.zal p).devOut.get? tag = some r → r.timedOut = false → r.flush = true → r.aborting = false →
    r.issued + 1000 * r.timeout ≤ s.lc → s.link.runs = [(r.op, run)] → run.stage = .flushing status written →
    s.link.streams.get? run.stream = some st → st.port = some p.val → st.closing = false →
    (s.zal p).accOut.get? (16 * run.zalTag + run.zalGen) = some a → a.op = some r.op → s.pkt.qps = [] →
    After (.zalRequestTimeout p tag) s fun t => t.link.runs = [] ∧ (t.zal p).devOut.get? tag = some { r with timedOut := true } ∧
      t.emitted = .zal p 1 { op := 0x0B, gen := run.zalGen, status := 6, tag := run.zalTag, addr := written } :: s.emitted) ∧
  (∀ (s : State) (p : Fin 8) (tag : Nat) (r : ZalRequest), (s.zal p).devOut.get? tag = some r → s.lc < r.issued + 1000 * r.timeout →
    After (.zalRequestTimeout p tag) s fun t => t = s) ∧
  (∀ (s : State) (p : Fin 8) (tag : Nat) (r : ZalRequest), (s.zal p).devOut.get? tag = some r → (s.zal p).txWait = [] → r.timedOut = true →
    r.issued + 2000 * r.timeout ≤ s.lc →
    After (.zalTagReuseExpiry p tag) s fun t => (t.zal p).devOut.get? tag = none ∧ PortOnly s t p ∧ t.emitted = s.emitted) ∧
  (∀ (s : State) (p : Fin 8) (tag : Nat) (r : ZalRequest), (s.zal p).devOut.get? tag = some r → s.lc < r.issued + 2000 * r.timeout →
    After (.zalTagReuseExpiry p tag) s fun t => t = s) ∧
  (∀ (s : State) (p : Fin 8), (s.zal p).oldBusy = true → (∀ x ∈ (s.zal p).accOut, x.2.copy = (s.zal p).copy) → s.longOps = [] →
    After (.apertureStagedRefresh p) s fun t => (t.zal p).oldBusy = false ∧ aperOf t (s.zal p).copy = aperOf s (s.zal p).copy ∧
      (∀ e, s.link.allot.get? e = some p.val → (aperOf t !(s.zal p).copy).get? e = (aperOf s (s.zal p).copy).get? e) ∧ t = { s with link := t.link }) ∧
  (∀ (s : State) (p : Fin 8), (∃ x ∈ (s.zal p).accOut, x.2.copy ≠ (s.zal p).copy) → After (.apertureStagedRefresh p) s fun t => t = s)

/-- R20, R61, R286, R287, R290 to R292. -/
def Obligations.DirectFeed : Prop :=
  (∀ (s : State) (p : Fin 8) (m : ZalReq), Asks s p m 4 → m.addr = 0 → CanSend s p 1 1 → s.link.streams.get? m.aux = none →
    After (.dfSubmit p m) s fun t => t.emitted = .zal p 1 (response m 0x0B 8 0 []) :: s.emitted ∧ PortOnly s t p) ∧
  (∀ (s : State) (p : Fin 8) (m : ZalReq) (st : DfStream), Asks s p m 4 → m.addr = 0 → CanSend s p 1 1 → s.link.streams.get? m.aux = some st →
    resident s (cxStream m.aux) = true → st.owner ≠ (s.zal p).owner →
    After (.dfSubmit p m) s fun t => t.emitted = .zal p 1 (response m 0x0B 0 0 []) :: s.emitted ∧ t.link.runs = s.link.runs ∧
      Violated s t (2 * 2 ^ 56 + m.aux % 2 ^ 48) (zalTag s p) 4 0 (0x410 + p) (0x100 + p)) ∧
  (∀ (s : State) (p : Fin 8) (m : ZalReq) (st : DfStream), s.link.streams.get? m.aux = some st → st.port = some p.val →
    resident s (cxStream m.aux) = false → After (.dfSubmit p m) s fun t => t = { s with ctxs := t.ctxs } ∧
      ((s.ctxs.get? (cxStream m.aux)).isSome = true → (t.ctxs.get? (cxStream m.aux)).map Context.wanted = some true)) ∧
  (∀ (s : State) (p : Fin 8) (m : ZalReq) (st : DfStream) (bs : Bytes), Asks s p m 4 → m.addr = 0 → s.link.streams.get? m.aux = some st →
    resident s (cxStream m.aux) = true → st.owner = (s.zal p).owner → st.port = some p.val → st.closing = false → s.link.runs = [] →
    (∃ k, k < 65536 ∧ (s.track k).held = false) → m.data.length = 64 → descBad st m.data = false → (parseDesc m.data).srcKind = 2 →
    (parseDesc m.data).cipher = 0 → (parseDesc m.data).timed = false → (s.zal (parseDesc m.data).dstPort).owner = st.owner →
    readPlot s st.owner (parseDesc m.data).src (parseDesc m.data).bytes = .bytes bs →
    After (.dfSubmit p m) s fun t => ∃ k r, t.link.runs = [(k, r)] ∧ r.stage = .fetched 0 bs ∧ r.desc = parseDesc m.data ∧ r.stream = m.aux ∧
      r.zalTag = m.tag ∧ r.zalGen = m.gen.toNat ∧ (s.track k).held = false ∧ (t.track k).held = true ∧ (t.track k).owner = st.owner ∧
      t.dram = s.dram ∧ t.emitted = s.emitted) ∧
  (∀ (s : State) (p : Fin 8) (m : ZalReq) (st : DfStream), Asks s p m 4 → m.addr = 0 → CanSend s p 1 1 → s.link.streams.get? m.aux = some st →
    resident s (cxStream m.aux) = true → st.owner = (s.zal p).owner → st.port = some p.val → st.closing = false → s.link.runs = [] → s.pkt.qps = [] →
    (∃ k, k < 65536 ∧ (s.track k).held = false) → m.data.length = 64 → descBad st m.data = true →
    After (.dfSubmit p m) s fun t => t.emitted = .zal p 1 (response m 0x0B 8 0 []) :: s.emitted ∧ t.link.runs = [] ∧ t.dram = s.dram) ∧
  (∀ (s : State) (n : Nat) (st : DfStream) (i : Instance), s.link.streams.get? n = some st → dfFetches s n st = true → st.inst < 0x400 →
    s.insts.get? st.inst = some i → st.vector = 0xFF → st.log2 ≤ 16 →
    After (.dfDescriptorFetch n .timeout) s fun t => t.emitted = .hostWrite i.port st.inst
        (st.cqAddr + 16 * ((wrap32 (st.completed + 1) + 2 ^ 32 - 1) % 2 ^ st.log2))
        (le 4 st.fetched ++ le 1 6 ++ zeros 3 ++ le 4 0 ++ le 4 (wrap32 (st.completed + 1))) :: s.emitted ∧ t.link.runs = s.link.runs ∧
      t.link.streams.get? n = some { st with fetched := wrap32 (st.fetched + 1), completed := wrap32 (st.completed + 1) }) ∧
  (∀ (s : State) (op : Nat) (r : DfRun) (st : DfStream) (data : Bytes), s.link.runs = [(op, r)] → r.stage = .fetched 0 data →
    s.link.streams.get? r.stream = some st → r.desc.cipher = 0 → r.desc.codec = 0 → r.desc.timed = false → data.length = r.desc.bytes →
    0 < r.desc.rowBytes → r.desc.rowBytes ≤ r.desc.stride → data.length = r.desc.rowBytes * r.desc.rows →
    CanSend s r.desc.dstPort 2 (r.desc.rows * (r.desc.rowBytes / 512 + 2) + 1) →
    devWaiting (s.zal r.desc.dstPort) < min 4096 (s.zal r.desc.dstPort).peerLimit →
    After (.dfScatter op) s fun t => (t.link.runs.get? op).map DfRun.stage = some (.flushing 0 data.length) ∧ t.dram = s.dram ∧
      ∃ (ms : List ZalMsg) (f : ZalMsg), t.emitted = .zal r.desc.dstPort 2 f :: (ms.map (Emit.zal r.desc.dstPort 2)).reverse ++ s.emitted ∧
        f.op = 0x11 ∧ f.data = [] ∧ Scattered ms r.desc data) ∧
  (∀ (s : State) (p : Fin 8) (op status : Nat) (r : DfRun) (st : DfStream) (a : AccRequest) (data : Bytes), s.link.runs = [(op, r)] →
    r.stage = .fetched status data → status ≠ 0 → s.link.streams.get? r.stream = some st → st.port = some p.val → st.closing = false →
    CanSend s p 1 1 → (s.zal p).accOut.get? (16 * r.zalTag + r.zalGen) = some a → a.op = some op → s.pkt.qps = [] →
    After (.dfScatter op) s fun t => t.link.runs = [] ∧ t.dram = s.dram ∧
      t.emitted = .zal p 1 { op := 0x0B, gen := r.zalGen, status := status, tag := r.zalTag } :: s.emitted) ∧
  (∀ (s : State) (die : Fin 2) (slot : Fin 64) (n k due : Nat) (e : LaunchEntry) (r : DfRun) (st : DfStream) (out : Bytes),
    slotStream s (slotKey 1 die slot) = some n → launchNext (s.slot (slotKey 1 die slot)) = some (due, e) → s.lc = due →
    s.link.streams.get? n = some st → st.lateBursts = [] → s.link.runs = [(k, r)] → r.stage = .staged out → r.stream = n →
    r.desc.burst = e.arg % 65536 → 0 < r.desc.rowBytes → r.desc.rowBytes ≤ r.desc.stride → out.length = r.desc.rowBytes * r.desc.rows →
    CanSend s r.desc.dstPort 2 (r.desc.rows * (r.desc.rowBytes / 512 + 2) + 1) →
    devWaiting (s.zal r.desc.dstPort) < min 4096 (s.zal r.desc.dstPort).peerLimit →
    After (.burst die slot) s fun t => (t.link.runs.get? k).map DfRun.stage = some (.flushing 0 out.length) ∧
      ∃ (ms : List ZalMsg) (f : ZalMsg), t.emitted = .zal r.desc.dstPort 2 f :: (ms.map (Emit.zal r.desc.dstPort 2)).reverse ++ s.emitted ∧
        f.op = 0x11 ∧ Scattered ms r.desc out) ∧
  (∀ (s : State) (die : Fin 2) (slot : Fin 64) (n due : Nat) (e : LaunchEntry) (st : DfStream),
    slotStream s (slotKey 1 die slot) = some n → launchNext (s.slot (slotKey 1 die slot)) = some (due, e) → due ≤ s.lc →
    s.link.streams.get? n = some st → s.link.runs = [] → policyOf (s.slot (slotKey 1 die slot)) e ≤ 1 →
    After (.burst die slot) s fun t => t.emitted = s.emitted ∧ t.link.runs = [] ∧
      (t.slot (slotKey 1 die slot)).late = (if policyOf (s.slot (slotKey 1 die slot)) e = 0 then sat32 (s.slot (slotKey 1 die slot)).late 1
        else (s.slot (slotKey 1 die slot)).late) ∧
      (t.slot (slotKey 1 die slot)).skip = (if policyOf (s.slot (slotKey 1 die slot)) e = 1 then sat32 (s.slot (slotKey 1 die slot)).skip 1
        else (s.slot (slotKey 1 die slot)).skip) ∧
      (t.link.streams.get? n).map DfStream.lateBursts = some (st.lateBursts ++ [(e.arg % 65536, policyOf (s.slot (slotKey 1 die slot)) e)])) ∧
  (∀ (s : State) (die : Fin 2) (slot : Fin 64) (n due : Nat) (e : LaunchEntry),
    slotStream s (slotKey 1 die slot) = some n → launchNext (s.slot (slotKey 1 die slot)) = some (due, e) → due ≤ s.lc → s.link.runs = [] →
    2 ≤ policyOf (s.slot (slotKey 1 die slot)) e →
    After (.burst die slot) s fun t => (t.slot (slotKey 1 die slot)).halted = true ∧ t.link = s.link ∧ t.dram = s.dram) ∧
  (∀ (s : State) (port : Fin 2) (inst n posted : Nat) (db : Fin 32) (i : Instance) (st : DfStream), s.on = true → s.insts.get? inst = some i →
    i.port = port → i.state = .running → streamOf s inst db = some n → s.link.streams.get? n = some st →
    After (.dfDoorbell port inst db posted) s fun t => t.link.streams.get? n = some { st with posted := posted } ∧
      (∀ k, k ≠ n → t.link.streams.get? k = s.link.streams.get? k) ∧ t = { s with link := t.link, ctxs := t.ctxs })

/-- R263, R271 to R274, R278 to R280, R285, R291, R378. -/
def Obligations.LinkRequests : Prop :=
  (∀ (s : State) (q : Req) (p part : Nat), Served s q 0x0601 8 .operator → p < 8 → part < 16 → partExists s part = true → portHolds s p = false →
    After (.zalPortBind q p part) s fun t => (t.zal p).owner = part ∧ (∀ k, k ≠ p → t.zal k = s.zal k) ∧ (t.zal p).copy = (s.zal p).copy ∧
      Replied s t q 0x0601 OK [] ∧ SameBut { s with link := t.link } t) ∧
  (∀ (s : State) (q : Req) (p part : Nat), Served s q 0x0601 8 .operator → p < 8 → part < 16 → partExists s part = true → portHolds s p = true →
    After (.zalPortBind q p part) s fun t => Replied s t q 0x0601 IN_USE [] ∧ SameBut s t) ∧
  (∀ (s : State) (q : Req) (p : Nat), Served s q 0x0602 8 .operator → p < 8 →
    After (.zalPortEnable q p 1) s fun t => (t.zal p).enabled = true ∧ (t.zal p).link = (s.zal p).link ∧ (∀ k, k ≠ p → t.zal k = s.zal k) ∧
      Replied s t q 0x0602 OK [] ∧ SameBut { s with link := t.link } t) ∧
  (∀ (s : State) (q : Req) (p : Nat), Served s q 0x0602 8 .operator → p < 8 → s.link.runs = [] → s.sessions = [] →
    After (.zalPortEnable q p 0) s fun t => (t.zal p).enabled = false ∧ (t.zal p).link = .down ∧ (t.zal p).inService = false ∧
      (∀ k, k ≠ p → t.zal k = s.zal k) ∧ Replied s t q 0x0602 OK [] ∧ SameBut { s with link := t.link } t) ∧
  (∀ (s : State) (q : Req) (p us : Nat), Served s q 0x0603 8 .operator → p < 8 → us ≤ 16000 →
    After (.zalTimeoutSet q p us) s fun t => (t.zal p).timeout = (if us = 0 then 100 else us) ∧ (t.zal p).devOut = (s.zal p).devOut ∧
      (∀ k, k ≠ p → t.zal k = s.zal k) ∧ Replied s t q 0x0603 OK [] ∧ SameBut { s with link := t.link } t) ∧
  (∀ (s : State) (q : Req) (p us : Nat), Served s q 0x0603 8 .operator → 16000 < us →
    After (.zalTimeoutSet q p us) s fun t => Replied s t q 0x0603 INVALID [] ∧ SameBut s t) ∧
  (∀ (s : State) (q : Req) (p first count : Nat), Served s q 0x0604 8 .operator → p < 8 → first < 4096 → first + count ≤ 4096 → allotted s p = [] →
    (∀ e, first ≤ e → e < first + count → s.link.allot.get? e = none) →
    After (.zalApertureAllot q p first count) s fun t => (∀ e, t.link.allot.get? e =
        if first ≤ e ∧ e < first + count then some p else s.link.allot.get? e) ∧
      t.link.aperA = s.link.aperA ∧ t.link.aperB = s.link.aperB ∧ Replied s t q 0x0604 OK [] ∧ SameBut { s with link := t.link } t) ∧
  (∀ (s : State) (q : Req) (p first count e : Nat), Served s q 0x0604 8 .operator → p < 8 → first < 4096 → first + count ≤ 4096 →
    first ≤ e → e < first + count → (∃ k, k ≠ p ∧ s.link.allot.get? e = some k) →
    After (.zalApertureAllot q p first count) s fun t => Replied s t q 0x0604 IN_USE [] ∧ SameBut s t) ∧
  (∀ (s : State) (q : Req) (p e : Nat) (b : Bytes), Served s q 0x0605 48 .opOrTenant → p < 8 → e < 4096 →
    mayActOn (whoOf s q.mbx) (s.zal p).owner = true → s.link.allot.get? e = some p → b.length = 32 → aperBad b = false → aperHeld s p = false →
    After (.zalApertureWrite q p e b) s fun t => aperOf t (s.zal p).copy = aperOf s (s.zal p).copy ∧
      (aperOf t !(s.zal p).copy).get? e = some { base := fieldAt b 0 8, length := fieldAt b 8 8, target := fieldAt b 16 8
                                                 read := (fieldAt b 24 1).testBit 0, write := (fieldAt b 24 1).testBit 1
                                                 valid := (fieldAt b 24 1).testBit 2 } ∧
      Replied s t q 0x0605 OK [] ∧ SameBut { s with link := t.link } t) ∧
  (∀ (s : State) (q : Req) (p e : Nat) (b : Bytes), Served s q 0x0605 48 .opOrTenant → p < 8 → e < 4096 →
    mayActOn (whoOf s q.mbx) (s.zal p).owner = true → s.link.allot.get? e = some p → b.length = 32 → aperBad b = false → (s.zal p).oldBusy = true →
    After (.zalApertureWrite q p e b) s fun t => Accepted s t q 0x0605 ACCEPTED ∧ t.link = s.link ∧
      SameBut { s with longOps := t.longOps, opNo := t.opNo } t) ∧
  (∀ (s : State) (q : Req) (p : Nat), Served s q 0x0606 8 .opOrTenant → p < 8 → mayActOn (whoOf s q.mbx) (s.zal p).owner = true →
    aperHeld s p = false → stagedOverlap s p = false →
    After (.zalApertureCommit q p) s fun t => (t.zal p).copy = (!(s.zal p).copy) ∧ (t.zal p).oldBusy = true ∧ t.link.aperA = s.link.aperA ∧
      t.link.aperB = s.link.aperB ∧ (∀ k, k ≠ p → t.zal k = s.zal k) ∧ Replied s t q 0x0606 OK [] ∧ SameBut { s with link := t.link } t) ∧
  (∀ (s : State) (q : Req) (p : Nat), Served s q 0x0606 8 .opOrTenant → p < 8 → mayActOn (whoOf s q.mbx) (s.zal p).owner = true →
    aperHeld s p = false → stagedOverlap s p = true →
    After (.zalApertureCommit q p) s fun t => Replied s t q 0x0606 INVALID [] ∧ SameBut s t) ∧
  (∀ (s : State) (q : Req) (p : Nat) (b : Bytes), Served s q 0x0607 24 .opOrTenant → p < 8 → mayActOn (whoOf s q.mbx) (s.zal p).owner = true →
    b.length = 16 → pageBad (s.link.pages.getD (s.zal p).owner []) b = false →
    (∀ x, s.parts.get? (s.zal p).owner = some x → pagesHeld s (s.zal p).owner < x.pageQuota) →
    After (.zalPageMap q p b) s fun t => (∃ e : PageEntry, e.va = 4096 * fieldAt b 0 6 ∧ e.space = fieldAt b 6 1 ∧ e.target = fieldAt b 8 8 ∧
        e.read = (fieldAt b 7 1).testBit 1 ∧ e.write = (fieldAt b 7 1).testBit 2 ∧ e.size = bitsOf (fieldAt b 7 1) 4 3 ∧
        t.link.pages.getD (s.zal p).owner [] = s.link.pages.getD (s.zal p).owner [] ++ [e]) ∧ t.link.ports = s.link.ports ∧
      Replied s t q 0x0607 OK [] ∧ SameBut { s with link := t.link } t) ∧
  (∀ (s : State) (q : Req) (p space va : Nat) (e : PageEntry), Served s q 0x0608 16 .opOrTenant → p < 8 →
    mayActOn (whoOf s q.mbx) (s.zal p).owner = true →
    ((s.link.pages.getD (s.zal p).owner []).find? fun f => f.covers space va) = some e →
    After (.zalPageUnmap q p space va) s fun t => (∀ f ∈ t.link.pages.getD (s.zal p).owner [], f.samePage e = false) ∧
      (∀ k z, t.link.ports.get? k = some z → z.owner = (s.zal p).owner → ∀ f ∈ z.cache, e.samePage f = false) ∧
      t.link.aperA = s.link.aperA ∧ t.link.aperB = s.link.aperB ∧ Replied s t q 0x0608 OK [] ∧ SameBut { s with link := t.link } t) ∧
  (∀ (s : State) (q : Req) (part n : Nat), Served s q 0x0609 8 .operator → part < 16 → partExists s part = true →
    (s.parts.filter fun x => decide (x.1 ≠ part)) = [] → n ≤ 16777216 → pagesHeld s part ≤ n →
    After (.zalPageQuotaSet q part n) s fun t => (t.parts.get? part).map Partition.pageQuota = some n ∧ Replied s t q 0x0609 OK [] ∧
      SameBut { s with parts := t.parts } t) ∧
  (∀ (s : State) (q : Req) (p mask : Nat), Served s q 0x060A 8 .operator → p < 8 → mask < 128 →
    After (.zalCountsClear q p mask) s fun t => (t.zal p).fecCorrected = (if mask.testBit 0 then 0 else (s.zal p).fecCorrected) ∧
      (t.zal p).fecUncorrectable = (if mask.testBit 1 then 0 else (s.zal p).fecUncorrectable) ∧
      (t.zal p).crcErrors = (if mask.testBit 2 then 0 else (s.zal p).crcErrors) ∧ (t.zal p).replays = (if mask.testBit 3 then 0 else (s.zal p).replays) ∧
      (t.zal p).retrains = (if mask.testBit 4 then 0 else (s.zal p).retrains) ∧
      (t.zal p).lateResponses = (if mask.testBit 5 then 0 else (s.zal p).lateResponses) ∧
      (t.zal p).protocolErrors = (if mask.testBit 6 then 0 else (s.zal p).protocolErrors) ∧ (∀ k, k ≠ p → t.zal k = s.zal k) ∧
      Replied s t q 0x060A OK [] ∧ SameBut { s with link := t.link } t) ∧
  (∀ (s : State) (q : Req) (p n : Nat), Served s q 0x060B 64 .opOrTenant → p < 8 → mayActOn (whoOf s q.mbx) (s.zal p).owner = true →
    s.link.streams.firstFree 4096 0 = some n → ctxRoom s = true →
    After (.dfStreamOpen q 1 p 0 0 0 0 0 0 0 0 0 0 0) s fun t => t.link.streams.get? n =
        some { owner := (s.zal p).owner, port := some p, inst := 0, doorbell := 0, log2 := 0, vector := 0, sqAddr := 0, cqAddr := 0,
               staging := none, launch := none } ∧
      (∀ k, k ≠ n → t.link.streams.get? k = s.link.streams.get? k) ∧ (t.ctxs.get? (cxStream n)).map Context.owner = some (s.zal p).owner ∧
      Replied s t q 0x060B OK (le 2 n ++ zeros 6) ∧ SameBut { s with link := t.link, ctxs := t.ctxs } t) ∧
  (∀ (s : State) (q : Req) (n : Nat) (st : DfStream), Served s q 0x060C 8 .opOrTenant → s.link.streams.get? n = some st →
    mayActOn (whoOf s q.mbx) st.owner = true → st.closing = false → (∀ x ∈ s.link.runs, x.2.stream ≠ n) →
    After (.dfStreamClose q n) s fun t => t.link.streams.get? n = none ∧ Completed s t q 0x060C OK [] ∧
      SameBut { s with link := t.link, ctxs := t.ctxs, longOps := t.longOps, opNo := t.opNo } t) ∧
  (∀ (s : State) (q : Req) (n : Nat) (st : DfStream), Served s q 0x060C 8 .opOrTenant → s.link.streams.get? n = some st →
    mayActOn (whoOf s q.mbx) st.owner = true → st.closing = false → (∃ x ∈ s.link.runs, x.2.stream = n) →
    After (.dfStreamClose q n) s fun t => (t.link.streams.get? n).map DfStream.closing = some true ∧ t.link.runs = s.link.runs ∧
      Accepted s t q 0x060C ACCEPTED ∧ SameBut { s with link := t.link, longOps := t.longOps, opNo := t.opNo } t) ∧
  (∀ (s : State) (q : Req) (n index : Nat) (st : DfStream), Served s q 0x060D 8 .opOrTenant → s.link.streams.get? n = some st →
    mayActOn (whoOf s q.mbx) st.owner = true → indexTag s n st index = none →
    After (.dfAbort q n index) s fun t => Replied s t q 0x060D OK (le 2 NO_SUCH_OPERATION ++ zeros 6) ∧ SameBut s t) ∧
  (∀ (s : State) (q : Req) (n index k : Nat) (st : DfStream) (r : DfRun), Served s q 0x060D 8 .opOrTenant → s.link.streams.get? n = some st →
    mayActOn (whoOf s q.mbx) st.owner = true → s.link.runs = [(k, r)] → r.stream = n → r.index = index → st.port = none → st.closing = false →
    r.stage = .waiting → (s.track k).held = true → (s.track k).recorded = false → (s.track k).owner = st.owner → s.pkt.qps = [] → s.stor.ops = [] →
    After (.dfAbort q n index) s fun t => t.link.runs = [] ∧ (t.track k).recorded = true ∧ (t.track k).held = decide ((s.track k).owed ≠ 0) ∧
      Replied s t q 0x060D OK (le 2 ABORTED ++ zeros 6) ∧ t.dram = s.dram)

/-- R296, R299 to R309. -/
def Obligations.Generations : Prop :=
  (∀ (g : CkpGroup) (i c : Nat), 3 ≤ g.n → i < g.n → g.parityHolder i c < g.n ∧ g.parityHolder i c ≠ i ∧ g.parityHolder i c ≠ g.buddyHolder i) ∧
  (∀ (g : CkpGroup) (i j c d : Nat), 3 ≤ g.n → i < g.n → j < g.n → g.parityHolder i c = g.parityHolder j d → c / g.w = d / g.w → (i = j ↔ c = d)) ∧
  (∀ (s : State) (die : Fin 2) (g : CkpGroup) (e : LaunchEntry), s.ckp = some g → g.gen = none → g.leads = false →
    launchNext (s.slot (slotKey 3 die 0)) = some (s.lc, e) → e.action = 1 →
    After (.snapshot die) s fun t => t.ckp = some { g with triggers := g.triggers ++ [(e.arg, s.lc)] } ∧
      t.emitted = .peer g.coordinator 0 e.arg 2 [] :: s.emitted ∧ t = { s with ckp := t.ckp, launch := t.launch, emitted := t.emitted }) ∧
  (∀ (s : State) (g : CkpGroup), s.ckp = some g → g.standby = false → g.windowAt < s.lc / 1000000000 → g.gen = none → g.leads = false →
    g.lastWarn = none → warnRose g (warnCounts s) = true →
    After .warningWindowCheck s fun t => t.ckp = some { g with window := warnCounts s, windowAt := s.lc / 1000000000 } ∧
      t.emitted = .peer g.coordinator 0 (g.committedStep + 1) 3 [] :: s.emitted ∧ t = { s with ckp := t.ckp, emitted := t.emitted }) ∧
  (∀ (s : State) (g : CkpGroup), s.ckp = some g → s.lc / 1000000000 ≤ g.windowAt → After .warningWindowCheck s fun t => t = s) ∧
  (∀ (s : State) (p : Fin 8) (g : CkpGroup) (code : Nat), (s.zal p).inService = true → s.ckp = some g → (s.zal p).owner = g.part →
    g.warnFlags.testBit 2 = true → g.lastWarn = none → g.gen = none → g.leads = false →
    After (.ckpWarn p code) s fun t => t.ckp = s.ckp ∧ t.emitted = .peer g.coordinator 0 (g.committedStep + 1) 3 [] :: s.emitted ∧ PortOnly s t p) ∧
  (∀ (s : State) (g : CkpGroup) (generation step reason : Nat), s.ckp = some g → g.leads = false → g.runs = true →
    generation = g.committed + 1 → reason = 1 ∨ reason = 2 →
    After (.begin generation step reason) s fun t => t = { s with ckp := t.ckp } ∧
      t.ckp = some { g with gen := some { g := generation, step := step, reason := reason, began := s.lc, phaseAt := s.lc, ranges := g.ranges } }) ∧
  (∀ (s : State) (g : CkpGroup) (generation step reason : Nat), s.ckp = some g → generation ≠ g.committed + 1 →
    After (.begin generation step reason) s fun t => t = s) ∧
  (∀ (s : State) (p : Fin 8) (g : CkpGroup) (r : GenRun) (bs : Bytes), s.ckp = some g → g.gen = some r → (r.step, s.lc) ∈ g.triggers → r.phase = .capture →
    r.snapAt = none → ckpPorts s g = [p.val] → CanSend s p 2 1 → piecesRead s g.part r.ranges = some bs →
    After .snapshotPoint s fun t => t.emitted =
        .zal p 2 { op := 0x18, gen := 0, tag := 0, aux := r.reason, addr := r.g, data := le 8 r.step ++ le 8 (g.partMax.getD p 0) } :: s.emitted ∧
      (t.ckp.bind CkpGroup.gen) = some { r with snapAt := some s.lc, deviceDone := true, deviceCrc := crc64 bs } ∧
      (∀ t1, writeRaw s g.part (g.deviceAt r.g) bs = (.done, t1) → t.dram = t1.dram)) ∧
  (∀ (s : State) (g : CkpGroup) (r : GenRun), s.ckp = some g → g.gen = some r → r.phase = .capture → r.reason ≠ 3 →
    r.began + 1000000 * g.captureTimeout ≤ s.lc → After .captureTimeout s fun t => Abandoned s t g r 3) ∧
  (∀ (s : State) (g : CkpGroup) (r : GenRun), s.ckp = some g → g.gen = some r → s.lc < r.began + 1000000 * g.captureTimeout →
    After .captureTimeout s fun t => t = s) ∧
  (∀ (s : State) (p : Fin 8) (m : ZalReq) (g : CkpGroup) (r : GenRun) (c : CkpPart) (n off : Nat), (s.zal p).inService = true →
    capturing s p = some (g, r, c) → c.error = 0 → m.tag = 0 → m.gen = 0 → m.status = 0 → m.bad = false → m.aux < 512 → m.cells = (m.aux + 16) / 16 →
    m.addr = c.next → c.next + m.aux + 1 ≤ g.partLimit p → translate s g.part (g.partAt r.g p + c.next) = some (n, off) → off + m.aux < 2 ^ 30 →
    (plotAt s n).state = .assigned → keyHeld s (plotAt s n) = true → s.dram.poison = [] → Mem.wf s.dram.bytes = true →
    After (.shardWrite p m) s fun t =>
      (∀ b, t.dram.bytes.read b = if dpaOf n off ≤ b ∧ b ≤ dpaOf n off + m.aux then (padTo (m.aux + 1) m.data).getD (b - dpaOf n off) 0
        else s.dram.bytes.read b) ∧
      (t.ckp.bind CkpGroup.gen) = some ({ r with parts := r.parts.set p ({ c with next := c.next + m.aux + 1
                                                                                  crc := crc64Run c.crc (padTo (m.aux + 1) m.data) } : CkpPart) } : GenRun) ∧
      t.emitted = s.emitted) ∧
  (∀ (s : State) (p : Fin 8) (m : ZalReq), (s.zal p).inService = true → capturing s p = none → m.tag = 0 → m.gen = 0 → m.status = 0 → m.bad = false →
    m.aux < 512 → m.cells = (m.aux + 16) / 16 →
    After (.shardWrite p m) s fun t => (t.zal p).protocolErrors = sat32 (s.zal p).protocolErrors 1 ∧ PortOnly s t p ∧ t.emitted = s.emitted) ∧
  (∀ (s : State) (p : Fin 8) (m : ZalReq) (g : CkpGroup) (r : GenRun) (c : CkpPart), CanSend s p 2 2 → s.ckp = some g → g.restore = none →
    capturing s p = some (g, r, c) → m.tag = 0 → m.gen = 0 → m.status = 0 → m.bad = false → m.aux = 0 → m.cells = 1 → fieldAt m.data 0 8 = r.g →
    After (.shardEnd p m) s fun t =>
      if c.error = 0 ∧ m.addr = c.next ∧ fieldAt m.data 8 8 = c.crc ^^^ crc64Init then
        t.emitted = .zal p 2 { op := 0x1B, gen := 0, tag := 0, addr := r.g } :: s.emitted ∧
          (t.ckp.bind CkpGroup.gen) = some { r with parts := r.parts.set p { c with done := true } }
      else Abandoned s t g r 2 ∧ Emit.zal p 2 { op := 0x1B, gen := 0, status := (if c.error ≠ 0 then c.error else 8), tag := 0, addr := r.g } ∈ t.emitted) ∧
  (∀ (s : State) (member : Fin 64) (chunk crc : Nat) (data old : Bytes) (g : CkpGroup) (r : GenRun), s.ckp = some g → g.gen = some r → AreaSound s g →
    r.phase = .parity → 3 ≤ g.n → chunk < g.k → member.val < g.n → member.val ≠ g.member → g.parityHolder member chunk = g.member →
    (member.val, chunk) ∉ r.contrib → areaRead s g (g.parityAt r.g + chunk / g.w * 1048576) 1048576 = some old →
    After (.parityContribution member chunk data crc) s fun t => t = { s with dram := t.dram, ckp := t.ckp } ∧
      areaRead t g (g.parityAt r.g + chunk / g.w * 1048576) 1048576 = some (List.zipWith (· ^^^ ·) old (padTo 1048576 data)) ∧
      (t.ckp.bind CkpGroup.gen).map GenRun.contrib = some ((member.val, chunk) :: r.contrib)) ∧
  (∀ (s : State) (member : Fin 64) (chunk crc : Nat) (data : Bytes) (g : CkpGroup) (r : GenRun), s.ckp = some g → g.gen = some r →
    (member.val, chunk) ∈ r.contrib → After (.parityContribution member chunk data crc) s fun t => t = s) ∧
  (∀ (s : State) (member : Fin 64) (chunk crc : Nat) (data : Bytes) (g : CkpGroup) (r : GenRun), s.ckp = some g → g.gen = some r → AreaSound s g →
    r.phase = .buddy → chunk < g.k → member.val < g.n → g.buddyHolder member = g.member →
    After (.buddyChunk member chunk data crc) s fun t => t = { s with dram := t.dram, ckp := t.ckp } ∧
      areaRead t g (g.buddyAt r.g + chunk * 1048576) 1048576 = some (padTo 1048576 data) ∧
      (t.ckp.bind CkpGroup.gen).map (fun x => x.buddyCrc.get? chunk) = some (some crc)) ∧
  (∀ (s : State) (g : CkpGroup) (r : GenRun), s.ckp = some g → g.gen = some r → AreaSound s g → r.phase = .capture → 3 ≤ g.n → r.deviceDone = true →
    (∀ p ∈ ckpPorts s g, (r.parts.getD p {}).done = true) → groupKey s g = none →
    After (.phaseDone 1) s fun t => (t.ckp.bind CkpGroup.gen).map GenRun.phase = some .parity ∧
      areaRead t g (g.parityAt r.g) (g.q * 1048576) = some (zeros (g.q * 1048576))) ∧
  (∀ (s : State) (g : CkpGroup) (r : GenRun), s.ckp = some g → g.gen = some r → g.leads = false → r.phase = .verify → r.verified = true →
    After (.phaseDone 4) s fun t => t.ckp = some { g with gen := some { r with phase := .prepared, phaseAt := s.lc } } ∧
      t.emitted = .peer g.coordinator 2 r.g 5 [] :: s.emitted ∧ t = { s with ckp := t.ckp, emitted := t.emitted }) ∧
  (∀ (s : State) (g : CkpGroup) (r : GenRun) (k : Nat), s.ckp = some g → g.gen = some r → (phaseOwnDone s g r = false ∨ r.phase.code ≠ k) →
    After (.phaseDone k) s fun t => t = s) ∧
  (∀ (s : State) (g : CkpGroup) (r : GenRun), s.ckp = some g → g.gen = some r → AreaSound s g → g.leads = false → r.phase = .prepared → ckpPorts s g = [] →
    After (.commit r.g) s fun t => ∃ b g', t.ckp = some g' ∧ g'.committed = r.g ∧ g'.committedStep = r.step ∧ g'.missing = [] ∧
      areaRead t g (g.pageAt r.g) 256 = some b ∧ Emit.peer (g.buddyHolder g.member) 6 r.g 0 b ∈ t.emitted ∧ fieldAt b 0 4 = 0x52434B5A ∧
      fieldAt b 4 2 = 1 ∧ fieldAt b 6 2 = g.member % 65536 ∧ fieldAt b 24 8 = r.g % 2 ^ 64 ∧ fieldAt b 32 8 = r.step % 2 ^ 64 ∧
      fieldAt b 248 8 = crc64 (b.take 248)) ∧
  (∀ (s : State) (g : CkpGroup) (r : GenRun), s.ckp = some g → g.gen = some r → (r.phase = .capture ∨ r.phase = .parity ∨ r.phase = .buddy ∨ r.phase = .verify) →
    r.phaseAt + 1000000 * g.phaseTimeout ≤ s.lc → After .phaseTimeout s fun t => Abandoned s t g r 5)

/-- R296, R309, R311 to R314. -/
def Obligations.Recovery : Prop :=
  (∀ (s : State) (j : Fin 64) (g : CkpGroup) (r : GenRun), s.ckp = some g → g.gen = some r → g.lost = false → g.standby = false → g.leads = true →
    j.val ≠ g.member → j.val ∈ g.inService → (∀ i, i < g.n → i ∈ g.inService) → j.val < g.n → g.missing = [] → g.parityRebuild = false →
    (r.phase = .capture ∨ r.phase = .parity) →
    After (.memberFailure j) s fun t => Abandoned s t g r 1 ∧ ∃ g', t.ckp = some g' ∧ j.val ∉ g'.inService ∧ g'.lost = false ∧ g'.parityRebuild = false ∧
      (∀ i, i ≠ j.val → (i ∈ g'.inService ↔ i ∈ g.inService))) ∧
  (∀ (s : State) (j : Fin 64) (g : CkpGroup) (r : GenRun), s.ckp = some g → g.gen = some r → g.lost = false → g.standby = false → g.leads = true →
    j.val ≠ g.member → j.val ∈ g.inService → (∀ i, i < g.n → i ∈ g.inService) → j.val < g.n → g.missing = [] → 3 ≤ g.n →
    (r.phase = .buddy ∨ r.phase = .verify) →
    After (.memberFailure j) s fun t => Abandoned s t g r 1 ∧ ∃ g', t.ckp = some g' ∧ g'.parityRebuild = true ∧ g'.lost = false) ∧
  (∀ (s : State) (j : Fin 64) (g : CkpGroup) (a b : Nat), s.ckp = some g → g.gen = none → g.lost = false → g.standby = false → j.val ≠ g.member →
    j.val ∈ g.inService → j.val < g.n → a < g.n → b < g.n → a ∉ g.inService → b ∉ g.inService → a ≠ b →
    After (.memberFailure j) s fun t => ∃ g', t.ckp = some g' ∧ g'.lost = true ∧ g'.lastStatus = GROUP_LOST ∧ g'.committed = g.committed ∧ t.dram = s.dram) ∧
  (∀ (s : State) (g : CkpGroup) (r : GenRun), s.ckp = some g → g.gen = some r → g.lost = false → g.standby = false → g.failover = true →
    r.phase = .prepared →
    After (.coordinatorFailover true) s fun t => ∃ g', t.ckp = some g' ∧ g'.committed = r.g ∧ g'.committedStep = r.step ∧ g'.failover = false) ∧
  (∀ (s : State) (g : CkpGroup) (r : GenRun), s.ckp = some g → g.gen = some r → g.lost = false → g.standby = false → g.failover = true →
    r.phase ≠ .commit → After (.coordinatorFailover false) s fun t => Abandoned s t g r 1) ∧
  (∀ (s : State) (p : Fin 8) (m : ZalReq) (g : CkpGroup) (bs : Bytes), Asks s p m 0 → m.aux < 4096 → CanSend s p 1 9 → s.ckp = some g →
    g.restore ≠ none → (s.zal p).owner = g.part → m.addr + m.aux + 1 ≤ g.record.partBytes.getD p 0 →
    (List.range (m.aux + 1)).map (fun k => accByte s g.part (g.partAt g.committed p + m.addr + k)) = bs.map (fun b => (b, false)) →
    After (.restoreRead p m) s fun t => PortOnly s t p ∧ ∃ ms : List ZalMsg, t.emitted = (ms.map (Emit.zal p 1)).reverse ++ s.emitted ∧ ReadAnswer ms m bs) ∧
  (∀ (s : State) (p : Fin 8) (m : ZalReq) (g : CkpGroup) (c : CkpRestore), (s.zal p).inService = true → s.ckp = some g → g.restore = some c →
    (s.zal p).owner = g.part → m.tag = 0 → m.gen = 0 → m.status = 0 → m.bad = false → m.aux = 0 → m.cells = 1 → fieldAt m.data 0 8 = g.committed →
    fieldAt m.data 8 8 = g.record.partCrc.getD p 0 →
    After (.shardEnd p m) s fun t => (∃ c', (t.ckp.bind CkpGroup.restore) = some c' ∧ p.val ∈ c'.ended ∧ c'.member = c.member ∧
      ∀ k ∈ c.ended, k ∈ c'.ended) ∧ t.emitted = s.emitted) ∧
  (∀ (s : State) (p : Fin 8) (m : ZalReq) (g : CkpGroup) (c : CkpRestore), (s.zal p).inService = true → s.ckp = some g → g.restore = some c →
    (s.zal p).owner = g.part → m.tag = 0 → m.gen = 0 → m.status = 0 → m.bad = false → m.aux = 0 → m.cells = 1 → fieldAt m.data 0 8 = g.committed →
    fieldAt m.data 8 8 ≠ g.record.partCrc.getD p 0 →
    After (.shardEnd p m) s fun t => ∃ g', t.ckp = some g' ∧ g'.lost = true ∧ g'.lastStatus = GROUP_LOST ∧ g'.restore = none) ∧
  (∀ (s : State) (g : CkpGroup) (c : CkpRestore), s.ckp = some g → g.restore = some c → (∀ p ∈ ckpPorts s g, p ∈ c.ended) →
    After .jobResume s fun t => ∃ g', t.ckp = some g' ∧ g'.restore = none ∧ c.member ∈ g'.inService ∧ g'.lastStatus = OK ∧ g'.committed = g.committed ∧
      t.dram = s.dram) ∧
  (∀ (s : State) (g : CkpGroup) (c : CkpRestore) (p : Nat), s.ckp = some g → g.restore = some c → p ∈ ckpPorts s g → p ∉ c.ended →
    After .jobResume s fun t => t = s)

/-- R295, R297, R299, R300, R310, R313, R381. A group whose Ethernet port is up counts as connected: a log entry. -/
def Obligations.CheckpointRequests : Prop :=
  (∀ (s : State) (q : Req) (b : CkpGroupBody) (peers maxes : Bytes) (g : CkpGroup) (t1 : State), Served s q 0x0B01 80 .operator → groupBad s b false = false →
    readBuf s (whoOf s q.mbx) b.peers b.peersHost = .ok peers → readBuf s (whoOf s q.mbx) b.partMax b.partMaxHost = .ok maxes →
    (groupOf s b peers maxes false).partMax.foldl (· + ·) 0 ≤ b.shardMax → s.ckp = none → ctxRoom s = true →
    takeAreas s (groupOf s b peers maxes false) = some (g, t1) → s.longOps = [] →
    After (.ckpGroupCreate q b) s fun t => t.ckp = some g ∧ g.part = b.part ∧ g.member = b.member ∧ g.n = b.n ∧ g.groupId = b.groupId ∧
      g.inService = List.range b.n ∧ g.committed = 0 ∧ t.dram.bytes = s.dram.bytes ∧
      (∀ n ∈ g.areas, (plotAt s n).state = .free ∧ (plotAt t n).state = .assigned ∧ (plotAt t n).owner = 16 ∧ (plotAt t n).clear = true) ∧
      (if (s.eth b.port).link = 2 then Completed s t q 0x0B01 OK [] else Accepted s t q 0x0B01 ACCEPTED) ∧
      SameBut { s with dram := t.dram, ctxs := t.ctxs, ckp := t.ckp, longOps := t.longOps, opNo := t.opNo } t) ∧
  (∀ (s : State) (q : Req) (b : CkpGroupBody) (peers maxes : Bytes) (g : CkpGroup) (t1 : State), Served s q 0x0B08 80 .operator → groupBad s b true = false →
    readBuf s (whoOf s q.mbx) b.peers b.peersHost = .ok peers → readBuf s (whoOf s q.mbx) b.partMax b.partMaxHost = .ok maxes →
    (groupOf s b peers maxes true).partMax.foldl (· + ·) 0 ≤ b.shardMax → s.ckp = none → ctxRoom s = true →
    takeAreas s (groupOf s b peers maxes true) = some (g, t1) →
    After (.ckpStandby q b) s fun t => t.ckp = some g ∧ g.standby = true ∧ g.inService = [] ∧ Replied s t q 0x0B08 OK [] ∧
      SameBut { s with dram := t.dram, ctxs := t.ctxs, ckp := t.ckp } t) ∧
  (∀ (s : State) (q : Req) (g : CkpGroup), Served s q 0x0B02 8 .operator → s.ckp = some g → g.gen = none → s.longOps = [] → g.areas.Nodup →
    (∀ n ∈ g.areas, (plotAt s n).state = .assigned) →
    After (.ckpGroupDelete q g.groupId) s fun t => t.ckp = none ∧ (∀ n ∈ g.areas, (plotAt t n).state = .dirty) ∧
      (∀ n, n ∉ g.areas → plotAt t n = plotAt s n) ∧ t.dram.bytes = s.dram.bytes ∧ Completed s t q 0x0B02 OK [] ∧
      SameBut { s with dram := t.dram, ctxs := t.ctxs, ckp := t.ckp, longOps := t.longOps, opNo := t.opNo } t) ∧
  (∀ (s : State) (q : Req) (g : CkpGroup) (count : Nat) (r : BufRef) (host : HostData) (bs : Bytes), Served s q 0x0B03 24 .tenant → s.ckp = some g →
    (whoOf s q.mbx).owner = g.part → 1 ≤ count → count ≤ 256 → refBad r (16 * count) = false → readBuf s (whoOf s q.mbx) r host = .ok bs →
    (∀ c ∈ chunks 16 count bs, ckpRangeBad s g.part (fieldAt c 0 8, fieldAt c 8 8) = false) →
    g.partMax.foldl (· + ·) 0 + rangeBytes ((chunks 16 count bs).map fun c => (fieldAt c 0 8, fieldAt c 8 8)) ≤ g.shardMax →
    After (.ckpConfig q count r host) s fun t => t.ckp = some { g with ranges := (chunks 16 count bs).map fun c => (fieldAt c 0 8, fieldAt c 8 8) } ∧
      Replied s t q 0x0B03 OK [] ∧ SameBut { s with ckp := t.ckp } t) ∧
  (∀ (s : State) (q : Req) (g : CkpGroup) (count : Nat) (r : BufRef) (host : HostData) (bs : Bytes), Served s q 0x0B03 24 .tenant → s.ckp = some g →
    (whoOf s q.mbx).owner = g.part → 1 ≤ count → count ≤ 256 → refBad r (16 * count) = false → readBuf s (whoOf s q.mbx) r host = .ok bs →
    g.shardMax < g.partMax.foldl (· + ·) 0 + rangeBytes ((chunks 16 count bs).map fun c => (fieldAt c 0 8, fieldAt c 8 8)) →
    After (.ckpConfig q count r host) s fun t => Replied s t q 0x0B03 INVALID [] ∧ SameBut s t) ∧
  (∀ (s : State) (q : Req) (g : CkpGroup) (step at_ : Nat), Served s q 0x0B04 16 .tenant → s.ckp = some g → (whoOf s q.mbx).owner = g.part →
    g.standby = false → g.lost = false → g.formed = true → g.gen = none → g.leads = false →
    After (.ckpTrigger q step at_) s fun t => t.ckp = some { g with triggers := g.triggers ++ [(step, if at_ = 0 then s.lc else at_)] } ∧
      Emit.peer g.coordinator 0 step 1 [] ∈ t.emitted ∧ Replied s t q 0x0B04 OK [] ∧ SameBut { s with ckp := t.ckp } t) ∧
  (∀ (s : State) (q : Req) (g : CkpGroup), Served s q 0x0B05 0 .opOrTenant → s.ckp = some g → mayActOn (whoOf s q.mbx) g.part = true →
    After (.ckpStatus q) s fun t => (∃ b : Bytes, Replied s t q 0x0B05 OK b ∧ b.length = 64 ∧ fieldAt b 0 8 = g.groupId % 2 ^ 64 ∧
        fieldAt b 8 1 = g.member % 256 ∧ fieldAt b 16 8 = g.committed % 2 ^ 64 ∧ fieldAt b 24 8 = g.committedStep % 2 ^ 64) ∧ SameBut s t) ∧
  (∀ (s : State) (q : Req), Served s q 0x0B05 0 .opOrTenant → s.ckp = none →
    After (.ckpStatus q) s fun t => Replied s t q 0x0B05 OK (zeros 64) ∧ SameBut s t) ∧
  (∀ (s : State) (q : Req) (g : CkpGroup) (gen : Nat) (out : BufRef) (c : CommitRecord), Served s q 0x0B06 24 .tenant → s.ckp = some g →
    (whoOf s q.mbx).owner = g.part → g.holds gen = true → g.pages.get? (gen % 2) = some c → out.space = 2 → 64 + 64 * g.n ≤ out.len → g.leads = true →
    guarded s g.part out.addr (64 + 64 * g.n) = false → (∃ t1, writeRaw s g.part out.addr (manifest s g c).1 = (.done, t1)) → s.longOps = [] →
    After (.ckpDigest q gen out) s fun t => Completed s t q 0x0B06 OK (le 4 (64 + 64 * g.n) ++ zeros 4) ∧ t.ckp = s.ckp ∧
      ∀ t1, writeRaw s g.part out.addr (manifest s g c).1 = (.done, t1) → t.dram = t1.dram) ∧
  (∀ (s : State) (g : CkpGroup) (c : CommitRecord), (manifest s g c).1.length = 64 + 64 * g.n ∧ fieldAt (manifest s g c).1 0 4 = 0x4E414D37 ∧
    fieldAt (manifest s g c).1 16 8 = c.g % 2 ^ 64 ∧ fieldAt (manifest s g c).1 24 8 = c.step % 2 ^ 64) ∧
  (∀ (s : State) (q : Req) (g : CkpGroup) (gen : Nat) (out : BufRef), Served s q 0x0B06 24 .tenant → s.ckp = some g → (whoOf s q.mbx).owner = g.part →
    g.holds gen = false → After (.ckpDigest q gen out) s fun t => Replied s t q 0x0B06 INVALID [] ∧ SameBut s t) ∧
  (∀ (s : State) (q : Req) (g : CkpGroup) (j : Nat) (peer : Bytes), Served s q 0x0B07 56 .operator → s.ckp = some g → j < g.n → g.lost = false →
    g.standby = false → g.leads = true → j ∉ g.inService → g.restore = none → g.gen = none → s.longOps = [] →
    After (.ckpSpareAssign q j peer) s fun t => Accepted s t q 0x0B07 ACCEPTED ∧ (∃ g', t.ckp = some g' ∧ g'.restore = some { member := j, ended := [] } ∧
      g'.peers = g.peers.set j (padTo 48 peer) ∧ g'.committed = g.committed)) ∧
  (∀ (s : State) (q : Req) (g : CkpGroup) (j : Nat) (peer : Bytes), Served s q 0x0B07 56 .operator → s.ckp = some g → j < g.n → j ∈ g.inService →
    After (.ckpSpareAssign q j peer) s fun t => Replied s t q 0x0B07 IN_USE [] ∧ SameBut s t) ∧
  (∀ (s : State) (q : Req) (g : CkpGroup) (memory replays fec flags holdoff : Nat), Served s q 0x0B09 24 .operator → s.ckp = some g → flags < 8 →
    1 ≤ holdoff → holdoff ≤ 3600 →
    After (.ckpWarningSet q memory replays fec flags holdoff) s fun t => t.ckp = some
      { g with warnMemory := memory, warnReplays := replays, warnFec := fec, warnFlags := flags, holdoff := holdoff } ∧
      Replied s t q 0x0B09 OK [] ∧ SameBut { s with ckp := t.ckp } t)

/-- R13, R29, R30. That a key slot answers its owner with zeros is the model's reading of R460 (log entry on key slots). -/
def Obligations.BrambleTargets : Prop :=
  (∀ (s : State) (tag : BitVec 17) (die : Fin 2) (dpa len acc n off : Nat), s.on = true → dpaPlot s (dpa % 2 ^ 39 + 2 ^ 39 * die) = some (n, off) →
    tagOwner tag.toNat = some (plotAt s n).owner → ((plotAt s n).state = .assigned ∨ (plotAt s n).state = .lost) → off % 2 ^ 30 + len ≤ 2 ^ 30 →
    (∀ k, k < len → wordBad s n (off + k) = false) →
    exec (.brambleTransaction tag false (.dram die dpa) len [] acc) s =
      .next { s with emitted := .bramble tag.toNat ((List.range len).map fun k => plotByte s n (off + k)) :: s.emitted }) ∧
  (∀ (s : State) (tag : BitVec 17) (die : Fin 2) (dpa len acc n off j : Nat), s.on = true → dpaPlot s (dpa % 2 ^ 39 + 2 ^ 39 * die) = some (n, off) →
    tagOwner tag.toNat = some (plotAt s n).owner → ((plotAt s n).state = .assigned ∨ (plotAt s n).state = .lost) → off % 2 ^ 30 + len ≤ 2 ^ 30 →
    j < len → wordBad s n (off + j) = true →
    After (.brambleTransaction tag false (.dram die dpa) len [] acc) s fun t => t.emitted = .bramblePoisoned tag.toNat :: s.emitted ∧
      t = { s with dram := { s.dram with stackTbl := t.dram.stackTbl }, mon := t.mon, emitted := t.emitted }) ∧
  (∀ (s : State) (tag : BitVec 17) (die : Fin 2) (dpa len acc n off : Nat) (data : Bytes), s.on = true →
    dpaPlot s (dpa % 2 ^ 39 + 2 ^ 39 * die) = some (n, off) → tagOwner tag.toNat = some (plotAt s n).owner → (plotAt s n).state = .assigned →
    keyHeld s (plotAt s n) = true → (plotAt s n).garbled = none → off % 2 ^ 30 + len ≤ 2 ^ 30 → s.dram.poison = [] →
    (∀ a, plotSpaceOf s n off = some a → guarded s (plotAt s n).owner a len = false) → Mem.wf s.dram.bytes = true →
    After (.brambleTransaction tag true (.dram die dpa) len data acc) s fun t => (∀ m, plotAt t m = plotAt s m) ∧ t.dram.poison = [] ∧
      (∀ b, t.dram.bytes.read b = if dpa % 2 ^ 39 + 2 ^ 39 * die ≤ b ∧ b < dpa % 2 ^ 39 + 2 ^ 39 * die + len then
        (padTo len data).getD (b - (dpa % 2 ^ 39 + 2 ^ 39 * die)) 0 else s.dram.bytes.read b) ∧
      t = { s with dram := { s.dram with bytes := t.dram.bytes, plots := t.dram.plots } }) ∧
  (∀ (s : State) (tag : BitVec 17) (write : Bool) (die : Fin 2) (dpa len acc n off : Nat) (data : Bytes), s.on = true →
    dpaPlot s (dpa % 2 ^ 39 + 2 ^ 39 * die) = some (n, off) → tagOwner tag.toNat ≠ some (plotAt s n).owner →
    After (.brambleTransaction tag write (.dram die dpa) len data acc) s fun t =>
      Rejects s t (dpa % 2 ^ 39 + 2 ^ 39 * die) tag.toNat (if write then 2 else 1) len 0xFFF acc
        (if write then [] else [.bramble tag.toNat (zeros len)])) ∧
  (∀ (s : State) (tag : BitVec 17) (tile : Fin 144) (addr len acc : Nat), s.on = true → tagOwner tag.toNat = some (s.group (tile / 9)).owner →
    addr + len ≤ 10485760 → (s.tile tile).poisoned = [] →
    exec (.brambleTransaction tag false (.sram tile addr) len [] acc) s =
      .next { s with emitted := .bramble tag.toNat ((List.range len).map fun k => (s.tile tile).sram.read (addr + k)) :: s.emitted }) ∧
  (∀ (s : State) (tag : BitVec 17) (tile : Fin 144) (addr len acc : Nat) (data : Bytes), s.on = true →
    tagOwner tag.toNat = some (s.group (tile / 9)).owner → addr + len ≤ 10485760 → (s.tile tile).regions = [] → Mem.wf (s.tile tile).sram = true →
    After (.brambleTransaction tag true (.sram tile addr) len data acc) s fun t =>
      (∀ b, (t.tile tile).sram.read b = if addr ≤ b ∧ b < addr + len then (padTo len data).getD (b - addr) 0 else (s.tile tile).sram.read b) ∧
      (∀ k, k ≠ tile.val → t.tile k = s.tile k) ∧ t = { s with tiles := t.tiles }) ∧
  (∀ (s : State) (tag : BitVec 17) (write : Bool) (tile : Fin 144) (addr len acc : Nat) (data : Bytes), s.on = true →
    tagOwner tag.toNat ≠ some (s.group (tile / 9)).owner →
    After (.brambleTransaction tag write (.sram tile addr) len data acc) s fun t =>
      Rejects s t addr tag.toNat (if write then 2 else 1) len (0x480 + tile / 9) acc (if write then [] else [.bramble tag.toNat (zeros len)])) ∧
  (∀ (s : State) (tag : BitVec 17) (k len acc : Nat) (x : KeySlot), s.on = true → s.sec.slots.get? k = some x → tagOwner tag.toNat = some x.owner →
    exec (.brambleTransaction tag false (.keySlot k) len [] acc) s = .next { s with emitted := .bramble tag.toNat (zeros len) :: s.emitted }) ∧
  (∀ (s : State) (tag : BitVec 17) (write : Bool) (k len acc : Nat) (data : Bytes) (x : KeySlot), s.on = true → s.sec.slots.get? k = some x →
    tagOwner tag.toNat ≠ some x.owner →
    After (.brambleTransaction tag write (.keySlot k) len data acc) s fun t =>
      Rejects s t k tag.toNat (if write then 2 else 1) len 0xFFF acc (if write then [] else [.bramble tag.toNat (zeros len)])) ∧
  (∀ (s : State) (p : Fin 2) (off len acc : Nat), s.on = true → bar0Region off ≠ .operator →
    exec (.brambleTransaction (BitVec.ofNat 17 (0x400 + p)) false (.registers p off) len [] acc) s =
      .next { s with emitted := .bramble (0x400 + p) (readBar0 s p off len) :: s.emitted }) ∧
  (∀ (s : State) (tag : BitVec 17) (write : Bool) (p : Fin 2) (off len acc : Nat) (data : Bytes), s.on = true → tagOwner tag.toNat ≠ some 16 →
    (tag.toNat ≠ 0x400 + p ∨ bar0Region off = .operator) →
    After (.brambleTransaction tag write (.registers p off) len data acc) s fun t =>
      Rejects s t off tag.toNat (if write then 6 else 5) len 0xFFF acc (if write then [] else [.bramble tag.toNat (zeros len)])) ∧
  (∀ (s : State) (tag : BitVec 17) (write : Bool) (p : Fin 8) (len acc : Nat) (data : Bytes), s.on = true → tagOwner tag.toNat ≠ some (s.zal p).owner →
    After (.brambleTransaction tag write (.zalEgress p) len data acc) s fun t =>
      Rejects s t p tag.toNat (if write then 2 else 1) len (0x410 + p) acc (if write then [] else [.bramble tag.toNat (zeros len)])) ∧
  (∀ (s : State) (tag : BitVec 17) (p : Fin 2) (m addr len acc : Nat) (data : Bytes) (i : Instance), s.on = true → m < 1024 →
    s.insts.get? m = some i → i.port = p → tagOwner tag.toNat = some i.part → i.state = .running → i.pasid = none → i.dirtyOn = false →
    (s.port p).driverPresent = true →
    After (.brambleTransaction tag true (.hostEgress p m addr) len data acc) s fun t =>
      t.emitted = .hostWrite p m addr (padTo len data) :: s.emitted ∧ t.insts.get? m = some i ∧ t = { s with insts := t.insts, emitted := t.emitted }) ∧
  (∀ (s : State) (tag : BitVec 17) (write : Bool) (p : Fin 2) (m addr len acc : Nat) (data : Bytes), s.on = true → m < 1024 →
    (∀ i, s.insts.get? m = some i → i.port ≠ p ∨ tagOwner tag.toNat ≠ some i.part) →
    After (.brambleTransaction tag write (.hostEgress p m addr) len data acc) s fun t =>
      Rejects s t addr tag.toNat (if write then 2 else 1) len (0x4E0 + p) acc (if write then [] else [.bramble tag.toNat (zeros len)]))

/-- R316 to R318, R329 to R333, R345 to R349. The values of PCIe structures that R318 does not give are PRESUMED and not stated here. -/
def Obligations.HostPorts : Prop :=
  (∀ (s : State) (p : Fin 2) (w : Bool) (off v : Nat) (be : BitVec 4), s.on = true → (s.port p).perst = false → s.boot.rom = false →
    exec (.configRequest p w off be v) s = .next { s with emitted := .retry p :: s.emitted }) ∧
  (∀ (s : State) (p : Fin 2) (be : BitVec 4) (v : Nat), s.on = true → (s.port p).perst = false → s.boot.rom = true →
    exec (.configRequest p false 0 be v) s = .next { s with emitted := .reply p (le 4 (0x1FA7 + 2 ^ 16 * (0x9740 + p))) :: s.emitted } ∧
    exec (.configRequest p false 8 be v) s = .next { s with emitted := .reply p (le 4 0x12000001) :: s.emitted } ∧
    exec (.configRequest p false 0x2C be v) s = .next { s with emitted := .reply p (le 4 0x97401FA7) :: s.emitted } ∧
    exec (.configRequest p false 0x2CC be v) s = .next { s with emitted := .reply p (le 4 (s.boot.level + 4 * b2n s.boot.failed +
      8 * b2n (decide (s.boot.opPort = p)) + 16 * b2n s.boot.opAbsent)) :: s.emitted }) ∧
  (∀ (s : State) (p : Fin 2) (w : Bool) (off v : Nat) (be : BitVec 4), (s.port p).perst = true → exec (.configRequest p w off be v) s = .next s) ∧
  (∀ (s : State) (p : Fin 2) (v : Nat), s.on = true → (s.port p).perst = false → s.boot.rom = true → ((s.port p).bme = false ∨ v.testBit 2 = true) →
    After (.configRequest p true 4 15 v) s fun t => t.emitted = .reply p [] :: s.emitted ∧ HostOnly s t p ∧
      t.port p = { s.port p with mse := v.testBit 1, bme := v.testBit 2, per := v.testBit 6, serr := v.testBit 8 }) ∧
  (∀ (s : State) (p : Fin 2) (v : Nat), s.on = true → (s.port p).perst = false → s.boot.rom = true → (s.port p).bme = true → v.testBit 2 = false →
    s.insts = [] → s.sessions = [] → s.boot.opPort ≠ p →
    After (.configRequest p true 4 15 v) s fun t => (t.port p).bme = false ∧ (t.port p).driverPresent = false ∧ HostOnly s t p) ∧
  (∀ (s : State) (p : Fin 2), s.on = true → s.insts = [] → s.sessions = [] → s.boot.opPort ≠ p → (s.port p).reads = [] →
    After (.perstAssert p) s fun t => (t.port p).perst = true ∧ (t.port p).linkUp = false ∧ (t.port p).driverPresent = false ∧
      (t.port p).hbArmed = false ∧ (t.port p).bme = false ∧ (t.port p).mps = 0 ∧ (t.port p).msix = [] ∧ (t.port p).aer = [] ∧
      (t.port p).win = (s.port p).win ∧ (t.port p).winStaged = (s.port p).winStaged ∧ (t.port p).droppedDma = (s.port p).droppedDma ∧
      (t.port p).ctoCount = (s.port p).ctoCount ∧ (t.port p).lateCount = (s.port p).lateCount ∧ (∀ k, k ≠ p.val → t.port k = s.port k) ∧
      (t.mbx (0x400 + p)).enable = false ∧ (t.mbx (0x400 + p)).reqLog2 = 4 ∧ (t.mbx (0x400 + p)).session = none ∧
      (∀ k, k < 3 → (t.crossings.getD (4 * p + k) {}).severed = true) ∧ t.emitted = s.emitted ∧
      t = { s with ports := t.ports, mbxs := t.mbxs, crossings := t.crossings, free := t.free }) ∧
  (∀ (s : State) (p : Fin 2) (k : Nat) (r : HostRead), s.on = true → s.insts = [] → s.sessions = [] → s.boot.opPort ≠ p → (s.port p).reads = [(k, r)] →
    r.quarantined = false → r.op = none → After (.perstAssert p) s fun t => (t.port p).ctoCount = sat32 (s.port p).ctoCount 1 ∧
      (t.port p).reads = [(k, { r with quarantined := true })]) ∧
  (∀ (s : State) (p : Fin 2) (w v : Nat), s.on = true → w ∈ [1, 2, 4, 8, 16] → 1 ≤ v → v ≤ (s.port p).advertised → ¬ s.clk.down.contains p.val →
    (s.units.getD (uHost p) {}).state ≠ .failed → (s.port p).perst = true →
    After (.perstDeassert p w v) s fun t => (t.port p).perst = false ∧ (t.port p).linkUp = true ∧ (t.port p).width = w ∧ (t.port p).speed = v ∧
      (v = 6 → (t.port p).flit = true) ∧ (t.port p).reads = [] ∧ (t.port p).win = (s.port p).win ∧ (∀ k, k ≠ p.val → t.port k = s.port k) ∧
      t = { s with ports := t.ports, free := t.free }) ∧
  (∀ (s : State) (p : Fin 2), s.on = true → s.insts = [] → s.sessions = [] → s.boot.opPort ≠ p →
    After (.flr p) s fun t => (t.port p).driverPresent = false ∧ (t.port p).hbArmed = false ∧ (t.port p).bme = false ∧
      (t.port p).mps = (s.port p).mps ∧ (t.port p).reads = (s.port p).reads ∧ (t.port p).win = (s.port p).win ∧
      (t.port p).linkUp = (s.port p).linkUp ∧ (t.port p).width = (s.port p).width ∧ (∀ k, k ≠ p.val → t.port k = s.port k) ∧
      (t.mbx (0x400 + p)).enable = false ∧ t.emitted = s.emitted ∧
      t = { s with ports := t.ports, mbxs := t.mbxs, crossings := t.crossings, free := t.free }) ∧
  (∀ (s : State) (p : Fin 2) (v : Nat), s.on = true →
    exec (.hepHeartbeat p v) s = .next (s.modPort p fun h => { h with hbArmed := true, lastBeat := s.lc, beatSeen := true })) ∧
  (∀ (s : State) (p : Fin 2), s.lc < (s.port p).lastBeat + 2000000000 → exec (.heartbeatTimeout p) s = .next s) ∧
  (∀ (s : State) (p : Fin 2), s.on = true → (s.port p).hbArmed = true → (s.port p).driverPresent = true → (s.port p).lastBeat + 2000000000 ≤ s.lc →
    (s.insts.map Prod.fst).Nodup → s.sessions = [] → s.longOps = [] → s.stor.ops = [] → s.link.streams = [] → s.boot.opPort ≠ p →
    After (.heartbeatTimeout p) s fun t => (t.port p).driverPresent = false ∧ (t.port p).beatSeen = false ∧ t.emitted = s.emitted ∧
      (∀ n i, s.insts.get? n = some i → t.insts.get? n = some
        (if i.port = p ∧ (i.state = .running ∨ i.state = .resetting) then
          { i with gen := (i.gen + 1) % 65536, state := .resetting, freezing := false } else i)) ∧
      t = { s with ports := t.ports, insts := t.insts }) ∧
  (∀ (s : State) (p : Fin 2), s.on = true → s.boot.opPort = p → (s.port p).driverPresent = true → (s.port p).hbArmed = true →
    (s.port p).lastBeat + 2000000000 ≤ s.lc → s.insts = [] → s.sessions = [] →
    After (.heartbeatTimeout p) s fun t => t.boot.opAbsent = true ∧ (t.port p).driverPresent = false) ∧
  (∀ (s : State) (p : Fin 2), s.on = true → (s.port p).linkUp = true → (s.port p).d3hot = false → (s.port p).bme = true → (s.port p).beatSeen = true →
    (s.port p).driverPresent = false → (s.port p).readWait = [] → s.boot.opPort ≠ p →
    After (.driverReturn p) s fun t => (t.port p).driverPresent = true ∧ (∀ k, k ≠ p.val → t.port k = s.port k) ∧
      (∀ n i, s.insts.get? n = some i → t.insts.get? n = some (if i.port = p ∧ i.state = .hostLost ∧ pasidOk s i = true then
        { i with state := .running } else i)) ∧ t = { s with ports := t.ports, insts := t.insts }) ∧
  (∀ (s : State) (p : Fin 2), ((s.port p).linkUp = false ∨ (s.port p).d3hot = true ∨ (s.port p).bme = false ∨ (s.port p).beatSeen = false) →
    exec (.driverReturn p) s = .next s) ∧
  (∀ (m addr len off : Nat), 0 < m → CutAt m addr len off (splitReads m addr len off)) ∧
  (∀ (s : State) (p : Fin 2) (tag n : Nat) (a : HostData) (r : HostRead), (s.port p).reads.get? tag = some r → r.quarantined = true →
    (s.port p).readWait = [] →
    After (.hostCompletion p tag a n) s fun t => (t.port p).lateCount = sat32 (s.port p).lateCount 1 ∧ (t.port p).aer = 0x10 :: (s.port p).aer ∧
      (t.port p).reads.get? tag = (if r.missing ≤ n then none else some { r with missing := r.missing - n }) ∧
      HostOnly s t p ∧ t.emitted = s.emitted) ∧
  (∀ (s : State) (p : Fin 2) (tag op n : Nat) (bs : Bytes) (r : HostRead) (o : IoOp), (s.port p).reads.get? tag = some r → r.quarantined = false →
    r.op = some op → op < 65536 → r.stale = false → r.missing ≤ n → s.stor.ops = [(op, o)] → r.missing < o.missing →
    (s.port p).readWait = [] → Mem.wf o.data = true →
    After (.hostCompletion p tag (.data bs) n) s fun t => (t.port p).reads.get? tag = none ∧ t.emitted = s.emitted ∧
      (∃ o', t.stor.ops = [(op, o')] ∧ o' = { o with data := o'.data, missing := o.missing - r.missing } ∧
        ∀ b, o'.data.read b = if r.offset + (r.length - r.missing) ≤ b ∧ b < r.offset + (r.length - r.missing) + r.missing then
          (padTo r.missing bs).getD (b - (r.offset + (r.length - r.missing))) 0 else o.data.read b) ∧
      t = { s with ports := t.ports, stor := { s.stor with ops := t.stor.ops } }) ∧
  (∀ (s : State) (p : Fin 2) (tag : Nat) (r : HostRead), (s.port p).reads.get? tag = some r → s.lc < r.issued + readTimeout (s.port p) →
    exec (.completionTimeout p tag) s = .next s) ∧
  (∀ (s : State) (p : Fin 2) (tag : Nat) (r : HostRead), (s.port p).reads.get? tag = some r → r.quarantined = false → r.op = none →
    r.issued + readTimeout (s.port p) ≤ s.lc →
    After (.completionTimeout p tag) s fun t => (t.port p).reads.get? tag = some { r with quarantined := true } ∧
      (t.port p).ctoCount = sat32 (s.port p).ctoCount 1 ∧ (t.port p).aer = 0x0E :: (s.port p).aer ∧ HostOnly s t p ∧ t.emitted = s.emitted) ∧
  (∀ (s : State) (p : Fin 2) (tag : Nat) (r : HostRead), (s.port p).reads.get? tag = some r → r.quarantined = true →
    r.issued + 2 * readTimeout (s.port p) ≤ s.lc → (s.port p).readWait = [] →
    After (.tagQuarantineExpiry p tag) s fun t => (t.port p).reads.get? tag = none ∧ HostOnly s t p ∧ t.emitted = s.emitted) ∧
  (∀ (s : State) (p : Fin 2) (tag : Nat) (r : HostRead), (s.port p).reads.get? tag = some r → s.lc < r.issued + 2 * readTimeout (s.port p) →
    exec (.tagQuarantineExpiry p tag) s = .next s)

/-- R53, R54, R319 to R328, R352 to R354. -/
def Obligations.HostRegisters : Prop :=
  (∀ (s : State) (p : Fin 2), s.on = true → s.boot.opPort = p →
    After (.lcNow p 0 8) s fun t => t.emitted = .reply p (le 8 s.lc) :: s.emitted ∧ t.ports = s.ports ∧
      t = { s with crossings := t.crossings, emitted := t.emitted }) ∧
  (∀ (s : State) (p : Fin 2), s.on = true → s.boot.opPort = p →
    After (.lcNow p 0 4) s fun t => t.emitted = .reply p ((le 8 s.lc).take 4) :: s.emitted ∧ (t.port p).lcHiSnap = s.lc / 2 ^ 32 ∧
      t = { s with crossings := t.crossings, ports := t.ports, emitted := t.emitted }) ∧
  (∀ (s : State) (p : Fin 2), s.on = true → s.boot.opPort = p →
    After (.lcNow p 8 4) s fun t => t.emitted = .reply p ((le 8 (s.port p).lcHiSnap).take 4) :: s.emitted ∧ t.ports = s.ports ∧
      t = { s with crossings := t.crossings, emitted := t.emitted }) ∧
  (∀ (s : State) (p : Fin 2) (off n : Nat), s.on = true → s.boot.opPort ≠ p → off < 16 →
    After (.lcNow p off n) s fun t => Rejects s t (0x2000 + off) (0x400 + p) 5 n 0xFFF p [.reply p (zeros n)]) ∧
  (∀ (s : State) (p : Fin 2) (n : Nat) (i : Instance), s.on = true → s.insts.get? n = some i → i.port = p →
    After (.instLcNow p n 0 4) s fun t => t.emitted = .reply p ((le 8 s.lc).take 4) :: s.emitted ∧
      t.insts.get? n = some { i with lcHiSnap := s.lc / 2 ^ 32 } ∧ t = { s with crossings := t.crossings, insts := t.insts, emitted := t.emitted }) ∧
  (∀ (s : State) (p : Fin 2) (n : Nat) (i : Instance), s.on = true → s.insts.get? n = some i → i.port = p →
    After (.instLcNow p n 8 4) s fun t => t.emitted = .reply p ((le 8 i.lcHiSnap).take 4) :: s.emitted ∧
      t = { s with crossings := t.crossings, emitted := t.emitted }) ∧
  (∀ (s : State) (p : Fin 2) (n off k : Nat), s.on = true → (∀ i, s.insts.get? n = some i → i.port ≠ p) →
    After (.instLcNow p n off k) s fun t => Rejects s t (16384 * n + (0x1000 + off)) (pfTag s p) 5 k 0xFFF p [.reply p (zeros k)]) ∧
  (∀ (s : State) (p : Fin 2) (v : Nat), s.on = true → s.boot.opPort = p →
    exec (.lcClockStatus p v) s = .next { s with clk := { s.clk with
      lostHost0 := s.clk.lostHost0 && !v.testBit 8, lostHost1 := s.clk.lostHost1 && !v.testBit 9, lostEth := s.clk.lostEth && !v.testBit 10
      lostZal := s.clk.lostZal && !v.testBit 11, lostStor := s.clk.lostStor && !v.testBit 12 } }) ∧
  (∀ (s : State) (p : Fin 2) (v : Nat), s.on = true → s.boot.opPort ≠ p →
    After (.lcClockStatus p v) s fun t => Rejects s t 0x2010 (0x400 + p) 6 4 0xFFF p []) ∧
  (∀ (s : State) (p : Fin 2) (u v : Nat), s.on = true → s.boot.opPort = p → unitNamed u = true → inRange u 0xA0 16 = false →
    After (.pmcOvf p u v) s fun t => (∀ k, k < 8 → pmcAt t u k =
        (if v.testBit k = true ∧ (pmcAt s u k).holder = none then { pmcAt s u k with ovf := false } else pmcAt s u k)) ∧
      (∀ w k, w ≠ u → k < 8 → pmcAt t w k = pmcAt s w k) ∧ t = { s with mon := { s.mon with pmc := t.mon.pmc } }) ∧
  (∀ (s : State) (p : Fin 2) (n : Nat) (i : Instance) (x : Partition) (slot : Fin 64) (e : Nat × PmcCounter), s.on = true →
    s.insts.get? n = some i → i.port = p → s.parts.get? i.part = some x → x.tenantCounters = true → slotCounter s i.part slot = some e →
    After (.tenantCounterSlotRead p n slot) s fun t => t.emitted = .reply p (le 8 (e.2.count + 2 ^ 48 * b2n e.2.ovf + 2 ^ 63)) :: s.emitted ∧
      t.mon.latched.get? (64 * i.part + slot) = some (pmcCycle s (e.1 / 8)) ∧
      t = { s with mon := { s.mon with latched := t.mon.latched }, emitted := t.emitted }) ∧
  (∀ (s : State) (p : Fin 2) (n : Nat) (i : Instance) (x : Partition) (slot : Fin 64), s.on = true → s.insts.get? n = some i → i.port = p →
    s.parts.get? i.part = some x → x.tenantCounters = false →
    exec (.tenantCounterSlotRead p n slot) s = .next { s with emitted := .reply p (zeros 8) :: s.emitted }) ∧
  (∀ (s : State) (p : Fin 2) (v : Nat), s.on = true → (s.mbx (0x400 + p)).enable = false → v.testBit 0 = true → 4 ≤ bitsOf v 4 1 →
    bitsOf v 4 1 ≤ 12 → 4 ≤ bitsOf v 8 5 → bitsOf v 8 5 ≤ 12 →
    After (.mbxCtrl p (0x400 + p) v) s fun t => t.emitted = .ringHeader (0x400 + p) 0 0 :: s.emitted ∧ t = { s with mbxs := t.mbxs, emitted := t.emitted } ∧
      (let b := t.mbx (0x400 + p)
       b.enable = true ∧ b.reqLog2 = bitsOf v 4 1 ∧ b.rspLog2 = bitsOf v 8 5 ∧ b.vector = bitsOf v 19 9 ∧ b.signal = v.testBit 20 ∧
        b.posted = 0 ∧ b.fetched = 0 ∧ b.written = 0 ∧ b.consumed = 0 ∧ b.lost = 0 ∧ b.session = none ∧
        b.reqBase = (s.mbx (0x400 + p)).reqBase ∧ b.rspBase = (s.mbx (0x400 + p)).rspBase) ∧ ∀ m, m ≠ 0x400 + p.val → t.mbx m = s.mbx m) ∧
  (∀ (s : State) (p : Fin 2) (v : Nat), s.on = true → (s.mbx (0x400 + p)).enable = false → (bitsOf v 4 1 < 4 ∨ 12 < bitsOf v 4 1) →
    After (.mbxCtrl p (0x400 + p) v) s fun t => (t.mbx (0x400 + p)).enable = false ∧ t = { s with mbxs := t.mbxs }) ∧
  (∀ (s : State) (p : Fin 2) (v : Nat), s.on = true → (s.mbx (0x400 + p)).enable = true → v.testBit 0 = true →
    exec (.mbxCtrl p (0x400 + p) v) s = .next s) ∧
  (∀ (s : State) (p : Fin 2) (v : Nat), s.on = true → (s.mbx (0x400 + p)).enable = true → v.testBit 0 = false →
    After (.mbxCtrl p (0x400 + p) v) s fun t => (t.mbx (0x400 + p)).enable = false ∧ (t.mbx (0x400 + p)).session = none ∧
      (t.mbx (0x400 + p)).pend = [] ∧ t = { s with mbxs := t.mbxs }) ∧
  (∀ (s : State) (p : Fin 2) (v : Nat), s.on = true → (s.mbx (0x400 + p)).enable = true →
    let b := s.mbx (0x400 + p)
    let ahead := (BitVec.ofNat 32 v - BitVec.ofNat 32 b.fetched).toNat
    After (.reqDoorbell p (0x400 + p) v) s fun t => t = { s with mbxs := t.mbxs } ∧ t.mbx (0x400 + p) =
      (if 2 ^ 31 ≤ ahead then { b with posted := b.fetched, protoErr := sat32 b.protoErr 1 }
       else if 2 ^ b.reqLog2 < ahead then { b with posted := (b.fetched + 2 ^ b.reqLog2) % 2 ^ 32, protoErr := sat32 b.protoErr 1 }
       else { b with posted := v % 2 ^ 32 })) ∧
  (∀ (s : State) (p : Fin 2) (bar off size v : Nat), (size ≠ 4 ∧ size ≠ 8 ∨ off % size ≠ 0) → s.boot.opPort = p → bar ≠ 2 →
    exec (.registerWrite p bar off size v) s = .next s) ∧
  (∀ (s : State) (p : Fin 2) (v : Nat), s.on = true → (s.mbx (0x400 + p)).enable = false →
    After (.registerWrite p 0 0x100 8 v) s fun t => (t.mbx (0x400 + p)).reqBase = v % 2 ^ 64 ∧ t = { s with mbxs := t.mbxs }) ∧
  (∀ (s : State) (p : Fin 2) (k v : Nat), s.on = true → k < 2048 → v < 2 ^ 32 →
    After (.registerWrite p 0 (0x20000 + 16 * k + 8) 4 v) s fun t =>
      (t.port p).msix.getD k {} = { (s.port p).msix.getD k {} with data := v } ∧ HostOnly s t p ∧ t.emitted = s.emitted) ∧
  (∀ (s : State) (p : Fin 2) (off size v : Nat), s.on = true → bar0Region off = .operator → s.boot.opPort ≠ p →
    After (.registerWrite p 0 off size v) s fun t => Rejects s t off (0x400 + p) 6 size 0xFFF p []) ∧
  (∀ (s : State) (p : Fin 2) (n off size v : Nat), s.on = true → n < 1024 → off < 16384 → (∀ i, s.insts.get? n = some i → i.port ≠ p) →
    After (.registerWrite p 2 (16384 * n + off) size v) s fun t => Rejects s t (16384 * n + off) (pfTag s p) 6 size 0xFFF p []) ∧
  (∀ (s : State) (m c : Nat), s.on = true → (s.mbx m).enable = true → (s.mbx m).pend = [] → mayDma s (mbxPort s m) (mbxInst m) = true →
    After (.responseWrite m c) s fun t => t.mbx m = { s.mbx m with consumed := c } ∧ (∀ k, k ≠ m → t.mbx k = s.mbx k) ∧ t = { s with mbxs := t.mbxs }) ∧
  (∀ (s : State) (p : Fin 2) (c : Nat) (e : IaldoEntry), s.on = true → (s.mbx (0x400 + p)).enable = true → (s.mbx (0x400 + p)).pend = [e] →
    (s.port p).driverPresent = true → (s.mbx (0x400 + p)).signal = false → sub32 ((s.mbx (0x400 + p)).written + 1) c ≤ 2 ^ (s.mbx (0x400 + p)).rspLog2 →
    s.insts = [] →
    After (.responseWrite (0x400 + p) c) s fun t => t.emitted = .ialdo (0x400 + p) (((s.mbx (0x400 + p)).written + 1) % 2 ^ 32) e :: s.emitted ∧
      t.mbx (0x400 + p) = { s.mbx (0x400 + p) with consumed := c, pend := [], written := ((s.mbx (0x400 + p)).written + 1) % 2 ^ 32 }) ∧
  (∀ (s : State) (p : Fin 2) (n v : Nat) (i : Instance), s.on = true → s.insts.get? n = some i → i.port = p → i.state = .running →
    v.testBit 0 = true → s.longOps = [] → s.stor.ops = [] → s.link.streams = [] →
    After (.instControlReset p n v) s fun t =>
      t.insts.get? n = some { i with gen := (i.gen + 1) % 65536, state := .resetting, freezing := false } ∧
      (∀ k, k ≠ n → t.insts.get? k = s.insts.get? k) ∧ t = { s with insts := t.insts, ports := t.ports }) ∧
  (∀ (s : State) (p : Fin 2) (n v : Nat) (i : Instance), s.insts.get? n = some i → i.port = p → (i.state ≠ .running ∨ v.testBit 0 = false) →
    exec (.instControlReset p n v) s = .next s) ∧
  (∀ (s : State) (p : Fin 2) (n v : Nat), s.on = true → (∀ i, s.insts.get? n = some i → i.port ≠ p) →
    After (.instControlReset p n v) s fun t => Rejects s t (16384 * n + 0x10) (pfTag s p) 6 4 0xFFF p []) ∧
  (∀ (h : HostPort) (write : Bool) (off : Nat), (windowAt h write off = none ↔ ∀ e ∈ h.win.map Prod.snd,
      ¬ (e.valid = true ∧ (if write then e.write else e.read) = true ∧ e.barOffset ≤ off ∧ off < e.barOffset + e.length ∧ off < 2 ^ h.bar4Log2)) ∧
    ∀ w, windowAt h write off = some w → w ∈ h.win.map Prod.snd ∧ w.valid = true ∧ (if write then w.write else w.read) = true ∧
      w.barOffset ≤ off ∧ off < w.barOffset + w.length) ∧
  (∀ (s : State) (p : Fin 2) (off len : Nat) (w : WinEntry) (bs : Bytes), s.on = true → 0 < len → off % 2 ^ 21 + len ≤ 2 ^ 21 →
    windowAt (s.port p) false off = some w → readPlot s w.owner (w.target + (off - w.barOffset)) len = .bytes bs →
    exec (.bar4Access p false off len []) s = .next { s with emitted := .reply p bs :: s.emitted }) ∧
  (∀ (s t : State) (p : Fin 2) (off len : Nat) (data : Bytes) (w : WinEntry), s.on = true → 0 < len → off % 2 ^ 21 + len ≤ 2 ^ 21 →
    windowAt (s.port p) true off = some w → guarded s w.owner (w.target + (off - w.barOffset)) len = false →
    writePlot s w.owner (w.target + (off - w.barOffset)) (padTo len data) = (.done, t) →
    exec (.bar4Access p true off len data) s = .next t) ∧
  (∀ (s : State) (p : Fin 2) (write : Bool) (off len : Nat) (data : Bytes), s.on = true → 0 < len → off % 2 ^ 21 + len ≤ 2 ^ 21 →
    windowAt (s.port p) write off = none →
    After (.bar4Access p write off len data) s fun t =>
      Rejects s t off (mkTag 16 (0x402 + p)) (if write then 2 else 1) len 0xFFF p (if write then [] else [.reply p (zeros len)]))

/-- R327, R335 to R344, R369. -/
def Obligations.InstanceRequests : Prop :=
  (∀ (s : State) (q : Req) (n part port pasid base count : Nat), Served s q 0x0301 16 .operator → instBad s n part port pasid base count = false →
    s.insts.get? n = none → vectorsHeld s port base count = false → n < 1024 →
    After (.instanceCreate q n part port pasid base count) s fun t =>
      t.insts.get? n = some ({
        part := part, port := port, pasid := (if pasid = 0xFFFFFFFF then none else some pasid)
        vectorBase := base, vectorCount := count, state := .running, gen := 0 } : Instance) ∧ (t.mbx n).enable = false ∧ (t.mbx n).session = none ∧
      Replied s t q 0x0301 OK [] ∧ SameBut s t) ∧
  (∀ (s : State) (q : Req) (n part port pasid base count : Nat), Served s q 0x0301 16 .operator → instBad s n part port pasid base count = false →
    ((s.insts.get? n).isSome = true ∨ vectorsHeld s port base count = true) →
    After (.instanceCreate q n part port pasid base count) s fun t => Replied s t q 0x0301 IN_USE [] ∧ SameBut s t) ∧
  (∀ (s : State) (q : Req) (n part port pasid base count : Nat), Served s q 0x0301 16 .operator →
    (2048 < base + count ∨ count < 1 ∨ 66 < count ∨ (pasid ≠ 0xFFFFFFFF ∧ (0xFFFFF < pasid ∨ (s.port port).pasidEnable = false))) →
    After (.instanceCreate q n part port pasid base count) s fun t => Replied s t q 0x0301 INVALID [] ∧ SameBut s t) ∧
  (∀ (s : State) (q : Req) (n : Nat) (i : Instance), Served s q 0x0302 8 .operator → s.insts.get? n = some i → i.state = .running → i.freezing = false →
    n < 1024 → s.longOps = [] → s.stor.ops = [] → s.link.streams = [] →
    After (.instanceDestroy q n) s fun t => Accepted s t q 0x0302 ACCEPTED ∧
      t.insts.get? n = some { i with gen := (i.gen + 1) % 65536, state := .resetting, destroying := true, freezing := false } ∧
      SameBut { s with longOps := t.longOps, opNo := t.opNo } t) ∧
  (∀ (s : State) (q : Req) (n : Nat) (i : Instance), Served s q 0x0303 8 .operator → s.insts.get? n = some i → i.state = .running → i.freezing = false →
    n < 1024 → s.longOps = [] → s.stor.ops = [] → s.link.streams = [] →
    After (.instanceReset q n) s fun t => Accepted s t q 0x0303 ACCEPTED ∧
      t.insts.get? n = some { i with gen := (i.gen + 1) % 65536, state := .resetting, freezing := false } ∧
      SameBut { s with longOps := t.longOps, opNo := t.opNo } t) ∧
  (∀ (s : State) (q : Req) (n : Nat) (i : Instance), Served s q 0x0303 8 .operator → s.insts.get? n = some i → i.state ≠ .running →
    After (.instanceReset q n) s fun t => Replied s t q 0x0303 IN_USE [] ∧ SameBut s t) ∧
  (∀ (s : State) (n : Nat) (i : Instance), s.insts.get? n = some i → i.state = .resetting → instBusy s n = true →
    exec (.instanceResetComplete n) s = .next s) ∧
  (∀ (s : State) (n : Nat) (i : Instance), s.insts.get? n = some i → i.state = .resetting → i.destroying = false → instBusy s n = false →
    s.longOps = [] → s.stor = {} → s.pkt.rings = [] → s.link.streams = [] → s.ctxs = [] →
    After (.instanceResetComplete n) s fun t => (t.mbx n).enable = false ∧ (t.mbx n).session = none ∧ (t.mbx n).posted = 0 ∧
      (t.ctrl n).rdy = false ∧ (t.ctrl n).cc = 0 ∧ (t.ctrl n).sqs = [] ∧
      t.insts.get? n = some { i with state := if (s.port i.port).driverPresent && pasidOk s i then .running else .hostLost, doorbells := [] }) ∧
  (∀ (s : State) (q : Req) (n : Nat) (i : Instance), Served s q 0x0304 24 .opOrTenant → s.insts.get? n = some i →
    mayActOn (whoOf s q.mbx) i.part = true →
    After (.instanceQuery q n { addr := 0, len := 0, space := 0 }) s fun t => SameBut s t ∧ ∃ b : Bytes, Replied s t q 0x0304 OK b ∧
      fieldAt b 0 2 = n % 2 ^ 16 ∧ fieldAt b 2 1 = i.part % 256 ∧ fieldAt b 3 1 = i.port % 256 ∧ fieldAt b 4 4 = i.pasid.getD 0xFFFFFFFF % 2 ^ 32 ∧
      fieldAt b 8 2 = i.vectorBase % 2 ^ 16 ∧ fieldAt b 10 1 = i.vectorCount % 256 ∧ fieldAt b 11 1 = i.state.code ∧
      fieldAt b 12 2 = i.gen % 2 ^ 16) ∧
  (∀ (s : State) (q : Req) (n : Nat) (i : Instance), Served s q 0x0305 8 .operator → s.insts.get? n = some i → i.state = .running → i.freezing = false →
    instBusy s n = true → n < 1024 → s.longOps = [] →
    After (.instanceFreeze q n) s fun t => Accepted s t q 0x0305 ACCEPTED ∧ t.insts.get? n = some { i with freezing := true, freezeAt := s.lc } ∧
      SameBut { s with longOps := t.longOps, opNo := t.opNo } t) ∧
  (∀ (s : State) (q : Req) (n : Nat) (i : Instance), Served s q 0x0305 8 .operator → s.insts.get? n = some i → i.state = .running → i.freezing = false →
    instBusy s n = false → n < 1024 → s.longOps = [] →
    After (.instanceFreeze q n) s fun t => Completed s t q 0x0305 OK (zeros 8) ∧ t.insts.get? n = some { i with state := .frozen } ∧
      SameBut { s with longOps := t.longOps, opNo := t.opNo } t) ∧
  (∀ (s : State) (n : Nat) (i : Instance), s.insts.get? n = some i → i.freezing = true → instBusy s n = true → s.lc < i.freezeAt + 50000000 →
    exec (.freezeTimeout n) s = .next s) ∧
  (∀ (s : State) (n : Nat) (i : Instance), s.insts.get? n = some i → i.freezing = true → instBusy s n = false → s.longOps = [] → s.stor.ops = [] →
    s.link.runs = [] → s.pkt.rings = [] →
    After (.freezeTimeout n) s fun t => t.insts.get? n = some { i with state := .frozen, freezing := false } ∧
      (∀ k, k ≠ n → t.insts.get? k = s.insts.get? k)) ∧
  (∀ (s : State) (q : Req) (n : Nat) (i : Instance), Served s q 0x0308 8 .operator → s.insts.get? n = some i → i.state = .frozen → i.doorbells = [] →
    n < 1024 → After (.instanceThaw q n) s fun t => t.insts.get? n = some { i with state := .running } ∧ Replied s t q 0x0308 OK [] ∧ SameBut s t) ∧
  (∀ (s : State) (q : Req) (n db v key : Nat) (i : Instance) (b : BulkQueue), Served s q 0x0308 8 .operator → s.insts.get? n = some i →
    i.state = .frozen → db < 16 → i.doorbells = [(0x0A00 + 4 * db, v)] → key = bulkKey n db → s.stor.bulk.get? key = some b → n < 1024 →
    After (.instanceThaw q n) s fun t => t.stor.bulk.get? key = some { b with posted := v } ∧ Replied s t q 0x0308 OK [] ∧
      t.insts.get? n = some { i with state := .running, doorbells := [] } ∧
      SameBut { s with stor := { s.stor with bulk := t.stor.bulk }, ctxs := t.ctxs } t) ∧
  (∀ (s : State) (q : Req) (n k : Nat) (i : Instance) (slot : KeySlot) (out : BufRef), Served s q 0x0306 24 .operator → s.insts.get? n = some i →
    i.state = .frozen → migrationKey s i.part = some (k, slot) → slot.state = .loaded → out.space = 1 → 262144 ≤ out.len → n < 1024 →
    (s.port (whoOf s q.mbx).port).driverPresent = true → s.longOps = [] →
    After (.instanceSave q n out) s fun t =>
      let plain := packTables (saveTables s n i)
      let head := blobHead (48 + plain.length) n (gcmIv slot.fixed slot.nextCount)
      fieldAt head 0 4 = 0x42494D5A ∧ fieldAt head 4 2 = 1 ∧ fieldAt head 12 2 = n ∧
      .hostWrite (whoOf s q.mbx).port (whoOf s q.mbx).inst out.addr (head ++ Config.gcmSeal slot.key (gcmIv slot.fixed slot.nextCount) head plain) ∈
        t.emitted ∧ Completed s t q 0x0306 OK (le 4 (48 + plain.length) ++ zeros 4)) ∧
  (∀ (s : State) (q : Req) (n part port pasid base count : Nat) (blob : BufRef) (host : HostData) (b : Bytes),
    Served s q 0x0307 40 .operator → instBad s n part port pasid base count = false → refBad blob 48 = false →
    readBuf s (whoOf s q.mbx) blob host = .ok b → fieldAt b 0 4 ≠ 0x42494D5A →
    After (.instanceRestore q n part port pasid base count blob host) s fun t => Replied s t q 0x0307 INVALID [] ∧ SameBut s t) ∧
  (∀ (s : State) (q : Req) (n part port pasid base count k : Nat) (blob : BufRef) (host : HostData) (b plain : Bytes) (slot : KeySlot),
    Served s q 0x0307 40 .operator → instBad s n part port pasid base count = false → refBad blob 48 = false →
    readBuf s (whoOf s q.mbx) blob host = .ok b → fieldAt b 0 4 = 0x42494D5A → fieldAt b 4 2 = 1 → 48 ≤ fieldAt b 8 4 →
    fieldAt b 8 4 ≤ 262144 → fieldAt b 8 4 ≤ b.length → migrationKey s part = some (k, slot) →
    Config.gcmOpen slot.key ((b.drop 16).take 12) (b.take 32) ((b.take (fieldAt b 8 4)).drop 32) = some plain →
    cell (((unpackTables saveWidths plain).getD 0 []).getD 0 []) 0 ≤ count → s.insts.get? n = none → vectorsHeld s port base count = false →
    (∀ j, 2 ≤ j → (unpackTables saveWidths plain).getD j [] = []) → n < 1024 → s.longOps = [] →
    After (.instanceRestore q n part port pasid base count blob host) s fun t => Completed s t q 0x0307 OK [] ∧
      ∃ i, t.insts.get? n = some i ∧ i.state = .frozen ∧ i.part = part ∧ i.port = port ∧ i.vectorBase = base ∧ i.vectorCount = count) ∧
  (∀ (s : State) (q : Req) (port entry off len target owner perm : Nat), Served s q 0x0309 48 .operator →
    let w : WinEntry := { barOffset := off, length := len, target := target, owner := (ownerOfByte owner).getD 16,
                          read := bitOf perm 0, write := bitOf perm 1, valid := bitOf perm 2 }
    windowBad port entry w owner perm = false → ownerExists s w.owner = true →
    After (.windowWrite q port entry off len target owner perm) s fun t => (t.port port).winStaged.get? entry = some w ∧
      (t.port port).win = (s.port port).win ∧ Replied s t q 0x0309 OK [] ∧ SameBut s t) ∧
  (∀ (s : State) (q : Req) (port : Nat), Served s q 0x030A 8 .operator → port < 2 → windowsOverlap (s.port port).winStaged = false →
    After (.windowCommit q port) s fun t => (t.port port).win = (s.port port).winStaged ∧ (t.port port).winStaged = (s.port port).winStaged ∧
      Replied s t q 0x030A OK [] ∧ SameBut s t) ∧
  (∀ (s : State) (q : Req) (port : Nat), Served s q 0x030A 8 .operator → windowsOverlap (s.port port).winStaged = true →
    After (.windowCommit q port) s fun t => (t.port port).win = (s.port port).win ∧ Replied s t q 0x030A INVALID [] ∧ SameBut s t) ∧
  (∀ (s : State) (q : Req) (n : Nat) (i : Instance) (r : BufRef) (host : HostData) (bs : Bytes), Served s q 0x0340 24 .operator →
    s.insts.get? n = some i → refBad r 16 = false → readBuf s (whoOf s q.mbx) r host = .ok bs → fieldAt (bs.take 16) 0 8 % 4096 = 0 →
    fieldAt (bs.take 16) 8 8 % 4096 = 0 → fieldAt (bs.take 16) 8 8 ≤ 2 ^ 42 → i.dirtyOn = false → n < 1024 →
    After (.dirtyLogStart q n 1 r host) s fun t => t.insts.get? n = some { i with dirtyOn := true, dirtyOutside := 0, dirty := [{ addr := fieldAt (bs.take 16) 0 8, length := fieldAt (bs.take 16) 8 8, marked := [] }] } ∧
      Replied s t q 0x0340 OK [] ∧ SameBut s t) ∧
  (∀ (s : State) (q : Req) (n k : Nat) (i : Instance) (r : DirtyRange) (out : BufRef), Served s q 0x0341 24 .operator → s.insts.get? n = some i →
    i.dirtyOn = true → i.dirty[k]? = some r → out.space = 1 → r.bytes.length ≤ out.len → (s.port (whoOf s q.mbx).port).driverPresent = true →
    n < 1024 → s.longOps = [] →
    After (.dirtyLogRead q n k out) s fun t => .hostWrite (whoOf s q.mbx).port (whoOf s q.mbx).inst out.addr r.bytes ∈ t.emitted ∧
      Completed s t q 0x0341 OK (le 8 i.dirtyOutside) ∧
      t.insts.get? n = some { i with dirty := i.dirty.set k { r with marked := [] }, dirtyOutside := 0 }) ∧
  (∀ (r : DirtyRange) (j : Nat), j < r.length / 4096 → ∃ b : Byte, r.bytes[j / 8]? = some b ∧ b.getLsbD (j % 8) = r.marked.contains j) ∧
  (∀ (s : State) (q : Req) (n : Nat) (i : Instance), Served s q 0x0342 8 .operator → s.insts.get? n = some i → n < 1024 →
    After (.dirtyLogStop q n) s fun t => t.insts.get? n = some { i with dirtyOn := false, dirty := [] } ∧ Replied s t q 0x0342 OK [] ∧ SameBut s t)

/-- R353, R356, R361, R561: the order of the refusals that come before a request's own statement, for every opcode, length, sender
and statement. -/
def Obligations.RefusalOrder : Prop :=
  (∀ (q : Req) (c : Cat) (f : Who → State → Answer) (s : State), mbxFetches s q.mbx = false → serve q c f s = s) ∧
  (∀ (q : Req) (c : Cat) (f : Who → State → Answer) (s : State), mbxFetches s q.mbx = true → (s.mbx q.mbx).session = none →
    Replied s (serve q c f s) q c.opcode NO_SESSION [] ∧ SameBut s (serve q c f s) ∧
      ((serve q c f s).mbx q.mbx).fetched = ((s.mbx q.mbx).fetched + 1) % 2 ^ 32) ∧
  (∀ (q : Req) (c : Cat) (f : Who → State → Answer) (s : State) (ses : Session), mbxFetches s q.mbx = true → (s.mbx q.mbx).session = some ses →
    (q.level ≠ ses.level ∨ q.index ≠ ((s.mbx q.mbx).fetched + 1) % 2 ^ 32 ∨ q.len ≠ c.len ∨ q.hdrBad = true) →
    Replied s (serve q c f s) q c.opcode INVALID [] ∧ SameBut s (serve q c f s) ∧
      ((serve q c f s).mbx q.mbx).fetched = ((s.mbx q.mbx).fetched + 1) % 2 ^ 32) ∧
  (∀ (q : Req) (c : Cat) (f : Who → State → Answer) (s : State) (ses : Session), mbxFetches s q.mbx = true → (s.mbx q.mbx).session = some ses →
    q.level = ses.level → q.index = ((s.mbx q.mbx).fetched + 1) % 2 ^ 32 → q.len = c.len → q.hdrBad = false →
    ((ses.level ≠ 3 ∧ level2Request c.opcode = false) ∨ ses.features.testBit (featureBit c.opcode) = false ∨
      (∃ k ∈ c.gates, ses.features.testBit k = false)) →
    Replied s (serve q c f s) q c.opcode UNSUPPORTED [] ∧ SameBut s (serve q c f s) ∧
      ((serve q c f s).mbx q.mbx).fetched = ((s.mbx q.mbx).fetched + 1) % 2 ^ 32) ∧
  (∀ (q : Req) (c : Cat) (f : Who → State → Answer) (s : State) (ses : Session), mbxFetches s q.mbx = true → (s.mbx q.mbx).session = some ses →
    q.level = ses.level → q.index = ((s.mbx q.mbx).fetched + 1) % 2 ^ 32 → q.len = c.len → q.hdrBad = false →
    supported ses c.opcode = true → (∀ k ∈ c.gates, ses.features.testBit k = true) →
    (match c.sender with
     | .any => False
     | .pf => q.mbx < 0x400
     | .operator => q.mbx ≠ 0x400 + s.boot.opPort
     | .tenant => 0x400 ≤ q.mbx
     | .opOrTenant => 0x400 ≤ q.mbx ∧ q.mbx ≠ 0x400 + s.boot.opPort) →
    Replied s (serve q c f s) q c.opcode DENIED [] ∧ SameBut s (serve q c f s) ∧
      ((serve q c f s).mbx q.mbx).fetched = ((s.mbx q.mbx).fetched + 1) % 2 ^ 32) ∧
  (∀ (s : State) (q : Req), mbxFetches s q.mbx = true → (s.mbx q.mbx).session = none →
    After (.readyQuery q) s fun t => Replied s t q 0x0104 NO_SESSION [] ∧ SameBut s t)

/-- R31, R32, R91, R358, R359, R363, R364, R366, R373. -/
def Obligations.DeviceMessages : Prop :=
  (∀ (s : State) (q : Req) (host ver : Nat) (feat : BitVec 256), mbxFetches s q.mbx = true → q.level = 0 →
    q.index = ((s.mbx q.mbx).fetched + 1) % 2 ^ 32 → q.len = 48 → q.hdrBad = false → q.bodyBad = false → 2 ≤ host →
    let level := min host s.fw.levelMax
    let chosen := feat.toNat &&& (if level = 3 then 0x1FFFF else 0x7F)
    After (.hello q host ver feat) s fun t => (t.mbx q.mbx).session = some { level := level, features := chosen, driverVersion := ver } ∧
      (t.mbx q.mbx).events = [] ∧ (t.mbx q.mbx).enable = true ∧ SameBut s t ∧
      ∃ b : Bytes, (entriesFor t q.mbx).head? = some ({
          opcode := 0x0101, kind := 2, level := 0, index := q.index, status := OK, token := 0
          cookie := q.cookie, time := s.lc, body := b } : IaldoEntry) ∧ b.length = 64 ∧ fieldAt b 0 1 = level % 256 ∧
        fieldAt b 1 1 = (if q.mbx < 0x400 then 2 else if q.mbx = 0x400 + s.boot.opPort then 0 else 1) ∧
        fieldAt b 4 2 = (if 0x400 ≤ q.mbx then 0xFFFF else q.mbx) ∧ fieldAt b 6 2 = (if s.boot.level = 3 then 16 else 4) ∧
        fieldAt b 8 32 = chosen ∧ fieldAt b 40 4 = s.fw.version % 2 ^ 32) ∧
  (∀ (s : State) (q : Req) (host ver : Nat) (feat : BitVec 256), mbxFetches s q.mbx = true → q.level = 0 →
    q.index = ((s.mbx q.mbx).fetched + 1) % 2 ^ 32 → q.len = 48 → q.hdrBad = false → q.bodyBad = false → host < 2 →
    After (.hello q host ver feat) s fun t => (t.mbx q.mbx).session = (s.mbx q.mbx).session ∧ SameBut s t ∧
      ∃ e, (entriesFor t q.mbx).head? = some e ∧ e.status = UNSUPPORTED ∧ e.opcode = 0x0101 ∧ e.body = []) ∧
  (∀ (s : State) (q : Req), Served s q 0x0102 0 .any →
    After (.goodbye q) s fun t => Replied s t q 0x0102 OK [] ∧ (t.mbx q.mbx).session = none ∧ (t.mbx q.mbx).enable = true ∧ SameBut s t) ∧
  (∀ (s : State) (q : Req), Served s q 0x0103 0 .any →
    After (.deviceInfo q) s fun t => SameBut s t ∧ ∃ b : Bytes, Replied s t q 0x0103 OK b ∧ b.length = 64 ∧
      fieldAt b 0 2 = (if s.fuses.lx then 2 else 1) ∧ fieldAt b 3 1 = s.boot.level % 256 ∧ fieldAt b 4 4 = s.fw.version % 2 ^ 32 ∧
      fieldAt b 8 8 = s.fuses.serial % 2 ^ 64 ∧ (∀ k, k < 8 → (fieldAt b 24 1).testBit k = unitIn s (uStack k)) ∧
      (∀ g, g < 16 → (fieldAt b 26 2).testBit g = decide ((s.group g).state ≠ .retired)) ∧
      (∀ p, p < 8 → (fieldAt b 28 1).testBit p = (s.zal p).inService) ∧ (∀ p, p < 2 → (fieldAt b 30 1).testBit p = (s.port p).driverPresent)) ∧
  (∀ (s : State) (q : Req), Served s q 0x0104 0 .any →
    After (.readyQuery q) s fun t => SameBut s t ∧ ∃ b : Bytes, Replied s t q 0x0104 OK b ∧ b.length = 8 ∧ fieldAt b 0 1 = s.boot.level % 256 ∧
      fieldAt b 1 1 = b2n s.boot.failed + 2 * b2n s.boot.opAbsent ∧ fieldAt b 4 4 = s.boot.cause % 2 ^ 32) ∧
  (∀ (s : State) (q : Req) (port : Nat), Served s q 0x0105 8 .operator → port < 2 → (s.port port).driverPresent = true →
    (s.mbx (0x400 + port)).session.isSome = true → s.sec.log.length < 4096 →
    After (.operatorTransfer q port) s fun t => t.boot = { s.boot with opPort := port } ∧ t.sec.log.length = s.sec.log.length + 1 ∧
      Replied s t q 0x0105 OK [] ∧ SameBut { s with boot := t.boot, sec := t.sec } t) ∧
  (∀ (s : State) (q : Req) (port : Nat), Served s q 0x0105 8 .operator → port < 2 →
    ((s.port port).driverPresent = false ∨ (s.mbx (0x400 + port)).session = none) →
    After (.operatorTransfer q port) s fun t => Replied s t q 0x0105 IN_USE [] ∧ SameBut s t) ∧
  (∀ (s : State) (q : Req) (scope flags : Nat), Served s q 0x0106 8 .operator → (scope < 16 ∨ scope = 0xFF) → flags < 2 →
    let o := if scope = 0xFF then 16 else scope
    After (.violationRead q scope flags) s fun t => t.vio = (if flags = 1 then s.vio.erase o else s.vio) ∧
      (∃ b : Bytes, Replied s t q 0x0106 OK b ∧ b.length = 40 ∧ fieldAt b 0 4 = (s.vio.getD o {}).count % 2 ^ 32 ∧
        ((s.vio.getD o {}).record = none → b.drop 8 = zeros 32) ∧
        ∀ r, (s.vio.getD o {}).record = some r → fieldAt b 8 8 = r.time % 2 ^ 64 ∧ fieldAt b 16 8 = r.address % 2 ^ 64 ∧
          fieldAt b 24 3 = r.tag % 2 ^ 24 ∧ fieldAt b 27 1 = r.kind % 256 ∧ fieldAt b 28 4 = r.length % 2 ^ 32 ∧
          fieldAt b 32 2 = r.target % 2 ^ 16 ∧ fieldAt b 34 2 = r.accessor % 2 ^ 16) ∧ SameBut { s with vio := t.vio } t) ∧
  (∀ (s : State) (q : Req) (first count : Nat) (out : BufRef), Served s q 0x0107 24 .operator → 1 ≤ count → count ≤ 1024 → out.space = 1 →
    32 * count ≤ out.len →
    After (.faultLogRead q first count out) s fun t => (∃ d : Bytes, .hostWrite (whoOf s q.mbx).port 0xFFFF out.addr d ∈ t.emitted ∧
        d.length = 32 * count ∧ ∀ (k : Nat) (e : FaultEntry), k < count → s.faultLog[first + k]? = some e →
          fieldAt d (32 * k) 8 = e.time % 2 ^ 64 ∧ fieldAt d (32 * k + 8) 8 = e.nonce % 2 ^ 64 ∧ fieldAt d (32 * k + 16) 2 = e.unit % 2 ^ 16 ∧
          fieldAt d (32 * k + 18) 1 = e.kind % 256 ∧ fieldAt d (32 * k + 20) 4 = e.code % 2 ^ 32) ∧
      Replied s t q 0x0107 OK (le 4 s.faultLog.length ++ zeros 4) ∧ SameBut s t) ∧
  (∀ (s : State) (q : Req) (k : Nat) (e : FaultEntry), Served s q 0x0108 8 .operator → s.faultLog[k]? = some e →
    After (.faultLogRemove q k) s fun t => if 1 ≤ e.kind ∧ e.kind ≤ 3 then
        t.faultLog = s.faultLog.eraseIdx k ∧ Replied s t q 0x0108 OK [] ∧ SameBut { s with faultLog := t.faultLog } t
      else Replied s t q 0x0108 INVALID [] ∧ SameBut s t) ∧
  (∀ (s : State) (q : Req) (count : Nat) (l : List Nat), Served s q 0x0109 72 .any → count ≤ 32 →
    After (.eventConfig q count l) s fun t => (t.mbx q.mbx).events = l.take count ∧ Replied s t q 0x0109 OK [] ∧ SameBut s t) ∧
  (∀ (s : State) (q : Req) (tok : Nat), Served s q 0x010A 8 .any → s.longOps = [] →
    After (.ialdoAbort q tok) s fun t => Replied s t q 0x010A OK (le 2 (if tok ∈ (s.mbx q.mbx).doneTokens then ALREADY_COMPLETE else
      NO_SUCH_OPERATION) ++ zeros 6) ∧ SameBut s t) ∧
  (∀ (s : State) (q : Req) (n : Nat) (o : LongOp) (p a m : Nat), Served s q 0x010A 8 .any → s.longOps = [(n, o)] → o.mbx = q.mbx →
    o.sessionNo = (s.mbx q.mbx).sessionNo → o.data = .modelLoad p a m →
    After (.ialdoAbort q o.token) s fun t => t.longOps = [] ∧ t.models = s.models ∧ Replied s t q 0x010A OK (le 2 ABORTED ++ zeros 6) ∧
      (∃ e, (entriesFor t q.mbx)[1]? = some e ∧ e.kind = 3 ∧ e.status = ABORTED ∧ e.token = o.token ∧ e.opcode = o.opcode) ∧
      SameBut { s with longOps := [] } t) ∧
  (∀ (s : State) (q : Req) (n : Nat) (o : LongOp) (i : Nat), Served s q 0x010A 8 .any → s.longOps = [(n, o)] → o.mbx = q.mbx →
    o.sessionNo = (s.mbx q.mbx).sessionNo → o.data = .instReset i →
    After (.ialdoAbort q o.token) s fun t => Replied s t q 0x010A INVALID [] ∧ SameBut s t) ∧
  (∀ (s : State) (q : Req), Served s q 0x010B 8 .any → q.mbx < 0x402 → (0x400 ≤ q.mbx ∨ (s.insts.get? q.mbx).isSome = true) →
    After (.mailboxQuery q 0xFFFF) s fun t => SameBut s t ∧ ∃ (b : Bytes) (ses : Session), (s.mbx q.mbx).session = some ses ∧
      Replied s t q 0x010B OK b ∧ b.length = 32 ∧ fieldAt b 0 1 = ses.level % 256 ∧ fieldAt b 4 4 = ses.driverVersion % 2 ^ 32 ∧
      fieldAt b 8 4 = (s.mbx q.mbx).protoErr % 2 ^ 32 ∧ fieldAt b 12 4 = (s.mbx q.mbx).lost % 2 ^ 32 ∧
      fieldAt b 24 8 = ((s.mbx q.mbx).fetched + 1) % 2 ^ 32) ∧
  (∀ (s : State) (q : Req) (m : Nat), Served s q 0x010B 8 .any → m ≠ 0xFFFF → m ≠ q.mbx → (whoOf s q.mbx).op = false →
    After (.mailboxQuery q m) s fun t => Replied s t q 0x010B DENIED [] ∧ SameBut s t) ∧
  (∀ (s : State) (q : Req) (p mask : Nat), Served s q 0x010C 8 .operator → p < 2 → mask < 8 →
    After (.hepCountsClear q p mask) s fun t => (t.port p).droppedDma = (if mask.testBit 0 then 0 else (s.port p).droppedDma) ∧
      (t.port p).ctoCount = (if mask.testBit 1 then 0 else (s.port p).ctoCount) ∧
      (t.port p).lateCount = (if mask.testBit 2 then 0 else (s.port p).lateCount) ∧ Replied s t q 0x010C OK [] ∧ SameBut s t)

/-- R22, R368, R374, R385, R386, R388, R516. -/
def Obligations.PartitionMessages : Prop :=
  (∀ (s : State) (q : Req) (p policy tracker resident rate keys pages : Nat), Served s q 0x0201 32 .operator → s.sec.alarm = none →
    createBad s p policy (newPart policy tracker resident keys pages) (if rate = 0 then 1000000 else rate) = false → s.parts.get? p = none →
    s.longOps = [] → s.sec.withdrawn0 = false →
    After (.partitionCreate q p policy tracker resident rate keys pages) s fun t => (∃ x, t.parts.get? p = some x ∧
        x.stopPolicy = policy.testBit 0 ∧ x.tenantCounters = policy.testBit 1 ∧ x.trackerQuota = (if tracker = 0xFFFFFFFF then 4032 else tracker) ∧
        x.residentQuota = (if resident = 0xFFFF then 240 else resident) ∧ x.keyQuota = keys ∧ x.pageQuota = pages ∧ x.queueQuota = 1024) ∧
      (∀ k, k ≠ p → t.parts.get? k = s.parts.get? k) ∧ t.excRates.get? p = some (if rate = 0 then 1000000 else rate) ∧ t.vio.get? p = none ∧
      (∃ k, t.sec.memKeys.get? p = some { key := some k, imported := false, check := [] }) ∧ ((t.sec.logs.getD p []).map LogEntry.type) = [0x10, 0x12] ∧
      Replied s t q 0x0201 OK [] ∧
      SameBut { s with parts := t.parts, vio := t.vio, excRates := t.excRates, sec := t.sec, free := t.free } t) ∧
  (∀ (s : State) (q : Req) (p policy tracker resident rate keys pages : Nat), Served s q 0x0201 32 .operator → s.sec.alarm = none →
    (16 ≤ p ∨ 4 ≤ policy ∨ (rate ≠ 0 ∧ rate < 1000) ∨ 8000000 < rate ∨ 16384 < keys ∨ 16777216 < pages) →
    After (.partitionCreate q p policy tracker resident rate keys pages) s fun t => Replied s t q 0x0201 INVALID [] ∧ SameBut s t) ∧
  (∀ (s : State) (q : Req) (p policy tracker resident rate keys pages : Nat), Served s q 0x0201 32 .operator → s.sec.alarm = none →
    createBad s p policy (newPart policy tracker resident keys pages) (if rate = 0 then 1000000 else rate) = false → (s.parts.get? p).isSome = true →
    After (.partitionCreate q p policy tracker resident rate keys pages) s fun t => Replied s t q 0x0201 IN_USE [] ∧ SameBut s t) ∧
  (∀ (s : State) (q : Req) (p policy tracker resident rate keys pages : Nat), Served s q 0x0201 32 .operator → s.sec.alarm = none →
    createBad s p policy (newPart policy tracker resident keys pages) (if rate = 0 then 1000000 else rate) = false → s.parts.get? p = none →
    s.longOps = [] → s.sec.withdrawn0 = true → s.sec.withdrawn1 = true →
    After (.partitionCreate q p policy tracker resident rate keys pages) s fun t => t.sec.waiting.length = s.sec.waiting.length + 1 ∧
      entriesFor t q.mbx = entriesFor s q.mbx ∧ SameBut { s with sec := { s.sec with waiting := t.sec.waiting } } t) ∧
  (∀ (s : State) (q : Req) (p : Nat) (x : Partition), Served s q 0x0203 8 .opOrTenant → s.parts.get? p = some x → p < 16 →
    mayActOn (whoOf s q.mbx) p = true →
    After (.partitionQuery q p) s fun t => SameBut s t ∧ ∃ b : Bytes, Replied s t q 0x0203 OK b ∧ b.length = 112 ∧ fieldAt b 0 1 = p ∧
      fieldAt b 1 1 = b2n x.stopPolicy + 2 * b2n x.tenantCounters ∧ fieldAt b 4 4 = x.trackerQuota % 2 ^ 32 ∧ fieldAt b 8 4 = heldBy s p % 2 ^ 32 ∧
      fieldAt b 12 2 = x.residentQuota % 2 ^ 16 ∧ fieldAt b 24 4 = s.excRates.getD p 0 % 2 ^ 32 ∧ fieldAt b 28 4 = excRate s p % 2 ^ 32 ∧
      fieldAt b 64 4 = x.keyQuota % 2 ^ 32 ∧ fieldAt b 80 4 = plotQuota s p % 2 ^ 32 ∧
      ∀ g, g < 16 → (fieldAt b 88 2).testBit g = (decide ((s.group g).owner = p) && decide ((s.group g).state = .assigned))) ∧
  (∀ (s : State) (q : Req) (p : Nat), Served s q 0x0203 8 .opOrTenant → (whoOf s q.mbx).op = false → p ≠ 0xFF → p ≠ (whoOf s q.mbx).owner →
    After (.partitionQuery q p) s fun t => Replied s t q 0x0203 DENIED [] ∧ SameBut s t) ∧
  (∀ (s : State) (q : Req) (p v : Nat) (x : Partition), Served s q 0x0204 8 .operator → s.parts.get? p = some x → p < 16 →
    v + otherQuotas s p Partition.trackerQuota ≤ 64512 →
    After (.quotaSet q p 1 v) s fun t => t.parts.get? p = some { x with trackerQuota := v } ∧ Replied s t q 0x0204 OK [] ∧
      SameBut { s with parts := t.parts } t) ∧
  (∀ (s : State) (q : Req) (p v : Nat) (x : Partition), Served s q 0x0204 8 .operator → s.parts.get? p = some x → p < 16 →
    v + otherQuotas s p Partition.residentQuota + s.opResident ≤ 4080 → (s.ctxs.map Prod.fst).Nodup →
    After (.quotaSet q p 2 v) s fun t => t.parts.get? p = some { x with residentQuota := v } ∧ (residentCount t p ≤ v ∨ parkable t p = []) ∧
      (∀ k c, s.ctxs.get? k = some c → (c.pinned = true ∨ ctxBusy s k = true ∨ c.owner ≠ p) → t.ctxs.get? k = some c) ∧
      Replied s t q 0x0204 OK [] ∧ SameBut { s with parts := t.parts, ctxs := t.ctxs } t) ∧
  (∀ (s : State) (q : Req) (p v : Nat), Served s q 0x0204 8 .operator → p < 16 → 64512 < v + otherQuotas s p Partition.trackerQuota →
    After (.quotaSet q p 1 v) s fun t => Replied s t q 0x0204 INVALID [] ∧ SameBut s t) ∧
  (∀ (s : State) (q : Req) (owner o rate : Nat), Served s q 0x0206 8 .operator → ownerOfByte owner = some o → ownerExists s o = true →
    1000 ≤ rate → rate ≤ 8000000 → rate + otherRates s o ≤ excCapacity s →
    After (.exceptionRateSet q owner rate) s fun t => t.excRates = s.excRates.set o rate ∧ Replied s t q 0x0206 OK [] ∧
      SameBut { s with excRates := t.excRates } t) ∧
  (∀ (s : State) (q : Req) (owner o rate : Nat), Served s q 0x0206 8 .operator → ownerOfByte owner = some o → ownerExists s o = true →
    (rate < 1000 ∨ 8000000 < rate ∨ excCapacity s < rate + otherRates s o) →
    After (.exceptionRateSet q owner rate) s fun t => Replied s t q 0x0206 INVALID [] ∧ SameBut s t) ∧
  (∀ (s : State) (q : Req) (owner o : Nat) (r : BufRef) (host : HostData) (bs : Bytes), Served s q 0x0240 24 .opOrTenant →
    ownerArg (whoOf s q.mbx) owner = some o → o < 16 → partExists s o = true → refBad r 1024 = false → readBuf s (whoOf s q.mbx) r host = .ok bs →
    decodeTableOk (bs.take 1024) = true → customInUse s o = false → (s.sec.logs.getD o []).length < 4096 →
    After (.decodeTableLoad q owner r host) s fun t => t.decode.get? o = some (bs.take 1024) ∧
      (t.sec.logs.getD o []).length = (s.sec.logs.getD o []).length + 1 ∧ Replied s t q 0x0240 OK [] ∧
      SameBut { s with decode := t.decode, sec := t.sec } t) ∧
  (∀ (s : State) (q : Req) (owner o : Nat) (r : BufRef) (host : HostData) (bs : Bytes), Served s q 0x0240 24 .opOrTenant →
    ownerArg (whoOf s q.mbx) owner = some o → o < 16 → partExists s o = true → refBad r 1024 = false → readBuf s (whoOf s q.mbx) r host = .ok bs →
    decodeTableOk (bs.take 1024) = false →
    After (.decodeTableLoad q owner r host) s fun t => Replied s t q 0x0240 INVALID [] ∧ SameBut s t) ∧
  (∀ (s : State) (q : Req) (p : Nat), Served s q 0x0205 8 .operator → p < 16 → partExists s p = true → partInsts s p = [] → s.sessions = [] →
    s.link.streams = [] → s.pkt.qps = [] → s.longOps = [] → heldBy s p = 0 →
    After (.partitionReset q p) s fun t => Completed s t q 0x0205 OK [] ∧ SameBut { s with longOps := t.longOps, opNo := t.opNo } t) ∧
  (∀ (s : State) (q : Req) (p : Nat), Served s q 0x0205 8 .operator → p < 16 → partExists s p = true → s.sessions = [] → s.link.streams = [] →
    s.pkt.qps = [] → s.pkt.queues = [] → s.stor.ops = [] → s.longOps = [] → (s.insts.map Prod.fst).Nodup → 0 < heldBy s p →
    After (.partitionReset q p) s fun t => Accepted s t q 0x0205 ACCEPTED ∧ partResetting t p = true ∧
      (∀ n i, n < 1024 → s.insts.get? n = some i → t.insts.get? n = some (if i.part = p ∧ i.state ≠ .resetting then
        { i with gen := (i.gen + 1) % 65536, state := .resetting, freezing := false } else i))) ∧
  (∀ (s : State) (q : Req) (p : Nat), Served s q 0x0205 8 .operator → (16 ≤ p ∨ s.parts.get? p = none) →
    s.longOps = [] → After (.partitionReset q p) s fun t => Replied s t q 0x0205 INVALID [] ∧ SameBut s t) ∧
  (∀ (s : State) (q : Req) (p : Nat), Served s q 0x0202 8 .operator → p < 16 → partExists s p = true → (∀ g, s.ckp = some g → g.part ≠ p) →
    partInsts s p = [] → s.sessions = [] → s.link.streams = [] → s.pkt.qps = [] → s.longOps = [] → heldBy s p = 0 → partGroups s p = [] →
    excSum s ≤ excCapacity s →
    After (.partitionDelete q p) s fun t => Completed s t q 0x0202 OK [] ∧ t.parts.get? p = none ∧ t.excRates.get? p = none ∧
      t.decode.get? p = none ∧ t.vio = s.vio ∧ t.sec.pmr.get? p = none ∧ t.sec.logs.get? p = none ∧ t.sec.memKeys.get? p = none ∧
      (∀ k x, t.sec.slots.get? k = some x → x.owner ≠ p) ∧ (∀ k x, t.models.get? k = some x → x.part ≠ p) ∧
      (∀ k x, t.stor.spaces.get? k = some x → x.owner ≠ p) ∧ (∀ k x, t.pkt.queues.get? k = some x → x.owner ≠ p) ∧
      (∀ k x, t.pkt.policers.get? k = some x → x.owner ≠ p) ∧ (∀ k, k < 8 → (t.zal k).owner ≠ p) ∧ t.link.pages.get? p = none ∧
      (∀ k, k ≠ p → t.parts.get? k = s.parts.get? k)) ∧
  (∀ (s : State) (q : Req) (p : Nat) (g : CkpGroup), Served s q 0x0202 8 .operator → p < 16 → partExists s p = true → s.ckp = some g → g.part = p →
    s.longOps = [] → After (.partitionDelete q p) s fun t => Replied s t q 0x0202 IN_USE [] ∧ SameBut s t)

/-- R389 to R393, R466. -/
def Obligations.FirmwareUpdate : Prop :=
  (∀ (s : State) (q : Req) (r : BufRef) (host : HostData) (bs : Bytes), Served s q 0x0D01 16 .operator → refBad r 128 = false →
    readBuf s (whoOf s q.mbx) r host = .ok bs → s.fw.staging ≠ .ialdo → s.fw.staging ≠ .pldm → s.fw.pending = false → s.longOps = [] →
    After (.fwStage q r host) s fun t => t.fw = { s.fw with staging := .ialdo } ∧ Accepted s t q 0x0D01 ACCEPTED ∧
      (t.longOps.get? s.opNo).map LongOp.data = some (.fwStage bs) ∧ SameBut { s with fw := t.fw, longOps := t.longOps, opNo := t.opNo } t) ∧
  (∀ (s : State) (q : Req) (r : BufRef) (host : HostData) (bs : Bytes), Served s q 0x0D01 16 .operator → refBad r 128 = false →
    readBuf s (whoOf s q.mbx) r host = .ok bs → (s.fw.staging = .ialdo ∨ s.fw.staging = .pldm) →
    After (.fwStage q r host) s fun t => Replied s t q 0x0D01 IN_USE [] ∧ SameBut s t) ∧
  (∀ (s : State) (n k : Nat) (b : Bytes), (s.longOps.get? n).map LongOp.data = some (.fwStage b) → imageHeaderOk b = true → imageKey s b = some k →
    Config.slhVerify ((b.drop 32).take 64) (b.take (128 + fieldAt b 24 8)) ((b.drop (128 + fieldAt b 24 8)).take 29792) = true →
    fusedVersion s ≤ fieldAt b 8 8 →
    After (.fwStageComplete n) s fun t => (∃ i, t.fw.staging = .staged i ∧ t.fw = { s.fw with staging := t.fw.staging } ∧ i.liveCapable = (fieldAt b 7 1).testBit 0 ∧
        i.levelMax = fieldAt b 6 1 ∧ i.securityVersion = fieldAt b 8 8 ∧ i.fwVersion = fieldAt b 16 4 ∧ i.keyIndex = k) ∧
      Finished s t n OK (le 8 (fieldAt b 8 8) ++ le 4 (fieldAt b 16 4)) ∧ SameBut { s with fw := t.fw, longOps := t.longOps } t) ∧
  (∀ (s : State) (n : Nat) (b : Bytes), (s.longOps.get? n).map LongOp.data = some (.fwStage b) →
    (imageHeaderOk b = false ∨ imageKey s b = none ∨
      Config.slhVerify ((b.drop 32).take 64) (b.take (128 + fieldAt b 24 8)) ((b.drop (128 + fieldAt b 24 8)).take 29792) = false ∨
      fieldAt b 8 8 < fusedVersion s) →
    After (.fwStageComplete n) s fun t => t.fw = { s.fw with staging := .empty } ∧
      Finished s t n (if imageHeaderOk b = false then INVALID else if imageKey s b = none then VERIFY_FAIL else if Config.slhVerify
        ((b.drop 32).take 64) (b.take (128 + fieldAt b 24 8)) ((b.drop (128 + fieldAt b 24 8)).take 29792) = false then VERIFY_FAIL else ROLLBACK) [] ∧
      SameBut { s with fw := t.fw, longOps := t.longOps } t) ∧
  (∀ (b : Bytes), imageHeaderOk b = true → fieldAt b 0 4 = 0x57464C5A ∧ fieldAt b 4 2 = 1 ∧ fieldAt b 20 4 = 0 ∧ fieldAt b 96 32 = 0 ∧
    128 + fieldAt b 24 8 + 29792 ≤ 67108864 ∧ 128 + fieldAt b 24 8 + 29792 ≤ b.length) ∧
  (∀ (s : State) (q : Req) (flags : Nat) (i : FwImage) (ses : Session), Served s q 0x0D02 4 .operator → (s.mbx q.mbx).session = some ses →
    ses.features.testBit 14 = true → flags < 2 → s.fw.staging = .staged i → i.liveCapable = true → openLevel s ≤ i.levelMax → s.fw.pending = false →
    s.sec.log.length < 4096 → emergency s = false → s.longOps = [] →
    After (.fwActivateLive q flags) s fun t => t.fw = { s.fw with pending := true, raiseSvn := false, whenClear := false, switching := some s.lc } ∧
      Accepted s t q 0x0D02 ACCEPTED ∧ SameBut { s with fw := t.fw, longOps := t.longOps, opNo := t.opNo } t) ∧
  (∀ (s : State) (q : Req) (flags : Nat) (i : FwImage) (ses : Session), Served s q 0x0D02 4 .operator → (s.mbx q.mbx).session = some ses →
    ses.features.testBit 14 = true → flags < 2 → s.fw.staging = .staged i → i.liveCapable = true → openLevel s ≤ i.levelMax → s.fw.pending = false →
    s.sec.log.length < 4096 → emergency s = true → s.longOps = [] →
    After (.fwActivateLive q flags) s fun t => if flags = 0 then Replied s t q 0x0D02 DEFERRED_EMERGENCY [] ∧ SameBut s t
      else t.fw = { s.fw with pending := true, raiseSvn := false, whenClear := true } ∧ Accepted s t q 0x0D02 DEFERRED_EMERGENCY ∧
        SameBut { s with fw := t.fw, longOps := t.longOps, opNo := t.opNo } t) ∧
  (∀ (s : State) (q : Req) (flags : Nat) (ses : Session), Served s q 0x0D02 4 .operator → (s.mbx q.mbx).session = some ses →
    ses.features.testBit 14 = true →
    ((∀ i, s.fw.staging ≠ .staged i) ∨ ∃ i, s.fw.staging = .staged i ∧ (i.liveCapable = false ∨ i.levelMax < openLevel s)) →
    After (.fwActivateLive q flags) s fun t => Replied s t q 0x0D02 INVALID [] ∧ SameBut s t) ∧
  (∀ (s : State) (q : Req) (flags : Nat) (ses : Session), Served s q 0x0D02 4 .operator → (s.mbx q.mbx).session = some ses →
    ses.features.testBit 14 = false → After (.fwActivateLive q flags) s fun t => Replied s t q 0x0D02 UNSUPPORTED [] ∧ SameBut s t) ∧
  (∀ (s : State) (q : Req) (flags : Nat) (i : FwImage), Served s q 0x0D02 4 .operator → flags < 2 → s.fw.staging = .staged i → s.fw.pending = false →
    s.longOps = [] →
    After (.fwActivateReset q flags) s fun t => t.fw = { s.fw with pending := true, bootStaged := true, raiseSvn := false } ∧
      Completed s t q 0x0D02 OK [] ∧ SameBut { s with fw := t.fw, longOps := t.longOps, opNo := t.opNo } t) ∧
  (∀ (s : State) (q : Req) (flags : Nat) (i : FwImage), Served s q 0x0D02 4 .operator → flags < 2 → s.fw.staging = .staged i → s.fw.pending = true →
    After (.fwActivateReset q flags) s fun t => Replied s t q 0x0D02 IN_USE [] ∧ SameBut s t) ∧
  (∀ (s : State), s.on = true → s.fw.whenClear = true → s.fw.pending = true → emergency s = false → s.fw.clearSince + 1000000000 ≤ s.lc →
    exec .activateWhenClearStart s = .next { s with fw := { s.fw with whenClear := false, switching := some s.lc } }) ∧
  (∀ (s : State), (emergency s = true ∨ s.lc < s.fw.clearSince + 1000000000) → exec .activateWhenClearStart s = .next s) ∧
  (∀ (s : State) (t0 n : Nat) (i : FwImage), s.fw.switching = some t0 → s.fw.staging = .staged i → s.lc ≤ t0 + 200000000 → s.fw.raiseSvn = false →
    liveOp s = some n →
    After .fwSwitchComplete s fun t => t.fw = ({ s.fw with
          version := i.fwVersion, security := i.securityVersion, levelMax := i.levelMax
          bank := 1 - s.fw.bank, keyIndex := i.keyIndex, staging := .empty, bootStaged := false, pending := false, whenClear := false
          switching := none } : Firmware) ∧ t.sec.log.length = s.sec.log.length + 1 ∧ Finished s t n OK [] ∧ t.fuses = s.fuses ∧
      SameBut { s with fw := t.fw, sec := t.sec, longOps := t.longOps } t) ∧
  (∀ (s : State) (t0 n : Nat), s.fw.switching = some t0 → t0 + 200000000 ≤ s.lc → liveOp s = some n →
    After .fwSwitchTimeout s fun t => t.fw = ({ s.fw with
          staging := .empty, bootStaged := false, pending := false, raiseSvn := false
          whenClear := false, switching := none } : Firmware) ∧ Finished s t n DEVICE_FAULT [] ∧ SameBut { s with fw := t.fw, longOps := t.longOps } t) ∧
  (∀ (s : State) (t0 : Nat), s.fw.switching = some t0 → s.lc < t0 + 200000000 → exec .fwSwitchTimeout s = .next s) ∧
  (∀ (s : State) (q : Req) (i : FwImage), Served s q 0x0D03 0 .any → s.fw.staging = .staged i →
    After (.fwQuery q) s fun t => SameBut s t ∧ ∃ b : Bytes, Replied s t q 0x0D03 OK b ∧ b.length = 48 ∧ fieldAt b 0 4 = s.fw.version % 2 ^ 32 ∧
      fieldAt b 8 8 = s.fw.security % 2 ^ 64 ∧ fieldAt b 16 1 = s.fw.bank % 256 ∧ fieldAt b 17 1 = 1 ∧
      fieldAt b 18 1 = b2n s.fw.pending + 2 * b2n s.fw.whenClear + 4 * b2n s.fw.raiseSvn ∧ fieldAt b 20 4 = i.fwVersion % 2 ^ 32 ∧
      fieldAt b 24 8 = i.securityVersion % 2 ^ 64 ∧ fieldAt b 32 8 = fusedVersion s % 2 ^ 64 ∧ fieldAt b 40 1 = s.fw.keyIndex % 256) ∧
  (∀ (s : State) (q : Req) (i : FwImage) (n : Nat), Served s q 0x0D04 0 .operator → s.fw.staging = .staged i → liveOp s = some n →
    After (.fwDiscard q) s fun t => t.fw = ({ s.fw with
          staging := .empty, bootStaged := false, pending := false, raiseSvn := false
          whenClear := false, switching := none } : Firmware) ∧ t.longOps.get? n = none ∧ Replied s t q 0x0D04 OK [] ∧
      SameBut { s with fw := t.fw, longOps := t.longOps } t) ∧
  (∀ (s : State) (q : Req), Served s q 0x0D04 0 .operator → (s.fw.staging = .ialdo ∨ s.fw.staging = .pldm) →
    After (.fwDiscard q) s fun t => Replied s t q 0x0D04 IN_USE [] ∧ SameBut s t)

/-- R341, R395 to R400, R405, R411, R413. -/
def Obligations.NvmeController : Prop :=
  (∀ (s : State) (p : Fin 2) (inst cc : Nat) (i : Instance), s.on = true → s.insts.get? inst = some i → i.port = p.val → bitOf cc 0 = true →
    bitOf (s.ctrl inst).cc 0 = false → bitsOf cc 10 1 = 0 → bitsOf cc 13 11 ≤ 1 →
    After (.controllerEnable p inst cc) s fun t => NvmeOnly s t ∧ t.emitted = s.emitted ∧ (t.ctrl inst).rdy = true ∧ (t.ctrl inst).cfs = (s.ctrl inst).cfs ∧
      (t.ctrl inst).shst = 0 ∧ (t.ctrl inst).mqes = (if s.boot.level = 3 then 0xFFF else 0xFF) ∧
      (t.ctrl inst).grantSq = (if s.boot.level = 3 then 64 else 4) ∧
      (t.ctrl inst).sqs.get? 0 = some ({
          size := bitsOf (s.ctrl inst).aqa 11 0, base := (s.ctrl inst).asq, cqid := 0
          prio := 0 } : NvmeSq) ∧ ∀ n, n ≠ inst → t.ctrl n = s.ctrl n) ∧
  (∀ (s : State) (p : Fin 2) (inst cc : Nat) (i : Instance), s.on = true → s.insts.get? inst = some i → i.port = p.val → bitOf cc 0 = true →
    bitOf (s.ctrl inst).cc 0 = false → (bitsOf cc 6 4 ≠ 0 ∨ bitsOf cc 10 7 ≠ 0 ∨ 1 < bitsOf cc 13 11) →
    After (.controllerEnable p inst cc) s fun t => NvmeOnly s t ∧ (t.ctrl inst).cfs = true ∧ (t.ctrl inst).rdy = (s.ctrl inst).rdy) ∧
  (∀ (s : State) (p : Fin 2) (inst cc : Nat) (i : Instance), s.on = true → s.insts.get? inst = some i → i.port = p.val → bitOf cc 0 = false →
    bitOf (s.ctrl inst).cc 0 = true → s.stor.ops = [] →
    After (.controllerReset p inst cc) s fun t => (t.ctrl inst).rdy = false ∧ (t.ctrl inst).cfs = false ∧ (t.ctrl inst).sqs = [] ∧
      (t.ctrl inst).cqs = [] ∧ (t.ctrl inst).features = [] ∧ (t.ctrl inst).ps = 0 ∧ (t.ctrl inst).aqa = (s.ctrl inst).aqa ∧
      (t.ctrl inst).asq = (s.ctrl inst).asq ∧ (t.ctrl inst).acq = (s.ctrl inst).acq ∧ (∀ n, n ≠ inst → t.ctrl n = s.ctrl n) ∧ PipesFollow t ∧
      t = { s with
        stor := { s.stor with ctrls := t.stor.ctrls, pipes := t.stor.pipes }
        ctxs := t.ctxs, emitted := t.emitted }) ∧
  (∀ (s : State) (p : Fin 2) (inst cc : Nat) (i : Instance) (k : Nat) (o : IoOp), s.on = true → s.insts.get? inst = some i → i.port = p.val →
    bitOf cc 0 = false → bitOf (s.ctrl inst).cc 0 = true → s.stor.ops = [(k, o)] → o.inst = inst → o.bulk = false → o.started = true →
    After (.controllerReset p inst cc) s fun t => (t.ctrl inst).rdy = false ∧ ∃ o', t.stor.ops = [(k, o')] ∧ o'.mute = true ∧ o'.kind = o.kind ∧ o'.started = true) ∧
  (∀ (s : State) (p : Fin 2) (inst cc : Nat) (i : Instance), s.on = true → s.insts.get? inst = some i → i.port = p.val →
    bitOf cc 0 = bitOf (s.ctrl inst).cc 0 → (bitsOf cc 15 14 = 1 ∨ bitsOf cc 15 14 = 2) → (s.ctrl inst).shst = 0 → (s.ctrl inst).rdy = true →
    After (.shutdownNotification p inst cc) s fun t => (ioOutstanding s inst = 0 → (t.ctrl inst).shst = 2 ∧
        ∀ id n, (id, n) ∈ s.stor.spaces → inst ∈ n.attached → n.backing = 1 → Emit.media (.root n.port) n.source 0x10000 .flush 0 0 [] ∈ t.emitted) ∧
      (ioOutstanding s inst ≠ 0 → (t.ctrl inst).shst = 1 ∧ t.emitted = s.emitted) ∧ (∀ n, n ≠ inst → t.ctrl n = s.ctrl n) ∧ NvmeOnly s t) ∧
  (∀ (s : State) (p : Fin 2) (inst qid tail : Nat) (i : Instance) (q : NvmeSq), s.on = true → s.insts.get? inst = some i → i.port = p.val →
    i.state = .running → (s.ctrl inst).sqs.get? qid = some q → tail ≤ q.size → tail < 65536 →
    After (.nvmeSqDoorbell p inst qid tail) s fun t => (t.ctrl inst).sqs.get? qid = some { q with tail := tail } ∧
      (∀ k, k ≠ qid → (t.ctrl inst).sqs.get? k = (s.ctrl inst).sqs.get? k) ∧ (∀ n, n ≠ inst → t.ctrl n = s.ctrl n) ∧
      NvmeOnly s t ∧ t.emitted = s.emitted) ∧
  (∀ (s : State) (p : Fin 2) (inst qid tail : Nat) (i : Instance), s.on = true → s.insts.get? inst = some i → i.port = p.val → i.state = .frozen →
    After (.nvmeSqDoorbell p inst qid tail) s fun t => (∃ j, t.insts.get? inst = some j ∧ j = { i with doorbells := i.doorbells.set (0x3000 + 8 * qid) tail }) ∧
      t = { s with insts := t.insts }) ∧
  (∀ (s : State) (p : Fin 2) (inst qid tail : Nat) (i : Instance), s.on = true → s.insts.get? inst = some i → i.port ≠ p.val →
    After (.nvmeSqDoorbell p inst qid tail) s fun t =>
      Violated s t (16384 * inst + 0x3000 + 8 * qid) (pfTag s p) 6 4 0xFFF p ∧ t = { s with vio := t.vio, mon := t.mon }) ∧
  (∀ (s : State) (p : Fin 2) (inst qid head : Nat) (i : Instance) (k : NvmeCq), s.on = true → s.insts.get? inst = some i → i.port = p.val →
    i.state = .running → (s.ctrl inst).cqs.get? qid = some k → head ≤ k.size → head < 65536 → (s.ctrl inst).wait.getD qid [] = [] →
    After (.nvmeCqDoorbell p inst qid head) s fun t => (t.ctrl inst).cqs.get? qid = some { k with head := head } ∧
      (∀ j, j ≠ qid → (t.ctrl inst).cqs.get? j = (s.ctrl inst).cqs.get? j) ∧ (∀ n, n ≠ inst → t.ctrl n = s.ctrl n) ∧
      NvmeOnly s t ∧ t.emitted = s.emitted) ∧
  (∀ (s : State) (c : NvmeCmd) (q : NvmeSq) (k : NvmeCq) (qid size cqid : Nat) (prio : BitVec 2), Takes s c q k → c.sq = 0 → qid ≠ 0 →
    qid ≤ (s.ctrl c.inst).grantSq → (s.ctrl c.inst).sqs.get? qid = none → 1 ≤ size → size ≤ (s.ctrl c.inst).mqes → cqid ≠ 0 →
    ((s.ctrl c.inst).cqs.get? cqid).isSome = true → bitsOf (s.ctrl c.inst).cc 19 16 = 6 → s.ctxs.length < 69632 →
    After (.createIoSq c qid size true prio cqid) s fun t => NvmeOnly s t ∧
      (queueRoom s (instOwner s c.inst) = true → NvmeAnswered s t c q k 0 0 [] (s.ctrl c.inst) ∧ (t.ctxs.get? (cxNvme c.inst qid)).isSome = true ∧
        (t.ctrl c.inst).sqs.get? qid = some ({
            size := size, base := (c.prp.headD (0, 0)).1, cqid := cqid
            prio := prio.toNat } : NvmeSq)) ∧
      (queueRoom s (instOwner s c.inst) = false → NvmeAnswered s t c q k 0x101 0 [] (s.ctrl c.inst) ∧ (t.ctrl c.inst).sqs.get? qid = none)) ∧
  (∀ (s : State) (c : NvmeCmd) (q : NvmeSq) (k : NvmeCq) (qid size cqid : Nat) (pc : Bool) (prio : BitVec 2), Takes s c q k → c.sq = 0 →
    (s.ctrl c.inst).grantSq < qid →
    After (.createIoSq c qid size pc prio cqid) s fun t => NvmeAnswered s t c q k 0x101 0 [] (s.ctrl c.inst) ∧ NvmeOnly s t) ∧
  (∀ (s : State) (c : NvmeCmd) (q : NvmeSq) (k : NvmeCq) (qid size vector : Nat) (ien : Bool), Takes s c q k → c.sq = 0 → qid ≠ 0 →
    qid ≤ (s.ctrl c.inst).grantCq → (s.ctrl c.inst).cqs.get? qid = none → 1 ≤ size → size ≤ (s.ctrl c.inst).mqes → bitsOf (s.ctrl c.inst).cc 23 20 = 4 →
    After (.createIoCq c qid size true ien vector) s fun t => NvmeOnly s t ∧
      (vector < ((s.insts.get? c.inst).map Instance.vectorCount).getD 0 → NvmeAnswered s t c q k 0 0 [] (s.ctrl c.inst) ∧
        (t.ctrl c.inst).cqs.get? qid = some ({
            size := size, base := (c.prp.headD (0, 0)).1, vector := vector
            ien := ien } : NvmeCq)) ∧
      (((s.insts.get? c.inst).map Instance.vectorCount).getD 0 ≤ vector → NvmeAnswered s t c q k 0x108 0 [] (s.ctrl c.inst) ∧
        (t.ctrl c.inst).cqs.get? qid = none)) ∧
  (∀ (s : State) (c : NvmeCmd) (q : NvmeSq) (k : NvmeCq) (qid : Nat), Takes s c q k → c.sq = 0 → qid ≠ 0 →
    ((s.ctrl c.inst).sqs.get? qid).isSome = true → s.stor.ops = [] →
    After (.deleteIoSq c qid) s fun t => NvmeAnswered s t c q k 0 0 [] (s.ctrl c.inst) ∧ (t.ctrl c.inst).sqs.get? qid = none ∧
      t.ctxs.get? (cxNvme c.inst qid) = none ∧ NvmeOnly s t) ∧
  (∀ (s : State) (c : NvmeCmd) (q : NvmeSq) (k : NvmeCq) (qid : Nat), Takes s c q k → c.sq = 0 → qid ≠ 0 → ((s.ctrl c.inst).cqs.get? qid).isSome = true →
    After (.deleteIoCq c qid) s fun t => NvmeOnly s t ∧
      ((∀ n x, (n, x) ∈ (s.ctrl c.inst).sqs → x.cqid ≠ qid) →
        (∃ w, NvmeAnswered s t c q k 0 0 [] { s.ctrl c.inst with wait := w }) ∧ (t.ctrl c.inst).cqs.get? qid = none) ∧
      (∀ n x, (s.ctrl c.inst).sqs.get? n = some x → x.cqid = qid → NvmeAnswered s t c q k 0x10C 0 [] (s.ctrl c.inst))) ∧
  (∀ (s : State) (c : NvmeCmd) (q : NvmeSq) (k : NvmeCq) (a : Nat), Takes s c q k → c.sq = 0 → c.prp = [(a, 64)] →
    After (.getLogPage c 1 15 0) s fun t => NvmeOnly s t ∧ ((s.ctrl c.inst).aerPend = [] → ∃ m, NvmeAnswered s t c q k 0 0
      [.hostWrite (instPort s c.inst) c.inst a (match (s.ctrl c.inst).errorLog with
        | e :: _ => le 8 e.1 ++ le 2 e.2.1 ++ le 2 e.2.2.1 ++ le 2 (2 * e.2.2.2) ++ zeros 50
        | [] => zeros 64)] { s.ctrl c.inst with aerMasked := m } ∧ 0 ∉ m)) ∧
  (∀ (s : State) (c : NvmeCmd) (q : NvmeSq) (k : NvmeCq) (lid numd offset : Nat), Takes s c q k → c.sq = 0 → lid ≠ 1 → lid ≠ 2 → lid ≠ 5 →
    After (.getLogPage c lid numd offset) s fun t => NvmeAnswered s t c q k 0x109 0 [] (s.ctrl c.inst) ∧ NvmeOnly s t) ∧
  (∀ (s : State) (c : NvmeCmd) (q : NvmeSq) (k : NvmeCq) (a : Nat), Takes s c q k → c.sq = 0 → c.prp = [(a, 4096)] →
    After (.identify c 1) s fun t => NvmeOnly s t ∧ ∃ b : Bytes, b.length = 4096 ∧
      NvmeAnswered s t c q k 0 0 [.hostWrite (instPort s c.inst) c.inst a b] (s.ctrl c.inst) ∧ fieldAt b 0 2 = 0x1FA7 ∧ fieldAt b 2 2 = 0x1FA7 ∧
      fieldAt b 77 1 = 8 ∧ fieldAt b 258 1 = 3 ∧ fieldAt b 259 1 = 3 ∧ fieldAt b 263 1 = 4 ∧ fieldAt b 265 1 = 1 ∧ fieldAt b 516 4 = 4096 ∧
      fieldAt b 525 1 = 1 ∧ fieldAt b 536 4 = 0 ∧ fieldAt b 2048 2 = 900 ∧ fieldAt b 2080 2 = 600 ∧ fieldAt b 2112 2 = 300 ∧
      fieldAt b 2144 2 = 150 ∧ fieldAt b 2176 2 = 50) ∧
  (∀ (s : State) (c : NvmeCmd) (q : NvmeSq) (k : NvmeCq) (a : Nat), Takes s c q k → c.sq = 0 → c.prp = [(a, 4096)] → 1 ≤ c.nsid → c.nsid ≤ 4096 →
    (∀ n, s.stor.spaces.get? c.nsid = some n → c.inst ∉ n.attached ∧ n.owner = instOwner s c.inst) →
    After (.identify c 0) s fun t => NvmeOnly s t ∧
      NvmeAnswered s t c q k 0 0 [.hostWrite (instPort s c.inst) c.inst a (zeros 4096)] (s.ctrl c.inst)) ∧
  (∀ (s : State) (c : NvmeCmd) (q : NvmeSq) (k : NvmeCq) (sqid cid : Nat), Takes s c q k → c.sq = 0 → s.stor.ops = [] →
    After (.nvmeAbort c sqid cid) s fun t => NvmeAnswered s t c q k 0 1 [] (s.ctrl c.inst) ∧ NvmeOnly s t) ∧
  (∀ (s : State) (c : NvmeCmd) (q q1 : NvmeSq) (k k1 : NvmeCq) (sqid cid n : Nat) (o : IoOp), Takes s c q k → c.sq = 0 → sqid ≠ 0 → q.cqid = 0 →
    s.stor.ops = [(n, o)] → o.inst = c.inst → o.queue = sqid → o.id = cid → o.bulk = false → o.mute = false → o.inst < 0x400 →
    (s.ctrl c.inst).sqs.get? sqid = some q1 → q1.cqid ≠ 0 → (s.ctrl c.inst).cqs.get? q1.cqid = some k1 → (k1.tail + 1) % (k1.size + 1) ≠ k1.head →
    (s.ctrl c.inst).wait.getD q1.cqid [] = [] →
    After (.nvmeAbort c sqid cid) s fun t => t.stor.ops = [] ∧ ∃ es fs, es.length ≤ 1 ∧ fs.length ≤ 1 ∧ t.emitted =
      es ++ Emit.hostWrite (instPort s c.inst) c.inst (k.base + 16 * k.tail)
        (le 4 0 ++ zeros 4 ++ le 2 ((q.head + 1) % (q.size + 1)) ++ le 2 0 ++ le 2 c.cid ++ le 2 (b2n k.phase)) ::
      (fs ++ Emit.hostWrite (instPort s c.inst) c.inst (k1.base + 16 * k1.tail)
        (le 4 0 ++ zeros 4 ++ le 2 q1.head ++ le 2 sqid ++ le 2 cid ++ le 2 (b2n k1.phase + 2 * 7)) :: s.emitted)) ∧
  (∀ (s : State) (c : NvmeCmd) (q : NvmeSq) (k : NvmeCq) (fid v : Nat) (host : HostData), Takes s c q k → c.sq = 0 →
    After (.setFeatures c fid true v host) s fun t => NvmeAnswered s t c q k 0x10D 0 [] (s.ctrl c.inst) ∧ NvmeOnly s t) ∧
  (∀ (s : State) (c : NvmeCmd) (q : NvmeSq) (k : NvmeCq) (a b : Nat) (host : HostData), Takes s c q k → c.sq = 0 → a < 65535 → b < 65535 →
    (∀ n x, (n, x) ∈ (s.ctrl c.inst).sqs → n = 0) → (∀ n x, (n, x) ∈ (s.ctrl c.inst).cqs → n = 0) →
    let top := if (s.ctrl c.inst).quickset then 4 else 64
    After (.setFeatures c 7 false (a + 65536 * b) host) s fun t => NvmeOnly s t ∧ NvmeAnswered s t c q k 0
      (min (a + 1) top - 1 + 65536 * (min (b + 1) top - 1)) []
      { s.ctrl c.inst with grantSq := min (a + 1) top, grantCq := min (b + 1) top }) ∧
  (∀ (s : State) (c : NvmeCmd) (q : NvmeSq) (k : NvmeCq) (ps : Nat) (host : HostData), Takes s c q k → c.sq = 0 → ps ≤ 4 →
    After (.setFeatures c 2 false ps host) s fun t => PipesFollow t ∧ ∃ data, NvmeAnswered s t c q k 0 0 data
      { s.ctrl c.inst with ps := ps, pmPs := ps, idleSince := s.lc }) ∧
  (∀ (s : State) (c : NvmeCmd) (q : NvmeSq) (k : NvmeCq), Takes s c q k → c.sq = 0 →
    After (.getFeatures c 7) s fun t => NvmeOnly s t ∧ NvmeAnswered s t c q k 0
      ((s.ctrl c.inst).grantSq - 1 + 65536 * ((s.ctrl c.inst).grantCq - 1)) [] (s.ctrl c.inst)) ∧
  (∀ (s : State) (c : NvmeCmd) (q : NvmeSq) (k : NvmeCq), Takes s c q k → c.sq = 0 →
    After (.getFeatures c 6) s fun t => NvmeAnswered s t c q k 0 1 [] (s.ctrl c.inst) ∧ NvmeOnly s t) ∧
  (∀ (s : State) (c : NvmeCmd) (q : NvmeSq) (k : NvmeCq), Takes s c q k → c.sq = 0 → (s.ctrl c.inst).aerPend = [] →
    After (.asynchronousEventRequest c) s fun t => NvmeOnly s t ∧
      ((s.ctrl c.inst).aers.length < 4 → t.emitted = s.emitted ∧ (t.ctrl c.inst).aers = (s.ctrl c.inst).aers ++ [c.cid]) ∧
      (4 ≤ (s.ctrl c.inst).aers.length → NvmeAnswered s t c q k 0x105 0 [] (s.ctrl c.inst)))

/-- R238, R379, R399, R402, R404 to R406, R408, R409, R413, R414. -/
def Obligations.StorageCommands : Prop :=
  (∀ (s : State) (c : NvmeCmd) (q : NvmeSq) (k : NvmeCq) (slba nlb : Nat) (n : Namespace) (fua : Bool), Takes s c q k → c.sq ≠ 0 → 1 ≤ c.nsid →
    c.nsid ≤ 4096 → s.stor.spaces.get? c.nsid = some n → c.inst ∈ n.attached → n.size < slba + nlb → nlb ≤ 2048 → (s.ctrl c.inst).ps = (s.ctrl c.inst).pmPs →
    After (.nvmeRead c slba nlb) s (fun t => NvmeAnswered s t c q k 0x080 0 [] (s.ctrl c.inst) ∧ NvmeOnly s t) ∧
    After (.nvmeWrite c slba nlb fua) s (fun t => NvmeAnswered s t c q k 0x080 0 [] (s.ctrl c.inst) ∧ NvmeOnly s t) ∧
    After (.writeZeroes c slba nlb) s (fun t => NvmeAnswered s t c q k 0x080 0 [] (s.ctrl c.inst) ∧ NvmeOnly s t)) ∧
  (∀ (s : State) (c : NvmeCmd) (q : NvmeSq) (k : NvmeCq) (slba nlb a : Nat) (n : Namespace), Takes s c q k → c.sq ≠ 0 → 1 ≤ c.nsid → c.nsid ≤ 4096 →
    s.stor.spaces.get? c.nsid = some n → c.inst ∉ n.attached → n.owner ≠ instOwner s c.inst → 1 ≤ nlb → c.prp = [(a, 512 * nlb)] →
    (s.ctrl c.inst).ps = (s.ctrl c.inst).pmPs →
    After (.nvmeRead c slba nlb) s fun t => NvmeAnswered s t c q k 0 0 [.hostWrite (instPort s c.inst) c.inst a (zeros (512 * nlb))] (s.ctrl c.inst) ∧
      Violated s t (7 * 2 ^ 56 + c.nsid) (mkTag (instOwner s c.inst) c.inst) 4 0 (if n.backing = 1 then 0x4C0 + n.port else 0xFFF) 0xFFFF ∧
      t.stor.ops = s.stor.ops ∧ t.dram = s.dram) ∧
  (∀ (s : State) (c : NvmeCmd) (q : NvmeSq) (k : NvmeCq) (slba nlb a : Nat) (n : Namespace), Takes s c q k → c.sq ≠ 0 → TagFree s → s.stor.ops = [] →
    1 ≤ c.nsid → c.nsid ≤ 4096 → s.stor.spaces.get? c.nsid = some n → c.inst ∈ n.attached → n.backing = 1 → n.encrypt = false → backingUp s n = true →
    slba + nlb ≤ n.size → 1 ≤ nlb → nlb ≤ 2048 → c.prp = [(a, 512 * nlb)] → (s.ctrl c.inst).ps = (s.ctrl c.inst).pmPs →
    After (.nvmeRead c slba nlb) s fun t => ∃ tag o, t.stor.ops = [(tag, o)] ∧ o.kind = .read ∧ o.started = true ∧ o.inst = c.inst ∧ o.queue = c.sq ∧
      o.id = c.cid ∧ o.slba = slba ∧ o.nlb = nlb ∧ o.buffers = [(a, 512 * nlb)] ∧ (s.track tag).held = false ∧ (t.track tag).held = true ∧
      (t.track tag).owner = instOwner s c.inst ∧ t.emitted = .media (.root n.port) n.source tag .read (n.base + slba) nlb [] :: s.emitted ∧
      (t.ctrl c.inst).sqs.get? c.sq = some { q with head := (q.head + 1) % (q.size + 1) }) ∧
  (∀ (s : State) (c : NvmeCmd) (q : NvmeSq) (k : NvmeCq) (slba nlb a : Nat) (fua : Bool) (n : Namespace), Takes s c q k → c.sq ≠ 0 → TagFree s →
    s.stor.ops = [] → 1 ≤ c.nsid → c.nsid ≤ 4096 → s.stor.spaces.get? c.nsid = some n → c.inst ∈ n.attached → slba + nlb ≤ n.size → 1 ≤ nlb →
    nlb ≤ 2048 → c.prp = [(a, 512 * nlb)] → (s.ctrl c.inst).ps = (s.ctrl c.inst).pmPs →
    After (.nvmeWrite c slba nlb fua) s fun t => NoMedia s t ∧ t.dram = s.dram ∧ ∃ tag o, t.stor.ops = [(tag, o)] ∧ o.started = false ∧
      o.missing = 512 * nlb ∧ o.buffers = [(a, 512 * nlb)] ∧ o.slba = slba ∧ o.nlb = nlb ∧
      o.kind = (if fua = true ∨ (s.ctrl c.inst).features.getD 6 1 % 2 = 0 then .writeFua else .write)) ∧
  (∀ (s : State) (c : NvmeCmd) (q : NvmeSq) (k : NvmeCq) (slba nlb m off : Nat) (n : Namespace), Takes s c q k → c.sq ≠ 0 → TagFree s →
    s.stor.ops = [] → 1 ≤ c.nsid → c.nsid ≤ 4096 → s.stor.spaces.get? c.nsid = some n → c.inst ∈ n.attached → n.backing = 3 → backingUp s n = true →
    slba + nlb ≤ n.size → 1 ≤ nlb → nlb ≤ 65536 → (s.ctrl c.inst).ps = (s.ctrl c.inst).pmPs → translate s n.owner (n.base + 512 * slba) = some (m, off) →
    off + 512 * nlb ≤ 2 ^ 30 → guarded s n.owner (n.base + 512 * slba) (512 * nlb) = false → Mem.wf s.dram.bytes = true → c.inst < 0x400 →
    (plotAt s m).state = .assigned → keyHeld s (plotAt s m) = true →
    s.insts.all (fun e => decide (e.2.gen < 65536)) = true →
    After (.writeZeroes c slba nlb) s fun t => NvmeAnswered s t c q k 0 0 [] { s.ctrl c.inst with idleSince := s.lc } ∧ t.stor.ops = [] ∧
      ∀ b, t.dram.bytes.read b = if dpaOf m off ≤ b ∧ b < dpaOf m off + 512 * nlb then 0 else s.dram.bytes.read b) ∧
  (∀ (s : State) (c : NvmeCmd) (q : NvmeSq) (k : NvmeCq) (n : Namespace), Takes s c q k → c.sq ≠ 0 → TagFree s → s.stor.ops = [] → 1 ≤ c.nsid →
    c.nsid ≤ 4096 → s.stor.spaces.get? c.nsid = some n → c.inst ∈ n.attached → n.backing = 3 → backingUp s n = true → c.inst < 0x400 →
    s.insts.all (fun e => decide (e.2.gen < 65536)) = true → (s.ctrl c.inst).ps = (s.ctrl c.inst).pmPs →
    After (.nvmeFlush c) s fun t => NvmeAnswered s t c q k 0 0 [] { s.ctrl c.inst with idleSince := s.lc } ∧ t.stor.ops = [] ∧ t.dram = s.dram) ∧
  (∀ (s : State) (c : NvmeCmd) (q : NvmeSq) (k : NvmeCq) (n : Namespace), Takes s c q k → c.sq ≠ 0 → TagFree s → s.stor.ops = [] → 1 ≤ c.nsid →
    c.nsid ≤ 4096 → s.stor.spaces.get? c.nsid = some n → c.inst ∈ n.attached → n.backing = 1 → backingUp s n = true →
    (s.ctrl c.inst).ps = (s.ctrl c.inst).pmPs →
    After (.nvmeFlush c) s fun t => ∃ tag, t.emitted = .media (.root n.port) n.source tag .flush n.base 0 [] :: s.emitted) ∧
  (∀ (s : State) (c : NvmeCmd) (q : NvmeSq) (k : NvmeCq) (lo cnt : Nat) (bs : Bytes) (n : Namespace), Takes s c q k → c.sq ≠ 0 → TagFree s →
    s.stor.ops = [] → 1 ≤ c.nsid → c.nsid ≤ 4096 → s.stor.spaces.get? c.nsid = some n → c.inst ∈ n.attached → n.backing = 1 → backingUp s n = true →
    bs.length = 16 → fieldAt bs 8 8 = lo → fieldAt bs 4 4 = cnt → lo + cnt ≤ n.size → (s.ctrl c.inst).ps = (s.ctrl c.inst).pmPs →
    After (.datasetManagement c true 1 (.data bs)) s (fun t =>
      ∃ tag, t.emitted = .media (.root n.port) n.source tag .deallocate (n.base + lo) cnt [] :: s.emitted) ∧
    After (.datasetManagement c false 1 (.data bs)) s (fun t => NvmeAnswered s t c q k 0 0 [] (s.ctrl c.inst) ∧ NvmeOnly s t)) ∧
  (∀ (s : State) (p : Fin 2) (inst posted : Nat) (db : Fin 16) (i : Instance) (b : BulkQueue), s.on = true → s.insts.get? inst = some i →
    i.port = p.val → i.state = .running → s.stor.bulk.get? (bulkKey inst db) = some b →
    After (.bulkDoorbell p inst db posted) s fun t => t.stor.bulk.get? (bulkKey inst db) = some { b with posted := posted } ∧
      (∀ j, j ≠ bulkKey inst db → t.stor.bulk.get? j = s.stor.bulk.get? j) ∧
      t = { s with
        stor := { s.stor with bulk := t.stor.bulk }
        ctxs := t.ctxs }) ∧
  (∀ (s : State) (inst : Nat) (db : Fin 16) (c : BulkCmd) (b : BulkQueue) (n : Namespace), BulkTakes s inst db b → s.stor.ops = [] → c.bad = false →
    c.flags < 2 → 1 ≤ c.nlb → c.nlb ≤ 2097152 → s.stor.spaces.get? c.nsid = some n → inst ∈ n.attached → n.backing = 1 → n.port < 4 →
    n.encrypt = false → backingUp s n = true → c.slba + c.nlb ≤ n.size →
    (c.space = 1 → c.addr % 4 = 0 → After (.bulkRead inst db c) s fun t => (t.pipe n.port).ps = 0 ∧ ∃ tag,
      t.emitted.head? = some (.media (.root n.port) n.source tag .read (n.base + c.slba) c.nlb [])) ∧
    (∀ bs, c.space = 2 → c.addr % 32 = 0 → readPlot s (instOwner s inst) c.addr (512 * c.nlb) = .bytes bs →
      After (.bulkWrite inst db c) s fun t => (t.pipe n.port).ps = 0 ∧ ∃ tag,
        t.emitted.head? = some (.media (.root n.port) n.source tag .write (n.base + c.slba) c.nlb bs)) ∧
    After (.bulkWriteZeroes inst db c) s (fun t => (t.pipe n.port).ps = 0 ∧ ∃ tag,
      t.emitted.head? = some (.media (.root n.port) n.source tag .writeZeroes (n.base + c.slba) c.nlb []))) ∧
  (∀ (s : State) (inst : Nat) (db : Fin 16) (c : BulkCmd) (b : BulkQueue) (n : Namespace), BulkTakes s inst db b → c.bad = false → c.flags < 2 →
    1 ≤ c.nlb → s.stor.spaces.get? c.nsid = some n → inst ∈ n.attached → n.size < c.slba + c.nlb →
    After (.bulkWriteZeroes inst db c) s fun t => BulkPosted s t inst db b 8 c.tag [] ∧ t.stor.ops = s.stor.ops ∧ t.dram = s.dram) ∧
  (∀ (s : State) (inst : Nat) (db : Fin 16) (c : BulkCmd) (b : BulkQueue) (n : Namespace), BulkTakes s inst db b → s.stor.ops = [] → c.bad = false →
    c.flags < 2 → 1 ≤ c.nsid → c.nsid ≤ 4096 → s.stor.spaces.get? c.nsid = some n → inst ∈ n.attached → n.backing = 3 → backingUp s n = true →
    inst < 0x400 → s.insts.all (fun e => decide (e.2.gen < 65536)) = true →
    After (.bulkFlush inst db c) s fun t => BulkPosted s t inst db b 0 c.tag [] ∧ t.stor.ops = [] ∧ t.dram = s.dram) ∧
  (∀ (s : State) (inst m off : Nat) (db : Fin 16) (c : BulkCmd) (b : BulkQueue), BulkTakes s inst db b → s.stor.ops = [] → c.bad = false → c.flags < 2 →
    inst < 0x400 → s.insts.all (fun e => decide (e.2.gen < 65536)) = true → c.addr % 32 = 0 → c.len % 32 = 0 → 0 < c.len →
    c.addr % 2 ^ 30 + c.len ≤ 2 ^ 30 → translate s (instOwner s inst) c.addr = some (m, off) → translates s (instOwner s inst) c.addr c.len = true →
    guarded s (instOwner s inst) c.addr c.len = false → (plotAt s m).state = .assigned → keyHeld s (plotAt s m) = true → Mem.wf s.dram.bytes = true →
    After (.bulkFill inst db c) s fun t => BulkPosted s t inst db b 0 c.tag [] ∧ t.stor.ops = [] ∧
      ∀ x, t.dram.bytes.read x = if dpaOf m off ≤ x ∧ x < dpaOf m off + c.len then BitVec.ofNat 8 (c.operand / 256 ^ ((x - dpaOf m off) % 8))
        else s.dram.bytes.read x) ∧
  (∀ (s : State) (inst : Nat) (db : Fin 16) (c : BulkCmd) (b : BulkQueue), BulkTakes s inst db b → s.stor.ops = [] → c.bad = false → c.flags < 2 →
    inst < 0x400 → s.insts.all (fun e => decide (e.2.gen < 65536)) = true →
    let o := instOwner s inst
    (c.len % 32 ≠ 0 → After (.bulkCopy inst db c) s fun t => BulkPosted s t inst db b 8 c.tag [] ∧ t.dram = s.dram ∧ t.vio = s.vio) ∧
    (c.addr % 32 = 0 → c.operand % 32 = 0 → c.len % 32 = 0 → 0 < c.len → overlap c.addr c.len c.operand c.len = false →
      translates s o c.addr c.len = true → translates s o c.operand c.len = false → After (.bulkCopy inst db c) s fun t =>
      BulkPosted s t inst db b 0 c.tag [] ∧ t.dram = s.dram ∧
        Violated s t (copyMiss s o c.addr c.operand c.len) (mkTag o inst) 3 c.len 0xFFF 0xFFFF) ∧
    (∀ n j m k, translate s o c.addr = some (n, j) → translate s o c.operand = some (m, k) → n ≠ m → n < 1024 → m < 1024 → j + c.len ≤ 2 ^ 30 →
      k + c.len ≤ 2 ^ 30 → c.addr % 32 = 0 → c.operand % 32 = 0 → c.len % 32 = 0 → 0 < c.len → overlap c.addr c.len c.operand c.len = false →
      guarded s o c.addr c.len = false → (plotAt s n).state = .assigned → (plotAt s m).state = .assigned → keyHeld s (plotAt s n) = true →
      keyHeld s (plotAt s m) = true → s.dram.poison = [] → Mem.wf s.dram.bytes = true → After (.bulkCopy inst db c) s fun t =>
      BulkPosted s t inst db b 0 c.tag [] ∧ (∀ i, i < c.len → plotByte t n (j + i) = plotByte s m (k + i)) ∧
        ∀ i p, p ≠ n → p < 1024 → i < 2 ^ 30 → plotByte t p i = plotByte s p i)) ∧
  (∀ (s : State) (op a : Nat) (o : IoOp) (q : NvmeSq) (k : NvmeCq) (n : Namespace) (data : Bytes), s.on = true → s.stor.ops = [(op, o)] →
    o.started = true → o.kind = .read → o.bulk = false → o.inst < 0x400 → o.gen < 65536 → o.space = 1 → o.buffers = [(a, 512 * o.nlb)] →
    s.stor.spaces.get? o.nsid = some n → n.encrypt = false → data.length = 512 * o.nlb → (s.ctrl o.inst).sqs.get? o.queue = some q →
    (s.ctrl o.inst).cqs.get? q.cqid = some k → (k.tail + 1) % (k.size + 1) ≠ k.head → (s.ctrl o.inst).wait.getD q.cqid [] = [] →
    mayDma s (instPort s o.inst) o.inst = true → (s.ctrl o.inst).shst = 0 → (s.track op).owed = 0 →
    After (.storageCompletion op 0 data) s fun t => t.stor.ops = [] ∧ (t.track op).held = false ∧ (t.track op).recorded = true ∧
      ∃ f, Posted s t o.inst o.queue o.id q k q.head 0 0 [.hostWrite (instPort s o.inst) o.inst a data]
        { s.ctrl o.inst with smart := f, idleSince := s.lc }) ∧
  (∀ (s : State) (op : Nat) (o : IoOp) (q : NvmeSq) (k : NvmeCq), s.on = true → s.stor.ops = [(op, o)] → o.kind = .write → o.bulk = false →
    o.inst < 0x400 → o.gen < 65536 → (s.ctrl o.inst).sqs.get? o.queue = some q → (s.ctrl o.inst).cqs.get? q.cqid = some k →
    (k.tail + 1) % (k.size + 1) ≠ k.head → (s.ctrl o.inst).wait.getD q.cqid [] = [] → mayDma s (instPort s o.inst) o.inst = true →
    (s.ctrl o.inst).shst = 0 →
    (o.started = true → After (.storageCompletion op 2 []) s fun t => t.stor.ops = [] ∧
      Posted s t o.inst o.queue o.id q k q.head 0x280 0 [] { s.ctrl o.inst with idleSince := s.lc }) ∧
    (∀ at', o.waiting = some at' → at' + 2000000000 ≤ s.lc → After (.backingWaitTimeout op) s fun t => t.stor.ops = [] ∧
      Posted s t o.inst o.queue o.id q k q.head 0x082 0 [] { s.ctrl o.inst with idleSince := s.lc }) ∧
    (∀ at', o.waiting = some at' → s.lc < at' + 2000000000 → After (.backingWaitTimeout op) s fun t => t = s)) ∧
  (∀ (s : State) (index speed width : Nat), s.on = true → index < 4 → unitIn s (uStor index) = true → ¬ s.clk.down.contains 24 → s.stor.ops = [] →
    After (.backingReconnect false index true speed width) s fun t => (t.pipe index).link = true ∧ (t.pipe index).speed = speed ∧
      (t.pipe index).width = width ∧ (∀ k, k ≠ index → t.pipe k = s.pipe k) ∧ t = { s with stor := { s.stor with pipes := t.stor.pipes } }) ∧
  (∀ (s : State) (index speed width : Nat) (f : FabricTarget), s.on = true → s.stor.targets.get? index = some f → targetOp s index = none → s.stor.ops = [] →
    After (.backingReconnect true index true speed width) s fun t => t.stor.targets.get? index = some { f with up := true } ∧
      t = { s with stor := { s.stor with targets := t.stor.targets } }) ∧
  (∀ (s : State) (p : Fin 4) (op : Nat) (o : IoOp) (n : Namespace), (s.pipe p).link = true → s.stor.ops = [(op, o)] → s.stor.spaces.get? o.nsid = some n →
    n.backing = 1 → n.port = p.val → o.started = true →
    After (.storageLinkDown p) s fun t => (t.pipe p).link = false ∧ t.stor.ops = [(op, { o with started := false, waiting := some s.lc })] ∧
      (∀ k, k ≠ p.val → t.pipe k = s.pipe k) ∧ t = { s with stor := { s.stor with pipes := t.stor.pipes, ops := t.stor.ops } }) ∧
  (∀ (s : State) (target n since : Nat) (o : LongOp), s.on = true → s.longOps = [(n, o)] → o.data = .fabricTarget target since →
    After (.fabricTargetTimeout target) s fun t => (since + 10000000000 ≤ s.lc → t.stor.targets.get? target = none ∧ Finished s t n LINK_DOWN []) ∧
      (s.lc < since + 10000000000 → t = s)) ∧
  (∀ (s : State) (inst ps ms : Nat), s.on = true → (s.ctrl inst).rdy = true → (s.ctrl inst).features.getD 0x0C 0 = 1 →
    (s.ctrl inst).apst[(s.ctrl inst).ps]? = some (8 * ps + 256 * ms) → (s.ctrl inst).ps < ps → ps ≤ 4 → 0 < ms → ms < 2 ^ 24 → ioOutstanding s inst = 0 →
    After (.apstTransition inst) s fun t => ((s.ctrl inst).idleSince + ms * 1000000 ≤ s.lc → t.ctrl inst = { s.ctrl inst with ps := ps, idleSince := s.lc } ∧
        (∀ n, n ≠ inst → t.ctrl n = s.ctrl n) ∧ PipesFollow t ∧
        t = { s with
          stor := { s.stor with ctrls := t.stor.ctrls, pipes := t.stor.pipes }
          emitted := t.emitted }) ∧
      (s.lc < (s.ctrl inst).idleSince + ms * 1000000 → t = s)) ∧
  (∀ (s : State) (p : Fin 4) (at' : Nat), (s.pipe p).bulkEnd = some at' → (s.pipe p).bulk = 0 →
    After (.pipelineHoldExpiry p) s fun t => (at' + 1000000 ≤ s.lc → (t.pipe p).bulkEnd = none ∧ PipesFollow t ∧
        t = { s with
          stor := { s.stor with pipes := t.stor.pipes }
          emitted := t.emitted }) ∧
      (s.lc < at' + 1000000 → t = s))

/-- R379, R400, R403, R407, R409. -/
def Obligations.StorageRequests : Prop :=
  (∀ (s : State) (q : Req) (nsid owner port source base size : Nat), Served s q 0x0701 32 .operator → s.longOps = [] → 1 ≤ nsid → nsid ≤ 4096 →
    owner < 16 → ownerExists s owner = true → port < 4 → 8 ≤ size →
    (∀ id m, (id, m) ∈ s.stor.spaces → id ≠ nsid ∧ (m.backing = 1 → m.port = port → m.source = source → base + size ≤ m.base ∨ m.base + m.size ≤ base)) →
    After (.namespaceCreate q nsid owner 1 port 0 source 0 0 base size) s fun t => Completed s t q 0x0701 OK [] ∧
      t.stor.spaces.get? nsid = some ({
          owner := owner, backing := 1, port := port, encrypt := false, source := source, target := 0, keySlot := 0, base := base
          size := size } : Namespace) ∧ (∀ k, k ≠ nsid → t.stor.spaces.get? k = s.stor.spaces.get? k) ∧
      SameBut { s with stor := { s.stor with spaces := t.stor.spaces }, longOps := t.longOps, opNo := t.opNo } t) ∧
  (∀ (s : State) (q : Req) (nsid owner source base size : Nat) (n : Namespace), Served s q 0x0701 32 .operator → 1 ≤ nsid → nsid ≤ 4096 → owner < 16 →
    ownerExists s owner = true → 8 ≤ size → s.stor.spaces.get? nsid = some n →
    After (.namespaceCreate q nsid owner 1 0 0 source 0 0 base size) s fun t => Replied s t q 0x0701 IN_USE [] ∧ SameBut s t) ∧
  (∀ (s : State) (q : Req) (nsid owner base size m off : Nat), Served s q 0x0701 32 .operator → s.longOps = [] → 1 ≤ nsid → nsid ≤ 4096 → owner < 16 →
    ownerExists s owner = true → 8 ≤ size → 512 * size ≤ 2 ^ 30 → base % 2 ^ 30 = 0 → translate s owner base = some (m, off) → s.stor.spaces = [] →
    base + 512 * size ≤ 2 ^ 40 → Mem.wf s.dram.bytes = true →
    After (.namespaceCreate q nsid owner 3 0 0 0 0 0 base size) s fun t => Completed s t q 0x0701 OK [] ∧ (t.stor.spaces.get? nsid).isSome = true ∧
      ∀ b, t.dram.bytes.read b = if dpaOf m 0 ≤ b ∧ b < dpaOf m 0 + 512 * size then 0 else s.dram.bytes.read b) ∧
  (∀ (s : State) (q : Req) (nsid : Nat) (n : Namespace), Served s q 0x0702 8 .operator → s.stor.spaces.get? nsid = some n →
    After (.namespaceDelete q nsid) s fun t => (n.attached ≠ [] → Replied s t q 0x0702 IN_USE [] ∧ SameBut s t) ∧
      (n.attached = [] → n.backing ≠ 3 → s.longOps = [] → Completed s t q 0x0702 OK [] ∧ t.stor.spaces.get? nsid = none ∧ PipesFollow t ∧
        SameBut { s with stor := { s.stor with spaces := t.stor.spaces, pipes := t.stor.pipes }, longOps := t.longOps, opNo := t.opNo } t)) ∧
  (∀ (s : State) (q : Req) (nsid inst : Nat) (n : Namespace) (i : Instance), Served s q 0x0703 8 .operator → s.stor.spaces.get? nsid = some n →
    s.insts.get? inst = some i →
    After (.namespaceAttach q nsid inst) s fun t => (i.part ≠ n.owner → Replied s t q 0x0703 DENIED [] ∧ SameBut s t) ∧
      (i.part = n.owner → inst ∈ n.attached → Replied s t q 0x0703 IN_USE [] ∧ SameBut s t) ∧
      (i.part = n.owner → inst ∉ n.attached → Replied s t q 0x0703 OK [] ∧ PipesFollow t ∧
        (∃ l, t.stor.spaces.get? nsid = some { n with attached := l } ∧ ∀ k, k ∈ l ↔ k = inst ∨ k ∈ n.attached) ∧
        SameBut { s with stor := { s.stor with spaces := t.stor.spaces, pipes := t.stor.pipes } } t)) ∧
  (∀ (s : State) (q : Req) (nsid inst : Nat) (n : Namespace), Served s q 0x0704 8 .operator → s.stor.spaces.get? nsid = some n →
    After (.namespaceDetach q nsid inst) s fun t => (inst ∉ n.attached → Replied s t q 0x0704 INVALID [] ∧ SameBut s t) ∧
      (inst ∈ n.attached → Replied s t q 0x0704 OK [] ∧ PipesFollow t ∧ t.stor.ops = s.stor.ops ∧
        (∃ l, t.stor.spaces.get? nsid = some { n with attached := l } ∧ ∀ k, k ∈ l ↔ k ≠ inst ∧ k ∈ n.attached) ∧
        SameBut { s with stor := { s.stor with spaces := t.stor.spaces, pipes := t.stor.pipes } } t)) ∧
  (∀ (s : State) (q : Req) (port ownerEntry egress dscp remote localIp mac : Nat) (nqn : BufRef) (bs : Bytes), Served s q 0x0705 64 .operator →
    s.longOps = [] → nqn.space = 1 → 1 ≤ nqn.len → nqn.len ≤ 223 → bs.length = nqn.len → port < 8 → ownerEntry < 1024 → egress < 16384 → dscp < 64 →
    s.stor.targets = [] →
    After (.fabricTargetAdd q port 0 ownerEntry egress dscp remote localIp mac nqn (.data bs)) s fun t => Accepted s t q 0x0705 ACCEPTED ∧
      (∃ h f, 1 ≤ h ∧ t.stor.targets = [(h, f)] ∧ f.port = port ∧ f.nqn = bs ∧ f.up = false ∧
        ((t.longOps.get? s.opNo).map LongOp.data) = some (.fabricTarget h s.lc)) ∧
      SameBut { s with stor := { s.stor with targets := t.stor.targets }, longOps := t.longOps, opNo := t.opNo } t) ∧
  (∀ (s : State) (q : Req) (p deepest : Nat), Served s q 0x0706 8 .operator →
    After (.storagePowerPolicy q p deepest) s fun t => ((4 ≤ p ∨ 4 < deepest) → Replied s t q 0x0706 INVALID [] ∧ SameBut s t) ∧
      (p < 4 → deepest ≤ 4 → Replied s t q 0x0706 OK [] ∧ (t.pipe p).deepest = deepest ∧ PipesFollow t ∧
        SameBut { s with stor := { s.stor with pipes := t.stor.pipes } } t)) ∧
  (∀ (s : State) (q : Req) (p nsid : Nat), Served s q 0x0707 8 .operator → p < 6 →
    After (.storageQuery q 1 p nsid) s fun t => SameBut s t ∧ ∃ b : Bytes, Replied s t q 0x0707 OK b ∧ fieldAt b 0 1 = (s.pipe p).ps % 256 ∧
      (fieldAt b 1 1 = 1 ↔ (s.pipe p).link = true) ∧ fieldAt b 8 8 = (s.pipe p).completed % 2 ^ 64) ∧
  (∀ (s : State) (q : Req) (p nsid : Nat), Served s q 0x0707 8 .tenant → After (.storageQuery q 1 p nsid) s fun t => Replied s t q 0x0707 DENIED [] ∧ SameBut s t) ∧
  (∀ (s : State) (q : Req) (db log2 sq cq : Nat), Served s q 0x0740 32 .tenant → db < 16 → 6 ≤ log2 → log2 ≤ 16 → s.ctxs.length < 69632 →
    s.stor.bulk.get? (bulkKey q.mbx db) = none →
    After (.bulkQueueCreate q db log2 0xFF sq cq) s fun t =>
      (queueRoom s (instOwner s q.mbx) = false → Replied s t q 0x0740 NO_RESOURCES [] ∧ SameBut s t) ∧
      (queueRoom s (instOwner s q.mbx) = true → Replied s t q 0x0740 OK [] ∧ t.stor.bulk.get? (bulkKey q.mbx db) = some ({
          inst := q.mbx, doorbell := db, log2 := log2, vector := 0xFF, sqAddr := sq
          cqAddr := cq } : BulkQueue) ∧ (t.ctxs.get? (cxBulk q.mbx db)).isSome = true ∧
        SameBut { s with stor := { s.stor with bulk := t.stor.bulk }, ctxs := t.ctxs } t)) ∧
  (∀ (s : State) (q : Req) (db : Nat), Served s q 0x0741 8 .tenant → db < 16 → (s.stor.bulk.get? (bulkKey q.mbx db)).isSome = true → s.stor.ops = [] →
    s.longOps = [] →
    After (.bulkQueueDelete q db) s fun t => Completed s t q 0x0741 OK [] ∧ t.stor.bulk.get? (bulkKey q.mbx db) = none ∧
      t.ctxs.get? (cxBulk q.mbx db) = none ∧
      SameBut { s with stor := { s.stor with bulk := t.stor.bulk }, ctxs := t.ctxs, longOps := t.longOps, opNo := t.opNo } t)

/-- R415 to R421, R434, R443, R447, R458. -/
def Obligations.EthernetPorts : Prop :=
  (∀ (s : State) (p : Fin 8) (frame : Bytes) (fc fu : Nat), s.on = true → (s.eth p).link = 2 → 4 ≤ frame.length →
    let d := frame.take (frame.length - 4)
    let fcs := decide (frame.drop (frame.length - 4) ≠ le 4 (crc32 d))
    let len := decide (frame.length < 64 ∨ (s.eth p).maxFrame < frame.length)
    (fcs = true ∨ len = true) → After (.frameReceive p frame fc fu) s fun t => EthOnly s t p ∧ t.emitted = s.emitted ∧
      t.eth p = { s.eth p with
        fecCorrected := sat32 (s.eth p).fecCorrected fc, fecUncorrectable := sat32 (s.eth p).fecUncorrectable fu
        fcsErrors := sat32 (s.eth p).fcsErrors (b2n fcs), lengthErrors := sat32 (s.eth p).lengthErrors (b2n len) }) ∧
  (∀ (s : State) (p : Fin 8) (frame d : Bytes) (fc fu : Nat), GoodFrame s p frame d → beAt d 12 2 ≠ 0x8808 →
    rxHeld (s.eth p) + d.length ≤ 4 * 2 ^ 20 → s.fw.switching = none →
    (∀ k e, (k, e) ∈ s.pkt.owners → k / 1024 = p.val → e.mac = d.take 6 → e.vid ≠ outerVid d) → s.pkt.excRefilled.get? 16 = none →
    After (.frameReceive p frame fc fu) s fun t => PktOnly s t ∧ (t.eth p).noOwner = sat32 (s.eth p).noOwner 1 ∧
      (t.eth p).rxFrames = ((s.eth p).rxFrames + 1) % 2 ^ 64 ∧ (t.eth p).rxBytes = ((s.eth p).rxBytes + frame.length) % 2 ^ 64 ∧
      (t.eth p).buffer = (s.eth p).buffer ∧ ∃ x : Delivery, t.pkt.excQueue = s.pkt.excQueue ++ [(p.val / 4, 16, x)] ∧ x.data = d ∧
        x.status = 0x13 ∧ x.port = p.val ∧ x.at_ = s.lc ∧ x.meta_ = []) ∧
  (∀ (s : State) (p : Fin 8) (frame d : Bytes) (fc fu : Nat) (e : OwnerEntry), GoodFrame s p frame d → beAt d 12 2 ≠ 0x8808 →
    rxHeld (s.eth p) + d.length ≤ 4 * 2 ^ 20 → entryOf s p d = some e → (s.eth p).pfc = false → s.fw.switching = none →
    After (.frameReceive p frame fc fu) s fun t => PktOnly s t ∧ (t.eth p).noOwner = (s.eth p).noOwner ∧
      (e.roce = true → roceForm d = true → (t.eth p).buffer = (s.eth p).buffer ∧ t.pkt.excQueue = s.pkt.excQueue ∧
        ∃ x : RxFrame, (t.eth p).roce = (s.eth p).roce ++ [x] ∧ x.data = d ∧ x.owner = e.owner) ∧
      (e.roce = false → hasProgram s e.owner = true → t.pkt.excQueue = s.pkt.excQueue ∧ (t.eth p).arrivals = (s.eth p).arrivals + 1 ∧
        ∃ x : RxFrame, (t.eth p).buffer = (s.eth p).buffer ++ [x] ∧ x.data = d ∧ x.owner = e.owner ∧ x.port = p.val ∧
          x.order = (s.eth p).arrivals ∧ x.at_ = s.lc ∧ x.prio = framePrio d) ∧
      (e.roce = false → hasProgram s e.owner = false → s.pkt.excRefilled.get? e.owner = none → (t.eth p).buffer = (s.eth p).buffer ∧
        ∃ x : Delivery, t.pkt.excQueue = s.pkt.excQueue ++ [(p.val / 4, e.owner, x)] ∧ x.data = d ∧ x.status = 0x14 ∧ x.meta_ = [])) ∧
  (∀ (s : State) (p : Fin 8) (frame d : Bytes) (fc fu : Nat), GoodFrame s p frame d → beAt d 12 2 = 0x8808 → beAt d 14 2 = 1 →
    After (.frameReceive p frame fc fu) s fun t => PktOnly s t ∧ (t.eth p).rxFrames = ((s.eth p).rxFrames + 1) % 2 ^ 64 ∧
      (t.eth p).buffer = (s.eth p).buffer ∧ (t.eth p).paused = (s.eth p).paused ∧ t.pkt.excQueue = s.pkt.excQueue) ∧
  (∀ (s : State) (p k : Fin 8) (frame d : Bytes) (fc fu quanta : Nat), GoodFrame s p frame d → beAt d 12 2 = 0x8808 → beAt d 14 2 = 0x0101 →
    beAt d 0 6 = 0x0180C2000001 → beAt d 16 2 = 2 ^ k.val → beAt d (18 + 2 * k.val) 2 = quanta → 0 < quanta → (s.eth p).paused = [] →
    After (.frameReceive p frame fc fu) s fun t => PktOnly s t ∧ (t.eth p).pfcRx = sat32 (s.eth p).pfcRx 1 ∧
      (t.eth p).paused = [(k.val, s.lc + (512 * quanta + portRate s p - 1) / portRate s p)] ∧ (t.eth p).buffer = (s.eth p).buffer) ∧
  (∀ (s : State) (p prio : Fin 8), s.on = true → (s.eth p).link = 2 → prio.val ∈ (s.eth p).pfcSending →
    After (.pfcRepeat p prio) s fun t => ((s.eth p).pfcSentAt.getD prio 0 + 40000 ≤ s.lc → EthOnly s t p ∧ t.emitted = .pfc p prio 0xFFFF :: s.emitted ∧
        (t.eth p).pfcTx = sat32 (s.eth p).pfcTx 1 ∧ (t.eth p).pfcSentAt.getD prio 0 = s.lc) ∧
      (s.lc < (s.eth p).pfcSentAt.getD prio 0 + 40000 → t = s)) ∧
  (∀ (s : State) (p prio : Fin 8) (stop start : Nat), s.on = true → (s.eth p).paused.get? prio = some stop →
    (s.eth p).pausedSince.get? prio = some start →
    After (.pfcPauseExpiry p prio) s fun t => (stop ≤ s.lc → EthOnly s t p ∧ t.emitted = s.emitted ∧ (t.eth p).paused.get? prio = none ∧
        (t.eth p).pausedNs.getD prio 0 = ((s.eth p).pausedNs.getD prio 0 + (stop - start)) % 2 ^ 64) ∧ (s.lc < stop → t = s)) ∧
  (∀ (s : State) (p : Fin 8), s.on = true → s.full = true → (s.eth p).mode ≠ 0 → (s.eth p).link ≤ 1 → unitIn s (uEth p) = true →
    ¬ s.clk.down.contains (8 + p.val) → s.ckp = none →
    After (.ethLinkUp p) s fun t => EthOnly s t p ∧ t.emitted = s.emitted ∧
      t.eth p = { s.eth p with link := 2, speed := (s.eth p).mode, fecAligned := true }) ∧
  (∀ (s : State) (q : Req) (p mode flags classes maxFrame : Nat), Served s q 0x0801 32 .operator →
    After (.settings q p mode flags classes maxFrame) s fun t => (s.full = false → Replied s t q 0x0801 NOT_READY [] ∧ SameBut s t) ∧
      (s.full = true → (8 ≤ p ∨ 4 ≤ mode ∨ 4 ≤ flags ∨ maxFrame < 1518 ∨ 9216 < maxFrame) → Replied s t q 0x0801 INVALID [] ∧ SameBut s t) ∧
      (s.full = true → p < 8 → mode < 4 → flags < 4 → 1518 ≤ maxFrame → maxFrame ≤ 9216 → Replied s t q 0x0801 OK [] ∧
        (t.eth p).mode = mode ∧ (t.eth p).pfc = flags.testBit 0 ∧ (t.eth p).reorderPort = flags.testBit 1 ∧ (t.eth p).pfcClasses = classes ∧
        (t.eth p).maxFrame = maxFrame ∧ ((s.eth p).mode ≠ mode → (t.eth p).buffer = [] ∧ (t.eth p).link = if mode = 0 then 3 else 1) ∧
        ((s.eth p).mode = mode → (t.eth p).buffer = (s.eth p).buffer ∧ (t.eth p).link = (s.eth p).link) ∧
        (∀ k, k ≠ p → t.eth k = s.eth k) ∧ SameBut { s with pkt := { s.pkt with ports := t.pkt.ports } } t)) ∧
  (∀ (s : State) (q : Req) (p entry mac vid owner flags : Nat), Served s q 0x0801 32 .operator → p < 8 → entry < 1024 → mac < 2 ^ 48 → vid < 4096 →
    owner < 16 → ownerExists s owner = true → flags < 2 →
    After (.ownerWrite q p entry mac (4096 + vid) owner flags) s fun t =>
      (s.pkt.shares.get? owner = none → Replied s t q 0x0801 INVALID [] ∧ SameBut s t) ∧
      (∀ x k e, s.pkt.shares.get? owner = some x → (k, e) ∈ s.pkt.owners → k / 1024 = p → k ≠ 1024 * p + entry → e.mac = le 6 mac → e.vid = vid →
        Replied s t q 0x0801 IN_USE [] ∧ SameBut s t) ∧
      (∀ x, s.pkt.shares.get? owner = some x → (∀ k e, (k, e) ∈ s.pkt.owners → k / 1024 = p → k ≠ 1024 * p + entry → e.mac = le 6 mac → e.vid ≠ vid) →
        Replied s t q 0x0801 OK [] ∧ t.pkt.owners.get? (1024 * p + entry) = some ({
            mac := le 6 mac, vid := vid, owner := owner
            roce := flags.testBit 0 } : OwnerEntry) ∧ (∀ k, k ≠ 1024 * p + entry → t.pkt.owners.get? k = s.pkt.owners.get? k) ∧
        SameBut { s with pkt := { s.pkt with owners := t.pkt.owners } } t)) ∧
  (∀ (s : State) (q : Req) (p entry : Nat), Served s q 0x0801 32 .operator → p < 8 → entry < 1024 →
    After (.ownerClear q p entry) s fun t => Replied s t q 0x0801 OK [] ∧ t.pkt.owners.get? (1024 * p + entry) = none ∧
      (∀ k, k ≠ 1024 * p + entry → t.pkt.owners.get? k = s.pkt.owners.get? k) ∧ SameBut { s with pkt := { s.pkt with owners := t.pkt.owners } } t) ∧
  (∀ (s : State) (q : Req) (p : Nat), Served s q 0x0801 32 .operator → p < 8 →
    After (.countsClear q p) s fun t => Replied s t q 0x0801 OK [] ∧ t.eth p = { s.eth p with
        rxFrames := 0, rxBytes := 0, txFrames := 0, txBytes := 0, fcsErrors := 0, lengthErrors := 0, dropFull := 0, noOwner := 0
        fecCorrected := 0, fecUncorrectable := 0, pfcRx := 0, pfcTx := 0, parseLimit := 0, badVerdict := 0 } ∧
      (∀ k, k ≠ p → t.eth k = s.eth k) ∧ SameBut { s with pkt := { s.pkt with ports := t.pkt.ports } } t)

/-- R164, R384 to R387, R421 to R427, R430, R435. -/
def Obligations.ParsePath : Prop :=
  (∀ (s : State) (p : Fin 8) (cycle c : Nat) (f : RxFrame) (x : Share), s.on = true → QuietExcept s p → (s.eth p).reorder = [] →
    (s.eth p).buffer = [f] → (s.eth p).pfcSending = [] → s.pkt.shares.get? f.owner = some x → x.program.isSome = true → c < 64 →
    x.clusters.testBit c = true → c / 32 = p.val / 4 → unitIn s (uCluster c) = true → (s.core (16 * c)).running = false →
    After (.frameDispatch p cycle) s fun t => ∃ k, k < 1024 ∧ x.clusters.testBit (k / 16) = true ∧ k / 512 = p.val / 4 ∧ unitIn s (uCluster (k / 16)) = true ∧
      (s.core k).running = false ∧ (∀ j, j ≠ k → t.core j = s.core j) ∧ t.core k = ({
          running := true, first := true, region := 256 * x.size, owner := f.owner, pktLen := f.data.length, pktPort := p.val, packet := f.data
          started := cycle + 1, cycle := cycle + 1 } : Core) ∧ (t.eth p).buffer = [] ∧ (t.eth p).reorder = [{ frame := f, state := .parsing k }] ∧
      (t.eth p).lastCluster = k / 16 ∧ t = { s with cores := t.cores, pkt := t.pkt, mon := t.mon }) ∧
  (∀ (s : State) (p : Fin 8) (f : RxFrame) (k : Nat) (words : List W64), s.on = true → QuietExcept s p → (s.eth p).buffer = [] →
    (s.eth p).reorder = [{ frame := f, state := .ended k words }] →
    let v := (words.getD 0 0).toNat
    let r := bitsOf v 15 4
    let n := bitsOf v 28 16
    (∀ x j a len l, bitOf v 29 = false → RxTakes s r x j a len l → x.owner = f.owner → After (.frameRelease p) s fun t => (t.eth p).reorder = [] ∧
      RxWritten s t r x j a len l ({
          data := f.data.drop (bitsOf v 47 40), port := f.port, status := 0, flags := f.csum, meta_ := words.drop 1
          at_ := f.at_ } : Delivery)) ∧
    (bitOf v 29 = false → (∀ x, s.pkt.rings.get? r = some x → x.owner ≠ f.owner) → After (.frameRelease p) s fun t => (t.eth p).reorder = [] ∧
      t.pkt.rings = s.pkt.rings ∧ t.emitted = s.emitted ∧ Violated s t (2 * 2 ^ 56 + r) (mkTag f.owner (0x440 + k / 16)) 4 0 (0x4C8 + f.port) 0xFFFF) ∧
    (bitOf v 29 = true → (s.policer n).owner ≠ f.owner → After (.frameRelease p) s fun t => (t.eth p).reorder = [] ∧ t.pkt.rings = s.pkt.rings ∧
      t.pkt.policers = s.pkt.policers ∧ t.emitted = s.emitted ∧
      Violated s t (5 * 2 ^ 56 + n) (mkTag f.owner (0x440 + k / 16)) 4 0 (0x4C8 + f.port) 0xFFFF) ∧
    (bitOf v 29 = true → (s.policer n).owner = f.owner → (s.policer n).buckets.enable = true →
      (s.policer n).buckets.tp < 8 * ((f.data.length + 4 : Int) + (s.eth f.port).overhead) → 0 ≤ (f.data.length + 4 : Int) + (s.eth f.port).overhead →
      After (.frameRelease p) s fun t => (t.eth p).reorder = [] ∧ t.pkt.rings = s.pkt.rings ∧ t.emitted = s.emitted ∧ t.vio = s.vio ∧
        t.policer n = { s.policer n with
          redFrames := ((s.policer n).redFrames + 1) % 2 ^ 64
          redBytes := ((s.policer n).redBytes + (f.data.length + 4)) % 2 ^ 64 })) ∧
  (∀ (s : State) (die : Fin 2) (consumed o : Nat) (d : Delivery) (rest : List (Nat × Owner × Delivery)), s.on = true → s.fw.switching = none →
    s.pkt.excQueue = (die.val, o, d) :: rest →
    After (.exceptionDelivery die consumed) s fun t => t.pkt.excQueue = rest ∧
      (∀ r x j a len l, o ≠ 16 → s.pkt.excRings.get? o = some r → RxTakes s r x j a len l → RxWritten s t r x j a len l d ∧
        (t.pkt.excCounts.getD o {}).delivered = ((s.pkt.excCounts.getD o {}).delivered + 1) % 2 ^ 64) ∧
      (o ≠ 16 → s.pkt.excRings.get? o = none → t.emitted = s.emitted ∧
        (t.pkt.excCounts.getD o {}).droppedNoRing = ((s.pkt.excCounts.getD o {}).droppedNoRing + 1) % 2 ^ 64) ∧
      (∀ g : OpExcRing, o = 16 → s.pkt.opExc = some g → g.n + 1 - consumed ≤ 2 ^ g.log2 → mayDma s s.boot.opPort 0xFFFF = true →
        t.emitted = .hostWrite s.boot.opPort 0xFFFF (g.addr + 64 + 64 * (g.n % 2 ^ g.log2))
            (rxRecord (g.n % 2 ^ g.log2) (min d.data.length 16384) d.status d.port d.flags (g.n + 1) d.meta_ d.at_) ::
          .hostWrite s.boot.opPort 0xFFFF (g.slots + 16384 * (g.n % 2 ^ g.log2)) (d.data.take 16384) :: s.emitted ∧
        t.pkt.opExc = some { g with n := g.n + 1, consumed := consumed }) ∧
      (∀ g : OpExcRing, o = 16 → s.pkt.opExc = some g → 2 ^ g.log2 < g.n + 1 - consumed → t.emitted = s.emitted ∧
        (t.pkt.excCounts.getD 16 {}).droppedNoRing = ((s.pkt.excCounts.getD 16 {}).droppedNoRing + 1) % 2 ^ 64)) ∧
  (∀ (s : State) (k : Nat) (host : HostData) (c : Context), s.on = true → s.fw.switching = none → s.ctxs.get? k = some c → c.resident = false →
    c.wanted = true → k < 0x3000000 →
    After (.contextSwap k host) s fun t => (residentCount s c.owner < residentQuota s c.owner → dieContexts s c.die < 2040 →
        t.ctxs.get? k = some { c with resident := true, wanted := false, since := s.lc, lastRun := s.lc } ∧
        (∀ j, j ≠ k → t.ctxs.get? j = s.ctxs.get? j) ∧ t = { s with ctxs := t.ctxs }) ∧
      (residentQuota s c.owner ≤ residentCount s c.owner → (∀ j x, (j, x) ∈ s.ctxs → x.owner = c.owner → x.resident = true →
        x.pinned = true ∨ ctxBusy s j = true ∨ s.lc < x.since + 50000) → t = s)) ∧
  (∀ (s : State) (core : Fin 1024) (n : Fin 4) (late : Bool) (tb : MatchTable) (act y rest : Bytes), s.on = true →
    let h := (s.core core).handle n
    h.busy = true → s.pkt.tables.get? h.table = some tb → tb.deleting = none → tb.kl ≤ 64 → act.length = 32 →
    (∀ e ∈ cacheOf s (core.val / 512), e.table = h.table → e.key ≠ h.key) → Mem.wf (s.core core).scratch = true →
    After (.probeComplete core n late) s fun t => (late = true ∨ stackProbe s tb h.key ≠ none → t.dram = s.dram ∧ t.vio = s.vio) ∧
      (∀ j, j ≠ core.val → t.core j = s.core j) ∧
      (late = true → (t.core core).handle n = { h with done := true, hit := false, fault := true, flowCache := false, busy := false } ∧
        (t.core core).scratch = (s.core core).scratch) ∧
      (late = false → readPlot s tb.owner (tb.base + 256 * (bucketsOf tb h.key).1) 256 = .bytes (entryBytes tb.kl h.key act ++ rest) →
        readPlot s tb.owner (tb.base + 256 * (bucketsOf tb h.key).2) 256 = .bytes y →
        (t.core core).handle n = { h with done := true, hit := true, fault := false, flowCache := false, busy := false } ∧
        ∀ b, (t.core core).scratch.read b = if h.dst ≤ b ∧ b < h.dst + 32 then act.getD (b - h.dst) 0 else (s.core core).scratch.read b) ∧
      (late = false → readPlot s tb.owner (tb.base + 256 * (bucketsOf tb h.key).1) 256 = .bytes (zeros 256) →
        readPlot s tb.owner (tb.base + 256 * (bucketsOf tb h.key).2) 256 = .bytes (zeros 256) →
        (t.core core).handle n = { h with done := true, hit := false, fault := false, flowCache := false, busy := false } ∧
        (t.core core).scratch = (s.core core).scratch)) ∧
  (∀ (s : State) (core : Fin 1024) (n : Fin 4) (late : Bool) (tb : MatchTable) (e : FlowEntry), s.on = true →
    let h := (s.core core).handle n
    h.busy = true → s.pkt.tables.get? h.table = some tb → tb.deleting = none → cacheFind s (core.val / 512) h.table h.key = some e →
    After (.probeComplete core n late) s fun t =>
      (t.core core).handle n = { h with done := true, hit := true, fault := false, flowCache := true, busy := false } ∧
      (t.core core).scratch = (s.core core).scratch.writeN h.dst (padTo 32 e.action) ∧ t.dram = s.dram) ∧
  (∀ (s : State) (q : Req) (owner clusters base size limit : Nat), Served s q 0x0803 32 .operator → owner < 16 → ownerExists s owner = true →
    limit ≤ 262144 →
    After (.privetShareSet q owner clusters base size limit) s fun t => (16 < base + size → Replied s t q 0x0803 INVALID [] ∧ SameBut s t) ∧
      (∀ o y c, base + size ≤ 16 → (o, y) ∈ s.pkt.shares → o ≠ owner → y.clusters.testBit c = true → clusters.testBit c = true →
        y.base < base + size → base < y.base + y.size → Replied s t q 0x0803 IN_USE [] ∧ SameBut s t) ∧
      (base + size ≤ 16 → s.pkt.shares = [] → s.longOps = [] → clusters ≠ 0 → size ≠ 0 → Replied s t q 0x0803 OK [] ∧
        t.pkt.shares = [(owner, ({
            clusters := clusters, base := base, size := size
            cacheLimit := limit } : Share))] ∧
        (∀ c b, c < 64 → clusters.testBit c = true → 256 * base ≤ b → b < 256 * (base + size) → t.pkt.stores.getD (4096 * c + b) 0 = 0) ∧
        SameBut { s with pkt := { s.pkt with shares := t.pkt.shares, stores := t.pkt.stores } } t)) ∧
  (∀ (s : State) (q : Req) (program : BufRef) (bs : Bytes) (x : Share), Served s q 0x0802 16 .operator → program.space = 1 → bs.length = program.len →
    s.longOps = [] → s.pkt.shares.get? 16 = some x → x.base + x.size ≤ 16 → (∀ k c, (k, c) ∈ s.cores → c.running = false) →
    After (.privetProgramLoad q program (.data bs)) s fun t =>
      (programOk false (s.decode.getD 16 []) (256 * x.size) bs = false → Replied s t q 0x0802 INVALID [] ∧ SameBut s t) ∧
      (programOk false (s.decode.getD 16 []) (256 * x.size) bs = true → Completed s t q 0x0802 OK [] ∧
        t.pkt.shares.get? 16 = some { x with program := some (bundlesOf bs), loading := [] } ∧
        (∀ c b, c < 64 → x.clusters.testBit c = true → b < 256 * x.size →
          t.pkt.stores.getD (4096 * c + 256 * x.base + b) 0 = (bundlesOf bs).getD b 0) ∧
        SameBut { s with
          pkt := { s.pkt with shares := t.pkt.shares, stores := t.pkt.stores }
          longOps := t.longOps, opNo := t.opNo } t))

/-- R428, R432, R433, R435 to R437, R439, R440, R446. -/
def Obligations.PacketRings : Prop :=
  (∀ (s : State) (q : Req) (n owner kl log2 flags base seed1 seed2 m off : Nat), Served s q 0x0804 32 .operator → n < 64 → owner < 16 →
    ownerExists s owner = true → (1 ≤ kl ∧ kl ≤ 16 ∨ 33 ≤ kl ∧ kl ≤ 64) → 6 ≤ log2 → log2 ≤ 23 → flags < 2 → base % 256 = 0 → seed1 ≠ 0 → seed2 ≠ 0 →
    translate s owner base = some (m, off) → off + 256 * 2 ^ log2 ≤ 2 ^ 30 → (plotAt s m).state = .assigned → keyHeld s (plotAt s m) = true →
    guarded s owner base (256 * 2 ^ log2) = false → s.pkt.tables = [] → Mem.wf s.dram.bytes = true →
    After (.tableCreate q n owner kl log2 flags base seed1 seed2) s fun t => Replied s t q 0x0804 OK [] ∧ t.pkt.tables = [(n, ({
          owner := owner, kl := kl, log2 := log2, cache := flags.testBit 0, base := base, seed1 := seed1
          seed2 := seed2 } : MatchTable))] ∧
      (∀ b, t.dram.bytes.read b = if dpaOf m off ≤ b ∧ b < dpaOf m off + 256 * 2 ^ log2 then 0 else s.dram.bytes.read b) ∧
      SameBut { s with pkt := { s.pkt with tables := t.pkt.tables }, dram := t.dram } t) ∧
  (∀ (s : State) (q : Req) (n owner kl log2 flags base seed1 seed2 : Nat), Served s q 0x0804 32 .operator → (16 < kl ∧ kl < 33 ∨ kl = 0 ∨ 64 < kl) →
    After (.tableCreate q n owner kl log2 flags base seed1 seed2) s fun t => Replied s t q 0x0804 INVALID [] ∧ SameBut s t) ∧
  (∀ (s : State) (q : Req) (n m off : Nat) (records : BufRef) (key action : Bytes) (op : Nat) (tb : MatchTable), Served s q 0x0805 24 .operator →
    s.pkt.tables.get? n = some tb → tb.deleting = none → records.space = 1 → records.len = 128 → key.length = tb.kl → action.length = 32 → tb.kl ≤ 64 →
    tb.base % 256 = 0 →
    let r := le 1 op ++ zeros 7 ++ padTo 64 key ++ action ++ zeros 24
    After (.tableUpdate q n 1 records (.data r)) s fun t =>
      (op = 1 → (keyPlace s tb key).isSome = true → (bucketBytes s tb (bucketsOf tb key).1).isSome = true →
        (bucketBytes s tb (bucketsOf tb key).2).isSome = true → Replied s t q 0x0805 OK (le 4 0 ++ le 2 IN_USE ++ zeros 2) ∧ SameBut s t) ∧
      (op = 2 ∨ op = 3 → keyPlace s tb key = none → (bucketBytes s tb (bucketsOf tb key).1).isSome = true →
        (bucketBytes s tb (bucketsOf tb key).2).isSome = true → Replied s t q 0x0805 OK (le 4 0 ++ le 2 INVALID ++ zeros 2) ∧ SameBut s t) ∧
      (op = 1 → translate s tb.owner (tb.base + 256 * (bucketsOf tb key).1) = some (m, off) → m < 1024 → (plotAt s m).state = .assigned →
        keyHeld s (plotAt s m) = true → s.dram.poison = [] → Mem.wf s.dram.bytes = true →
        readPlot s tb.owner (tb.base + 256 * (bucketsOf tb key).1) 256 = .bytes (zeros 256) →
        readPlot s tb.owner (tb.base + 256 * (bucketsOf tb key).2) 256 = .bytes (zeros 256) →
        Replied s t q 0x0805 OK (le 4 1 ++ le 2 OK ++ zeros 2) ∧ stackProbe t tb key = some (some action))) ∧
  (∀ (s : State) (q : Req) (n : Nat) (tb : MatchTable), Served s q 0x0806 8 .operator → s.pkt.tables.get? n = some tb → tb.deleting = none →
    s.longOps = [] →
    After (.tableDelete q n) s fun t => (probesOf s n = false → Completed s t q 0x0806 OK [] ∧ t.pkt.tables.get? n = none ∧
        (∀ e ∈ t.pkt.cache0 ++ t.pkt.cache1, e.table ≠ n) ∧ SameBut { s with pkt := t.pkt, longOps := t.longOps, opNo := t.opNo } t) ∧
      (probesOf s n = true → Accepted s t q 0x0806 ACCEPTED ∧ t.pkt.tables.get? n = some { tb with deleting := some s.opNo })) ∧
  (∀ (s : State) (q : Req) (kind log2 db sq cq : Nat), Served s q 0x0807 32 .tenant → (kind = 1 ∨ kind = 2) → 6 ≤ log2 → log2 ≤ 14 → db < 64 →
    s.pkt.rings = [] → s.ctxs.length < 69632 →
    After (.ringCreate q kind log2 db 0xFF sq cq) s fun t => ∃ n, n < 4096 ∧ Replied s t q 0x0807 OK (le 2 n ++ zeros 6) ∧ t.pkt.rings = [(n, ({
          inst := q.mbx, owner := instOwner s q.mbx, tx := decide (kind = 2), log2 := log2, doorbell := db, vector := 0xFF, sqAddr := sq
          cqAddr := cq } : PktRing))] ∧ (t.ctxs.get? (cxRing n)).isSome = true ∧
      SameBut { s with pkt := { s.pkt with rings := t.pkt.rings }, ctxs := t.ctxs } t) ∧
  (∀ (s : State) (q : Req) (n : Nat) (x : PktRing), Served s q 0x0808 8 .tenant → s.pkt.rings.get? n = some x → x.deleting = none → s.longOps = [] →
    After (.ringDelete q n) s fun t => (x.owner ≠ instOwner s q.mbx → Replied s t q 0x0808 DENIED [] ∧ SameBut s t) ∧
      (x.owner = instOwner s q.mbx → ringBusy s n = false → Completed s t q 0x0808 OK [] ∧ t.pkt.rings.get? n = none ∧ t.ctxs.get? (cxRing n) = none ∧
        SameBut { s with pkt := t.pkt, ctxs := t.ctxs, longOps := t.longOps, opNo := t.opNo } t) ∧
      (x.owner = instOwner s q.mbx → ringBusy s n = true → Accepted s t q 0x0808 ACCEPTED ∧
        t.pkt.rings.get? n = some { x with deleting := some s.opNo })) ∧
  (∀ (s : State) (q : Req) (addr slots log2 : Nat), Served s q 0x0809 32 .operator → 6 ≤ log2 → log2 ≤ 12 →
    After (.exceptionRingSet q 0 log2 addr slots) s fun t => Replied s t q 0x0809 OK [] ∧ t.pkt.opExc = some ({
          addr := addr, log2 := log2
          slots := slots } : OpExcRing) ∧ SameBut { s with pkt := { s.pkt with opExc := t.pkt.opExc } } t) ∧
  (∀ (s : State) (q : Req) (ring : Nat) (x : PktRing), Served s q 0x0809 32 .tenant → q.mbx ≠ 0x400 + s.boot.opPort → s.pkt.rings.get? ring = some x → x.tx = false →
    x.deleting = none →
    After (.exceptionRingSet q ring 0 0 0) s fun t => (x.owner ≠ instOwner s q.mbx → Replied s t q 0x0809 DENIED [] ∧ SameBut s t) ∧
      (x.owner = instOwner s q.mbx → Replied s t q 0x0809 OK [] ∧ t.pkt.excRings.get? x.owner = some ring ∧
        SameBut { s with pkt := { s.pkt with excRings := t.pkt.excRings } } t)) ∧
  (∀ (s : State) (p : Fin 2) (inst r : Nat) (db : Fin 64) (i : Instance) (x : PktRing) (bs : Bytes), s.on = true → s.quick = true →
    s.insts.get? inst = some i → i.port = p.val → i.state = .running → functionFetches s inst = true → s.pkt.rings = [(r, x)] → x.inst = inst →
    x.doorbell = db.val → x.tx = false → x.deleting = none → resident s (cxRing r) = true → x.fetched + 1 < 2 ^ 32 → bs.length = 16 →
    After (.packetDoorbell p inst db (x.fetched + 1) (.data bs)) s fun t => t.pkt.rings = [(r, { x with
        posted := x.fetched + 1, fetched := x.fetched + 1
        buffers := x.buffers ++ [(x.fetched, fieldAt bs 0 8, fieldAt bs 8 4)] })] ∧ t.emitted = s.emitted) ∧
  (∀ (s : State) (r : Nat) (x : PktRing) (b : Bytes) (frame : HostData), s.pkt.rings.get? r = some x → x.tx = true → ringFetches s r x = true →
    mayFetch s x.owner = true → TagFree s → b.length = 32 → x.log2 ≤ 14 → mayDma s (instPort s x.inst) x.inst = true →
    let n := fieldAt b 10 2 % 16384
    let len := fieldAt b 8 2
    After (.txDescriptor r (.data b) frame) s fun t =>
      ((s.queue n).owner ≠ x.owner → TxCompleted s t x 0 (fieldAt b 16 4) ∧ t.pkt.queues = s.pkt.queues ∧
        Violated s t (6 * 2 ^ 56 + n) (mkTag x.owner (0x4C8 + (s.queue n).port)) 4 0 (0x4C8 + (s.queue n).port) 0xFFFF) ∧
      ((s.queue n).owner = x.owner → (len < 14 ∨ (s.eth (s.queue n).port).maxFrame - 4 < len) → TxCompleted s t x 8 (fieldAt b 16 4) ∧
        t.pkt.queues = s.pkt.queues ∧ t.vio = s.vio) ∧
      (∀ bs k e, (s.queue n).owner = x.owner → 14 ≤ len → len + 4 ≤ (s.eth (s.queue n).port).maxFrame → fieldAt b 12 1 = 0 → frame = .data bs →
        bs.length = len → (k, e) ∈ s.pkt.owners → k / 1024 = (s.queue n).port → e.owner = x.owner → e.mac = (bs.drop 6).take 6 →
        e.vid = outerVid (padTo (max 60 len) bs) → (s.queue n).enable = true → (s.queue n).frames = [] → max 60 len + 4 ≤ 1024 * (s.queue n).limit →
        egressHeld s ((s.queue n).port / 4) + max 60 len + 4 ≤ 64 * 2 ^ 20 → t.emitted = s.emitted ∧ t.vio = s.vio ∧
        ∃ op, (s.track op).held = false ∧ (t.track op).held = true ∧ (t.queue n).frames = [({
            data := padTo (max 60 len) bs
            origin := .ring r x.fetched (fieldAt b 16 4) op } : TxFrame)] ∧ (t.queue n).enqFrames = ((s.queue n).enqFrames + 1) % 2 ^ 64) ∧
      (∀ bs, (s.queue n).owner = x.owner → 14 ≤ len → len + 4 ≤ (s.eth (s.queue n).port).maxFrame → fieldAt b 12 1 = 0 → frame = .data bs →
        bs.length = len → (∀ k e, (k, e) ∈ s.pkt.owners → e.owner ≠ x.owner) → TxCompleted s t x 0 (fieldAt b 16 4) ∧ t.pkt.queues = s.pkt.queues))

/-- R29, R386, R441, R442. What R441 takes from the InfiniBand Annex is the model's own reading (the log's entry on packet formats). -/
def Obligations.RoceEngine : Prop :=
  (∀ (s : State) (q : Req) (port mtu retry entry queue localIp remoteIp mac dscp remoteQpn timeout psn expected : Nat), Served s q 0x080A 80 .operator →
    qpFieldsBad port 0 mtu retry entry queue mac dscp remoteQpn timeout psn expected = false → s.ctxs.length < 69632 → s.pkt.qps = [] →
    noEntropy s = false →
    After (.rdmaQpCreate q port 0 mtu retry entry queue localIp remoteIp mac dscp remoteQpn timeout psn 0 0 expected) s fun t =>
      ((∀ e, s.pkt.owners.get? (1024 * port + entry) = some e → e.owner ≠ 16) → Replied s t q 0x080A INVALID [] ∧ SameBut s t) ∧
      (∀ e, s.pkt.owners.get? (1024 * port + entry) = some e → e.owner = 16 → ∃ n x b, Replied s t q 0x080A OK b ∧ b.length = 8 ∧ fieldAt b 0 3 = n ∧
        t.pkt.qps = [(n, x)] ∧ x.owner = 16 ∧ x.port = port ∧ x.mtu = 128 * 2 ^ mtu ∧ x.retry = retry ∧ x.remoteQpn = remoteQpn ∧ x.psn = psn ∧
        x.expected = expected ∧ x.rkey = fieldAt b 4 4 ∧ x.error = false ∧ (t.ctxs.get? (cxQp n)).isSome = true ∧
        SameBut { s with pkt := { s.pkt with qps := t.pkt.qps }, ctxs := t.ctxs, free := t.free } t)) ∧
  (∀ (s : State) (q : Req) (n : Nat) (x : Qp), Served s q 0x080B 8 .operator → s.pkt.qps.get? n = some x → x.deleting = none → s.longOps = [] →
    After (.rdmaQpDestroy q n) s fun t => (x.unacked = [] → Completed s t q 0x080B OK [] ∧ t.pkt.qps.get? n = none ∧ t.ctxs.get? (cxQp n) = none ∧
        SameBut { s with pkt := { s.pkt with qps := t.pkt.qps }, ctxs := t.ctxs, longOps := t.longOps, opNo := t.opNo } t) ∧
      (∀ m op, m ∈ x.unacked → m.op = some op → Accepted s t q 0x080B ACCEPTED ∧
        ∃ y, t.pkt.qps.get? n = some y ∧ y.deleting = some s.opNo)) ∧
  (∀ (s : State) (p : Fin 8) (f : RxFrame) (l : List RxFrame) (x : RocePkt) (q : Qp), s.on = true → (s.eth p).roce = f :: l → rocePkt f.data = some x →
    s.pkt.qps.get? x.dest = some q →
    After (.roceReceive p) s fun t =>
      (q.owner ≠ f.owner → (t.eth p).roce = l ∧ t.pkt.qps = s.pkt.qps ∧ t.dram = s.dram ∧ t.emitted = s.emitted ∧
        Violated s t (8 * 2 ^ 56 + x.dest % 2 ^ 48) (mkTag f.owner (0x4C8 + p.val)) 4 0 (0x4C8 + p.val) (0x200 + p.val)) ∧
      (∀ c, q.owner = f.owner → s.ctxs.get? (cxQp x.dest) = some c → c.resident = false → (t.eth p).roce = f :: l ∧
        t.ctxs.get? (cxQp x.dest) = some { c with wanted := true } ∧ t = { s with ctxs := t.ctxs }) ∧
      (∀ addr len, q.owner = f.owner → resident s (cxQp x.dest) = true → q.error = false → q.writing = none → q.sending = false → x.marked = false →
        x.op = 0x0A → x.psn = q.expected → x.ackReq = false → beAt x.rest 0 8 = addr → beAt x.rest 12 4 = len → len ≠ 0 →
        qpWindow q 2 addr (beAt x.rest 8 4) len = true → (x.payload 16).length = len → (writePlot s q.owner addr (x.payload 16)).1 = .done →
        (t.eth p).roce = l ∧ t.dram = (writePlot s q.owner addr (x.payload 16)).2.dram ∧ t.emitted = s.emitted ∧
        ∃ y, t.pkt.qps.get? x.dest = some y ∧ y.expected = (q.expected + 1) % 2 ^ 24 ∧ y.msn = (q.msn + 1) % 2 ^ 24 ∧ y.error = false) ∧
      (q.owner = f.owner → resident s (cxQp x.dest) = true → q.error = false → q.writing = none → q.sending = false → x.marked = false → q.deleting = none →
        x.op = 0x0A → x.psn = q.expected → beAt x.rest 12 4 ≠ 0 → qpWindow q 2 (beAt x.rest 0 8) (beAt x.rest 8 4) (beAt x.rest 12 4) = false →
        t.dram = s.dram ∧ ∃ y, t.pkt.qps.get? x.dest = some y ∧ y.error = true)) ∧
  (∀ (s : State) (n : Nat) (q : Qp) (m : QpMsg), s.on = true → s.pkt.qps.get? n = some q → q.unacked = [m] →
    After (.roceAckTimeout n) s fun t => (s.lc < q.ackSince + 4096 * 2 ^ q.timeout → t = s) ∧
      (q.ackSince + 4096 * 2 ^ q.timeout ≤ s.lc → q.tries < q.retry → ∃ y, t.pkt.qps.get? n = some y ∧ y.tries = q.tries + 1 ∧ y.error = q.error ∧
        y.ackSince = s.lc) ∧
      (∀ op r, q.ackSince + 4096 * 2 ^ q.timeout ≤ s.lc → q.retry ≤ q.tries → q.deleting = none → m.op = some op → s.link.runs.get? op = some r →
        r.stage = .fetching → (∃ y, t.pkt.qps.get? n = some y ∧ y.error = true ∧ y.unacked = []) ∧
        t.link.runs.get? op = some { r with stage := .fetched 7 [] } ∧ t.emitted = s.emitted)) ∧
  (∀ (s : State) (n r at' : Nat) (q : Qp), s.on = true → s.pkt.qps.get? n = some q → q.rate = some r → q.rateAt = some at' →
    let full := 1000 * portRate s q.port
    After (.roceRateIncrease n) s fun t => (s.lc < at' + 55000 → t = s) ∧
      (at' + 55000 ≤ s.lc → t.pkt.qps.get? n = some { q with
          rate := if full ≤ r + full / 20 then none else some (r + full / 20)
          rateAt := if full ≤ r + full / 20 then none else some s.lc } ∧ t = { s with pkt := { s.pkt with qps := t.pkt.qps } }))

/-- R444 to R458. -/
def Obligations.TrafficManager : Prop :=
  (∀ (s : State) (p : Fin 8), s.on = true → (s.eth p).link = 2 → (s.eth p).busyUntil ≤ s.lc → (s.eth p).bank0.entries = [] → (s.eth p).bank1.entries = [] →
    (s.pkt.queues.map Prod.fst).Nodup →
    After (.frameTransmit p) s fun t => ((∀ n q f, ¬ Eligible s p n q f) → t = s) ∧
      (∀ m r g, Eligible s p m r g → ∃ n q f, Eligible s p n q f ∧ (∀ m' r' g', Eligible s p m' r' g' → Before n q m' r') ∧
        (∃ es, t.emitted = es ++ Emit.frame p f.data :: s.emitted) ∧ (t.eth p).vtime.getD q.cls 0 = q.ftag ∧
        (t.eth p).busyUntil = s.lc + frameTime s p f ∧ (t.eth p).txFrames = ((s.eth p).txFrames + 1) % 2 ^ 64 ∧
        (t.queue n).frames = q.frames.drop 1 ∧ (t.queue n).txBytes = (q.txBytes + (f.data.length + 4)) % 2 ^ 64 ∧
        (q.shaper.enable = true → (t.queue n).shaper.tp = q.shaper.tp - 8 * counted s p (f.data.length + 4) ∧
          (t.queue n).shaper.tc = q.shaper.tc - 8 * counted s p (f.data.length + 4)) ∧
        (q.shaper.enable = false → (t.queue n).shaper = q.shaper) ∧ ∀ k, k ≠ n → t.queue k = s.queue k)) ∧
  (∀ (s : State) (p : Fin 8), (s.eth p).link ≠ 2 ∨ s.lc < (s.eth p).busyUntil → After (.frameTransmit p) s fun t => t = s) ∧
  (∀ (s : State), s.on = true → s.lc % 1000 = 0 → s.pkt.refilledAt ≠ some s.lc →
    After .bucketRefill s fun t => t.pkt.refilledAt = some s.lc ∧
      t = { s with pkt := { s.pkt with refilledAt := some s.lc, queues := t.pkt.queues, policers := t.pkt.policers } } ∧
      (∀ n q, s.pkt.queues.get? n = some q → q.shaper.staged = none → q.shaper.enable = true → t.queue n = { q with shaper := { q.shaper with
        tc := min (q.shaper.tc + q.shaper.rates.cir) (8 * q.shaper.rates.cbs), tp := min (q.shaper.tp + q.shaper.rates.pir) (8 * q.shaper.rates.pbs) } }) ∧
      (∀ n q r, s.pkt.queues.get? n = some q → q.shaper.staged = some (true, r) → q.shaper.enable = false → t.queue n = { q with shaper := {
        enable := true, rates := r, tc := 8 * r.cbs, tp := 8 * r.pbs } }) ∧
      (∀ n q, s.pkt.queues.get? n = some q → q.shaper.staged = none → q.shaper.enable = false → t.queue n = q) ∧
      (∀ n x, s.pkt.policers.get? n = some x → x.buckets.staged = none → x.buckets.enable = true → t.policer n = { x with buckets := { x.buckets with
        tc := min (x.buckets.tc + x.buckets.rates.cir) (8 * x.buckets.rates.cbs)
        tp := min (x.buckets.tp + x.buckets.rates.pir) (8 * x.buckets.rates.pbs) } })) ∧
  (∀ (s : State), s.pkt.refilledAt = some s.lc ∨ s.lc % 1000 ≠ 0 → After .bucketRefill s fun t => t = s) ∧
  (∀ (s : State) (p : Fin 8), s.on = true → (s.eth p).gates.entries ≠ [] →
    let b := (s.eth p).gates
    let i := (s.eth p).gateIndex
    let stop := if i + 1 < b.entries.length then min ((s.eth p).gateAt + (b.entries.getD i (0, 0)).2) ((s.eth p).cycleStart + b.cycle)
      else (s.eth p).cycleStart + b.cycle
    After (.gateEntryChange p) s fun t => (s.lc < stop → t = s) ∧ (stop ≤ s.lc → EthOnly s t p ∧ t.emitted = s.emitted ∧ (t.eth p).gateAt = stop ∧
      (t.eth p).gateIndex = (if stop = (s.eth p).cycleStart + b.cycle then 0 else i + 1) ∧
      (t.eth p).cycleStart = (if stop = (s.eth p).cycleStart + b.cycle then stop else (s.eth p).cycleStart) ∧ (t.eth p).gates = b)) ∧
  (∀ (s : State) (p : Fin 8) (due : Nat) (e : LaunchEntry), s.on = true → launchNext (s.slot (slotKey 2 p 0)) = some (due, e) → e.action = 1 →
    After (.gateChangeover p) s fun t => (s.lc < due → t = s) ∧ (s.lc = due → (t.eth p).bank = e.arg ∧ (t.eth p).cycleStart = s.lc ∧ (t.eth p).gateIndex = 0 ∧
      (t.eth p).gateAt = s.lc ∧ (t.eth p).bank0 = (s.eth p).bank0 ∧ (t.eth p).bank1 = (s.eth p).bank1 ∧ (∀ k, k ≠ p.val → t.eth k = s.eth k) ∧
      t = { s with pkt := { s.pkt with ports := t.pkt.ports }, launch := t.launch })) ∧
  (∀ (s : State) (q : Req) (p v : Nat), Served s q 0x0904 4 .operator → v < 256 →
    After (.tmOverheadSet q p v) s fun t => let x : Int := if v < 128 then v else v - 256
      ((8 ≤ p ∨ x < -32 ∨ 63 < x) → Replied s t q 0x0904 INVALID [] ∧ SameBut s t) ∧
      (p < 8 → -32 ≤ x → x ≤ 63 → Replied s t q 0x0904 OK [] ∧ t.eth p = { s.eth p with overhead := x } ∧ (∀ k, k ≠ p → t.eth k = s.eth k) ∧
        SameBut { s with pkt := { s.pkt with ports := t.pkt.ports } } t)) ∧
  (∀ (s : State) (q : Req) (n owner port cls flags weight limit : Nat), Served s q 0x0901 16 .operator → n < 16384 → owner < 16 →
    ownerExists s owner = true → port < 8 → cls < 8 → flags < 2 → weight ≠ 0 → 16 ≤ limit → limit ≤ 65536 →
    After (.tmQueueConfig q n owner port cls flags weight limit) s fun t =>
      (((s.queue n).owner ≠ owner ∨ (s.queue n).port ≠ port ∨ (s.queue n).cls ≠ cls) → ((s.queue n).enable = true ∨ (s.queue n).frames ≠ []) →
        Replied s t q 0x0901 IN_USE [] ∧ SameBut s t) ∧
      (((s.queue n).owner = owner ∧ (s.queue n).port = port ∧ (s.queue n).cls = cls ∨ (s.queue n).enable = false ∧ (s.queue n).frames = []) →
        Replied s t q 0x0901 OK [] ∧ t.queue n = { s.queue n with
          owner := owner, port := port, cls := cls, enable := flags.testBit 0, weight := weight, limit := limit } ∧
        (∀ k, k ≠ n → t.queue k = s.queue k) ∧ SameBut { s with pkt := { s.pkt with queues := t.pkt.queues } } t)) ∧
  (∀ (s : State) (q : Req) (n flags cir pir cbs pbs : Nat), Served s q 0x0903 32 .operator → n < 16384 → flags < 2 →
    After (.tmShaperSet q n flags cir pir cbs pbs) s fun t => ((pir < cir ∨ 400000 < pir ∨ pir = 0 ∨ pbs < 2048 ∨ 16777215 < pbs ∨ 16777215 < cbs ∨ (cbs = 0 ∧ cir ≠ 0)) →
        Replied s t q 0x0903 INVALID [] ∧ SameBut s t) ∧
      (cir ≤ pir → 1 ≤ pir → pir ≤ 400000 → 2048 ≤ pbs → pbs ≤ 16777215 → cbs ≤ 16777215 → (cbs ≠ 0 ∨ cir = 0) → Replied s t q 0x0903 OK [] ∧
        t.queue n = { s.queue n with shaper := { (s.queue n).shaper with staged := some (flags.testBit 0, { cir := cir, pir := pir, cbs := cbs, pbs := pbs }) } } ∧
        (∀ k, k ≠ n → t.queue k = s.queue k) ∧ SameBut { s with pkt := { s.pkt with queues := t.pkt.queues } } t)) ∧
  (∀ (s : State) (q : Req) (n owner flags source cir pir cbs pbs yellow red : Nat), Served s q 0x0902 48 .operator → owner < 16 →
    ownerExists s owner = true → n < 8192 → flags < 4 → (source = 1 ∨ source = 2) → cir ≤ pir → 1 ≤ pir → pir ≤ 3200000 → 1 ≤ cbs → cbs ≤ 16777215 →
    1 ≤ pbs → pbs ≤ 16777215 →
    After (.tmPolicerSet q n owner flags source cir pir cbs pbs yellow red) s fun t =>
      ((s.policer n).owner ≠ owner → (s.policer n).buckets.enable = true → Replied s t q 0x0902 IN_USE [] ∧ SameBut s t) ∧
      ((s.policer n).owner = owner → Replied s t q 0x0902 OK [] ∧ t.policer n = { s.policer n with
          owner := owner, aware := flags.testBit 1, source := source, yellow := yellow, red := red
          buckets := { (s.policer n).buckets with staged := some (flags.testBit 0, { cir := cir, pir := pir, cbs := cbs, pbs := pbs }) } } ∧
        (∀ k, k ≠ n → t.policer k = s.policer k) ∧ SameBut { s with pkt := { s.pkt with policers := t.pkt.policers } } t)) ∧
  (∀ (s : State) (q : Req) (n : Nat), Served s q 0x0905 8 .operator → n < 16384 →
    After (.tmCountsRead q 1 n) s fun t => SameBut s t ∧ Replied s t q 0x0905 OK (le 8 (s.queue n).enqFrames ++ le 8 (s.queue n).enqBytes ++
      le 8 (s.queue n).txFrames ++ le 8 (s.queue n).txBytes ++ le 8 (s.queue n).dropFrames ++ le 8 (s.queue n).dropBytes)) ∧
  (∀ (s : State) (q : Req) (n : Nat), Served s q 0x0905 8 .tenant → n < 8 → After (.tmCountsRead q 3 n) s fun t => Replied s t q 0x0905 DENIED [] ∧ SameBut s t) ∧
  (∀ (s : State) (q : Req) (p bank cycle changeover : Nat) (list : BufRef) (host : HostData), Served s q 0x0940 48 .operator → p < 8 → bank < 2 → 128 ≤ cycle →
    cycle ≤ 1000000000 → (s.slot (slotKey 2 p 0)).staged = none →
    After (.gateListArm q p bank 0 cycle changeover list host) s fun t => ((s.eth p).bank = bank → Replied s t q 0x0940 IN_USE [] ∧ SameBut s t) ∧
      ((s.eth p).bank ≠ bank → 0 < changeover → changeover < s.lc + 10000 → Replied s t q 0x0940 TIME_PASSED [] ∧ SameBut s t) ∧
      ((s.eth p).bank ≠ bank → changeover = 0 → Replied s t q 0x0940 OK [] ∧ (t.eth p).bankOf bank = { cycle := cycle, entries := [] } ∧
        (t.eth p).bank = (s.eth p).bank ∧ SameBut { s with pkt := { s.pkt with ports := t.pkt.ports } } t) ∧
      ((s.eth p).bank ≠ bank → s.lc + 10000 ≤ changeover → Replied s t q 0x0940 OK [] ∧ (t.eth p).bankOf bank = { cycle := cycle, entries := [] } ∧
        (t.slot (slotKey 2 p 0)).changeover = changeover ∧ (∃ x, (t.slot (slotKey 2 p 0)).staged = some x ∧ x.base = changeover ∧ x.period = 0 ∧
          x.entries.map LaunchEntry.arg = [bank] ∧ x.entries.map LaunchEntry.action = [1]) ∧
        SameBut { s with pkt := { s.pkt with ports := t.pkt.ports }, launch := t.launch } t))

/-- R476 to R481, R483, R485, R488, R489, R380, R494. -/
def Obligations.KeyStore : Prop :=
  (∀ (s : State) (q : Req) (p : Nat), Served s q 0x0A01 8 .operator → s.sec.alarm = none → p < 16 → partExists s p = true →
    (s.sec.logs.getD p []).length < 4096 → noEntropy s = false →
    After (.partitionKeyInit q p) s fun t => ∃ n,
      let ek := padTo 1568 (Config.mlKemKeyGen n).1
      let dk := (Config.mlKemKeyGen n).2
      let e : LogEntry := { time := s.lc, type := 0x11, register := 2, info := 0, digest := Config.sha256 ek }
      t.sec = { s.sec with
        importKeys := s.sec.importKeys.erase p, decaps := s.sec.decaps.set p (ek, dk), encaps := s.sec.encaps.set p ek
        logs := s.sec.logs.set p (s.sec.logs.getD p [] ++ [e])
        pmr := s.sec.pmr.set p (extend (s.sec.pmr.getD p (zeros 32)) e) } ∧
      Replied s t q 0x0A01 OK [] ∧ SameBut { s with sec := t.sec, free := t.free } t) ∧
  (∀ (s : State) (q : Req) (p : Nat), Served s q 0x0A01 8 .operator → s.sec.alarm = none → p < 16 → partExists s p = true →
    (s.sec.logs.getD p []).length < 4096 → noEntropy s = true →
    After (.partitionKeyInit q p) s fun t => entriesFor t q.mbx = entriesFor s q.mbx ∧ t.sec.importKeys = s.sec.importKeys ∧
      t.sec.decaps = s.sec.decaps ∧ t.sec.waiting.length = s.sec.waiting.length + 1) ∧
  (∀ (s : State) (q : Req) (slot : Nat) (data : BufRef) (host : HostData) (bs ek dk : Bytes), Served s q 0x0A02 32 .tenant → s.sec.alarm = none →
    refBad data 1568 = false → readBuf s (whoOf s q.mbx) data host = .ok bs → s.sec.decaps.get? (whoOf s q.mbx).owner = some (ek, dk) →
    let p := (whoOf s q.mbx).owner
    After (.establish q slot 1568 data host) s fun t => let key := padTo 32 (Config.mlKemDecaps dk (bs.take 1568))
      t.sec = { s.sec with decaps := s.sec.decaps.erase p, importKeys := s.sec.importKeys.set p key } ∧
      Replied s t q 0x0A02 OK (le 2 (16384 + 2 * p) ++ zeros 14 ++ padTo 16 (Config.aesBlock key (zeros 16))) ∧ SameBut { s with sec := t.sec } t) ∧
  (∀ (s : State) (q : Req) (slot : Nat) (data : BufRef) (host : HostData) (bs : Bytes), Served s q 0x0A02 32 .tenant → s.sec.alarm = none →
    refBad data 1568 = false → readBuf s (whoOf s q.mbx) data host = .ok bs → s.sec.decaps.get? (whoOf s q.mbx).owner = none →
    After (.establish q slot 1568 data host) s fun t => Replied s t q 0x0A02 INVALID [] ∧ SameBut s t) ∧
  (∀ (s : State) (q : Req) (slot len : Nat) (data : BufRef) (host : HostData) (bs ik : Bytes), Served s q 0x0A02 32 .tenant → s.sec.alarm = none →
    (len = 40 ∨ len = 56 ∨ len = 88) → refBad data len = false → readBuf s (whoOf s q.mbx) data host = .ok bs →
    let p := (whoOf s q.mbx).owner
    (s.sec.importKeys.get? p = none → After (.wrapped q slot len data host) s fun t => Replied s t q 0x0A02 INVALID [] ∧ SameBut s t) ∧
    (s.sec.importKeys.get? p = some ik → Config.aesKwUnwrap ik (bs.take len) = none →
      After (.wrapped q slot len data host) s fun t => Replied s t q 0x0A02 DECRYPT_FAIL [] ∧ SameBut s t) ∧
    ∀ b : Bytes, s.sec.importKeys.get? p = some ik → Config.aesKwUnwrap ik (bs.take len) = some b → b.length = len - 8 →
      let a := keyAttr b
      let placed (k count : Nat) (t : State) := t.sec.slots = s.sec.slots.set k ({
            state := .loaded, owner := p, alg := a.alg, modes := a.modes, usage := a.usage, dir := a.dir
            fixed := a.fixed, nextCount := count, key := b.drop 16 } : KeySlot) ∧ Replied s t q 0x0A02 OK (le 2 k ++ zeros 30) ∧
        SameBut { s with sec := { s.sec with slots := t.sec.slots } } t
      let imported (t : State) := let e : LogEntry := { time := s.lc, type := 0x12, register := 2, info := 1, digest := zeros 32 }
        t.sec = { s.sec with
          memKeys := s.sec.memKeys.set p { key := some (b.drop 16), imported := true, check := padTo 32 (Config.sha256 (b.drop 16)) }
          logs := s.sec.logs.set p (s.sec.logs.getD p [] ++ [e])
          pmr := s.sec.pmr.set p (extend (s.sec.pmr.getD p (zeros 32)) e) } ∧
        Replied s t q 0x0A02 OK (le 2 (16385 + 2 * p) ++ zeros 30) ∧ SameBut { s with sec := t.sec } t
      (a.ok (len - 24) = false → After (.wrapped q slot len data host) s fun t => Replied s t q 0x0A02 INVALID [] ∧ SameBut s t) ∧
      (∀ k x, a.ok (len - 24) = true → a.usage = 0 → slot = 0xFFFF → s.parts.get? p = some x → keysHeld s p < x.keyQuota → k < 16384 →
        s.sec.slots.get? k = none → (∀ j, j < k → s.sec.slots.get? j ≠ none) → After (.wrapped q slot len data host) s (placed k a.count)) ∧
      (∀ x, a.ok (len - 24) = true → a.usage = 0 → slot = 0xFFFF → s.parts.get? p = some x → x.keyQuota ≤ keysHeld s p →
        After (.wrapped q slot len data host) s fun t => Replied s t q 0x0A02 NO_RESOURCES [] ∧ SameBut s t) ∧
      (∀ j x, a.ok (len - 24) = true → 2 ≤ a.usage → slot = 0xFFFF → (j, x) ∈ s.sec.slots → x.owner = p → x.usage = a.usage → j < 16384 →
        After (.wrapped q slot len data host) s fun t => Replied s t q 0x0A02 IN_USE [] ∧ SameBut s t) ∧
      (∀ x, a.ok (len - 24) = true → a.usage = 0 → slot < 16384 → s.sec.slots.get? slot = some x → x.owner = p → x.state = .erased → x.usage = 0 →
        x.nextCount < 2 ^ 48 → After (.wrapped q slot len data host) s (placed slot (max a.count x.nextCount))) ∧
      (∀ x, a.ok (len - 24) = true → a.usage ≠ 1 → slot < 16384 → s.sec.slots.get? slot = some x → x.owner = p → x.state = .erased → x.usage ≠ a.usage →
        After (.wrapped q slot len data host) s fun t => Replied s t q 0x0A02 INVALID [] ∧ SameBut s t) ∧
      (∀ m k, a.ok (len - 24) = true → a.usage = 1 → s.sec.memKeys.get? p = some m → m.key = some k → (s.sec.logs.getD p []).length < 4096 →
        (∀ n x, (n, x) ∈ s.dram.plots → x.owner = p → x.state ≠ .assigned) → After (.wrapped q slot len data host) s imported) ∧
      (∀ m k n x, a.ok (len - 24) = true → a.usage = 1 → s.sec.memKeys.get? p = some m → m.key = some k → (n, x) ∈ s.dram.plots → x.owner = p →
        x.state = .assigned → After (.wrapped q slot len data host) s fun t => Replied s t q 0x0A02 IN_USE [] ∧ SameBut s t) ∧
      (∀ m, a.ok (len - 24) = true → a.usage = 1 → s.sec.memKeys.get? p = some m → m.key = none → (s.sec.logs.getD p []).length < 4096 →
        (padTo 32 (Config.sha256 (b.drop 16)) = m.check → After (.wrapped q slot len data host) s imported) ∧
        (padTo 32 (Config.sha256 (b.drop 16)) ≠ m.check → After (.wrapped q slot len data host) s fun t =>
          Replied s t q 0x0A02 DECRYPT_FAIL [] ∧ SameBut s t))) ∧
  (∀ (s : State) (q : Req) (slot : Nat) (x : KeySlot), Served s q 0x0A03 8 .opOrTenant → s.sec.alarm = none → s.sec.slots.get? slot = some x →
    mayActOn (whoOf s q.mbx) x.owner = true → s.boot.opAbsent = false →
    ((∀ id n, (id, n) ∈ s.stor.spaces → n.encrypt = true → n.keySlot ≠ slot) → (∀ g, s.ckp = some g → x.usage = 3 → g.part ≠ x.owner) →
      (∀ j i, (j, i) ∈ s.insts → x.usage = 2 → i.part = x.owner → i.freezing = false) →
      After (.keyDestroy q slot) s fun t => t.sec = { s.sec with slots := s.sec.slots.erase slot } ∧ Replied s t q 0x0A03 OK [] ∧
        SameBut { s with sec := t.sec } t) ∧
    ((∃ id n, (id, n) ∈ s.stor.spaces ∧ n.encrypt = true ∧ n.keySlot = slot) ∨ (∃ g, s.ckp = some g ∧ x.usage = 3 ∧ g.part = x.owner) ∨
      (∃ j i, (j, i) ∈ s.insts ∧ x.usage = 2 ∧ i.part = x.owner ∧ i.freezing = true) →
      After (.keyDestroy q slot) s fun t => Replied s t q 0x0A03 IN_USE [] ∧ SameBut s t)) ∧
  (∀ (s : State) (q : Req) (first count : Nat) (out : BufRef), Served s q 0x0A04 24 .opOrTenant → s.sec.alarm = none → 1 ≤ count → count ≤ 1024 →
    first + count ≤ 16384 → out.space = 1 → 24 * count ≤ out.len → mayDma s (whoOf s q.mbx).port (whoOf s q.mbx).inst = true →
    After (.keySlotQuery q first count out) s fun t => SameBut s t ∧ Replied s t q 0x0A04 OK (le 8 count) ∧
      ∃ d : Bytes, .hostWrite (whoOf s q.mbx).port (whoOf s q.mbx).inst out.addr d ∈ t.emitted ∧ d.length = 24 * count ∧
        (∀ k x, k < count → s.sec.slots.get? (first + k) = some x → mayActOn (whoOf s q.mbx) x.owner = true →
          fieldAt d (24 * k) 1 = x.state.code ∧ fieldAt d (24 * k + 1) 1 = x.alg % 256 ∧ fieldAt d (24 * k + 2) 1 = x.modes % 256 ∧
          fieldAt d (24 * k + 3) 1 = x.usage % 256 ∧ fieldAt d (24 * k + 4) 1 = x.dir % 256 ∧ fieldAt d (24 * k + 5) 1 = ownerByte x.owner % 256 ∧
          (d.drop (24 * k + 8)).take 4 = padTo 4 x.fixed ∧ fieldAt d (24 * k + 16) 8 = x.nextCount % 2 ^ 64) ∧
        (∀ k, k < count → s.sec.slots.get? (first + k) = none → (d.drop (24 * k)).take 24 = zeros 24) ∧
        (∀ k x, k < count → s.sec.slots.get? (first + k) = some x → mayActOn (whoOf s q.mbx) x.owner = false → (d.drop (24 * k)).take 24 = zeros 24)) ∧
  (∀ (s : State) (q : Req) (p slots : Nat), Served s q 0x0A05 8 .operator → s.sec.alarm = none → p < 16 → partExists s p = true →
    let others := ((s.parts.filter fun e => decide (e.1 ≠ p)).map fun e => e.2.keyQuota).sum
    (others + slots ≤ 16384 → keysHeld s p ≤ slots → After (.keySlotQuotaSet q p slots) s fun t =>
      (t.parts.get? p).map Partition.keyQuota = some slots ∧ (∀ j, j ≠ p → t.parts.get? j = s.parts.get? j) ∧ Replied s t q 0x0A05 OK [] ∧
      SameBut { s with parts := t.parts } t) ∧
    (16384 < others + slots → After (.keySlotQuotaSet q p slots) s fun t => Replied s t q 0x0A05 INVALID [] ∧ SameBut s t) ∧
    (others + slots ≤ 16384 → slots < keysHeld s p → After (.keySlotQuotaSet q p slots) s fun t => Replied s t q 0x0A05 IN_USE [] ∧ SameBut s t)) ∧
  (∀ (s : State) (q : Req) (p slots : Nat), s.sec.alarm.isSome = true →
    (Served s q 0x0A01 8 .operator → After (.partitionKeyInit q p) s fun t => Replied s t q 0x0A01 NOT_READY [] ∧ SameBut s t) ∧
    (Served s q 0x0A05 8 .operator → After (.keySlotQuotaSet q p slots) s fun t => Replied s t q 0x0A05 NOT_READY [] ∧ SameBut s t))

/-- R467, R468, R470 to R474, R360, R380 (the layout of DOE objects is PRESUMED from PCIe, a log entry). -/
def Obligations.Attestation : Prop :=
  let deviceBody (s : State) (nonce b : Bytes) : Prop := b.length = 320 ∧ fieldAt b 0 4 = 0x51544F5A ∧ fieldAt b 4 2 = 1 ∧ fieldAt b 6 1 = 1 ∧
    fieldAt b 7 1 = 0xFF ∧ fieldAt b 8 8 = s.fuses.serial % 2 ^ 64 ∧ (b.drop 16).take 16 = le 16 s.boot.bootNonce ∧ fieldAt b 32 8 = s.lc % 2 ^ 64 ∧
    (b.drop 40).take 32 = padTo 32 nonce ∧ fieldAt b 72 8 = fusedVersion s % 2 ^ 64 ∧ fieldAt b 80 1 = s.fw.keyIndex % 256 ∧
    fieldAt b 81 1 = s.fuses.lifecycle % 256 ∧ fieldAt b 84 4 = s.fw.version % 2 ^ 32 ∧ fieldAt b 88 8 = s.fw.security % 2 ^ 64 ∧
    (b.drop 96).take 32 = padTo 32 s.sec.dmr0 ∧ (b.drop 128).take 32 = padTo 32 s.sec.dmr1 ∧
    (b.drop 192).take 32 = padTo 32 (Config.sha256 ((List.range 16).flatMap fun p => padTo 32 (s.sec.pmr.getD p (zeros 32)))) ∧
    fieldAt b 224 4 = s.sec.log.length % 2 ^ 32 ∧ fieldAt b 228 4 = 0 ∧ fieldAt b 232 1 = 8 * b2n s.boot.opAbsent ∧ b.drop 256 = zeros 64
  let partBody (s : State) (p : Nat) (ek b : Bytes) : Prop := b.length = 320 + ek.length ∧ fieldAt b 6 1 = 2 ∧ fieldAt b 7 1 = p ∧
    (b.drop 192).take 32 = padTo 32 (s.sec.pmr.getD p (zeros 32)) ∧ fieldAt b 224 4 = (s.sec.logs.getD p []).length % 2 ^ 32 ∧
    (∀ k, k < 8 → (fieldAt b 229 1).testBit k = decide ((s.zal k).owner = p)) ∧ fieldAt b 230 2 = plotsHeld s p % 2 ^ 16 ∧
    fieldAt b 232 1 = b2n (s.sec.encaps.get? p).isSome + 2 * b2n (s.sec.importKeys.get? p).isSome +
      4 * b2n (((s.sec.memKeys.get? p).map MemKey.imported).getD false) + 8 * b2n s.boot.opAbsent ∧
    (ek ≠ [] → (b.drop 256).take 32 = padTo 32 (Config.sha256 ek)) ∧ (ek = [] → (b.drop 256).take 32 = zeros 32) ∧ b.drop 320 = ek
  let endorsement (s : State) (r : Bytes) : Prop := r.length = 29904 ∧ fieldAt r 0 4 = 0x5245445A ∧ fieldAt r 4 2 = 1 ∧ fieldAt r 6 2 = 0 ∧
    fieldAt r 8 8 = s.fuses.serial % 2 ^ 64 ∧ (r.drop 16).take 32 = padTo 32 Config.identityKey ∧ (r.drop 48).take 29856 = padTo 29856 Config.endorsement
  (∀ (s : State) (q : Req) (nonce : Bytes) (out : BufRef), Served s q 0x0A06 64 .opOrTenant → s.sec.alarm = none → refBad out 17408 = false →
    s.longOps = [] → s.sec.signing = none → s.sec.doe = [] → s.sec.quotes = [] →
    After (.attestQuote q 1 0xFF nonce out) s fun t => Accepted s t q 0x0A06 ACCEPTED ∧
      (∃ g, t.sec.signing = some g ∧ g.op = some s.opNo ∧ g.since = s.lc ∧ deviceBody s nonce g.body) ∧ t.sec.quotes = [] ∧
      SameBut { s with sec := { s.sec with signing := t.sec.signing }, longOps := t.longOps, opNo := t.opNo } t) ∧
  (∀ (s : State) (q : Req) (nonce : Bytes) (out : BufRef), Served s q 0x0A06 64 .tenant → (whoOf s q.mbx).op = false → s.sec.alarm = none →
    let p := (whoOf s q.mbx).owner
    let ek := s.sec.encaps.getD p []
    p < 16 → partExists s p = true → refBad out (17408 + ek.length) = false → s.longOps = [] → s.sec.signing = none → s.sec.doe = [] → s.sec.quotes = [] →
    After (.attestQuote q 2 0xFF nonce out) s fun t => Accepted s t q 0x0A06 ACCEPTED ∧
      ∃ g, t.sec.signing = some g ∧ g.op = some s.opNo ∧ partBody s p ek g.body) ∧
  (∀ (s : State) (q : Req) (nonce : Bytes) (out : BufRef), Served s q 0x0A06 64 .opOrTenant → s.sec.alarm = none → refBad out 17408 = false →
    s.longOps = [] → s.sec.signing.isSome = true →
    After (.attestQuote q 1 0xFF nonce out) s fun t => Accepted s t q 0x0A06 ACCEPTED ∧ t.sec = { s.sec with quotes := s.sec.quotes ++ [s.opNo] }) ∧
  (∀ (s : State) (q : Req) (nonce : Bytes) (out : BufRef), Served s q 0x0A06 64 .opOrTenant → s.sec.alarm = none → refBad out 29904 = false →
    out.space = 1 → mayDma s (whoOf s q.mbx).port (whoOf s q.mbx).inst = true → s.longOps = [] → s.sec.doe = [] → s.sec.quotes = [] →
    After (.attestQuote q 3 0xFF nonce out) s fun t => Completed s t q 0x0A06 OK [] ∧
      (∃ r, .hostWrite (whoOf s q.mbx).port (whoOf s q.mbx).inst out.addr r ∈ t.emitted ∧ endorsement s r) ∧
      t.sec = s.sec ∧ t.longOps = []) ∧
  (∀ (s : State) (q : Req) (part : Nat) (nonce : Bytes) (out : BufRef), Served s q 0x0A06 64 .tenant → (whoOf s q.mbx).op = false → part ≠ 0xFF →
    part ≠ (whoOf s q.mbx).owner → s.sec.doe = [] → s.sec.quotes = [] →
    After (.attestQuote q 2 part nonce out) s fun t => Replied s t q 0x0A06 DENIED [] ∧ SameBut s t) ∧
  (∀ (s : State) (q : Req) (nonce : Bytes) (out : BufRef), Served s q 0x0A06 64 .opOrTenant → s.sec.alarm = none → out.len < 17408 →
    s.sec.doe = [] → s.sec.quotes = [] →
    After (.attestQuote q 1 0xFF nonce out) s fun t => Replied s t q 0x0A06 INVALID [] ∧ SameBut s t) ∧
  (∀ (s : State) (q : Req) (nonce : Bytes) (out : BufRef), Served s q 0x0A06 64 .opOrTenant → s.sec.alarm = none → refBad out 17408 = false →
    (2 ≤ quotesInProgress s (some q.mbx) ∨ 32 ≤ quotesInProgress s none) → s.sec.signing.isSome = true →
    After (.attestQuote q 1 0xFF nonce out) s fun t => Replied s t q 0x0A06 NO_RESOURCES [] ∧ SameBut s t) ∧
  (∀ (s : State) (g : Signing) (n : Nat) (o : LongOp) (kind addr len : Nat) (b : Bytes), s.on = true → s.sec.signing = some g → g.op = some n →
    s.longOps.get? n = some o → o.data = .quote kind b 1 addr len → g.body.length + 17088 ≤ len → s.sec.doe = [] → s.sec.quotes = [] →
    mayDma s (whoOf s o.mbx).port (whoOf s o.mbx).inst = true →
    After .quoteSigningComplete s fun t => Finished s t n OK [] ∧ t.sec = { s.sec with signing := none } ∧
      .hostWrite (whoOf s o.mbx).port (whoOf s o.mbx).inst addr (g.body ++ padTo 17088 (Config.identitySign g.body)) ∈ t.emitted) ∧
  (∀ (s : State) (g : Signing), s.on = true → s.sec.signing = some g → g.op = none → g.body.length = 320 → s.sec.doe = [] → s.sec.quotes = [] →
    exec .quoteSigningComplete s = .next { s with
      sec := { s.sec with signing := none }
      emitted := .doe g.port (le 2 0x1FA7 ++ le 1 1 ++ zeros 1 ++ le 4 4355 ++ (le 4 OK ++ g.body ++ padTo 17088 (Config.identitySign g.body))) :: s.emitted }) ∧
  (∀ (s : State) (g : Signing) (d : DoeQuote) (l : List DoeQuote), s.on = true → s.sec.signing = some g → g.op = none → s.sec.doe = d :: l → d.kind = 1 →
    After .quoteSigningComplete s fun t => t.sec.doe = l ∧ t.sec.quotes = s.sec.quotes ∧
      ∃ h, t.sec.signing = some h ∧ h.op = none ∧ h.port = d.port ∧ deviceBody s d.nonce h.body) ∧
  (∀ (s : State) (q : Req) (scope first count : Nat) (out : BufRef), Served s q 0x0A07 32 .opOrTenant → s.sec.alarm = none → out.space = 1 →
    64 * count ≤ out.len → mayDma s (whoOf s q.mbx).port (whoOf s q.mbx).inst = true →
    let read (log : List LogEntry) (regs : Bytes) := After (.measurementRead q scope first count out) s fun t => SameBut s t ∧
        Replied s t q 0x0A07 OK (le 4 log.length ++ regs) ∧ ∃ d : Bytes, .hostWrite (whoOf s q.mbx).port (whoOf s q.mbx).inst out.addr d ∈ t.emitted ∧
        ∀ k e, k < count → log[first + k]? = some e → fieldAt d (64 * k) 8 = e.time % 2 ^ 64 ∧ fieldAt d (64 * k + 8) 2 = e.type % 2 ^ 16 ∧
          fieldAt d (64 * k + 10) 1 = e.register % 256 ∧ fieldAt d (64 * k + 12) 4 = e.info % 2 ^ 32 ∧ (d.drop (64 * k + 16)).take 32 = padTo 32 e.digest
    (scope = 0xFF → read s.sec.log (padTo 32 s.sec.dmr0 ++ padTo 32 s.sec.dmr1)) ∧
    (scope < 16 → partExists s scope = true → ((whoOf s q.mbx).op = true ∨ (whoOf s q.mbx).owner = scope) →
        read (s.sec.logs.getD scope []) (padTo 32 (s.sec.pmr.getD scope (zeros 32)))) ∧
    ((whoOf s q.mbx).op = false → scope ≠ 0xFF → (whoOf s q.mbx).owner ≠ scope →
      After (.measurementRead q scope first count out) s fun t => Replied s t q 0x0A07 DENIED [] ∧ SameBut s t)) ∧
  (∀ (s : State) (p : Fin 2) (index : Nat), s.on = true → s.boot.rom = true → (s.port p).perst = false →
    exec (.doeDiscovery p index) s = .next { s with
      emitted := .doe p (le 2 1 ++ le 1 0 ++ zeros 1 ++ le 4 3 ++ (if index = 0 then le 2 1 ++ le 1 0 ++ le 1 1
        else if index = 1 then le 2 0x1FA7 ++ le 1 1 ++ le 1 0 else le 2 0xFFFF ++ le 1 0xFF ++ le 1 0)) :: s.emitted }) ∧
  (∀ (s : State) (p : Fin 2) (nonce : Bytes) (kind : Nat), s.on = true → s.boot.rom = true → s.boot.failed = false → (s.port p).perst = false →
    s.sec.alarm = none → nonce.length = 32 → let body (part : Nat) := le 1 kind ++ le 1 part ++ zeros 6 ++ nonce ++ zeros 24
    (kind = 3 → ∃ r, endorsement s r ∧ exec (.doeAttestation p (body 0xFF)) s = .next { s with
      emitted := .doe p (le 2 0x1FA7 ++ le 1 1 ++ zeros 1 ++ le 4 7479 ++ (le 4 OK ++ r)) :: s.emitted }) ∧
    (kind = 1 → s.sec.signing = none → s.sec.doe = [] → After (.doeAttestation p (body 0xFF)) s fun t => ∃ g, t.sec.signing = some g ∧ t = { s with sec := { s.sec with signing := some g } } ∧
      g.op = none ∧ g.port = p ∧ g.since = s.lc ∧ deviceBody s nonce g.body) ∧
    (kind = 1 → s.sec.signing.isSome = true → exec (.doeAttestation p (body 0xFF)) s = .next { s with
      sec := { s.sec with doe := s.sec.doe ++ [{ port := p, kind := 1, part := 0xFF, nonce := nonce }] } }) ∧
    (kind = 2 → s.full = false → ∀ part, part < 16 → exec (.doeAttestation p (body part)) s = .next { s with
      emitted := .doe p (le 2 0x1FA7 ++ le 1 1 ++ zeros 1 ++ le 4 3 ++ le 4 NOT_READY) :: s.emitted }))

/-- R459, R475, R477, R478, R492 to R495, R247, R505. -/
def Obligations.AlarmsAndEntropy : Prop :=
  (∀ (s : State) (k : Fin 7), s.on = true →
    (k.val = 1 → After (.alarm k) s (Off s .input)) ∧ (k.val = 2 → After (.alarm k) s (Off s .root)) ∧
    (k.val = 4 → (1200 ≤ s.power.tj0 ∨ 1200 ≤ s.power.tj1) → After (.alarm k) s (Off s .trip))) ∧
  (∀ (s : State) (k : Fin 7), s.on = true → k.val ≠ 1 → k.val ≠ 2 → (k.val = 4 → s.power.tj0 < 1200 ∧ s.power.tj1 < 1200) →
    s.stor.ops = [] → s.link.runs = [] → s.sessions = [] → s.ckp = none → s.sec.doe = [] → s.sec.quotes = [] →
    After (.alarm k) s fun t => (s.sec.signing = none → t = { s with
        sec := t.sec, faultLog := t.faultLog, mbxs := t.mbxs, insts := t.insts, ports := t.ports, emitted := t.emitted, mon := t.mon }) ∧
      t.sec = { s.sec with
        slots := t.sec.slots, importKeys := [], decaps := [], deviceKey := none, firmwareKey := false, memKeys := t.sec.memKeys, signing := none, alarm := some k.val, alarmAt := s.lc } ∧
      (∀ n, t.sec.slots.get? n = (s.sec.slots.get? n).map fun x => { x with state := .erased, key := [] }) ∧
      (∀ p, t.sec.memKeys.get? p = (s.sec.memKeys.get? p).map fun m => { m with key := none }) ∧
      (s.faultLog.length < 1024 → ∃ e, t.faultLog = s.faultLog ++ [e] ∧ e.time = s.lc ∧ e.kind = 4) ∧
      (∀ g n o, s.sec.signing = some g → g.op = some n → s.longOps.get? n = some o → (∃ kind b space addr len, o.data = .quote kind b space addr len) →
        o.mbx < 0x400 → Finished s t n DEVICE_FAULT [])) ∧
  (∀ s : State, s.on = true → s.sec.alarm.isSome = true → s.lc < s.sec.alarmAt + 10000000 → exec .alarmClear s = .next s) ∧
  (∀ s : State, s.on = true → s.sec.alarm.isSome = true → s.sec.alarmAt + 10000000 ≤ s.lc → noEntropy s = false → (s.sec.memKeys.map Prod.fst).Nodup →
    After .alarmClear s fun t => t.sec.alarm = none ∧ t.sec.firmwareKey = true ∧ (∃ k, t.sec.deviceKey = some k ∧ k.length = 64) ∧
      t.sec.slots = s.sec.slots ∧ t.sec.importKeys = s.sec.importKeys ∧ t.sec.unseeded = [] ∧ t.dram.bytes = s.dram.bytes ∧
      (∀ e, e < 40 → t.sec.reseeds.getD e 0 = s.sec.reseeds.getD e 0 + 1) ∧
      (∀ p m, s.sec.memKeys.get? p = some m → if m.imported = true then t.sec.memKeys.get? p = some m
        else (t.sec.memKeys.get? p).map (fun x => { x with key := none }) = some { m with key := none } ∧
          ∃ k, (t.sec.memKeys.get? p).bind MemKey.key = some k ∧ k.length = 64) ∧
      (∀ n, 4 ≤ n % 512 → (plotAt s n).state = .assigned →
        ((plotAt s n).owner = 16 → (plotAt s n).clear = false → plotAt t n = { plotAt s n with state := .lost }) ∧
        ((plotAt s n).owner = 16 → (plotAt s n).clear = true → plotAt t n = plotAt s n) ∧
        (∀ m, s.sec.memKeys.get? (plotAt s n).owner = some m → (plotAt s n).owner < 16 →
          plotAt t n = if m.imported = true then plotAt s n else { plotAt s n with state := .lost })) ∧
      t = { s with
        sec := t.sec, dram := { s.dram with plots := t.dram.plots }, free := t.free, mbxs := t.mbxs, insts := t.insts, ports := t.ports
        emitted := t.emitted }) ∧
  (∀ (s : State) (die : Fin 2), s.on = true → exec (.entropyTestFail die) s = .next { s with
      sec := if die = 0 then { s.sec with withdrawn0 := true } else { s.sec with withdrawn1 := true } }) ∧
  (∀ (s : State) (die : Fin 2), s.on = true → s.sec.waiting = [] → s.stor.ops = [] → s.sec.unseeded.Nodup →
    After (.entropySourceRestored die) s fun t => (if die = 0 then t.sec.withdrawn0 = false ∧ t.sec.withdrawn1 = s.sec.withdrawn1
        else t.sec.withdrawn1 = false ∧ t.sec.withdrawn0 = s.sec.withdrawn0) ∧ t.sec.unseeded = [] ∧
      (∀ e, t.sec.reseeds.getD e 0 = s.sec.reseeds.getD e 0 + if e ∈ s.sec.unseeded then 1 else 0) ∧ t.sec.slots = s.sec.slots ∧
      t = { s with sec := t.sec, free := t.free }) ∧
  (∀ (s : State) (die : Fin 2) (q : Req) (n k p since : Nat) (ses : Session), s.on = true → s.stor.ops = [] → s.sec.unseeded = [] → s.sec.alarm = none →
    s.sec.waiting = [{ since := since, what := .request q 0x0A01 n k [p] }] → (s.mbx q.mbx).session = some ses → (s.mbx q.mbx).sessionNo = k →
    (s.mbx q.mbx).enable = true → q.bodyBad = false → p < 16 → partExists s p = true → (s.sec.logs.getD p []).length < 4096 →
    After (.entropySourceRestored die) s fun t => t.sec.waiting = [] ∧ t.sec.importKeys.get? p = none ∧ (t.sec.decaps.get? p).isSome = true ∧
      (entriesFor t q.mbx).head? = some { opcode := 0x0A01, kind := 2, level := ses.level, index := n, status := OK, token := 0, cookie := q.cookie
                                          time := s.lc, body := [] }) ∧
  (∀ (s : State) (d : WaitingDraw) (l : List WaitingDraw), s.on = true → s.sec.waiting = d :: l → s.lc < d.since + 10000000 →
    exec .entropyWaitTimeout s = .next s) ∧
  (∀ (s : State) (q : Req) (op n k since : Nat) (a : List Nat) (l : List WaitingDraw) (ses : Session), s.on = true →
    s.sec.waiting = { since := since, what := .request q op n k a } :: l → since + 10000000 ≤ s.lc → (s.mbx q.mbx).session = some ses →
    (s.mbx q.mbx).sessionNo = k → (s.mbx q.mbx).enable = true →
    After .entropyWaitTimeout s fun t => t.sec = { s.sec with waiting := l } ∧ (entriesFor t q.mbx).head? =
      some { opcode := op, kind := 2, level := ses.level, index := n, status := DEVICE_FAULT, token := 0, cookie := q.cookie
             time := s.lc, body := [] } ∧ SameBut { s with sec := t.sec } t) ∧
  (∀ (s : State) (e : Fin 40), s.on = true → noEntropy s = false → After (.maskingDrbgReseed e) s fun t =>
    t.sec.reseeds.getD e 0 = s.sec.reseeds.getD e 0 + 1 ∧ e.val ∉ t.sec.unseeded ∧ (∀ k, k ≠ e.val → (k ∈ t.sec.unseeded ↔ k ∈ s.sec.unseeded) ∧
      t.sec.reseeds.getD k 0 = s.sec.reseeds.getD k 0) ∧ t = { s with sec := { s.sec with reseeds := t.sec.reseeds, unseeded := t.sec.unseeded }, free := t.free }) ∧
  (∀ (s : State) (e : Fin 40), s.on = true → noEntropy s = true → e.val ∉ s.sec.unseeded → exec (.maskingDrbgReseed e) s = .next { s with
      sec := { s.sec with
        unseeded := e.val :: s.sec.unseeded
        waiting := if e.val < 32 then s.sec.waiting ++ [{ since := s.lc, what := .engine e }] else s.sec.waiting } })

/-- R34 to R36, R92, R382, R504, R517, R530, R535 to R538. -/
def Obligations.ServiceAndTest : Prop :=
  let state (s : State) (u : Nat) : UnitState := (s.units.getD u {}).state
  (∀ (s : State) (u code : Nat), s.on = true → (0x140 ≤ u ∧ u < 0x160 ∨ 0x170 ≤ u ∧ u < 0x180 ∨ 0x1A4 ≤ u ∧ u < 0x1AD) → state s u ≠ .failed →
    After (.unitFailure u code) s fun t => state t u = .failed ∧ (∀ k, k ≠ u → t.units.get? k = s.units.get? k) ∧
      (s.faultLog.length < 1024 → t.faultLog = s.faultLog ++ [{ time := s.lc, nonce := s.boot.bootNonce % 2 ^ 64, unit := u, kind := 3, code := code }]) ∧
      (∃ r ∈ t.mon.errors, r.time = s.lc ∧ r.unit = u ∧ r.cls = 4) ∧ SameButReports { s with units := t.units, faultLog := t.faultLog } t) ∧
  (∀ (s : State) (p : Fin 8) (code : Nat), s.on = true → state s (0x190 + p) ≠ .failed → After (.unitFailure (0x190 + p) code) s fun t =>
    state t (0x190 + p) = .failed ∧ (t.eth p).link ≠ 2 ∧ (t.eth p).speed = 0 ∧ (∀ k, k ≠ p.val → t.eth k = s.eth k) ∧
    SameButReports { s with units := t.units, faultLog := t.faultLog, pkt := { s.pkt with ports := t.pkt.ports } } t) ∧
  (∀ (s : State) (u code : Nat), state s u = .failed → exec (.unitFailure u code) s = .next s) ∧
  (∀ (s : State) (q : Req) (u : Nat), Served s q 0x0E01 4 .operator →
    (s.full = true → 0x140 ≤ u → u < 0x160 → state s u = .inService → 4 < unitsIn s (0x140 + 16 * ((u - 0x140) / 16)) 16 → s.longOps = [] →
      After (.unitOutOfService q u) s fun t => t.units.get? u = some { s.units.getD u {} with state := .draining, since := s.lc } ∧
        (∀ k, k ≠ u → t.units.get? k = s.units.get? k) ∧ Accepted s t q 0x0E01 ACCEPTED ∧
        SameBut { s with units := t.units, longOps := t.longOps, opNo := t.opNo } t) ∧
    (s.full = true → 0x140 ≤ u → u < 0x160 → state s u = .inService → unitsIn s (0x140 + 16 * ((u - 0x140) / 16)) 16 ≤ 4 →
      After (.unitOutOfService q u) s fun t => Replied s t q 0x0E01 IN_USE [] ∧ SameBut s t) ∧
    (∀ g, s.full = true → u = 0xA0 + g → g < 16 → state s u = .inService → (s.group g).session.isSome = true →
      After (.unitOutOfService q u) s fun t => Replied s t q 0x0E01 IN_USE [] ∧ SameBut s t) ∧
    (∀ g, s.full = true → u = 0xA0 + g → g < 16 → state s u = .inService → (s.group g).session = none → (s.group g).state = .assigned → s.longOps = [] →
      After (.unitOutOfService q u) s fun t => state t u = .draining ∧ Accepted s t q 0x0E01 ACCEPTED ∧ t.group g = s.group g) ∧
    (∀ o x, s.full = true → 0x100 ≤ u → u < 0x140 → state s u = .inService → (o, x) ∈ s.pkt.shares → x.clusters.testBit (u - 0x100) = true →
      (∀ c, c < 64 → c ≠ u - 0x100 → x.clusters.testBit c = false ∨ state s (0x100 + c) ≠ .inService) →
      After (.unitOutOfService q u) s fun t => Replied s t q 0x0E01 IN_USE [] ∧ SameBut s t) ∧
    (∀ k, s.full = true → k < 8 → (u = 0x160 + k ∨ u = 0x168 + k) → state s u = .inService → k ∈ mapOf s (k / 4) →
      After (.unitOutOfService q u) s fun t => Replied s t q 0x0E01 IN_USE [] ∧ SameBut s t) ∧
    (s.full = true → (u < 0x90 ∨ 0x180 ≤ u) → After (.unitOutOfService q u) s fun t => Replied s t q 0x0E01 INVALID [] ∧ SameBut s t) ∧
    (s.full = false → After (.unitOutOfService q u) s fun t => Replied s t q 0x0E01 NOT_READY [] ∧ SameBut s t)) ∧
  (∀ (s : State) (u n : Nat) (o : LongOp), s.on = true → state s u = .draining → s.longOps = [(n, o)] → o.data = .unitOut u →
    (∀ k, (s.eth k).reorder = [] ∧ (s.eth k).buffer = []) → (∀ k x, (k, x) ∈ s.pkt.shares → x.loading = []) →
    After (.drainComplete u) s fun t => state t u = .out ∧ Finished s t n OK [] ∧
      (∀ g, g < 16 → u = 0xA0 + g → t.group g = { s.group g with state := .outOfService, owner := 16 }) ∧ t.dram = s.dram ∧ t.sec = s.sec) ∧
  (∀ (s : State) (u n : Nat) (o : LongOp), s.on = true → state s u = .draining → (s.units.getD u {}).since + 100000000 ≤ s.lc →
    s.longOps = [(n, o)] → o.data = .unitOut u → (u < 0x100 ∨ 0x140 ≤ u) →
    After (.drainTimeout u) s fun t => state t u = .out ∧ Finished s t n OK [] ∧
      (∀ g, g < 16 → u = 0xA0 + g → t.group g = { s.group g with state := .outOfService, owner := 16 }) ∧
      SameBut { s with units := t.units, groups := t.groups, longOps := [] } t) ∧
  (∀ (s : State) (u : Nat), (state s u ≠ .draining ∨ s.lc < (s.units.getD u {}).since + 100000000) → exec (.drainTimeout u) s = .next s) ∧
  (∀ (s : State) (q : Req) (u kind patterns : Nat), Served s q 0x0E02 16 .operator → 0x140 ≤ u → u < 0x160 → 1 ≤ kind → kind ≤ 3 →
    (patterns = 12 ∨ patterns = 16 ∨ patterns = 20) →
    (state s u = .out → emergency s = false → s.longOps = [] → After (.bistRun q u kind patterns) s fun t => state t u = .bist ∧
      Accepted s t q 0x0E02 ACCEPTED ∧ SameBut { s with units := t.units, longOps := t.longOps, opNo := t.opNo } t) ∧
    (state s u = .inService → After (.bistRun q u kind patterns) s fun t => Replied s t q 0x0E02 IN_USE [] ∧ SameBut s t) ∧
    (state s u = .out → emergency s = true → After (.bistRun q u kind patterns) s fun t => Replied s t q 0x0E02 DEFERRED_EMERGENCY [] ∧ SameBut s t)) ∧
  (∀ (s : State) (u n kind pat misr expected failing : Nat) (addrs : List Nat) (o : LongOp), s.on = true → state s u = .bist → s.longOps = [(n, o)] →
    o.data = .bist u kind pat → addrs.Pairwise (· ≤ ·) →
    After (.bistComplete u misr expected failing addrs) s fun t =>
      let b := (t.units.getD u {}).result
      Finished s t n OK b ∧ b.length = 224 ∧
      fieldAt b 0 1 = (if misr = expected ∧ failing = 0 then 0 else 1) ∧ fieldAt b 2 2 = min failing 65535 ∧ fieldAt b 8 8 = misr % 2 ^ 64 ∧
      fieldAt b 16 8 = expected % 2 ^ 64 ∧ (∀ k x, addrs[k]? = some x → k < 25 → fieldAt b (24 + 8 * k) 8 = x % 2 ^ 64) ∧
      (misr = expected → failing = 0 → state t u = .out ∧ (t.units.getD u {}).last = 1 ∧ t.faultLog = s.faultLog ∧
        ∀ g, g < 16 → u = 0xA0 + g → (t.group g).state = .zeroing ∧ (kind ≠ 1 → ∀ k, k < 9 → (t.tile (9 * g + k)).sram = [])) ∧
      (misr ≠ expected ∨ failing ≠ 0 → state t u = .failed ∧ (t.units.getD u {}).last = 2 ∧
        (s.faultLog.length < 1024 → ∃ e, t.faultLog = s.faultLog ++ [e] ∧ e.unit = u ∧ e.kind = 3 ∧ e.time = s.lc) ∧
        ∀ g, g < 16 → u = 0xA0 + g → (t.group g).state = .retired)) ∧
  (∀ (s : State) (q : Req) (u : Nat), Served s q 0x0E03 4 .operator →
    (0x140 ≤ u → u < 0x160 → state s u = .out → (∀ e ∈ s.faultLog, e.unit = u → e.kind = 0 ∨ 3 < e.kind) → s.longOps = [] →
      After (.unitReturn q u) s fun t => state t u = .inService ∧ Completed s t q 0x0E03 OK [] ∧ SameBut { s with units := t.units, opNo := t.opNo } t) ∧
    (0x100 ≤ u → u < 0x140 → state s u = .out → (∀ e ∈ s.faultLog, e.unit = u → e.kind = 0 ∨ 3 < e.kind) → s.longOps = [] → s.pkt.shares = [] →
      After (.unitReturn q u) s fun t => state t u = .inService ∧ Completed s t q 0x0E03 OK [] ∧ (∀ k, k < 16 → t.core (16 * (u - 0x100) + k) = {}) ∧
        SameBut { s with units := t.units, cores := t.cores, opNo := t.opNo } t) ∧
    (∀ e ∈ s.faultLog, 0x140 ≤ u → u < 0x160 → state s u ≠ .draining → state s u ≠ .bist → e.unit = u → 1 ≤ e.kind → e.kind ≤ 3 →
      After (.unitReturn q u) s fun t => Replied s t q 0x0E03 DEVICE_FAULT [] ∧ SameBut s t) ∧
    ((0xA0 ≤ u ∧ u < 0xB0 ∨ 0x160 ≤ u ∧ u < 0x168) → After (.unitReturn q u) s fun t => Replied s t q 0x0E03 INVALID [] ∧ SameBut s t)) ∧
  (∀ (s : State) (q : Req) (u : Nat) (out : BufRef), Served s q 0x0E04 24 .operator → unitNamed u = true → 
    (let body := le 1 (state s u).code ++ le 1 (s.units.getD u {}).last ++ zeros 6
    (out = { addr := 0, len := 0, space := 0 } → After (.testQuery q u out) s fun t => Replied s t q 0x0E04 OK body ∧ SameBut s t) ∧
    (out.space = 1 → 224 ≤ out.len → mayDma s (whoOf s q.mbx).port (whoOf s q.mbx).inst = true → After (.testQuery q u out) s fun t =>
      .hostWrite (whoOf s q.mbx).port (whoOf s q.mbx).inst out.addr (padTo 224 (s.units.getD u {}).result) ∈ t.emitted ∧
      Replied s t q 0x0E04 OK body ∧ SameBut s t)))

/-- R51, R519, R520, R522, R525, R526, R528, R530 to R534. -/
def Obligations.CountersAndTelemetry : Prop :=
  (∀ (s : State) (q : Req) (u k event flags part master mask cls ctrl lo hi value slot : Nat), Served s q 0x0F01 48 .opOrTenant → hasPmc u = true → k < 8 →
    (event ≤ 1 ∨ 4 ≤ event ∧ event ≤ 6) → flags < 256 → flags.testBit 1 = false → part < 32 → master < 4096 → mask < 4096 → value < 2 ^ 48 → slot < 64 →
    ((whoOf s q.mbx).op = true → ctrl < 2 → (counterHolder s u k = none ∨ counterHolder s u k = some 16) →
      After (.counterConfig q u k event flags part master mask cls ctrl lo hi value slot) s fun t =>
        pmcAt t u k = { pmcAt s u k with count := if ctrl = 1 then value else (pmcAt s u k).count, event := event, flags := flags, part := part
                                         master := master, mask := mask, cls := cls, lo := lo, hi := hi, holder := none, slot := 0 } ∧
        (∀ j, j ≠ 8 * u + k → t.mon.pmc.get? j = s.mon.pmc.get? j) ∧ Replied s t q 0x0F01 OK (le 1 k ++ le 1 slot ++ zeros 6) ∧
        SameBut { s with mon := { s.mon with pmc := t.mon.pmc } } t) ∧
    (∀ x, (whoOf s q.mbx).op = true → 2 ≤ ctrl → ctrl < 4 → (pmcAt s u k).holder = some x →
      After (.counterConfig q u k event flags part master mask cls ctrl lo hi value slot) s fun t => pmcAt t u k = {} ∧
        (∀ j, j ≠ 8 * u + k → t.mon.pmc.get? j = s.mon.pmc.get? j) ∧ Replied s t q 0x0F01 OK (le 1 k ++ le 1 slot ++ zeros 6) ∧
        SameBut { s with mon := { s.mon with pmc := t.mon.pmc } } t) ∧
    (∀ x, (whoOf s q.mbx).op = false → s.parts.get? (whoOf s q.mbx).owner = some x → x.tenantCounters = true → 4 ≤ k → ctrl < 2 → (event = 1 ∨ event = 4 ∨ event = 5) →
      (whoOf s q.mbx).owner < 16 →
      (counterHolder s u k = none → countersHeld s (whoOf s q.mbx).owner < 64 → slotTaken s (whoOf s q.mbx).owner (8 * u + k) slot = false →
        After (.counterConfig q u k event flags part master mask cls ctrl lo hi value slot) s fun t =>
          (pmcAt t u k).holder = some (whoOf s q.mbx).owner ∧ (pmcAt t u k).slot = slot ∧ (pmcAt t u k).part = 16 + (whoOf s q.mbx).owner ∧
          (pmcAt t u k).flags.testBit 2 = true ∧ (pmcAt t u k).flags.testBit 3 = true ∧ (pmcAt t u k).flags.testBit 0 = flags.testBit 0 ∧
          (pmcAt t u k).event = event ∧ Replied s t q 0x0F01 OK (le 1 k ++ le 1 slot ++ zeros 6) ∧
          SameBut { s with mon := { s.mon with pmc := t.mon.pmc } } t) ∧
      (∀ o, counterHolder s u k = some o → o ≠ (whoOf s q.mbx).owner →
        After (.counterConfig q u k event flags part master mask cls ctrl lo hi value slot) s fun t => Replied s t q 0x0F01 IN_USE [] ∧ SameBut s t) ∧
      (counterHolder s u k = none → 64 ≤ countersHeld s (whoOf s q.mbx).owner → slotTaken s (whoOf s q.mbx).owner (8 * u + k) slot = false →
        After (.counterConfig q u k event flags part master mask cls ctrl lo hi value slot) s fun t => Replied s t q 0x0F01 NO_RESOURCES [] ∧ SameBut s t)) ∧
    (∀ x, (whoOf s q.mbx).op = false → s.parts.get? (whoOf s q.mbx).owner = some x → (k < 4 ∨ x.tenantCounters = false) →
      After (.counterConfig q u k event flags part master mask cls ctrl lo hi value slot) s fun t => Replied s t q 0x0F01 DENIED [] ∧ SameBut s t)) ∧
  (∀ (s : State) (q : Req) (p allow : Nat), Served s q 0x0F03 8 .operator → p < 16 → partExists s p = true → allow < 2 →
    After (.tenantCounterAccess q p allow) s fun t => (t.parts.get? p).map Partition.tenantCounters = some (decide (allow = 1)) ∧
      (∀ j, j ≠ p → t.parts.get? j = s.parts.get? j) ∧ t.mon.pmc = s.mon.pmc ∧ Replied s t q 0x0F03 OK [] ∧ SameBut { s with parts := t.parts } t) ∧
  (∀ (s : State) (q : Req) (units out : BufRef) (host : HostData) (u v : Nat) (bs : Bytes), Served s q 0x0F02 48 .opOrTenant → refBad units 4 = false →
    refBad out 160 = false → readBuf s (whoOf s q.mbx) units host = .ok bs → fieldAt bs 0 2 = u → fieldAt bs 2 2 = v → hasPmc u = true → hasPmc v = true →
    After (.counterRead q 2 units out host) s fun t => entriesFor t q.mbx = entriesFor s q.mbx ∧ SameBut { s with mon := t.mon } t ∧
      ∃ c, t.mon.captures = s.mon.captures ++ [c] ∧ t.mon = { s.mon with captures := t.mon.captures } ∧ c.at_ = s.lc + 1000 ∧ c.q = q ∧ c.units = [u, v] ∧ c.out = out) ∧
  (∀ (s : State) (c : Capture) (l : List Capture), s.mon.captures = c :: l → s.lc < c.at_ → exec .counterCapture s = .next s) ∧
  (∀ (s : State) (c : Capture) (l : List Capture) (u : Nat) (ses : Session), s.on = true → s.mon.captures = c :: l → c.at_ ≤ s.lc → c.units = [u] → c.out.space = 1 →
    (s.mbx c.q.mbx).session = some ses → (s.mbx c.q.mbx).sessionNo = c.sessionNo → (s.mbx c.q.mbx).enable = true →
    mayDma s (whoOf s c.q.mbx).port (whoOf s c.q.mbx).inst = true →
    After .counterCapture s fun t => t.mon = { s.mon with captures := l } ∧ SameBut { s with mon := t.mon } t ∧
      (entriesFor t c.q.mbx).head? = some { opcode := 0x0F02, kind := 2, level := ses.level, index := c.index, status := OK, token := 0, cookie := c.q.cookie
                                            time := s.lc, body := [] } ∧
      ∃ d : Bytes, .hostWrite (whoOf s c.q.mbx).port (whoOf s c.q.mbx).inst c.out.addr d ∈ t.emitted ∧ d.length = 80 ∧ fieldAt d 74 6 = 0 ∧
        ∀ k, k < 8 → let mine := (whoOf s c.q.mbx).owner = 16 ∨ (pmcAt s u k).holder = some (whoOf s c.q.mbx).owner
          (mine → fieldAt d (8 + 8 * k) 8 = (pmcAt s u k).count % 2 ^ 64 ∧ fieldAt d 0 8 = pmcCycle s u % 2 ^ 64 ∧
            (fieldAt d 72 1).testBit k = (pmcAt s u k).ovf ∧ (fieldAt d 73 1).testBit k = (pmcAt s u k).flags.testBit 0) ∧
          (¬ mine → fieldAt d (8 + 8 * k) 8 = 0 ∧ (fieldAt d 72 1).testBit k = false ∧ (fieldAt d 73 1).testBit k = false)) ∧
  (∀ (s : State) (q : Req) (first count : Nat) (out : BufRef), Served s q 0x0F05 24 .operator → 1 ≤ count → count ≤ 1024 → out.space = 1 →
    32 * count ≤ out.len → mayDma s (whoOf s q.mbx).port (whoOf s q.mbx).inst = true →
    After (.errorLogRead q first count out) s fun t => SameBut s t ∧ Replied s t q 0x0F05 OK (le 4 s.mon.errors.length ++ le 4 s.mon.overwrites) ∧
      ∃ d : Bytes, .hostWrite (whoOf s q.mbx).port (whoOf s q.mbx).inst out.addr d ∈ t.emitted ∧ d.length = 32 * count ∧
        ∀ k e, k < count → s.mon.errors[first + k]? = some e → fieldAt d (32 * k) 8 = e.time % 2 ^ 64 ∧ fieldAt d (32 * k + 8) 2 = e.unit % 2 ^ 16 ∧
          fieldAt d (32 * k + 10) 1 = e.cls % 256 ∧ fieldAt d (32 * k + 11) 1 = e.code % 256 ∧ fieldAt d (32 * k + 12) 1 = e.owner % 256 ∧
          fieldAt d (32 * k + 14) 2 = e.status % 2 ^ 16 ∧ fieldAt d (32 * k + 16) 8 = e.address % 2 ^ 64 ∧ fieldAt d (32 * k + 24) 4 = e.count % 2 ^ 32 ∧
          fieldAt d (32 * k + 28) 1 = 1) ∧
  (∀ (s : State) (q : Req) (addr log2 vector : Nat), Served s q 0x0F04 32 .operator →
    (6 ≤ log2 → log2 ≤ 16 → After (.telemetryRingSet q addr log2 vector) s fun t => t.mon.ring.set = true ∧ t.mon.ring.addr = addr ∧ t.mon.ring.log2 = log2 ∧
      t.mon.ring.vector = vector ∧ t.mon.ring.seq = 0 ∧ t.mon.ring.queue = s.mon.ring.queue ∧ Replied s t q 0x0F04 OK [] ∧
      SameBut { s with mon := { s.mon with ring := t.mon.ring } } t) ∧
    (log2 < 6 ∨ 16 < log2 → After (.telemetryRingSet q addr log2 vector) s fun t => Replied s t q 0x0F04 INVALID [] ∧ SameBut s t)) ∧
  (∀ (s : State) (consumed : Nat) (r : TeleRecord), s.on = true → s.mon.ring.set = true → (s.port s.boot.opPort).driverPresent = true →
    s.mon.ring.queue = [r] → s.mon.ring.lostSince = 0 →
    let s1 := { s with mon := { s.mon with ring := { s.mon.ring with consumed := consumed, queue := [] } } }
    (s.mon.ring.seq + 1 ≤ consumed + 2 ^ s.mon.ring.log2 → After (.telemetryRecordWrite consumed) s fun t =>
      TeleWritten s1 t r.time r.type r.die r.source r.status r.payload ∧ SameButReports s t) ∧
    (consumed + 2 ^ s.mon.ring.log2 < s.mon.ring.seq + 1 → exec (.telemetryRecordWrite consumed) s =
      .next { s with mon := { s.mon with ring := { s.mon.ring with consumed := consumed } } })) ∧
  (∀ (s : State) (die : Fin 2) (e : LaunchEntry), s.on = true → launchNext (s.slot (slotKey 4 die 0)) = some (s.lc, e) → e.action = 1 →
    let p := 4 * die.val + e.arg % 4
    s.mon.side.get? p = none →
    ((s.zal p).link = .up → (s.zal p).inService = true → After (.accel die) s fun t =>
      t.mon.side.get? p = some { start := s.lc, due := s.lc, set := e.arg / 256 % 256 } ∧
      t.emitted = .sideband p (e.arg / 256 % 256) :: .sideband p 0xA5 :: s.emitted ∧
      t = { s with mon := { s.mon with side := t.mon.side }, launch := t.launch, emitted := t.emitted }) ∧
    ((s.zal p).inService = false → TeleReady s → After (.accel die) s fun t => TeleWritten s t s.lc 1 die p dfLINKDOWN [] ∧
      SameButReports { s with launch := t.launch } t ∧ t.mon.side = s.mon.side)) ∧
  (∀ (s : State) (die : Fin 2) (e : LaunchEntry) (due : Nat), s.on = true → launchNext (s.slot (slotKey 4 die 0)) = some (due, e) → e.action = 1 → due ≤ s.lc →
    (s.mon.side.get? (4 * die.val + e.arg % 4)).isSome = true → policyOf (s.slot (slotKey 4 die 0)) e = 1 →
    After (.accel die) s fun t => (t.slot (slotKey 4 die 0)).skip = sat32 (s.slot (slotKey 4 die 0)).skip 1 ∧ t = { s with launch := t.launch }) ∧
  (∀ (s : State) (p : Fin 8) (x : SideExchange) (payload : Bytes), s.on = true → s.mon.side.get? p = some x → TeleReady s →
    (payload.length ≤ 64 → s.lc ≤ x.start + 250000 → After (.accelReply p payload) s fun t => TeleWritten s t x.due 1 (p / 4) p OK payload ∧
      t.mon.side.get? p = none ∧ (∀ k, k ≠ p.val → t.mon.side.get? k = s.mon.side.get? k) ∧ SameButReports s t) ∧
    (x.start + 250000 ≤ s.lc → After (.accelTimeout p) s fun t => TeleWritten s t x.due 1 (p / 4) p dfTIMEOUT [] ∧
      t.mon.side.get? p = none ∧ (∀ k, k ≠ p.val → t.mon.side.get? k = s.mon.side.get? k) ∧ SameButReports s t) ∧
    (s.lc < x.start + 250000 → exec (.accelTimeout p) s = .next s)) ∧
  (∀ (s : State) (die : Fin 2) (e : LaunchEntry), s.on = true → launchNext (s.slot (slotKey 4 die 0)) = some (s.lc, e) → TeleReady s →
    (e.action = 2 → After (.sensors die) s fun t => TeleWritten s t s.lc 2 die 0 OK (powerBody s) ∧ SameButReports { s with launch := t.launch } t) ∧
    (e.action = 3 → After (.counters die) s fun t => TeleWritten s t s.lc 3 die (e.arg % 4096) OK (counterEntry s 16 (e.arg % 4096)) ∧
      SameButReports { s with launch := t.launch } t)) ∧
  (∀ (s : State) (die : Fin 2) (e : LaunchEntry), s.on = true → launchNext (s.slot (slotKey 4 die 0)) = some (s.lc, e) → e.action = 2 → s.mon.ring.set = true →
    s.mon.ring.consumed + 2 ^ s.mon.ring.log2 < s.mon.ring.seq + 1 →
    After (.sensors die) s fun t => t.mon.ring = { s.mon.ring with lost := wrap64 s.mon.ring.lost 1, lostSince := wrap64 s.mon.ring.lostSince 1 } ∧
      SameButReports { s with launch := t.launch } t)

/-- R390, R460, R461, R465, R508, R539, R555 to R557, R559. -/
def Obligations.ModuleInterfaces : Prop :=
  let port (s : State) (d : Nat) : Jtag := s.jtag.getD d {}
  let only (s t : State) (d : Fin 2) (j : Jtag) : Prop := port t d = j ∧ (∀ k, k ≠ d.val → port t k = port s k) ∧ t = { s with jtag := t.jtag, emitted := t.emitted }
  (∀ (s : State) (d : Fin 2) (bits pins : List Bool), s.on = true →
    (After (.bypass d) s fun t => only s t d { port s d with instr := 0, bypass := true, driven := false, highz := false } ∧ t.emitted = s.emitted) ∧
    (After (.idcode d) s fun t => only s t d { port s d with instr := 1, bypass := false, driven := false, highz := false } ∧
      t.emitted = .tdo d ((List.range 32).map fun k => Nat.testBit 0x1974074B k) :: s.emitted) ∧
    (After (.samplePreload d bits pins) s fun t => only s t d { port s d with instr := 2, boundary := bits, bypass := false, driven := false, highz := false } ∧
      t.emitted = .tdo d pins :: s.emitted)) ∧
  (∀ (s : State) (d : Fin 2) (c : Instr) (j : Jtag), s.on = true →
    (c = .extest d ∧ j = { port s d with instr := 3, bypass := false, driven := true, highz := false } ∨
      c = .clamp d ∧ j = { port s d with instr := 4, bypass := true, driven := true, highz := false } ∨
      c = .highz d ∧ j = { port s d with instr := 5, bypass := true, driven := false, highz := true }) →
    After c s fun t => t.emitted = s.emitted ∧
      only s t d (if s.mgmt.testMode = true then j else { port s d with instr := 0, bypass := true, driven := false, highz := false })) ∧
  (∀ (s : State) (bus : Fin 2) (eid : Nat), (s.on = true ∨ 44000 ≤ filteredMv s ∧ filteredMv s ≤ 58000) → eid < 256 →
    (eid ≠ 0 → eid ≠ 0xFF → After (.setEndpointId bus eid) s fun t => t.mgmt.eids.getD bus 0 = eid ∧
      (∀ k, k ≠ bus.val → t.mgmt.eids.getD k 0 = s.mgmt.eids.getD k 0) ∧ t.emitted = .mgmt bus 0x100 0 [eid] :: s.emitted ∧
      t = { s with mgmt := { s.mgmt with eids := t.mgmt.eids }, emitted := t.emitted }) ∧
    (eid = 0 ∨ eid = 0xFF → exec (.setEndpointId bus eid) s = .next { s with emitted := .mgmt bus 0x100 2 [] :: s.emitted })) ∧
  (∀ (s : State) (bus : Fin 2) (type sensor : Nat), (s.on = true ∨ 44000 ≤ filteredMv s ∧ filteredMv s ≤ 58000) →
    After (.pldmRequest bus type sensor) s fun t => ∃ code values, t = { s with emitted := .mgmt bus type code values :: s.emitted } ∧
      (type = 0 → code = 0) ∧
      (type = 4 → code = 0 ∧ ∃ serial, serial.length = 19 ∧ (∀ k, k < 19 → k % 5 = 4 → serial[k]? = some 0x5F) ∧
        (∀ k, k < 16 → serial[k + k / 4]? = some (let d := s.fuses.serial / 16 ^ (15 - k) % 16; if d < 10 then 48 + d else 55 + d)) ∧
        ∃ pre post, values = pre ++ serial ++ post) ∧
      (type ≠ 0 → type ≠ 2 → type ≠ 4 → type ≠ 5 → code = 0x20) ∧
      ((type = 2 ∨ type = 5) → (s.on = false ∨ s.boot.rom = false) → code = 4) ∧
      (s.on = true → s.boot.rom = true → type = 2 → sensor = 0 ∨ 6 ≤ sensor → code = 0x80) ∧
      (s.on = true → s.boot.rom = true → type = 2 → sensor = 1 → code = 0 ∧ values = [(s.power.tj0 % 2 ^ 32).toNat,
        if 1200 ≤ s.power.tj0 then 10 else if 1100 ≤ s.power.tj0 then 9 else if 1000 ≤ s.power.tj0 then 8 else 1]) ∧
      (s.on = true → s.boot.rom = true → type = 2 → sensor = 2 → code = 0 ∧ values = [(s.power.tj1 % 2 ^ 32).toNat,
        if 1200 ≤ s.power.tj1 then 10 else if 1100 ≤ s.power.tj1 then 9 else if 1000 ≤ s.power.tj1 then 8 else 1]) ∧
      (s.on = true → s.boot.rom = true → type = 2 → sensor = 3 → code = 0 ∧ values = [filteredMv s % 2 ^ 32,
        if 60000 ≤ filteredMv s then 10 else if filteredMv s < 40000 then 7 else if filteredMv s ≤ 42000 then 5 else 1]) ∧
      (s.on = true → s.boot.rom = true → type = 2 → sensor = 4 → code = 0 ∧ values = [inputW s % 2 ^ 32,
        if 1600 ≤ inputW s then 9 else if s.power.cap ≤ inputW s then 8 else 1]) ∧
      (s.on = true → s.boot.rom = true → type = 2 → sensor = 5 → code = 0 ∧ values = [s.boot.level % 2 ^ 32, 1])) ∧
  (∀ (s : State) (bus : Fin 2) (image : Option Bytes), s.on = true → s.boot.rom = false →
    exec (.pldmFirmwareUpdate bus image) s = .next { s with emitted := .mgmt bus 5 4 [] :: s.emitted }) ∧
  (∀ (s : State) (bus : Fin 2), s.on = true → s.boot.rom = true →
    (s.mgmt.pldmUpdate.isSome = true → exec (.pldmFirmwareUpdate bus none) s = .next { s with emitted := .mgmt bus 5 0x81 [] :: s.emitted }) ∧
    (s.mgmt.pldmUpdate = none → s.fw.staging = .ialdo →
      exec (.pldmFirmwareUpdate bus none) s = .next { s with emitted := .mgmt bus 5 IN_USE [] :: s.emitted }) ∧
    (s.mgmt.pldmUpdate = none → (s.fw.staging = .empty ∨ ∃ i, s.fw.staging = .staged i) → s.fw.pending = false →
      exec (.pldmFirmwareUpdate bus none) s = .next { s with
        fw := { s.fw with staging := .pldm }
        mgmt := { s.mgmt with pldmUpdate := some bus }
        emitted := .mgmt bus 5 0 [] :: s.emitted })) ∧
  (∀ (s : State) (bus : Fin 2) (b : Bytes), s.on = true → s.boot.rom = true → s.mgmt.pldmUpdate = some bus.val → s.boot.failed = false →
    let verified (b : Bytes) := Config.slhVerify ((b.drop 32).take 64) (b.take (128 + fieldAt b 24 8)) ((b.drop (128 + fieldAt b 24 8)).take 29792)
    (∀ k, imageHeaderOk b = true → imageKey s b = some k → verified b = true → fusedVersion s ≤ fieldAt b 8 8 →
      After (.pldmFirmwareUpdate bus (some b)) s fun t => (∃ i, t.fw.staging = .staged i ∧ t.fw = { s.fw with staging := t.fw.staging } ∧ i.securityVersion = fieldAt b 8 8 ∧
          i.fwVersion = fieldAt b 16 4 ∧ i.keyIndex = k) ∧ t.mgmt = { s.mgmt with pldmUpdate := none } ∧
        t.emitted = .mgmt bus 5 0 [fieldAt b 8 8, fieldAt b 16 4] :: s.emitted ∧ t = { s with fw := t.fw, mgmt := t.mgmt, emitted := t.emitted }) ∧
    (imageHeaderOk b = true → imageKey s b = none ∨ verified b = false →
      exec (.pldmFirmwareUpdate bus (some b)) s = .next { s with
        fw := { s.fw with staging := .empty }
        mgmt := { s.mgmt with pldmUpdate := none }
        emitted := .mgmt bus 5 VERIFY_FAIL [] :: s.emitted }))

/-- R211. -/
def Obligations.FallbackDraw : Prop :=
  (∀ (s : State) (h due : Nat) (v : YewSession) (e : LaunchEntry), s.on = true → s.sessions.get? h = some v →
    dueEntry s (leadTile s v) = some (due, e) → v.inEpoch = true → v.state = .running → e.action = 3 → v.slipLine = false →
    v.drawing = none → (v.params.temperature = 0 ∨ drbgSpent v = false) → poisonedSource s v = none →
    ((∀ c ∈ sessLogits s v, c.2 = negInf) ∨ v.params.temperature ≠ 0 ∧ keptCandidates v.params (sessLogits s v) = []) →
    After (.sample h) s fun t => ∃ w, t.sessions.get? h = some w ∧
      w.drawing = some { token := v.params.fallback, prob := 0, fallback := true } ∧ w.drbg = v.drbg ∧
      t = { s with sessions := t.sessions, launch := t.launch, tiles := t.tiles }) ∧
  (∀ (s : State) (h x : Nat) (v : YewSession), s.on = true → s.sessions.get? h = some v → v.inEpoch = true → v.state = .running →
    v.closing = false → v.spoiled = false → v.drawing = none → v.kind = 0 → v.verdict = none → v.input = [x] →
    v.draws = [{ token := v.params.fallback, prob := 0, fallback := true }] →
    v.params.ringInHost = true → v.consumed + 2 ^ v.params.outLog2 ≤ v.seq →
    (∀ t ∈ sessTiles s v, (dueEntry s t).map (fun e => e.2.action) = some 2) → (∀ t ∈ sessTiles s v, (s.tile t).step = none) →
    After (.epochEnd h) s fun t => ∃ w o, t.sessions.get? h = some w ∧ w.pend = v.pend ++ [o] ∧ o.token = v.params.fallback ∧
      o.flags.testBit 0 = true ∧ o.prob = 0 ∧ w.drbg = v.drbg)

/-- R487; INSTANCE_SAVE is the one command that takes a counter value. -/
def Obligations.ExhaustedSlot : Prop :=
  (∀ (s : State) (q : Req) (n k : Nat) (i : Instance) (slot : KeySlot) (out : BufRef), Served s q 0x0306 24 .operator → s.insts.get? n = some i →
    i.state = .frozen → migrationKey s i.part = some (k, slot) → s.sec.slots.get? k = some slot → slot.state = .loaded →
    slot.nextCount = 2 ^ 48 - 1 → out.space = 1 → 262144 ≤ out.len → n < 1024 →
    (s.port (whoOf s q.mbx).port).driverPresent = true → s.longOps = [] →
    After (.instanceSave q n out) s fun t => (t.sec.slots.get? k).map KeySlot.state = some .exhausted ∧
      (∀ j, j ≠ k → t.sec.slots.get? j = s.sec.slots.get? j) ∧ ∃ b, Completed s t q 0x0306 OK b) ∧
  (∀ (s : State) (q : Req) (n k : Nat) (i : Instance) (slot : KeySlot) (out : BufRef), Served s q 0x0306 24 .operator → s.insts.get? n = some i →
    i.state = .frozen → migrationKey s i.part = some (k, slot) → slot.state = .exhausted → out.space = 1 → 262144 ≤ out.len → n < 1024 →
    After (.instanceSave q n out) s fun t => Replied s t q 0x0306 NO_RESOURCES [] ∧ SameBut s t ∧
      ∀ p j a d, .hostWrite p j a d ∈ t.emitted → .hostWrite p j a d ∈ s.emitted) ∧
  (∀ (s : State) (q : Req) (n part port pasid base count k : Nat) (blob : BufRef) (host : HostData) (b plain : Bytes) (slot : KeySlot),
    Served s q 0x0307 40 .operator → instBad s n part port pasid base count = false → refBad blob 48 = false →
    readBuf s (whoOf s q.mbx) blob host = .ok b → fieldAt b 0 4 = 0x42494D5A → fieldAt b 4 2 = 1 → 48 ≤ fieldAt b 8 4 →
    fieldAt b 8 4 ≤ 262144 → fieldAt b 8 4 ≤ b.length → migrationKey s part = some (k, slot) → slot.state = .exhausted →
    Config.gcmOpen slot.key ((b.drop 16).take 12) (b.take 32) ((b.take (fieldAt b 8 4)).drop 32) = some plain →
    cell (((unpackTables saveWidths plain).getD 0 []).getD 0 []) 0 ≤ count → s.insts.get? n = none → vectorsHeld s port base count = false →
    (∀ j, 2 ≤ j → (unpackTables saveWidths plain).getD j [] = []) → n < 1024 → s.longOps = [] →
    After (.instanceRestore q n part port pasid base count blob host) s fun t => Completed s t q 0x0307 OK [] ∧ t.sec = s.sec ∧
      ∃ i, t.insts.get? n = some i ∧ i.state = .frozen)
end

