-- ==== Sys2Proof/Laws/Bytes.lean ====
section
/-! SUPPORT. Lemmas of byte strings: little-endian words, padding, fields, and the CRC register's range. -/

namespace Sys2Proof

@[simp] theorem length_zeros (n : Nat) : (zeros n).length = n := List.length_replicate
@[simp] theorem length_le (n v : Nat) : (le n v).length = n := by
  induction n generalizing v with
  | zero => rfl
  | succ n ih => simp [le, ih]
@[simp] theorem ofLe_le (n v : Nat) : ofLe (le n v) = v % 256 ^ n := by
  induction n generalizing v with
  | zero => simp [le, ofLe, Nat.mod_one]
  | succ n ih =>
    rw [le, ofLe, ih, BitVec.toNat_ofNat, Nat.pow_succ' (n := n)]
    exact Nat.mod_mul.symm
theorem ofLe_lt (bs : Bytes) : ofLe bs < 256 ^ bs.length := by
  induction bs with
  | nil => simp [ofLe]
  | cons b bs ih =>
    have hb : b.toNat < 256 := b.isLt
    simp only [ofLe, List.length_cons, Nat.pow_succ']
    omega
@[simp] theorem length_padTo (n : Nat) (bs : Bytes) : (padTo n bs).length = n := by
  simp only [padTo, List.length_take, List.length_append, length_zeros]
  omega
theorem padTo_eq_self {n : Nat} {bs : Bytes} (h : bs.length = n) : padTo n bs = bs := by
  subst h
  rw [padTo, Nat.sub_self]
  exact (congrArg _ (List.append_nil bs)).trans (List.take_length ..)
@[simp] theorem padTo_padTo (n : Nat) (bs : Bytes) : padTo n (padTo n bs) = padTo n bs := padTo_eq_self (length_padTo n bs)
theorem fieldAt_lt (bs : Bytes) (k n : Nat) : fieldAt bs k n < 256 ^ n :=
  Nat.lt_of_lt_of_le (ofLe_lt _) (Nat.pow_le_pow_right (by decide) (by rw [List.length_take]; omega))
/-- A field that a little-endian word spells, behind `pre`. -/
theorem fieldAt_word (pre post : Bytes) {k : Nat} (n v : Nat) (h : pre.length = k) :
    fieldAt (pre ++ le n v ++ post) k n = v % 256 ^ n := by
  subst h
  simp [fieldAt, List.append_assoc]
/-- A field before the end of `pre` does not see what follows. -/
theorem fieldAt_left (pre post : Bytes) {k n : Nat} (h : k + n ≤ pre.length) : fieldAt (pre ++ post) k n = fieldAt pre k n := by
  simp only [fieldAt]
  rw [List.drop_append_of_le_length (by omega), List.take_append_of_le_length (by rw [List.length_drop]; omega)]
/-- A field behind `pre`. -/
theorem fieldAt_right (pre post : Bytes) (k n : Nat) : fieldAt (pre ++ post) (pre.length + k) n = fieldAt post k n := by
  simp [fieldAt, ← List.drop_drop]

namespace Machine

theorem crc64Bit_lt (c : Nat) : crc64Bit c < 2 ^ 64 := by
  unfold crc64Bit
  split
  · exact Nat.xor_lt_two_pow (Nat.mod_lt _ (by decide)) (by decide)
  · exact Nat.mod_lt _ (by decide)
theorem times_crc64Bit_lt {c : Nat} (n : Nat) (h : c < 2 ^ 64) : times crc64Bit n c < 2 ^ 64 := by
  induction n generalizing c with
  | zero => exact h
  | succ n ih => exact ih (crc64Bit_lt c)
theorem crc64Run_lt {c : Nat} (bs : Bytes) (h : c < 2 ^ 64) : crc64Run c bs < 2 ^ 64 := by
  induction bs generalizing c with
  | nil => exact h
  | cons b bs ih =>
    have hb : b.toNat * 2 ^ 56 < 2 ^ 64 := by have := b.isLt; omega
    exact ih (times_crc64Bit_lt 8 (Nat.xor_lt_two_pow h hb))
theorem crc64_lt (bs : Bytes) : crc64 bs < 2 ^ 64 := Nat.xor_lt_two_pow (crc64Run_lt bs (by decide)) (by decide)

end Machine
end Sys2Proof
end

