-- ==== Sys2Proof/Laws/Serve.lean ====
section
/-! SUPPORT. What fetching, answering and serving a request do, once for all requests. -/

namespace Sys2Proof.Machine

variable {s : State} {q : Req} {op len : Nat} {snd : Sender}

@[simp] theorem Tbl.get?_set_self {α : Type} (t : Tbl α) (k : Nat) (a : α) : (t.set k a).get? k = some a := by
  induction t with
  | nil => simp [Tbl.set, Tbl.get?]
  | cons h t ih =>
    obtain ⟨j, b⟩ := h
    simp only [Tbl.set]
    split
    · simp [Tbl.get?]
    · split
      · simp [Tbl.get?]
      · rename_i h1 h2
        simp only [Tbl.get?]
        rw [if_neg (Ne.symm h2)]
        exact ih

theorem Tbl.get?_set_ne {α : Type} (t : Tbl α) {j k : Nat} (h : j ≠ k) (a : α) : (t.set k a).get? j = t.get? j := by
  induction t with
  | nil => simp [Tbl.set, Tbl.get?, h.symm]
  | cons c t ih =>
    obtain ⟨i, b⟩ := c
    simp only [Tbl.set]
    split
    · simp [Tbl.get?, h.symm]
    · split
      · rename_i h1 h2
        subst h2
        simp [Tbl.get?, h.symm]
      · simp only [Tbl.get?]
        rw [ih]

@[simp] theorem Tbl.getD_set_self {α : Type} (t : Tbl α) (k : Nat) (a d : α) : (t.set k a).getD k d = a := by
  simp [Tbl.getD]
theorem Tbl.getD_set_ne {α : Type} (t : Tbl α) {j k : Nat} (h : j ≠ k) (a d : α) : (t.set k a).getD j d = t.getD j d := by
  simp [Tbl.getD, Tbl.get?_set_ne t h]

@[simp] theorem mbx_modMbx (s : State) (m : Nat) (f : Mailbox → Mailbox) : (s.modMbx m f).mbx m = f (s.mbx m) := by
  simp [State.modMbx, State.mbx]
@[simp] theorem mbx_emit (s : State) (m : Nat) (e : Emit) : (s.emit e).mbx m = s.mbx m := rfl
@[simp] theorem mbx_modInst (s : State) (m i : Nat) (f : Instance → Instance) : (s.modInst i f).mbx m = s.mbx m := rfl
@[simp] theorem mbx_modPort (s : State) (m i : Nat) (f : HostPort → HostPort) : (s.modPort i f).mbx m = s.mbx m := rfl

theorem mbx_msixPort (s : State) (m p v : Nat) : (msixPort s p v).mbx m = s.mbx m := by
  unfold msixPort; dsimp only; split <;> (try split) <;> rfl
theorem mbx_dropDma (s : State) (m p n : Nat) : (dropDma s p n).mbx m = s.mbx m := rfl
theorem mbx_msix (s : State) (m p i v : Nat) : (msix s p i v).mbx m = s.mbx m := by
  unfold msix
  split
  · rfl
  · split
    · exact mbx_msixPort ..
    · split
      · exact mbx_msixPort ..
      · rfl

/-- Entries emitted by an MSI-X message: none. -/
theorem entries_msixPort (s : State) (m p v : Nat) :
    (msixPort s p v).emitted.filterMap (Emit.entryFor m) = s.emitted.filterMap (Emit.entryFor m) := by
  unfold msixPort; dsimp only; split
  · rfl
  · split
    · rfl
    · rfl
theorem entries_msix (s : State) (m p i v : Nat) :
    (msix s p i v).emitted.filterMap (Emit.entryFor m) = s.emitted.filterMap (Emit.entryFor m) := by
  unfold msix
  split
  · rfl
  · split
    · exact entries_msixPort ..
    · split
      · exact entries_msixPort ..
      · rfl

/-- Emitting an entry that says a mailbox's written entry, whatever its instance marks as dirty. -/
theorem entriesFor_emitted (s : State) (m i n k : Nat) (g : Instance → Instance) (e : IaldoEntry) (h : (s.mbx m).pend = []) :
    entriesFor (((s.modMbx m fun b => { b with written := n }).modInst i g).emit (.ialdo m k e)) m = e :: entriesFor s m := by
  have h1 : ((((s.modMbx m fun b => { b with written := n }).modInst i g).emit (.ialdo m k e)).mbx m).pend = [] := by
    simp [h]
  unfold entriesFor
  rw [h1, h]
  simp [State.emit, Emit.entryFor, State.modMbx, State.modInst]

/-- Writing an entry puts it in front of the mailbox's entries, where none waits. -/
theorem entriesFor_writeEntry (s : State) (m : Nat) (e : IaldoEntry) (h : (s.mbx m).pend = []) :
    entriesFor (writeEntry s m e) m = e :: entriesFor s m := by
  unfold writeEntry
  dsimp only
  split
  · unfold entriesFor
    rw [mbx_msix, entries_msix]
    exact entriesFor_emitted s m _ _ _ _ e h
  · exact entriesFor_emitted s m _ _ _ _ e h

/-- A response or completion becomes the newest entry of an enabled mailbox (R354). -/
theorem entriesFor_postReply (s : State) (m : Nat) (e : IaldoEntry) (h : (s.mbx m).enable = true) :
    entriesFor (postReply s m e) m = e :: entriesFor s m := by
  unfold postReply
  simp only [h, Bool.not_true, Bool.false_eq_true, if_false]
  split
  · rename_i h1
    rw [Bool.and_eq_true, List.isEmpty_iff] at h1
    exact entriesFor_writeEntry s m e h1.1
  · simp [entriesFor, State.modMbx, State.mbx]

/-- A RESPONSE becomes the newest entry of the sender's mailbox. -/
theorem entriesFor_respond (s : State) (q : Req) (op n st tok : Nat) (body : Bytes) (h : (s.mbx q.mbx).enable = true) :
    entriesFor (respond s q op n st tok body) q.mbx =
      { opcode := op, kind := 2, level := ((s.mbx q.mbx).session.map Session.level).getD 0, index := n, status := st,
        token := tok, cookie := q.cookie, time := s.lc, body := body } :: entriesFor s q.mbx :=
  entriesFor_postReply _ _ _ h

/-- A request that is served runs its own statement on the state that has fetched it. -/
theorem Served.serve (h : Served s q op len snd) (inp : Option BufRef) (f : Who → State → Answer) :
    serve q ⟨op, len, snd, inp, []⟩ f s =
      answer (inputPoison (fetchReq s q.mbx) (whoOf s q.mbx) inp (f (whoOf s q.mbx) (fetchReq s q.mbx))) q op
        (wrap32 ((s.mbx q.mbx).fetched + 1)) (f (whoOf s q.mbx) (fetchReq s q.mbx)) := by
  obtain ⟨hf, ⟨ses, hs, hh, hp⟩, ha, -⟩ := h
  have h1 : ((fetchReq s q.mbx).mbx q.mbx).session = some ses := by simp [fetchReq, hs]
  have h2 : ((fetchReq s q.mbx).mbx q.mbx).fetched = wrap32 ((s.mbx q.mbx).fetched + 1) := by simp [fetchReq]
  have h3 : whoOf (fetchReq s q.mbx) q.mbx = whoOf s q.mbx := rfl
  unfold Machine.serve
  simp [hf, h1, h2, h3, hh, hp, ha]

/-- The mailbox of a served request is enabled. -/
theorem Served.enable (h : Served s q op len snd) : (s.mbx q.mbx).enable = true := by
  have := h.fetches
  simp [mbxFetches] at this
  exact this.1.1.1.1.1.2

@[simp] theorem fetchReq_mbx (s : State) (m : Nat) :
    (fetchReq s m).mbx m = { s.mbx m with fetched := wrap32 ((s.mbx m).fetched + 1) } := by simp [fetchReq]

/-- An answer OK leaves the RESPONSE as the newest entry, whatever the request changed, if it left its own mailbox and the time. -/
theorem replied_done (h : Served s q op len snd) {s1 s2 : State} {body : Bytes}
    (hm : s2.mbx q.mbx = (fetchReq s q.mbx).mbx q.mbx) (hc : s2.lc = s.lc) :
    Replied s (answer s1 q op (wrap32 ((s.mbx q.mbx).fetched + 1)) (.done s2 body)) q op OK body := by
  have he : (s2.mbx q.mbx).enable = true := by rw [hm, fetchReq_mbx]; exact h.enable
  show (entriesFor (respond s2 q op _ OK 0 body) q.mbx).head? = _
  rw [entriesFor_respond s2 _ _ _ _ _ _ he]
  simp [replyEntry, hm, hc]

/-- A refusal leaves the RESPONSE with its status as the newest entry. -/
theorem replied_refuse (h : Served s q op len snd) {s1 : State} {st : Nat} {body : Bytes}
    (hm : s1.mbx q.mbx = (fetchReq s q.mbx).mbx q.mbx) (hc : s1.lc = s.lc) :
    Replied s (answer s1 q op (wrap32 ((s.mbx q.mbx).fetched + 1)) (.refuse st body)) q op st body := by
  have he : (s1.mbx q.mbx).enable = true := by rw [hm, fetchReq_mbx]; exact h.enable
  show (entriesFor (respond s1 q op _ st 0 body) q.mbx).head? = _
  rw [entriesFor_respond s1 _ _ _ _ _ _ he]
  simp [replyEntry, hm, hc]

end Sys2Proof.Machine
end

