-- ==== Sys2Proof/Laws/Keeps.lean ====
section
/-! SUPPORT. What sending responses, events and records leaves as it is: whatever a reading of the state ignores of the fields that
carry traffic, the operation keeps. -/

namespace Sys2Proof.Machine

variable {α : Type} {π : State → α}

/-- The reading does not depend on mailboxes, instances, host ports and what the block has sent. -/
abbrev IgnoresTraffic (π : State → α) : Prop :=
  ∀ (s : State) m i p e, π { s with mbxs := m, insts := i, ports := p, emitted := e } = π s
/-- As `IgnoresTraffic`, and not on the counters and logs. -/
abbrev IgnoresReports (π : State → α) : Prop :=
  ∀ (s : State) m i p e n, π { s with mbxs := m, insts := i, ports := p, emitted := e, mon := n } = π s
/-- As `IgnoresTraffic`, and not on the long operations. -/
abbrev IgnoresOps (π : State → α) : Prop :=
  ∀ (s : State) m i p e l n, π { s with mbxs := m, insts := i, ports := p, emitted := e, longOps := l, opNo := n } = π s

theorem IgnoresReports.traffic (h : IgnoresReports π) : IgnoresTraffic π := fun s m i p e => h s m i p e s.mon
theorem IgnoresOps.traffic (h : IgnoresOps π) : IgnoresTraffic π := fun s m i p e => h s m i p e s.longOps s.opNo

theorem SameBut.of {s t : State} (h : ∀ {α : Type} (π : State → α), IgnoresTraffic π → π t = π s) : SameBut s t := by
  have := h (fun x => ({ x with mbxs := [], insts := [], ports := [], emitted := [] } : State)) (fun _ _ _ _ _ => rfl)
  cases s; cases t
  simp only [State.mk.injEq] at this
  simp [SameBut, this]
theorem SameButReports.of {s t : State} (h : ∀ {α : Type} (π : State → α), IgnoresReports π → π t = π s) :
    SameButReports s t := by
  have := h (fun x => ({ x with mbxs := [], insts := [], ports := [], emitted := [], mon := {} } : State)) (fun _ _ _ _ _ _ => rfl)
  cases s; cases t
  simp only [State.mk.injEq] at this
  simp [SameButReports, this]

theorem foldl_keeps {β : Type} (f : State → β → State) (h : ∀ s b, π (f s b) = π s) (l : List β) (s : State) :
    π (l.foldl f s) = π s := by
  induction l generalizing s with
  | nil => rfl
  | cons b l ih => exact (ih (f s b)).trans (h s b)

theorem emit_keeps (h : IgnoresTraffic π) (s : State) (e : Emit) : π (s.emit e) = π s := h s _ _ _ _
theorem emitAll_keeps (h : IgnoresTraffic π) (s : State) (es : List Emit) : π (s.emitAll es) = π s :=
  foldl_keeps _ (emit_keeps h) es s
theorem modMbx_keeps (h : IgnoresTraffic π) (s : State) (m : Nat) (f : Mailbox → Mailbox) : π (s.modMbx m f) = π s :=
  h s _ s.insts s.ports s.emitted
theorem modInst_keeps (h : IgnoresTraffic π) (s : State) (m : Nat) (f : Instance → Instance) : π (s.modInst m f) = π s :=
  h s s.mbxs _ s.ports s.emitted
theorem modPort_keeps (h : IgnoresTraffic π) (s : State) (m : Nat) (f : HostPort → HostPort) : π (s.modPort m f) = π s :=
  h s s.mbxs s.insts _ s.emitted
theorem fetchReq_keeps (h : IgnoresTraffic π) (s : State) (m : Nat) : π (fetchReq s m) = π s :=
  (emit_keeps h _ _).trans (modMbx_keeps h _ _ _)
theorem dropDma_keeps (h : IgnoresTraffic π) (s : State) (p n : Nat) : π (dropDma s p n) = π s := modPort_keeps h ..
theorem hostWrite_keeps (h : IgnoresTraffic π) (s : State) (p i a : Nat) (d : Bytes) : π (hostWrite s p i a d) = π s := by
  unfold hostWrite
  split
  · exact (emit_keeps h _ _).trans (modInst_keeps h _ _ _)
  · exact dropDma_keeps h _ _ _
theorem msixPort_keeps (h : IgnoresTraffic π) (s : State) (p v : Nat) : π (msixPort s p v) = π s := by
  unfold msixPort; dsimp only; split
  · rfl
  · split
    · exact modPort_keeps h _ _ _
    · exact emit_keeps h _ _
theorem msix_keeps (h : IgnoresTraffic π) (s : State) (p i v : Nat) : π (msix s p i v) = π s := by
  unfold msix; split
  · exact dropDma_keeps h _ _ _
  · split
    · exact msixPort_keeps h _ _ _
    · split
      · exact msixPort_keeps h _ _ _
      · rfl
theorem msixUnlessFF_keeps (h : IgnoresTraffic π) (s : State) (p i v : Nat) : π (msixUnlessFF s p i v) = π s := by
  unfold msixUnlessFF; split
  · rfl
  · exact msix_keeps h _ _ _ _
theorem writeEntry_keeps (h : IgnoresTraffic π) (s : State) (m : Nat) (e : IaldoEntry) : π (writeEntry s m e) = π s := by
  unfold writeEntry; dsimp only; split
  · exact (msix_keeps h _ _ _ _).trans ((emit_keeps h _ _).trans ((modInst_keeps h _ _ _).trans (modMbx_keeps h _ _ _)))
  · exact (emit_keeps h _ _).trans ((modInst_keeps h _ _ _).trans (modMbx_keeps h _ _ _))
theorem postReply_keeps (h : IgnoresTraffic π) (s : State) (m : Nat) (e : IaldoEntry) : π (postReply s m e) = π s := by
  unfold postReply; split
  · rfl
  · split
    · exact writeEntry_keeps h _ _ _
    · exact modMbx_keeps h _ _ _
theorem postEvent_keeps (h : IgnoresTraffic π) (s : State) (m : Nat) (e : IaldoEntry) : π (postEvent s m e) = π s := by
  unfold postEvent; split
  · rfl
  · split
    · exact writeEntry_keeps h _ _ _
    · split
      · exact modMbx_keeps h _ _ _
      · exact (emit_keeps h _ _).trans (modMbx_keeps h _ _ _)
theorem respond_keeps (h : IgnoresTraffic π) (s : State) (q : Req) (op n st tok : Nat) (body : Bytes) :
    π (respond s q op n st tok body) = π s := postReply_keeps h _ _ _
theorem sendEvent_keeps (h : IgnoresTraffic π) (s : State) (a : Admit) (op hd c d : Nat) : π (sendEvent s a op hd c d) = π s :=
  foldl_keeps _ (fun s m => postEvent_keeps h s m _) _ s
theorem finishOp_keeps (h : IgnoresOps π) (s : State) (n st : Nat) (body : Bytes) : π (finishOp s n st body) = π s := by
  unfold finishOp; split
  · rfl
  · dsimp only; split
    · exact (postReply_keeps h.traffic _ _ _).trans
        ((modMbx_keeps h.traffic _ _ _).trans (h s s.mbxs s.insts s.ports s.emitted _ s.opNo))
    · exact h s s.mbxs s.insts s.ports s.emitted _ s.opNo
theorem finishOps_keeps (h : IgnoresOps π) (s : State) (st : Nat) (p : LongOp → Bool) : π (finishOps s st p) = π s :=
  foldl_keeps _ (fun s n => finishOp_keeps h s n st []) _ s
theorem startOp_keeps (h : IgnoresOps π) (s : State) (q : Req) (op n st : Nat) (d : OpData) : π (startOp s q op n st d) = π s :=
  (respond_keeps h.traffic _ _ _ _ _ _ _).trans
    ((modMbx_keeps h.traffic _ _ _).trans (h s s.mbxs s.insts s.ports s.emitted _ _))

theorem modMon_keeps (h : IgnoresReports π) (s : State) (f : Monitor → Monitor) : π (s.modMon f) = π s :=
  h s s.mbxs s.insts s.ports s.emitted _
theorem bump_keeps (h : IgnoresReports π) (s : State) (u e w : Nat) (o : Occ) : π (bump s u e w o) = π s := by
  unfold bump; split
  · rfl
  · exact modMon_keeps h _ _
theorem logError_keeps (h : IgnoresReports π) (s : State) (u c k o st a : Nat) : π (logError s u c k o st a) = π s := by
  unfold logError; dsimp only; split
  · exact modMon_keeps h _ _
  · split <;> exact modMon_keeps h _ _
theorem telePut_keeps (h : IgnoresReports π) (s : State) (r : TeleRecord) : π (telePut s r) = π s :=
  (msixUnlessFF_keeps h.traffic _ _ _ _).trans ((hostWrite_keeps h.traffic _ _ _ _ _).trans (modMon_keeps h _ _))
theorem teleDrop_keeps (h : IgnoresReports π) (s : State) : π (teleDrop s) = π s := by
  unfold teleDrop; dsimp only; split
  · exact (hostWrite_keeps h.traffic _ _ _ _ _).trans (modMon_keeps h _ _)
  · exact modMon_keeps h _ _
theorem teleLost_keeps (h : IgnoresReports π) (s : State) : π (teleLost s) = π s := by
  unfold teleLost; split
  · rfl
  · exact (modMon_keeps h _ _).trans (telePut_keeps h _ _)
theorem teleSample_keeps (h : IgnoresReports π) (s : State) (r : TeleRecord) : π (teleSample s r) = π s := by
  unfold teleSample; split
  · rfl
  · split
    · dsimp only; split
      · exact (telePut_keeps h _ _).trans (teleLost_keeps h _)
      · exact (teleDrop_keeps h _).trans (teleLost_keeps h _)
    · exact teleDrop_keeps h _
theorem teleEvent_keeps (h : IgnoresReports π) (s : State) (r : TeleRecord) : π (teleEvent s r) = π s := by
  unfold teleEvent; split
  · rfl
  · split
    · exact telePut_keeps h _ _
    · split
      · exact modMon_keeps h _ _
      · exact teleDrop_keeps h _
theorem operatorReport_keeps (h : IgnoresReports π) (s : State) (op t d src hd c de : Nat) :
    π (operatorReport s op t d src hd c de) = π s :=
  (teleEvent_keeps h _ _).trans (sendEvent_keeps h.traffic _ _ _ _ _ _)
theorem unitFault_keeps (h : IgnoresReports π) (s : State) (u d c k : Nat) : π (unitFault s u d c k) = π s :=
  operatorReport_keeps h ..
theorem readyChanged_keeps (h : IgnoresTraffic π) (s : State) : π (readyChanged s) = π s := sendEvent_keeps h ..
theorem emergencyEvent_keeps (h : IgnoresReports π) (s : State) (d k : Nat) (v : Int) : π (emergencyEvent s d k v) = π s :=
  operatorReport_keeps h ..

end Sys2Proof.Machine
end

