-- ==== Sys2Proof/Laws/State.lean ====
section
/-! SUPPORT. What every update of the state does to every field: one lemma each. -/

namespace Sys2Proof.Machine

@[simp] theorem State.emit_clk (s : State) (e : Emit) : (s.emit e).clk = s.clk := rfl
@[simp] theorem State.emit_power (s : State) (e : Emit) : (s.emit e).power = s.power := rfl
@[simp] theorem State.emit_fuses (s : State) (e : Emit) : (s.emit e).fuses = s.fuses := rfl
@[simp] theorem State.emit_boot (s : State) (e : Emit) : (s.emit e).boot = s.boot := rfl
@[simp] theorem State.emit_units (s : State) (e : Emit) : (s.emit e).units = s.units := rfl
@[simp] theorem State.emit_tracker (s : State) (e : Emit) : (s.emit e).tracker = s.tracker := rfl
@[simp] theorem State.emit_vio (s : State) (e : Emit) : (s.emit e).vio = s.vio := rfl
@[simp] theorem State.emit_parts (s : State) (e : Emit) : (s.emit e).parts = s.parts := rfl
@[simp] theorem State.emit_excRates (s : State) (e : Emit) : (s.emit e).excRates = s.excRates := rfl
@[simp] theorem State.emit_decode (s : State) (e : Emit) : (s.emit e).decode = s.decode := rfl
@[simp] theorem State.emit_opResident (s : State) (e : Emit) : (s.emit e).opResident = s.opResident := rfl
@[simp] theorem State.emit_launch (s : State) (e : Emit) : (s.emit e).launch = s.launch := rfl
@[simp] theorem State.emit_crossings (s : State) (e : Emit) : (s.emit e).crossings = s.crossings := rfl
@[simp] theorem State.emit_ports (s : State) (e : Emit) : (s.emit e).ports = s.ports := rfl
@[simp] theorem State.emit_insts (s : State) (e : Emit) : (s.emit e).insts = s.insts := rfl
@[simp] theorem State.emit_mbxs (s : State) (e : Emit) : (s.emit e).mbxs = s.mbxs := rfl
@[simp] theorem State.emit_longOps (s : State) (e : Emit) : (s.emit e).longOps = s.longOps := rfl
@[simp] theorem State.emit_opNo (s : State) (e : Emit) : (s.emit e).opNo = s.opNo := rfl
@[simp] theorem State.emit_ctxs (s : State) (e : Emit) : (s.emit e).ctxs = s.ctxs := rfl
@[simp] theorem State.emit_fw (s : State) (e : Emit) : (s.emit e).fw = s.fw := rfl
@[simp] theorem State.emit_faultLog (s : State) (e : Emit) : (s.emit e).faultLog = s.faultLog := rfl
@[simp] theorem State.emit_tiles (s : State) (e : Emit) : (s.emit e).tiles = s.tiles := rfl
@[simp] theorem State.emit_groups (s : State) (e : Emit) : (s.emit e).groups = s.groups := rfl
@[simp] theorem State.emit_mesh (s : State) (e : Emit) : (s.emit e).mesh = s.mesh := rfl
@[simp] theorem State.emit_models (s : State) (e : Emit) : (s.emit e).models = s.models := rfl
@[simp] theorem State.emit_sessions (s : State) (e : Emit) : (s.emit e).sessions = s.sessions := rfl
@[simp] theorem State.emit_cores (s : State) (e : Emit) : (s.emit e).cores = s.cores := rfl
@[simp] theorem State.emit_reserve (s : State) (e : Emit) : (s.emit e).reserve = s.reserve := rfl
@[simp] theorem State.emit_dram (s : State) (e : Emit) : (s.emit e).dram = s.dram := rfl
@[simp] theorem State.emit_link (s : State) (e : Emit) : (s.emit e).link = s.link := rfl
@[simp] theorem State.emit_ckp (s : State) (e : Emit) : (s.emit e).ckp = s.ckp := rfl
@[simp] theorem State.emit_stor (s : State) (e : Emit) : (s.emit e).stor = s.stor := rfl
@[simp] theorem State.emit_pkt (s : State) (e : Emit) : (s.emit e).pkt = s.pkt := rfl
@[simp] theorem State.emit_sec (s : State) (e : Emit) : (s.emit e).sec = s.sec := rfl
@[simp] theorem State.emit_mon (s : State) (e : Emit) : (s.emit e).mon = s.mon := rfl
@[simp] theorem State.emit_jtag (s : State) (e : Emit) : (s.emit e).jtag = s.jtag := rfl
@[simp] theorem State.emit_mgmt (s : State) (e : Emit) : (s.emit e).mgmt = s.mgmt := rfl
@[simp] theorem State.emit_free (s : State) (e : Emit) : (s.emit e).free = s.free := rfl
@[simp] theorem State.emit_time (s : State) (e : Emit) : (s.emit e).time = s.time := rfl
@[simp] theorem State.emit_pending (s : State) (e : Emit) : (s.emit e).pending = s.pending := rfl

@[simp] theorem State.modPort_clk (s : State) (p : Nat) (f : HostPort → HostPort) : (s.modPort p f).clk = s.clk := rfl
@[simp] theorem State.modPort_power (s : State) (p : Nat) (f : HostPort → HostPort) : (s.modPort p f).power = s.power := rfl
@[simp] theorem State.modPort_fuses (s : State) (p : Nat) (f : HostPort → HostPort) : (s.modPort p f).fuses = s.fuses := rfl
@[simp] theorem State.modPort_boot (s : State) (p : Nat) (f : HostPort → HostPort) : (s.modPort p f).boot = s.boot := rfl
@[simp] theorem State.modPort_units (s : State) (p : Nat) (f : HostPort → HostPort) : (s.modPort p f).units = s.units := rfl
@[simp] theorem State.modPort_tracker (s : State) (p : Nat) (f : HostPort → HostPort) : (s.modPort p f).tracker = s.tracker := rfl
@[simp] theorem State.modPort_vio (s : State) (p : Nat) (f : HostPort → HostPort) : (s.modPort p f).vio = s.vio := rfl
@[simp] theorem State.modPort_parts (s : State) (p : Nat) (f : HostPort → HostPort) : (s.modPort p f).parts = s.parts := rfl
@[simp] theorem State.modPort_excRates (s : State) (p : Nat) (f : HostPort → HostPort) : (s.modPort p f).excRates = s.excRates := rfl
@[simp] theorem State.modPort_decode (s : State) (p : Nat) (f : HostPort → HostPort) : (s.modPort p f).decode = s.decode := rfl
@[simp] theorem State.modPort_opResident (s : State) (p : Nat) (f : HostPort → HostPort) : (s.modPort p f).opResident = s.opResident := rfl
@[simp] theorem State.modPort_launch (s : State) (p : Nat) (f : HostPort → HostPort) : (s.modPort p f).launch = s.launch := rfl
@[simp] theorem State.modPort_crossings (s : State) (p : Nat) (f : HostPort → HostPort) : (s.modPort p f).crossings = s.crossings := rfl
@[simp] theorem State.modPort_insts (s : State) (p : Nat) (f : HostPort → HostPort) : (s.modPort p f).insts = s.insts := rfl
@[simp] theorem State.modPort_mbxs (s : State) (p : Nat) (f : HostPort → HostPort) : (s.modPort p f).mbxs = s.mbxs := rfl
@[simp] theorem State.modPort_longOps (s : State) (p : Nat) (f : HostPort → HostPort) : (s.modPort p f).longOps = s.longOps := rfl
@[simp] theorem State.modPort_opNo (s : State) (p : Nat) (f : HostPort → HostPort) : (s.modPort p f).opNo = s.opNo := rfl
@[simp] theorem State.modPort_ctxs (s : State) (p : Nat) (f : HostPort → HostPort) : (s.modPort p f).ctxs = s.ctxs := rfl
@[simp] theorem State.modPort_fw (s : State) (p : Nat) (f : HostPort → HostPort) : (s.modPort p f).fw = s.fw := rfl
@[simp] theorem State.modPort_faultLog (s : State) (p : Nat) (f : HostPort → HostPort) : (s.modPort p f).faultLog = s.faultLog := rfl
@[simp] theorem State.modPort_tiles (s : State) (p : Nat) (f : HostPort → HostPort) : (s.modPort p f).tiles = s.tiles := rfl
@[simp] theorem State.modPort_groups (s : State) (p : Nat) (f : HostPort → HostPort) : (s.modPort p f).groups = s.groups := rfl
@[simp] theorem State.modPort_mesh (s : State) (p : Nat) (f : HostPort → HostPort) : (s.modPort p f).mesh = s.mesh := rfl
@[simp] theorem State.modPort_models (s : State) (p : Nat) (f : HostPort → HostPort) : (s.modPort p f).models = s.models := rfl
@[simp] theorem State.modPort_sessions (s : State) (p : Nat) (f : HostPort → HostPort) : (s.modPort p f).sessions = s.sessions := rfl
@[simp] theorem State.modPort_cores (s : State) (p : Nat) (f : HostPort → HostPort) : (s.modPort p f).cores = s.cores := rfl
@[simp] theorem State.modPort_reserve (s : State) (p : Nat) (f : HostPort → HostPort) : (s.modPort p f).reserve = s.reserve := rfl
@[simp] theorem State.modPort_dram (s : State) (p : Nat) (f : HostPort → HostPort) : (s.modPort p f).dram = s.dram := rfl
@[simp] theorem State.modPort_link (s : State) (p : Nat) (f : HostPort → HostPort) : (s.modPort p f).link = s.link := rfl
@[simp] theorem State.modPort_ckp (s : State) (p : Nat) (f : HostPort → HostPort) : (s.modPort p f).ckp = s.ckp := rfl
@[simp] theorem State.modPort_stor (s : State) (p : Nat) (f : HostPort → HostPort) : (s.modPort p f).stor = s.stor := rfl
@[simp] theorem State.modPort_pkt (s : State) (p : Nat) (f : HostPort → HostPort) : (s.modPort p f).pkt = s.pkt := rfl
@[simp] theorem State.modPort_sec (s : State) (p : Nat) (f : HostPort → HostPort) : (s.modPort p f).sec = s.sec := rfl
@[simp] theorem State.modPort_mon (s : State) (p : Nat) (f : HostPort → HostPort) : (s.modPort p f).mon = s.mon := rfl
@[simp] theorem State.modPort_jtag (s : State) (p : Nat) (f : HostPort → HostPort) : (s.modPort p f).jtag = s.jtag := rfl
@[simp] theorem State.modPort_mgmt (s : State) (p : Nat) (f : HostPort → HostPort) : (s.modPort p f).mgmt = s.mgmt := rfl
@[simp] theorem State.modPort_emitted (s : State) (p : Nat) (f : HostPort → HostPort) : (s.modPort p f).emitted = s.emitted := rfl
@[simp] theorem State.modPort_free (s : State) (p : Nat) (f : HostPort → HostPort) : (s.modPort p f).free = s.free := rfl
@[simp] theorem State.modPort_time (s : State) (p : Nat) (f : HostPort → HostPort) : (s.modPort p f).time = s.time := rfl
@[simp] theorem State.modPort_pending (s : State) (p : Nat) (f : HostPort → HostPort) : (s.modPort p f).pending = s.pending := rfl

@[simp] theorem State.modMbx_clk (s : State) (m : Nat) (f : Mailbox → Mailbox) : (s.modMbx m f).clk = s.clk := rfl
@[simp] theorem State.modMbx_power (s : State) (m : Nat) (f : Mailbox → Mailbox) : (s.modMbx m f).power = s.power := rfl
@[simp] theorem State.modMbx_fuses (s : State) (m : Nat) (f : Mailbox → Mailbox) : (s.modMbx m f).fuses = s.fuses := rfl
@[simp] theorem State.modMbx_boot (s : State) (m : Nat) (f : Mailbox → Mailbox) : (s.modMbx m f).boot = s.boot := rfl
@[simp] theorem State.modMbx_units (s : State) (m : Nat) (f : Mailbox → Mailbox) : (s.modMbx m f).units = s.units := rfl
@[simp] theorem State.modMbx_tracker (s : State) (m : Nat) (f : Mailbox → Mailbox) : (s.modMbx m f).tracker = s.tracker := rfl
@[simp] theorem State.modMbx_vio (s : State) (m : Nat) (f : Mailbox → Mailbox) : (s.modMbx m f).vio = s.vio := rfl
@[simp] theorem State.modMbx_parts (s : State) (m : Nat) (f : Mailbox → Mailbox) : (s.modMbx m f).parts = s.parts := rfl
@[simp] theorem State.modMbx_excRates (s : State) (m : Nat) (f : Mailbox → Mailbox) : (s.modMbx m f).excRates = s.excRates := rfl
@[simp] theorem State.modMbx_decode (s : State) (m : Nat) (f : Mailbox → Mailbox) : (s.modMbx m f).decode = s.decode := rfl
@[simp] theorem State.modMbx_opResident (s : State) (m : Nat) (f : Mailbox → Mailbox) : (s.modMbx m f).opResident = s.opResident := rfl
@[simp] theorem State.modMbx_launch (s : State) (m : Nat) (f : Mailbox → Mailbox) : (s.modMbx m f).launch = s.launch := rfl
@[simp] theorem State.modMbx_crossings (s : State) (m : Nat) (f : Mailbox → Mailbox) : (s.modMbx m f).crossings = s.crossings := rfl
@[simp] theorem State.modMbx_ports (s : State) (m : Nat) (f : Mailbox → Mailbox) : (s.modMbx m f).ports = s.ports := rfl
@[simp] theorem State.modMbx_insts (s : State) (m : Nat) (f : Mailbox → Mailbox) : (s.modMbx m f).insts = s.insts := rfl
@[simp] theorem State.modMbx_longOps (s : State) (m : Nat) (f : Mailbox → Mailbox) : (s.modMbx m f).longOps = s.longOps := rfl
@[simp] theorem State.modMbx_opNo (s : State) (m : Nat) (f : Mailbox → Mailbox) : (s.modMbx m f).opNo = s.opNo := rfl
@[simp] theorem State.modMbx_ctxs (s : State) (m : Nat) (f : Mailbox → Mailbox) : (s.modMbx m f).ctxs = s.ctxs := rfl
@[simp] theorem State.modMbx_fw (s : State) (m : Nat) (f : Mailbox → Mailbox) : (s.modMbx m f).fw = s.fw := rfl
@[simp] theorem State.modMbx_faultLog (s : State) (m : Nat) (f : Mailbox → Mailbox) : (s.modMbx m f).faultLog = s.faultLog := rfl
@[simp] theorem State.modMbx_tiles (s : State) (m : Nat) (f : Mailbox → Mailbox) : (s.modMbx m f).tiles = s.tiles := rfl
@[simp] theorem State.modMbx_groups (s : State) (m : Nat) (f : Mailbox → Mailbox) : (s.modMbx m f).groups = s.groups := rfl
@[simp] theorem State.modMbx_mesh (s : State) (m : Nat) (f : Mailbox → Mailbox) : (s.modMbx m f).mesh = s.mesh := rfl
@[simp] theorem State.modMbx_models (s : State) (m : Nat) (f : Mailbox → Mailbox) : (s.modMbx m f).models = s.models := rfl
@[simp] theorem State.modMbx_sessions (s : State) (m : Nat) (f : Mailbox → Mailbox) : (s.modMbx m f).sessions = s.sessions := rfl
@[simp] theorem State.modMbx_cores (s : State) (m : Nat) (f : Mailbox → Mailbox) : (s.modMbx m f).cores = s.cores := rfl
@[simp] theorem State.modMbx_reserve (s : State) (m : Nat) (f : Mailbox → Mailbox) : (s.modMbx m f).reserve = s.reserve := rfl
@[simp] theorem State.modMbx_dram (s : State) (m : Nat) (f : Mailbox → Mailbox) : (s.modMbx m f).dram = s.dram := rfl
@[simp] theorem State.modMbx_link (s : State) (m : Nat) (f : Mailbox → Mailbox) : (s.modMbx m f).link = s.link := rfl
@[simp] theorem State.modMbx_ckp (s : State) (m : Nat) (f : Mailbox → Mailbox) : (s.modMbx m f).ckp = s.ckp := rfl
@[simp] theorem State.modMbx_stor (s : State) (m : Nat) (f : Mailbox → Mailbox) : (s.modMbx m f).stor = s.stor := rfl
@[simp] theorem State.modMbx_pkt (s : State) (m : Nat) (f : Mailbox → Mailbox) : (s.modMbx m f).pkt = s.pkt := rfl
@[simp] theorem State.modMbx_sec (s : State) (m : Nat) (f : Mailbox → Mailbox) : (s.modMbx m f).sec = s.sec := rfl
@[simp] theorem State.modMbx_mon (s : State) (m : Nat) (f : Mailbox → Mailbox) : (s.modMbx m f).mon = s.mon := rfl
@[simp] theorem State.modMbx_jtag (s : State) (m : Nat) (f : Mailbox → Mailbox) : (s.modMbx m f).jtag = s.jtag := rfl
@[simp] theorem State.modMbx_mgmt (s : State) (m : Nat) (f : Mailbox → Mailbox) : (s.modMbx m f).mgmt = s.mgmt := rfl
@[simp] theorem State.modMbx_emitted (s : State) (m : Nat) (f : Mailbox → Mailbox) : (s.modMbx m f).emitted = s.emitted := rfl
@[simp] theorem State.modMbx_free (s : State) (m : Nat) (f : Mailbox → Mailbox) : (s.modMbx m f).free = s.free := rfl
@[simp] theorem State.modMbx_time (s : State) (m : Nat) (f : Mailbox → Mailbox) : (s.modMbx m f).time = s.time := rfl
@[simp] theorem State.modMbx_pending (s : State) (m : Nat) (f : Mailbox → Mailbox) : (s.modMbx m f).pending = s.pending := rfl

@[simp] theorem State.modInst_clk (s : State) (i : Nat) (f : Instance → Instance) : (s.modInst i f).clk = s.clk := rfl
@[simp] theorem State.modInst_power (s : State) (i : Nat) (f : Instance → Instance) : (s.modInst i f).power = s.power := rfl
@[simp] theorem State.modInst_fuses (s : State) (i : Nat) (f : Instance → Instance) : (s.modInst i f).fuses = s.fuses := rfl
@[simp] theorem State.modInst_boot (s : State) (i : Nat) (f : Instance → Instance) : (s.modInst i f).boot = s.boot := rfl
@[simp] theorem State.modInst_units (s : State) (i : Nat) (f : Instance → Instance) : (s.modInst i f).units = s.units := rfl
@[simp] theorem State.modInst_tracker (s : State) (i : Nat) (f : Instance → Instance) : (s.modInst i f).tracker = s.tracker := rfl
@[simp] theorem State.modInst_vio (s : State) (i : Nat) (f : Instance → Instance) : (s.modInst i f).vio = s.vio := rfl
@[simp] theorem State.modInst_parts (s : State) (i : Nat) (f : Instance → Instance) : (s.modInst i f).parts = s.parts := rfl
@[simp] theorem State.modInst_excRates (s : State) (i : Nat) (f : Instance → Instance) : (s.modInst i f).excRates = s.excRates := rfl
@[simp] theorem State.modInst_decode (s : State) (i : Nat) (f : Instance → Instance) : (s.modInst i f).decode = s.decode := rfl
@[simp] theorem State.modInst_opResident (s : State) (i : Nat) (f : Instance → Instance) : (s.modInst i f).opResident = s.opResident := rfl
@[simp] theorem State.modInst_launch (s : State) (i : Nat) (f : Instance → Instance) : (s.modInst i f).launch = s.launch := rfl
@[simp] theorem State.modInst_crossings (s : State) (i : Nat) (f : Instance → Instance) : (s.modInst i f).crossings = s.crossings := rfl
@[simp] theorem State.modInst_ports (s : State) (i : Nat) (f : Instance → Instance) : (s.modInst i f).ports = s.ports := rfl
@[simp] theorem State.modInst_mbxs (s : State) (i : Nat) (f : Instance → Instance) : (s.modInst i f).mbxs = s.mbxs := rfl
@[simp] theorem State.modInst_longOps (s : State) (i : Nat) (f : Instance → Instance) : (s.modInst i f).longOps = s.longOps := rfl
@[simp] theorem State.modInst_opNo (s : State) (i : Nat) (f : Instance → Instance) : (s.modInst i f).opNo = s.opNo := rfl
@[simp] theorem State.modInst_ctxs (s : State) (i : Nat) (f : Instance → Instance) : (s.modInst i f).ctxs = s.ctxs := rfl
@[simp] theorem State.modInst_fw (s : State) (i : Nat) (f : Instance → Instance) : (s.modInst i f).fw = s.fw := rfl
@[simp] theorem State.modInst_faultLog (s : State) (i : Nat) (f : Instance → Instance) : (s.modInst i f).faultLog = s.faultLog := rfl
@[simp] theorem State.modInst_tiles (s : State) (i : Nat) (f : Instance → Instance) : (s.modInst i f).tiles = s.tiles := rfl
@[simp] theorem State.modInst_groups (s : State) (i : Nat) (f : Instance → Instance) : (s.modInst i f).groups = s.groups := rfl
@[simp] theorem State.modInst_mesh (s : State) (i : Nat) (f : Instance → Instance) : (s.modInst i f).mesh = s.mesh := rfl
@[simp] theorem State.modInst_models (s : State) (i : Nat) (f : Instance → Instance) : (s.modInst i f).models = s.models := rfl
@[simp] theorem State.modInst_sessions (s : State) (i : Nat) (f : Instance → Instance) : (s.modInst i f).sessions = s.sessions := rfl
@[simp] theorem State.modInst_cores (s : State) (i : Nat) (f : Instance → Instance) : (s.modInst i f).cores = s.cores := rfl
@[simp] theorem State.modInst_reserve (s : State) (i : Nat) (f : Instance → Instance) : (s.modInst i f).reserve = s.reserve := rfl
@[simp] theorem State.modInst_dram (s : State) (i : Nat) (f : Instance → Instance) : (s.modInst i f).dram = s.dram := rfl
@[simp] theorem State.modInst_link (s : State) (i : Nat) (f : Instance → Instance) : (s.modInst i f).link = s.link := rfl
@[simp] theorem State.modInst_ckp (s : State) (i : Nat) (f : Instance → Instance) : (s.modInst i f).ckp = s.ckp := rfl
@[simp] theorem State.modInst_stor (s : State) (i : Nat) (f : Instance → Instance) : (s.modInst i f).stor = s.stor := rfl
@[simp] theorem State.modInst_pkt (s : State) (i : Nat) (f : Instance → Instance) : (s.modInst i f).pkt = s.pkt := rfl
@[simp] theorem State.modInst_sec (s : State) (i : Nat) (f : Instance → Instance) : (s.modInst i f).sec = s.sec := rfl
@[simp] theorem State.modInst_mon (s : State) (i : Nat) (f : Instance → Instance) : (s.modInst i f).mon = s.mon := rfl
@[simp] theorem State.modInst_jtag (s : State) (i : Nat) (f : Instance → Instance) : (s.modInst i f).jtag = s.jtag := rfl
@[simp] theorem State.modInst_mgmt (s : State) (i : Nat) (f : Instance → Instance) : (s.modInst i f).mgmt = s.mgmt := rfl
@[simp] theorem State.modInst_emitted (s : State) (i : Nat) (f : Instance → Instance) : (s.modInst i f).emitted = s.emitted := rfl
@[simp] theorem State.modInst_free (s : State) (i : Nat) (f : Instance → Instance) : (s.modInst i f).free = s.free := rfl
@[simp] theorem State.modInst_time (s : State) (i : Nat) (f : Instance → Instance) : (s.modInst i f).time = s.time := rfl
@[simp] theorem State.modInst_pending (s : State) (i : Nat) (f : Instance → Instance) : (s.modInst i f).pending = s.pending := rfl

@[simp] theorem State.modSlot_clk (s : State) (k : Nat) (f : LaunchSlot → LaunchSlot) : (s.modSlot k f).clk = s.clk := rfl
@[simp] theorem State.modSlot_power (s : State) (k : Nat) (f : LaunchSlot → LaunchSlot) : (s.modSlot k f).power = s.power := rfl
@[simp] theorem State.modSlot_fuses (s : State) (k : Nat) (f : LaunchSlot → LaunchSlot) : (s.modSlot k f).fuses = s.fuses := rfl
@[simp] theorem State.modSlot_boot (s : State) (k : Nat) (f : LaunchSlot → LaunchSlot) : (s.modSlot k f).boot = s.boot := rfl
@[simp] theorem State.modSlot_units (s : State) (k : Nat) (f : LaunchSlot → LaunchSlot) : (s.modSlot k f).units = s.units := rfl
@[simp] theorem State.modSlot_tracker (s : State) (k : Nat) (f : LaunchSlot → LaunchSlot) : (s.modSlot k f).tracker = s.tracker := rfl
@[simp] theorem State.modSlot_vio (s : State) (k : Nat) (f : LaunchSlot → LaunchSlot) : (s.modSlot k f).vio = s.vio := rfl
@[simp] theorem State.modSlot_parts (s : State) (k : Nat) (f : LaunchSlot → LaunchSlot) : (s.modSlot k f).parts = s.parts := rfl
@[simp] theorem State.modSlot_excRates (s : State) (k : Nat) (f : LaunchSlot → LaunchSlot) : (s.modSlot k f).excRates = s.excRates := rfl
@[simp] theorem State.modSlot_decode (s : State) (k : Nat) (f : LaunchSlot → LaunchSlot) : (s.modSlot k f).decode = s.decode := rfl
@[simp] theorem State.modSlot_opResident (s : State) (k : Nat) (f : LaunchSlot → LaunchSlot) : (s.modSlot k f).opResident = s.opResident := rfl
@[simp] theorem State.modSlot_crossings (s : State) (k : Nat) (f : LaunchSlot → LaunchSlot) : (s.modSlot k f).crossings = s.crossings := rfl
@[simp] theorem State.modSlot_ports (s : State) (k : Nat) (f : LaunchSlot → LaunchSlot) : (s.modSlot k f).ports = s.ports := rfl
@[simp] theorem State.modSlot_insts (s : State) (k : Nat) (f : LaunchSlot → LaunchSlot) : (s.modSlot k f).insts = s.insts := rfl
@[simp] theorem State.modSlot_mbxs (s : State) (k : Nat) (f : LaunchSlot → LaunchSlot) : (s.modSlot k f).mbxs = s.mbxs := rfl
@[simp] theorem State.modSlot_longOps (s : State) (k : Nat) (f : LaunchSlot → LaunchSlot) : (s.modSlot k f).longOps = s.longOps := rfl
@[simp] theorem State.modSlot_opNo (s : State) (k : Nat) (f : LaunchSlot → LaunchSlot) : (s.modSlot k f).opNo = s.opNo := rfl
@[simp] theorem State.modSlot_ctxs (s : State) (k : Nat) (f : LaunchSlot → LaunchSlot) : (s.modSlot k f).ctxs = s.ctxs := rfl
@[simp] theorem State.modSlot_fw (s : State) (k : Nat) (f : LaunchSlot → LaunchSlot) : (s.modSlot k f).fw = s.fw := rfl
@[simp] theorem State.modSlot_faultLog (s : State) (k : Nat) (f : LaunchSlot → LaunchSlot) : (s.modSlot k f).faultLog = s.faultLog := rfl
@[simp] theorem State.modSlot_tiles (s : State) (k : Nat) (f : LaunchSlot → LaunchSlot) : (s.modSlot k f).tiles = s.tiles := rfl
@[simp] theorem State.modSlot_groups (s : State) (k : Nat) (f : LaunchSlot → LaunchSlot) : (s.modSlot k f).groups = s.groups := rfl
@[simp] theorem State.modSlot_mesh (s : State) (k : Nat) (f : LaunchSlot → LaunchSlot) : (s.modSlot k f).mesh = s.mesh := rfl
@[simp] theorem State.modSlot_models (s : State) (k : Nat) (f : LaunchSlot → LaunchSlot) : (s.modSlot k f).models = s.models := rfl
@[simp] theorem State.modSlot_sessions (s : State) (k : Nat) (f : LaunchSlot → LaunchSlot) : (s.modSlot k f).sessions = s.sessions := rfl
@[simp] theorem State.modSlot_cores (s : State) (k : Nat) (f : LaunchSlot → LaunchSlot) : (s.modSlot k f).cores = s.cores := rfl
@[simp] theorem State.modSlot_reserve (s : State) (k : Nat) (f : LaunchSlot → LaunchSlot) : (s.modSlot k f).reserve = s.reserve := rfl
@[simp] theorem State.modSlot_dram (s : State) (k : Nat) (f : LaunchSlot → LaunchSlot) : (s.modSlot k f).dram = s.dram := rfl
@[simp] theorem State.modSlot_link (s : State) (k : Nat) (f : LaunchSlot → LaunchSlot) : (s.modSlot k f).link = s.link := rfl
@[simp] theorem State.modSlot_ckp (s : State) (k : Nat) (f : LaunchSlot → LaunchSlot) : (s.modSlot k f).ckp = s.ckp := rfl
@[simp] theorem State.modSlot_stor (s : State) (k : Nat) (f : LaunchSlot → LaunchSlot) : (s.modSlot k f).stor = s.stor := rfl
@[simp] theorem State.modSlot_pkt (s : State) (k : Nat) (f : LaunchSlot → LaunchSlot) : (s.modSlot k f).pkt = s.pkt := rfl
@[simp] theorem State.modSlot_sec (s : State) (k : Nat) (f : LaunchSlot → LaunchSlot) : (s.modSlot k f).sec = s.sec := rfl
@[simp] theorem State.modSlot_mon (s : State) (k : Nat) (f : LaunchSlot → LaunchSlot) : (s.modSlot k f).mon = s.mon := rfl
@[simp] theorem State.modSlot_jtag (s : State) (k : Nat) (f : LaunchSlot → LaunchSlot) : (s.modSlot k f).jtag = s.jtag := rfl
@[simp] theorem State.modSlot_mgmt (s : State) (k : Nat) (f : LaunchSlot → LaunchSlot) : (s.modSlot k f).mgmt = s.mgmt := rfl
@[simp] theorem State.modSlot_emitted (s : State) (k : Nat) (f : LaunchSlot → LaunchSlot) : (s.modSlot k f).emitted = s.emitted := rfl
@[simp] theorem State.modSlot_free (s : State) (k : Nat) (f : LaunchSlot → LaunchSlot) : (s.modSlot k f).free = s.free := rfl
@[simp] theorem State.modSlot_time (s : State) (k : Nat) (f : LaunchSlot → LaunchSlot) : (s.modSlot k f).time = s.time := rfl
@[simp] theorem State.modSlot_pending (s : State) (k : Nat) (f : LaunchSlot → LaunchSlot) : (s.modSlot k f).pending = s.pending := rfl

@[simp] theorem State.modTile_clk (s : State) (k : Nat) (f : Tile → Tile) : (s.modTile k f).clk = s.clk := rfl
@[simp] theorem State.modTile_power (s : State) (k : Nat) (f : Tile → Tile) : (s.modTile k f).power = s.power := rfl
@[simp] theorem State.modTile_fuses (s : State) (k : Nat) (f : Tile → Tile) : (s.modTile k f).fuses = s.fuses := rfl
@[simp] theorem State.modTile_boot (s : State) (k : Nat) (f : Tile → Tile) : (s.modTile k f).boot = s.boot := rfl
@[simp] theorem State.modTile_units (s : State) (k : Nat) (f : Tile → Tile) : (s.modTile k f).units = s.units := rfl
@[simp] theorem State.modTile_tracker (s : State) (k : Nat) (f : Tile → Tile) : (s.modTile k f).tracker = s.tracker := rfl
@[simp] theorem State.modTile_vio (s : State) (k : Nat) (f : Tile → Tile) : (s.modTile k f).vio = s.vio := rfl
@[simp] theorem State.modTile_parts (s : State) (k : Nat) (f : Tile → Tile) : (s.modTile k f).parts = s.parts := rfl
@[simp] theorem State.modTile_excRates (s : State) (k : Nat) (f : Tile → Tile) : (s.modTile k f).excRates = s.excRates := rfl
@[simp] theorem State.modTile_decode (s : State) (k : Nat) (f : Tile → Tile) : (s.modTile k f).decode = s.decode := rfl
@[simp] theorem State.modTile_opResident (s : State) (k : Nat) (f : Tile → Tile) : (s.modTile k f).opResident = s.opResident := rfl
@[simp] theorem State.modTile_launch (s : State) (k : Nat) (f : Tile → Tile) : (s.modTile k f).launch = s.launch := rfl
@[simp] theorem State.modTile_crossings (s : State) (k : Nat) (f : Tile → Tile) : (s.modTile k f).crossings = s.crossings := rfl
@[simp] theorem State.modTile_ports (s : State) (k : Nat) (f : Tile → Tile) : (s.modTile k f).ports = s.ports := rfl
@[simp] theorem State.modTile_insts (s : State) (k : Nat) (f : Tile → Tile) : (s.modTile k f).insts = s.insts := rfl
@[simp] theorem State.modTile_mbxs (s : State) (k : Nat) (f : Tile → Tile) : (s.modTile k f).mbxs = s.mbxs := rfl
@[simp] theorem State.modTile_longOps (s : State) (k : Nat) (f : Tile → Tile) : (s.modTile k f).longOps = s.longOps := rfl
@[simp] theorem State.modTile_opNo (s : State) (k : Nat) (f : Tile → Tile) : (s.modTile k f).opNo = s.opNo := rfl
@[simp] theorem State.modTile_ctxs (s : State) (k : Nat) (f : Tile → Tile) : (s.modTile k f).ctxs = s.ctxs := rfl
@[simp] theorem State.modTile_fw (s : State) (k : Nat) (f : Tile → Tile) : (s.modTile k f).fw = s.fw := rfl
@[simp] theorem State.modTile_faultLog (s : State) (k : Nat) (f : Tile → Tile) : (s.modTile k f).faultLog = s.faultLog := rfl
@[simp] theorem State.modTile_groups (s : State) (k : Nat) (f : Tile → Tile) : (s.modTile k f).groups = s.groups := rfl
@[simp] theorem State.modTile_mesh (s : State) (k : Nat) (f : Tile → Tile) : (s.modTile k f).mesh = s.mesh := rfl
@[simp] theorem State.modTile_models (s : State) (k : Nat) (f : Tile → Tile) : (s.modTile k f).models = s.models := rfl
@[simp] theorem State.modTile_sessions (s : State) (k : Nat) (f : Tile → Tile) : (s.modTile k f).sessions = s.sessions := rfl
@[simp] theorem State.modTile_cores (s : State) (k : Nat) (f : Tile → Tile) : (s.modTile k f).cores = s.cores := rfl
@[simp] theorem State.modTile_reserve (s : State) (k : Nat) (f : Tile → Tile) : (s.modTile k f).reserve = s.reserve := rfl
@[simp] theorem State.modTile_dram (s : State) (k : Nat) (f : Tile → Tile) : (s.modTile k f).dram = s.dram := rfl
@[simp] theorem State.modTile_link (s : State) (k : Nat) (f : Tile → Tile) : (s.modTile k f).link = s.link := rfl
@[simp] theorem State.modTile_ckp (s : State) (k : Nat) (f : Tile → Tile) : (s.modTile k f).ckp = s.ckp := rfl
@[simp] theorem State.modTile_stor (s : State) (k : Nat) (f : Tile → Tile) : (s.modTile k f).stor = s.stor := rfl
@[simp] theorem State.modTile_pkt (s : State) (k : Nat) (f : Tile → Tile) : (s.modTile k f).pkt = s.pkt := rfl
@[simp] theorem State.modTile_sec (s : State) (k : Nat) (f : Tile → Tile) : (s.modTile k f).sec = s.sec := rfl
@[simp] theorem State.modTile_mon (s : State) (k : Nat) (f : Tile → Tile) : (s.modTile k f).mon = s.mon := rfl
@[simp] theorem State.modTile_jtag (s : State) (k : Nat) (f : Tile → Tile) : (s.modTile k f).jtag = s.jtag := rfl
@[simp] theorem State.modTile_mgmt (s : State) (k : Nat) (f : Tile → Tile) : (s.modTile k f).mgmt = s.mgmt := rfl
@[simp] theorem State.modTile_emitted (s : State) (k : Nat) (f : Tile → Tile) : (s.modTile k f).emitted = s.emitted := rfl
@[simp] theorem State.modTile_free (s : State) (k : Nat) (f : Tile → Tile) : (s.modTile k f).free = s.free := rfl
@[simp] theorem State.modTile_time (s : State) (k : Nat) (f : Tile → Tile) : (s.modTile k f).time = s.time := rfl
@[simp] theorem State.modTile_pending (s : State) (k : Nat) (f : Tile → Tile) : (s.modTile k f).pending = s.pending := rfl

@[simp] theorem State.modGroup_clk (s : State) (k : Nat) (f : Group → Group) : (s.modGroup k f).clk = s.clk := rfl
@[simp] theorem State.modGroup_power (s : State) (k : Nat) (f : Group → Group) : (s.modGroup k f).power = s.power := rfl
@[simp] theorem State.modGroup_fuses (s : State) (k : Nat) (f : Group → Group) : (s.modGroup k f).fuses = s.fuses := rfl
@[simp] theorem State.modGroup_boot (s : State) (k : Nat) (f : Group → Group) : (s.modGroup k f).boot = s.boot := rfl
@[simp] theorem State.modGroup_units (s : State) (k : Nat) (f : Group → Group) : (s.modGroup k f).units = s.units := rfl
@[simp] theorem State.modGroup_tracker (s : State) (k : Nat) (f : Group → Group) : (s.modGroup k f).tracker = s.tracker := rfl
@[simp] theorem State.modGroup_vio (s : State) (k : Nat) (f : Group → Group) : (s.modGroup k f).vio = s.vio := rfl
@[simp] theorem State.modGroup_parts (s : State) (k : Nat) (f : Group → Group) : (s.modGroup k f).parts = s.parts := rfl
@[simp] theorem State.modGroup_excRates (s : State) (k : Nat) (f : Group → Group) : (s.modGroup k f).excRates = s.excRates := rfl
@[simp] theorem State.modGroup_decode (s : State) (k : Nat) (f : Group → Group) : (s.modGroup k f).decode = s.decode := rfl
@[simp] theorem State.modGroup_opResident (s : State) (k : Nat) (f : Group → Group) : (s.modGroup k f).opResident = s.opResident := rfl
@[simp] theorem State.modGroup_launch (s : State) (k : Nat) (f : Group → Group) : (s.modGroup k f).launch = s.launch := rfl
@[simp] theorem State.modGroup_crossings (s : State) (k : Nat) (f : Group → Group) : (s.modGroup k f).crossings = s.crossings := rfl
@[simp] theorem State.modGroup_ports (s : State) (k : Nat) (f : Group → Group) : (s.modGroup k f).ports = s.ports := rfl
@[simp] theorem State.modGroup_insts (s : State) (k : Nat) (f : Group → Group) : (s.modGroup k f).insts = s.insts := rfl
@[simp] theorem State.modGroup_mbxs (s : State) (k : Nat) (f : Group → Group) : (s.modGroup k f).mbxs = s.mbxs := rfl
@[simp] theorem State.modGroup_longOps (s : State) (k : Nat) (f : Group → Group) : (s.modGroup k f).longOps = s.longOps := rfl
@[simp] theorem State.modGroup_opNo (s : State) (k : Nat) (f : Group → Group) : (s.modGroup k f).opNo = s.opNo := rfl
@[simp] theorem State.modGroup_ctxs (s : State) (k : Nat) (f : Group → Group) : (s.modGroup k f).ctxs = s.ctxs := rfl
@[simp] theorem State.modGroup_fw (s : State) (k : Nat) (f : Group → Group) : (s.modGroup k f).fw = s.fw := rfl
@[simp] theorem State.modGroup_faultLog (s : State) (k : Nat) (f : Group → Group) : (s.modGroup k f).faultLog = s.faultLog := rfl
@[simp] theorem State.modGroup_tiles (s : State) (k : Nat) (f : Group → Group) : (s.modGroup k f).tiles = s.tiles := rfl
@[simp] theorem State.modGroup_mesh (s : State) (k : Nat) (f : Group → Group) : (s.modGroup k f).mesh = s.mesh := rfl
@[simp] theorem State.modGroup_models (s : State) (k : Nat) (f : Group → Group) : (s.modGroup k f).models = s.models := rfl
@[simp] theorem State.modGroup_sessions (s : State) (k : Nat) (f : Group → Group) : (s.modGroup k f).sessions = s.sessions := rfl
@[simp] theorem State.modGroup_cores (s : State) (k : Nat) (f : Group → Group) : (s.modGroup k f).cores = s.cores := rfl
@[simp] theorem State.modGroup_reserve (s : State) (k : Nat) (f : Group → Group) : (s.modGroup k f).reserve = s.reserve := rfl
@[simp] theorem State.modGroup_dram (s : State) (k : Nat) (f : Group → Group) : (s.modGroup k f).dram = s.dram := rfl
@[simp] theorem State.modGroup_link (s : State) (k : Nat) (f : Group → Group) : (s.modGroup k f).link = s.link := rfl
@[simp] theorem State.modGroup_ckp (s : State) (k : Nat) (f : Group → Group) : (s.modGroup k f).ckp = s.ckp := rfl
@[simp] theorem State.modGroup_stor (s : State) (k : Nat) (f : Group → Group) : (s.modGroup k f).stor = s.stor := rfl
@[simp] theorem State.modGroup_pkt (s : State) (k : Nat) (f : Group → Group) : (s.modGroup k f).pkt = s.pkt := rfl
@[simp] theorem State.modGroup_sec (s : State) (k : Nat) (f : Group → Group) : (s.modGroup k f).sec = s.sec := rfl
@[simp] theorem State.modGroup_mon (s : State) (k : Nat) (f : Group → Group) : (s.modGroup k f).mon = s.mon := rfl
@[simp] theorem State.modGroup_jtag (s : State) (k : Nat) (f : Group → Group) : (s.modGroup k f).jtag = s.jtag := rfl
@[simp] theorem State.modGroup_mgmt (s : State) (k : Nat) (f : Group → Group) : (s.modGroup k f).mgmt = s.mgmt := rfl
@[simp] theorem State.modGroup_emitted (s : State) (k : Nat) (f : Group → Group) : (s.modGroup k f).emitted = s.emitted := rfl
@[simp] theorem State.modGroup_free (s : State) (k : Nat) (f : Group → Group) : (s.modGroup k f).free = s.free := rfl
@[simp] theorem State.modGroup_time (s : State) (k : Nat) (f : Group → Group) : (s.modGroup k f).time = s.time := rfl
@[simp] theorem State.modGroup_pending (s : State) (k : Nat) (f : Group → Group) : (s.modGroup k f).pending = s.pending := rfl

@[simp] theorem State.modCore_clk (s : State) (k : Nat) (f : Core → Core) : (s.modCore k f).clk = s.clk := rfl
@[simp] theorem State.modCore_power (s : State) (k : Nat) (f : Core → Core) : (s.modCore k f).power = s.power := rfl
@[simp] theorem State.modCore_fuses (s : State) (k : Nat) (f : Core → Core) : (s.modCore k f).fuses = s.fuses := rfl
@[simp] theorem State.modCore_boot (s : State) (k : Nat) (f : Core → Core) : (s.modCore k f).boot = s.boot := rfl
@[simp] theorem State.modCore_units (s : State) (k : Nat) (f : Core → Core) : (s.modCore k f).units = s.units := rfl
@[simp] theorem State.modCore_tracker (s : State) (k : Nat) (f : Core → Core) : (s.modCore k f).tracker = s.tracker := rfl
@[simp] theorem State.modCore_vio (s : State) (k : Nat) (f : Core → Core) : (s.modCore k f).vio = s.vio := rfl
@[simp] theorem State.modCore_parts (s : State) (k : Nat) (f : Core → Core) : (s.modCore k f).parts = s.parts := rfl
@[simp] theorem State.modCore_excRates (s : State) (k : Nat) (f : Core → Core) : (s.modCore k f).excRates = s.excRates := rfl
@[simp] theorem State.modCore_decode (s : State) (k : Nat) (f : Core → Core) : (s.modCore k f).decode = s.decode := rfl
@[simp] theorem State.modCore_opResident (s : State) (k : Nat) (f : Core → Core) : (s.modCore k f).opResident = s.opResident := rfl
@[simp] theorem State.modCore_launch (s : State) (k : Nat) (f : Core → Core) : (s.modCore k f).launch = s.launch := rfl
@[simp] theorem State.modCore_crossings (s : State) (k : Nat) (f : Core → Core) : (s.modCore k f).crossings = s.crossings := rfl
@[simp] theorem State.modCore_ports (s : State) (k : Nat) (f : Core → Core) : (s.modCore k f).ports = s.ports := rfl
@[simp] theorem State.modCore_insts (s : State) (k : Nat) (f : Core → Core) : (s.modCore k f).insts = s.insts := rfl
@[simp] theorem State.modCore_mbxs (s : State) (k : Nat) (f : Core → Core) : (s.modCore k f).mbxs = s.mbxs := rfl
@[simp] theorem State.modCore_longOps (s : State) (k : Nat) (f : Core → Core) : (s.modCore k f).longOps = s.longOps := rfl
@[simp] theorem State.modCore_opNo (s : State) (k : Nat) (f : Core → Core) : (s.modCore k f).opNo = s.opNo := rfl
@[simp] theorem State.modCore_ctxs (s : State) (k : Nat) (f : Core → Core) : (s.modCore k f).ctxs = s.ctxs := rfl
@[simp] theorem State.modCore_fw (s : State) (k : Nat) (f : Core → Core) : (s.modCore k f).fw = s.fw := rfl
@[simp] theorem State.modCore_faultLog (s : State) (k : Nat) (f : Core → Core) : (s.modCore k f).faultLog = s.faultLog := rfl
@[simp] theorem State.modCore_tiles (s : State) (k : Nat) (f : Core → Core) : (s.modCore k f).tiles = s.tiles := rfl
@[simp] theorem State.modCore_groups (s : State) (k : Nat) (f : Core → Core) : (s.modCore k f).groups = s.groups := rfl
@[simp] theorem State.modCore_mesh (s : State) (k : Nat) (f : Core → Core) : (s.modCore k f).mesh = s.mesh := rfl
@[simp] theorem State.modCore_models (s : State) (k : Nat) (f : Core → Core) : (s.modCore k f).models = s.models := rfl
@[simp] theorem State.modCore_sessions (s : State) (k : Nat) (f : Core → Core) : (s.modCore k f).sessions = s.sessions := rfl
@[simp] theorem State.modCore_reserve (s : State) (k : Nat) (f : Core → Core) : (s.modCore k f).reserve = s.reserve := rfl
@[simp] theorem State.modCore_dram (s : State) (k : Nat) (f : Core → Core) : (s.modCore k f).dram = s.dram := rfl
@[simp] theorem State.modCore_link (s : State) (k : Nat) (f : Core → Core) : (s.modCore k f).link = s.link := rfl
@[simp] theorem State.modCore_ckp (s : State) (k : Nat) (f : Core → Core) : (s.modCore k f).ckp = s.ckp := rfl
@[simp] theorem State.modCore_stor (s : State) (k : Nat) (f : Core → Core) : (s.modCore k f).stor = s.stor := rfl
@[simp] theorem State.modCore_pkt (s : State) (k : Nat) (f : Core → Core) : (s.modCore k f).pkt = s.pkt := rfl
@[simp] theorem State.modCore_sec (s : State) (k : Nat) (f : Core → Core) : (s.modCore k f).sec = s.sec := rfl
@[simp] theorem State.modCore_mon (s : State) (k : Nat) (f : Core → Core) : (s.modCore k f).mon = s.mon := rfl
@[simp] theorem State.modCore_jtag (s : State) (k : Nat) (f : Core → Core) : (s.modCore k f).jtag = s.jtag := rfl
@[simp] theorem State.modCore_mgmt (s : State) (k : Nat) (f : Core → Core) : (s.modCore k f).mgmt = s.mgmt := rfl
@[simp] theorem State.modCore_emitted (s : State) (k : Nat) (f : Core → Core) : (s.modCore k f).emitted = s.emitted := rfl
@[simp] theorem State.modCore_free (s : State) (k : Nat) (f : Core → Core) : (s.modCore k f).free = s.free := rfl
@[simp] theorem State.modCore_time (s : State) (k : Nat) (f : Core → Core) : (s.modCore k f).time = s.time := rfl
@[simp] theorem State.modCore_pending (s : State) (k : Nat) (f : Core → Core) : (s.modCore k f).pending = s.pending := rfl

@[simp] theorem State.modSession_clk (s : State) (k : Nat) (f : YewSession → YewSession) : (s.modSession k f).clk = s.clk := rfl
@[simp] theorem State.modSession_power (s : State) (k : Nat) (f : YewSession → YewSession) : (s.modSession k f).power = s.power := rfl
@[simp] theorem State.modSession_fuses (s : State) (k : Nat) (f : YewSession → YewSession) : (s.modSession k f).fuses = s.fuses := rfl
@[simp] theorem State.modSession_boot (s : State) (k : Nat) (f : YewSession → YewSession) : (s.modSession k f).boot = s.boot := rfl
@[simp] theorem State.modSession_units (s : State) (k : Nat) (f : YewSession → YewSession) : (s.modSession k f).units = s.units := rfl
@[simp] theorem State.modSession_tracker (s : State) (k : Nat) (f : YewSession → YewSession) : (s.modSession k f).tracker = s.tracker := rfl
@[simp] theorem State.modSession_vio (s : State) (k : Nat) (f : YewSession → YewSession) : (s.modSession k f).vio = s.vio := rfl
@[simp] theorem State.modSession_parts (s : State) (k : Nat) (f : YewSession → YewSession) : (s.modSession k f).parts = s.parts := rfl
@[simp] theorem State.modSession_excRates (s : State) (k : Nat) (f : YewSession → YewSession) : (s.modSession k f).excRates = s.excRates := rfl
@[simp] theorem State.modSession_decode (s : State) (k : Nat) (f : YewSession → YewSession) : (s.modSession k f).decode = s.decode := rfl
@[simp] theorem State.modSession_opResident (s : State) (k : Nat) (f : YewSession → YewSession) : (s.modSession k f).opResident = s.opResident := rfl
@[simp] theorem State.modSession_launch (s : State) (k : Nat) (f : YewSession → YewSession) : (s.modSession k f).launch = s.launch := rfl
@[simp] theorem State.modSession_crossings (s : State) (k : Nat) (f : YewSession → YewSession) : (s.modSession k f).crossings = s.crossings := rfl
@[simp] theorem State.modSession_ports (s : State) (k : Nat) (f : YewSession → YewSession) : (s.modSession k f).ports = s.ports := rfl
@[simp] theorem State.modSession_insts (s : State) (k : Nat) (f : YewSession → YewSession) : (s.modSession k f).insts = s.insts := rfl
@[simp] theorem State.modSession_mbxs (s : State) (k : Nat) (f : YewSession → YewSession) : (s.modSession k f).mbxs = s.mbxs := rfl
@[simp] theorem State.modSession_longOps (s : State) (k : Nat) (f : YewSession → YewSession) : (s.modSession k f).longOps = s.longOps := rfl
@[simp] theorem State.modSession_opNo (s : State) (k : Nat) (f : YewSession → YewSession) : (s.modSession k f).opNo = s.opNo := rfl
@[simp] theorem State.modSession_ctxs (s : State) (k : Nat) (f : YewSession → YewSession) : (s.modSession k f).ctxs = s.ctxs := rfl
@[simp] theorem State.modSession_fw (s : State) (k : Nat) (f : YewSession → YewSession) : (s.modSession k f).fw = s.fw := rfl
@[simp] theorem State.modSession_faultLog (s : State) (k : Nat) (f : YewSession → YewSession) : (s.modSession k f).faultLog = s.faultLog := rfl
@[simp] theorem State.modSession_tiles (s : State) (k : Nat) (f : YewSession → YewSession) : (s.modSession k f).tiles = s.tiles := rfl
@[simp] theorem State.modSession_groups (s : State) (k : Nat) (f : YewSession → YewSession) : (s.modSession k f).groups = s.groups := rfl
@[simp] theorem State.modSession_mesh (s : State) (k : Nat) (f : YewSession → YewSession) : (s.modSession k f).mesh = s.mesh := rfl
@[simp] theorem State.modSession_models (s : State) (k : Nat) (f : YewSession → YewSession) : (s.modSession k f).models = s.models := rfl
@[simp] theorem State.modSession_cores (s : State) (k : Nat) (f : YewSession → YewSession) : (s.modSession k f).cores = s.cores := rfl
@[simp] theorem State.modSession_reserve (s : State) (k : Nat) (f : YewSession → YewSession) : (s.modSession k f).reserve = s.reserve := rfl
@[simp] theorem State.modSession_dram (s : State) (k : Nat) (f : YewSession → YewSession) : (s.modSession k f).dram = s.dram := rfl
@[simp] theorem State.modSession_link (s : State) (k : Nat) (f : YewSession → YewSession) : (s.modSession k f).link = s.link := rfl
@[simp] theorem State.modSession_ckp (s : State) (k : Nat) (f : YewSession → YewSession) : (s.modSession k f).ckp = s.ckp := rfl
@[simp] theorem State.modSession_stor (s : State) (k : Nat) (f : YewSession → YewSession) : (s.modSession k f).stor = s.stor := rfl
@[simp] theorem State.modSession_pkt (s : State) (k : Nat) (f : YewSession → YewSession) : (s.modSession k f).pkt = s.pkt := rfl
@[simp] theorem State.modSession_sec (s : State) (k : Nat) (f : YewSession → YewSession) : (s.modSession k f).sec = s.sec := rfl
@[simp] theorem State.modSession_mon (s : State) (k : Nat) (f : YewSession → YewSession) : (s.modSession k f).mon = s.mon := rfl
@[simp] theorem State.modSession_jtag (s : State) (k : Nat) (f : YewSession → YewSession) : (s.modSession k f).jtag = s.jtag := rfl
@[simp] theorem State.modSession_mgmt (s : State) (k : Nat) (f : YewSession → YewSession) : (s.modSession k f).mgmt = s.mgmt := rfl
@[simp] theorem State.modSession_emitted (s : State) (k : Nat) (f : YewSession → YewSession) : (s.modSession k f).emitted = s.emitted := rfl
@[simp] theorem State.modSession_free (s : State) (k : Nat) (f : YewSession → YewSession) : (s.modSession k f).free = s.free := rfl
@[simp] theorem State.modSession_time (s : State) (k : Nat) (f : YewSession → YewSession) : (s.modSession k f).time = s.time := rfl
@[simp] theorem State.modSession_pending (s : State) (k : Nat) (f : YewSession → YewSession) : (s.modSession k f).pending = s.pending := rfl

@[simp] theorem State.modZal_clk (s : State) (k : Nat) (f : ZalPort → ZalPort) : (s.modZal k f).clk = s.clk := rfl
@[simp] theorem State.modZal_power (s : State) (k : Nat) (f : ZalPort → ZalPort) : (s.modZal k f).power = s.power := rfl
@[simp] theorem State.modZal_fuses (s : State) (k : Nat) (f : ZalPort → ZalPort) : (s.modZal k f).fuses = s.fuses := rfl
@[simp] theorem State.modZal_boot (s : State) (k : Nat) (f : ZalPort → ZalPort) : (s.modZal k f).boot = s.boot := rfl
@[simp] theorem State.modZal_units (s : State) (k : Nat) (f : ZalPort → ZalPort) : (s.modZal k f).units = s.units := rfl
@[simp] theorem State.modZal_tracker (s : State) (k : Nat) (f : ZalPort → ZalPort) : (s.modZal k f).tracker = s.tracker := rfl
@[simp] theorem State.modZal_vio (s : State) (k : Nat) (f : ZalPort → ZalPort) : (s.modZal k f).vio = s.vio := rfl
@[simp] theorem State.modZal_parts (s : State) (k : Nat) (f : ZalPort → ZalPort) : (s.modZal k f).parts = s.parts := rfl
@[simp] theorem State.modZal_excRates (s : State) (k : Nat) (f : ZalPort → ZalPort) : (s.modZal k f).excRates = s.excRates := rfl
@[simp] theorem State.modZal_decode (s : State) (k : Nat) (f : ZalPort → ZalPort) : (s.modZal k f).decode = s.decode := rfl
@[simp] theorem State.modZal_opResident (s : State) (k : Nat) (f : ZalPort → ZalPort) : (s.modZal k f).opResident = s.opResident := rfl
@[simp] theorem State.modZal_launch (s : State) (k : Nat) (f : ZalPort → ZalPort) : (s.modZal k f).launch = s.launch := rfl
@[simp] theorem State.modZal_crossings (s : State) (k : Nat) (f : ZalPort → ZalPort) : (s.modZal k f).crossings = s.crossings := rfl
@[simp] theorem State.modZal_ports (s : State) (k : Nat) (f : ZalPort → ZalPort) : (s.modZal k f).ports = s.ports := rfl
@[simp] theorem State.modZal_insts (s : State) (k : Nat) (f : ZalPort → ZalPort) : (s.modZal k f).insts = s.insts := rfl
@[simp] theorem State.modZal_mbxs (s : State) (k : Nat) (f : ZalPort → ZalPort) : (s.modZal k f).mbxs = s.mbxs := rfl
@[simp] theorem State.modZal_longOps (s : State) (k : Nat) (f : ZalPort → ZalPort) : (s.modZal k f).longOps = s.longOps := rfl
@[simp] theorem State.modZal_opNo (s : State) (k : Nat) (f : ZalPort → ZalPort) : (s.modZal k f).opNo = s.opNo := rfl
@[simp] theorem State.modZal_ctxs (s : State) (k : Nat) (f : ZalPort → ZalPort) : (s.modZal k f).ctxs = s.ctxs := rfl
@[simp] theorem State.modZal_fw (s : State) (k : Nat) (f : ZalPort → ZalPort) : (s.modZal k f).fw = s.fw := rfl
@[simp] theorem State.modZal_faultLog (s : State) (k : Nat) (f : ZalPort → ZalPort) : (s.modZal k f).faultLog = s.faultLog := rfl
@[simp] theorem State.modZal_tiles (s : State) (k : Nat) (f : ZalPort → ZalPort) : (s.modZal k f).tiles = s.tiles := rfl
@[simp] theorem State.modZal_groups (s : State) (k : Nat) (f : ZalPort → ZalPort) : (s.modZal k f).groups = s.groups := rfl
@[simp] theorem State.modZal_mesh (s : State) (k : Nat) (f : ZalPort → ZalPort) : (s.modZal k f).mesh = s.mesh := rfl
@[simp] theorem State.modZal_models (s : State) (k : Nat) (f : ZalPort → ZalPort) : (s.modZal k f).models = s.models := rfl
@[simp] theorem State.modZal_sessions (s : State) (k : Nat) (f : ZalPort → ZalPort) : (s.modZal k f).sessions = s.sessions := rfl
@[simp] theorem State.modZal_cores (s : State) (k : Nat) (f : ZalPort → ZalPort) : (s.modZal k f).cores = s.cores := rfl
@[simp] theorem State.modZal_reserve (s : State) (k : Nat) (f : ZalPort → ZalPort) : (s.modZal k f).reserve = s.reserve := rfl
@[simp] theorem State.modZal_dram (s : State) (k : Nat) (f : ZalPort → ZalPort) : (s.modZal k f).dram = s.dram := rfl
@[simp] theorem State.modZal_ckp (s : State) (k : Nat) (f : ZalPort → ZalPort) : (s.modZal k f).ckp = s.ckp := rfl
@[simp] theorem State.modZal_stor (s : State) (k : Nat) (f : ZalPort → ZalPort) : (s.modZal k f).stor = s.stor := rfl
@[simp] theorem State.modZal_pkt (s : State) (k : Nat) (f : ZalPort → ZalPort) : (s.modZal k f).pkt = s.pkt := rfl
@[simp] theorem State.modZal_sec (s : State) (k : Nat) (f : ZalPort → ZalPort) : (s.modZal k f).sec = s.sec := rfl
@[simp] theorem State.modZal_mon (s : State) (k : Nat) (f : ZalPort → ZalPort) : (s.modZal k f).mon = s.mon := rfl
@[simp] theorem State.modZal_jtag (s : State) (k : Nat) (f : ZalPort → ZalPort) : (s.modZal k f).jtag = s.jtag := rfl
@[simp] theorem State.modZal_mgmt (s : State) (k : Nat) (f : ZalPort → ZalPort) : (s.modZal k f).mgmt = s.mgmt := rfl
@[simp] theorem State.modZal_emitted (s : State) (k : Nat) (f : ZalPort → ZalPort) : (s.modZal k f).emitted = s.emitted := rfl
@[simp] theorem State.modZal_free (s : State) (k : Nat) (f : ZalPort → ZalPort) : (s.modZal k f).free = s.free := rfl
@[simp] theorem State.modZal_time (s : State) (k : Nat) (f : ZalPort → ZalPort) : (s.modZal k f).time = s.time := rfl
@[simp] theorem State.modZal_pending (s : State) (k : Nat) (f : ZalPort → ZalPort) : (s.modZal k f).pending = s.pending := rfl

@[simp] theorem State.modEth_clk (s : State) (k : Nat) (f : EthPort → EthPort) : (s.modEth k f).clk = s.clk := rfl
@[simp] theorem State.modEth_power (s : State) (k : Nat) (f : EthPort → EthPort) : (s.modEth k f).power = s.power := rfl
@[simp] theorem State.modEth_fuses (s : State) (k : Nat) (f : EthPort → EthPort) : (s.modEth k f).fuses = s.fuses := rfl
@[simp] theorem State.modEth_boot (s : State) (k : Nat) (f : EthPort → EthPort) : (s.modEth k f).boot = s.boot := rfl
@[simp] theorem State.modEth_units (s : State) (k : Nat) (f : EthPort → EthPort) : (s.modEth k f).units = s.units := rfl
@[simp] theorem State.modEth_tracker (s : State) (k : Nat) (f : EthPort → EthPort) : (s.modEth k f).tracker = s.tracker := rfl
@[simp] theorem State.modEth_vio (s : State) (k : Nat) (f : EthPort → EthPort) : (s.modEth k f).vio = s.vio := rfl
@[simp] theorem State.modEth_parts (s : State) (k : Nat) (f : EthPort → EthPort) : (s.modEth k f).parts = s.parts := rfl
@[simp] theorem State.modEth_excRates (s : State) (k : Nat) (f : EthPort → EthPort) : (s.modEth k f).excRates = s.excRates := rfl
@[simp] theorem State.modEth_decode (s : State) (k : Nat) (f : EthPort → EthPort) : (s.modEth k f).decode = s.decode := rfl
@[simp] theorem State.modEth_opResident (s : State) (k : Nat) (f : EthPort → EthPort) : (s.modEth k f).opResident = s.opResident := rfl
@[simp] theorem State.modEth_launch (s : State) (k : Nat) (f : EthPort → EthPort) : (s.modEth k f).launch = s.launch := rfl
@[simp] theorem State.modEth_crossings (s : State) (k : Nat) (f : EthPort → EthPort) : (s.modEth k f).crossings = s.crossings := rfl
@[simp] theorem State.modEth_ports (s : State) (k : Nat) (f : EthPort → EthPort) : (s.modEth k f).ports = s.ports := rfl
@[simp] theorem State.modEth_insts (s : State) (k : Nat) (f : EthPort → EthPort) : (s.modEth k f).insts = s.insts := rfl
@[simp] theorem State.modEth_mbxs (s : State) (k : Nat) (f : EthPort → EthPort) : (s.modEth k f).mbxs = s.mbxs := rfl
@[simp] theorem State.modEth_longOps (s : State) (k : Nat) (f : EthPort → EthPort) : (s.modEth k f).longOps = s.longOps := rfl
@[simp] theorem State.modEth_opNo (s : State) (k : Nat) (f : EthPort → EthPort) : (s.modEth k f).opNo = s.opNo := rfl
@[simp] theorem State.modEth_ctxs (s : State) (k : Nat) (f : EthPort → EthPort) : (s.modEth k f).ctxs = s.ctxs := rfl
@[simp] theorem State.modEth_fw (s : State) (k : Nat) (f : EthPort → EthPort) : (s.modEth k f).fw = s.fw := rfl
@[simp] theorem State.modEth_faultLog (s : State) (k : Nat) (f : EthPort → EthPort) : (s.modEth k f).faultLog = s.faultLog := rfl
@[simp] theorem State.modEth_tiles (s : State) (k : Nat) (f : EthPort → EthPort) : (s.modEth k f).tiles = s.tiles := rfl
@[simp] theorem State.modEth_groups (s : State) (k : Nat) (f : EthPort → EthPort) : (s.modEth k f).groups = s.groups := rfl
@[simp] theorem State.modEth_mesh (s : State) (k : Nat) (f : EthPort → EthPort) : (s.modEth k f).mesh = s.mesh := rfl
@[simp] theorem State.modEth_models (s : State) (k : Nat) (f : EthPort → EthPort) : (s.modEth k f).models = s.models := rfl
@[simp] theorem State.modEth_sessions (s : State) (k : Nat) (f : EthPort → EthPort) : (s.modEth k f).sessions = s.sessions := rfl
@[simp] theorem State.modEth_cores (s : State) (k : Nat) (f : EthPort → EthPort) : (s.modEth k f).cores = s.cores := rfl
@[simp] theorem State.modEth_reserve (s : State) (k : Nat) (f : EthPort → EthPort) : (s.modEth k f).reserve = s.reserve := rfl
@[simp] theorem State.modEth_dram (s : State) (k : Nat) (f : EthPort → EthPort) : (s.modEth k f).dram = s.dram := rfl
@[simp] theorem State.modEth_link (s : State) (k : Nat) (f : EthPort → EthPort) : (s.modEth k f).link = s.link := rfl
@[simp] theorem State.modEth_ckp (s : State) (k : Nat) (f : EthPort → EthPort) : (s.modEth k f).ckp = s.ckp := rfl
@[simp] theorem State.modEth_stor (s : State) (k : Nat) (f : EthPort → EthPort) : (s.modEth k f).stor = s.stor := rfl
@[simp] theorem State.modEth_sec (s : State) (k : Nat) (f : EthPort → EthPort) : (s.modEth k f).sec = s.sec := rfl
@[simp] theorem State.modEth_mon (s : State) (k : Nat) (f : EthPort → EthPort) : (s.modEth k f).mon = s.mon := rfl
@[simp] theorem State.modEth_jtag (s : State) (k : Nat) (f : EthPort → EthPort) : (s.modEth k f).jtag = s.jtag := rfl
@[simp] theorem State.modEth_mgmt (s : State) (k : Nat) (f : EthPort → EthPort) : (s.modEth k f).mgmt = s.mgmt := rfl
@[simp] theorem State.modEth_emitted (s : State) (k : Nat) (f : EthPort → EthPort) : (s.modEth k f).emitted = s.emitted := rfl
@[simp] theorem State.modEth_free (s : State) (k : Nat) (f : EthPort → EthPort) : (s.modEth k f).free = s.free := rfl
@[simp] theorem State.modEth_time (s : State) (k : Nat) (f : EthPort → EthPort) : (s.modEth k f).time = s.time := rfl
@[simp] theorem State.modEth_pending (s : State) (k : Nat) (f : EthPort → EthPort) : (s.modEth k f).pending = s.pending := rfl

@[simp] theorem State.modStack_clk (s : State) (k : Nat) (f : Stack → Stack) : (s.modStack k f).clk = s.clk := rfl
@[simp] theorem State.modStack_power (s : State) (k : Nat) (f : Stack → Stack) : (s.modStack k f).power = s.power := rfl
@[simp] theorem State.modStack_fuses (s : State) (k : Nat) (f : Stack → Stack) : (s.modStack k f).fuses = s.fuses := rfl
@[simp] theorem State.modStack_boot (s : State) (k : Nat) (f : Stack → Stack) : (s.modStack k f).boot = s.boot := rfl
@[simp] theorem State.modStack_units (s : State) (k : Nat) (f : Stack → Stack) : (s.modStack k f).units = s.units := rfl
@[simp] theorem State.modStack_tracker (s : State) (k : Nat) (f : Stack → Stack) : (s.modStack k f).tracker = s.tracker := rfl
@[simp] theorem State.modStack_vio (s : State) (k : Nat) (f : Stack → Stack) : (s.modStack k f).vio = s.vio := rfl
@[simp] theorem State.modStack_parts (s : State) (k : Nat) (f : Stack → Stack) : (s.modStack k f).parts = s.parts := rfl
@[simp] theorem State.modStack_excRates (s : State) (k : Nat) (f : Stack → Stack) : (s.modStack k f).excRates = s.excRates := rfl
@[simp] theorem State.modStack_decode (s : State) (k : Nat) (f : Stack → Stack) : (s.modStack k f).decode = s.decode := rfl
@[simp] theorem State.modStack_opResident (s : State) (k : Nat) (f : Stack → Stack) : (s.modStack k f).opResident = s.opResident := rfl
@[simp] theorem State.modStack_launch (s : State) (k : Nat) (f : Stack → Stack) : (s.modStack k f).launch = s.launch := rfl
@[simp] theorem State.modStack_crossings (s : State) (k : Nat) (f : Stack → Stack) : (s.modStack k f).crossings = s.crossings := rfl
@[simp] theorem State.modStack_ports (s : State) (k : Nat) (f : Stack → Stack) : (s.modStack k f).ports = s.ports := rfl
@[simp] theorem State.modStack_insts (s : State) (k : Nat) (f : Stack → Stack) : (s.modStack k f).insts = s.insts := rfl
@[simp] theorem State.modStack_mbxs (s : State) (k : Nat) (f : Stack → Stack) : (s.modStack k f).mbxs = s.mbxs := rfl
@[simp] theorem State.modStack_longOps (s : State) (k : Nat) (f : Stack → Stack) : (s.modStack k f).longOps = s.longOps := rfl
@[simp] theorem State.modStack_opNo (s : State) (k : Nat) (f : Stack → Stack) : (s.modStack k f).opNo = s.opNo := rfl
@[simp] theorem State.modStack_ctxs (s : State) (k : Nat) (f : Stack → Stack) : (s.modStack k f).ctxs = s.ctxs := rfl
@[simp] theorem State.modStack_fw (s : State) (k : Nat) (f : Stack → Stack) : (s.modStack k f).fw = s.fw := rfl
@[simp] theorem State.modStack_faultLog (s : State) (k : Nat) (f : Stack → Stack) : (s.modStack k f).faultLog = s.faultLog := rfl
@[simp] theorem State.modStack_tiles (s : State) (k : Nat) (f : Stack → Stack) : (s.modStack k f).tiles = s.tiles := rfl
@[simp] theorem State.modStack_groups (s : State) (k : Nat) (f : Stack → Stack) : (s.modStack k f).groups = s.groups := rfl
@[simp] theorem State.modStack_mesh (s : State) (k : Nat) (f : Stack → Stack) : (s.modStack k f).mesh = s.mesh := rfl
@[simp] theorem State.modStack_models (s : State) (k : Nat) (f : Stack → Stack) : (s.modStack k f).models = s.models := rfl
@[simp] theorem State.modStack_sessions (s : State) (k : Nat) (f : Stack → Stack) : (s.modStack k f).sessions = s.sessions := rfl
@[simp] theorem State.modStack_cores (s : State) (k : Nat) (f : Stack → Stack) : (s.modStack k f).cores = s.cores := rfl
@[simp] theorem State.modStack_reserve (s : State) (k : Nat) (f : Stack → Stack) : (s.modStack k f).reserve = s.reserve := rfl
@[simp] theorem State.modStack_link (s : State) (k : Nat) (f : Stack → Stack) : (s.modStack k f).link = s.link := rfl
@[simp] theorem State.modStack_ckp (s : State) (k : Nat) (f : Stack → Stack) : (s.modStack k f).ckp = s.ckp := rfl
@[simp] theorem State.modStack_stor (s : State) (k : Nat) (f : Stack → Stack) : (s.modStack k f).stor = s.stor := rfl
@[simp] theorem State.modStack_pkt (s : State) (k : Nat) (f : Stack → Stack) : (s.modStack k f).pkt = s.pkt := rfl
@[simp] theorem State.modStack_sec (s : State) (k : Nat) (f : Stack → Stack) : (s.modStack k f).sec = s.sec := rfl
@[simp] theorem State.modStack_mon (s : State) (k : Nat) (f : Stack → Stack) : (s.modStack k f).mon = s.mon := rfl
@[simp] theorem State.modStack_jtag (s : State) (k : Nat) (f : Stack → Stack) : (s.modStack k f).jtag = s.jtag := rfl
@[simp] theorem State.modStack_mgmt (s : State) (k : Nat) (f : Stack → Stack) : (s.modStack k f).mgmt = s.mgmt := rfl
@[simp] theorem State.modStack_emitted (s : State) (k : Nat) (f : Stack → Stack) : (s.modStack k f).emitted = s.emitted := rfl
@[simp] theorem State.modStack_free (s : State) (k : Nat) (f : Stack → Stack) : (s.modStack k f).free = s.free := rfl
@[simp] theorem State.modStack_time (s : State) (k : Nat) (f : Stack → Stack) : (s.modStack k f).time = s.time := rfl
@[simp] theorem State.modStack_pending (s : State) (k : Nat) (f : Stack → Stack) : (s.modStack k f).pending = s.pending := rfl

@[simp] theorem State.modDram_clk (s : State) (f : Dram → Dram) : (s.modDram f).clk = s.clk := rfl
@[simp] theorem State.modDram_power (s : State) (f : Dram → Dram) : (s.modDram f).power = s.power := rfl
@[simp] theorem State.modDram_fuses (s : State) (f : Dram → Dram) : (s.modDram f).fuses = s.fuses := rfl
@[simp] theorem State.modDram_boot (s : State) (f : Dram → Dram) : (s.modDram f).boot = s.boot := rfl
@[simp] theorem State.modDram_units (s : State) (f : Dram → Dram) : (s.modDram f).units = s.units := rfl
@[simp] theorem State.modDram_tracker (s : State) (f : Dram → Dram) : (s.modDram f).tracker = s.tracker := rfl
@[simp] theorem State.modDram_vio (s : State) (f : Dram → Dram) : (s.modDram f).vio = s.vio := rfl
@[simp] theorem State.modDram_parts (s : State) (f : Dram → Dram) : (s.modDram f).parts = s.parts := rfl
@[simp] theorem State.modDram_excRates (s : State) (f : Dram → Dram) : (s.modDram f).excRates = s.excRates := rfl
@[simp] theorem State.modDram_decode (s : State) (f : Dram → Dram) : (s.modDram f).decode = s.decode := rfl
@[simp] theorem State.modDram_opResident (s : State) (f : Dram → Dram) : (s.modDram f).opResident = s.opResident := rfl
@[simp] theorem State.modDram_launch (s : State) (f : Dram → Dram) : (s.modDram f).launch = s.launch := rfl
@[simp] theorem State.modDram_crossings (s : State) (f : Dram → Dram) : (s.modDram f).crossings = s.crossings := rfl
@[simp] theorem State.modDram_ports (s : State) (f : Dram → Dram) : (s.modDram f).ports = s.ports := rfl
@[simp] theorem State.modDram_insts (s : State) (f : Dram → Dram) : (s.modDram f).insts = s.insts := rfl
@[simp] theorem State.modDram_mbxs (s : State) (f : Dram → Dram) : (s.modDram f).mbxs = s.mbxs := rfl
@[simp] theorem State.modDram_longOps (s : State) (f : Dram → Dram) : (s.modDram f).longOps = s.longOps := rfl
@[simp] theorem State.modDram_opNo (s : State) (f : Dram → Dram) : (s.modDram f).opNo = s.opNo := rfl
@[simp] theorem State.modDram_ctxs (s : State) (f : Dram → Dram) : (s.modDram f).ctxs = s.ctxs := rfl
@[simp] theorem State.modDram_fw (s : State) (f : Dram → Dram) : (s.modDram f).fw = s.fw := rfl
@[simp] theorem State.modDram_faultLog (s : State) (f : Dram → Dram) : (s.modDram f).faultLog = s.faultLog := rfl
@[simp] theorem State.modDram_tiles (s : State) (f : Dram → Dram) : (s.modDram f).tiles = s.tiles := rfl
@[simp] theorem State.modDram_groups (s : State) (f : Dram → Dram) : (s.modDram f).groups = s.groups := rfl
@[simp] theorem State.modDram_mesh (s : State) (f : Dram → Dram) : (s.modDram f).mesh = s.mesh := rfl
@[simp] theorem State.modDram_models (s : State) (f : Dram → Dram) : (s.modDram f).models = s.models := rfl
@[simp] theorem State.modDram_sessions (s : State) (f : Dram → Dram) : (s.modDram f).sessions = s.sessions := rfl
@[simp] theorem State.modDram_cores (s : State) (f : Dram → Dram) : (s.modDram f).cores = s.cores := rfl
@[simp] theorem State.modDram_reserve (s : State) (f : Dram → Dram) : (s.modDram f).reserve = s.reserve := rfl
@[simp] theorem State.modDram_dram (s : State) (f : Dram → Dram) : (s.modDram f).dram = f s.dram := rfl
@[simp] theorem State.modDram_link (s : State) (f : Dram → Dram) : (s.modDram f).link = s.link := rfl
@[simp] theorem State.modDram_ckp (s : State) (f : Dram → Dram) : (s.modDram f).ckp = s.ckp := rfl
@[simp] theorem State.modDram_stor (s : State) (f : Dram → Dram) : (s.modDram f).stor = s.stor := rfl
@[simp] theorem State.modDram_pkt (s : State) (f : Dram → Dram) : (s.modDram f).pkt = s.pkt := rfl
@[simp] theorem State.modDram_sec (s : State) (f : Dram → Dram) : (s.modDram f).sec = s.sec := rfl
@[simp] theorem State.modDram_mon (s : State) (f : Dram → Dram) : (s.modDram f).mon = s.mon := rfl
@[simp] theorem State.modDram_jtag (s : State) (f : Dram → Dram) : (s.modDram f).jtag = s.jtag := rfl
@[simp] theorem State.modDram_mgmt (s : State) (f : Dram → Dram) : (s.modDram f).mgmt = s.mgmt := rfl
@[simp] theorem State.modDram_emitted (s : State) (f : Dram → Dram) : (s.modDram f).emitted = s.emitted := rfl
@[simp] theorem State.modDram_free (s : State) (f : Dram → Dram) : (s.modDram f).free = s.free := rfl
@[simp] theorem State.modDram_time (s : State) (f : Dram → Dram) : (s.modDram f).time = s.time := rfl
@[simp] theorem State.modDram_pending (s : State) (f : Dram → Dram) : (s.modDram f).pending = s.pending := rfl

@[simp] theorem State.modCkp_clk (s : State) (f : CkpGroup → CkpGroup) : (s.modCkp f).clk = s.clk := rfl
@[simp] theorem State.modCkp_power (s : State) (f : CkpGroup → CkpGroup) : (s.modCkp f).power = s.power := rfl
@[simp] theorem State.modCkp_fuses (s : State) (f : CkpGroup → CkpGroup) : (s.modCkp f).fuses = s.fuses := rfl
@[simp] theorem State.modCkp_boot (s : State) (f : CkpGroup → CkpGroup) : (s.modCkp f).boot = s.boot := rfl
@[simp] theorem State.modCkp_units (s : State) (f : CkpGroup → CkpGroup) : (s.modCkp f).units = s.units := rfl
@[simp] theorem State.modCkp_tracker (s : State) (f : CkpGroup → CkpGroup) : (s.modCkp f).tracker = s.tracker := rfl
@[simp] theorem State.modCkp_vio (s : State) (f : CkpGroup → CkpGroup) : (s.modCkp f).vio = s.vio := rfl
@[simp] theorem State.modCkp_parts (s : State) (f : CkpGroup → CkpGroup) : (s.modCkp f).parts = s.parts := rfl
@[simp] theorem State.modCkp_excRates (s : State) (f : CkpGroup → CkpGroup) : (s.modCkp f).excRates = s.excRates := rfl
@[simp] theorem State.modCkp_decode (s : State) (f : CkpGroup → CkpGroup) : (s.modCkp f).decode = s.decode := rfl
@[simp] theorem State.modCkp_opResident (s : State) (f : CkpGroup → CkpGroup) : (s.modCkp f).opResident = s.opResident := rfl
@[simp] theorem State.modCkp_launch (s : State) (f : CkpGroup → CkpGroup) : (s.modCkp f).launch = s.launch := rfl
@[simp] theorem State.modCkp_crossings (s : State) (f : CkpGroup → CkpGroup) : (s.modCkp f).crossings = s.crossings := rfl
@[simp] theorem State.modCkp_ports (s : State) (f : CkpGroup → CkpGroup) : (s.modCkp f).ports = s.ports := rfl
@[simp] theorem State.modCkp_insts (s : State) (f : CkpGroup → CkpGroup) : (s.modCkp f).insts = s.insts := rfl
@[simp] theorem State.modCkp_mbxs (s : State) (f : CkpGroup → CkpGroup) : (s.modCkp f).mbxs = s.mbxs := rfl
@[simp] theorem State.modCkp_longOps (s : State) (f : CkpGroup → CkpGroup) : (s.modCkp f).longOps = s.longOps := rfl
@[simp] theorem State.modCkp_opNo (s : State) (f : CkpGroup → CkpGroup) : (s.modCkp f).opNo = s.opNo := rfl
@[simp] theorem State.modCkp_ctxs (s : State) (f : CkpGroup → CkpGroup) : (s.modCkp f).ctxs = s.ctxs := rfl
@[simp] theorem State.modCkp_fw (s : State) (f : CkpGroup → CkpGroup) : (s.modCkp f).fw = s.fw := rfl
@[simp] theorem State.modCkp_faultLog (s : State) (f : CkpGroup → CkpGroup) : (s.modCkp f).faultLog = s.faultLog := rfl
@[simp] theorem State.modCkp_tiles (s : State) (f : CkpGroup → CkpGroup) : (s.modCkp f).tiles = s.tiles := rfl
@[simp] theorem State.modCkp_groups (s : State) (f : CkpGroup → CkpGroup) : (s.modCkp f).groups = s.groups := rfl
@[simp] theorem State.modCkp_mesh (s : State) (f : CkpGroup → CkpGroup) : (s.modCkp f).mesh = s.mesh := rfl
@[simp] theorem State.modCkp_models (s : State) (f : CkpGroup → CkpGroup) : (s.modCkp f).models = s.models := rfl
@[simp] theorem State.modCkp_sessions (s : State) (f : CkpGroup → CkpGroup) : (s.modCkp f).sessions = s.sessions := rfl
@[simp] theorem State.modCkp_cores (s : State) (f : CkpGroup → CkpGroup) : (s.modCkp f).cores = s.cores := rfl
@[simp] theorem State.modCkp_reserve (s : State) (f : CkpGroup → CkpGroup) : (s.modCkp f).reserve = s.reserve := rfl
@[simp] theorem State.modCkp_dram (s : State) (f : CkpGroup → CkpGroup) : (s.modCkp f).dram = s.dram := rfl
@[simp] theorem State.modCkp_link (s : State) (f : CkpGroup → CkpGroup) : (s.modCkp f).link = s.link := rfl
@[simp] theorem State.modCkp_ckp (s : State) (f : CkpGroup → CkpGroup) : (s.modCkp f).ckp = s.ckp.map f := rfl
@[simp] theorem State.modCkp_stor (s : State) (f : CkpGroup → CkpGroup) : (s.modCkp f).stor = s.stor := rfl
@[simp] theorem State.modCkp_pkt (s : State) (f : CkpGroup → CkpGroup) : (s.modCkp f).pkt = s.pkt := rfl
@[simp] theorem State.modCkp_sec (s : State) (f : CkpGroup → CkpGroup) : (s.modCkp f).sec = s.sec := rfl
@[simp] theorem State.modCkp_mon (s : State) (f : CkpGroup → CkpGroup) : (s.modCkp f).mon = s.mon := rfl
@[simp] theorem State.modCkp_jtag (s : State) (f : CkpGroup → CkpGroup) : (s.modCkp f).jtag = s.jtag := rfl
@[simp] theorem State.modCkp_mgmt (s : State) (f : CkpGroup → CkpGroup) : (s.modCkp f).mgmt = s.mgmt := rfl
@[simp] theorem State.modCkp_emitted (s : State) (f : CkpGroup → CkpGroup) : (s.modCkp f).emitted = s.emitted := rfl
@[simp] theorem State.modCkp_free (s : State) (f : CkpGroup → CkpGroup) : (s.modCkp f).free = s.free := rfl
@[simp] theorem State.modCkp_time (s : State) (f : CkpGroup → CkpGroup) : (s.modCkp f).time = s.time := rfl
@[simp] theorem State.modCkp_pending (s : State) (f : CkpGroup → CkpGroup) : (s.modCkp f).pending = s.pending := rfl

@[simp] theorem State.modCtrl_clk (s : State) (k : Nat) (f : Controller → Controller) : (s.modCtrl k f).clk = s.clk := rfl
@[simp] theorem State.modCtrl_power (s : State) (k : Nat) (f : Controller → Controller) : (s.modCtrl k f).power = s.power := rfl
@[simp] theorem State.modCtrl_fuses (s : State) (k : Nat) (f : Controller → Controller) : (s.modCtrl k f).fuses = s.fuses := rfl
@[simp] theorem State.modCtrl_boot (s : State) (k : Nat) (f : Controller → Controller) : (s.modCtrl k f).boot = s.boot := rfl
@[simp] theorem State.modCtrl_units (s : State) (k : Nat) (f : Controller → Controller) : (s.modCtrl k f).units = s.units := rfl
@[simp] theorem State.modCtrl_tracker (s : State) (k : Nat) (f : Controller → Controller) : (s.modCtrl k f).tracker = s.tracker := rfl
@[simp] theorem State.modCtrl_vio (s : State) (k : Nat) (f : Controller → Controller) : (s.modCtrl k f).vio = s.vio := rfl
@[simp] theorem State.modCtrl_parts (s : State) (k : Nat) (f : Controller → Controller) : (s.modCtrl k f).parts = s.parts := rfl
@[simp] theorem State.modCtrl_excRates (s : State) (k : Nat) (f : Controller → Controller) : (s.modCtrl k f).excRates = s.excRates := rfl
@[simp] theorem State.modCtrl_decode (s : State) (k : Nat) (f : Controller → Controller) : (s.modCtrl k f).decode = s.decode := rfl
@[simp] theorem State.modCtrl_opResident (s : State) (k : Nat) (f : Controller → Controller) : (s.modCtrl k f).opResident = s.opResident := rfl
@[simp] theorem State.modCtrl_launch (s : State) (k : Nat) (f : Controller → Controller) : (s.modCtrl k f).launch = s.launch := rfl
@[simp] theorem State.modCtrl_crossings (s : State) (k : Nat) (f : Controller → Controller) : (s.modCtrl k f).crossings = s.crossings := rfl
@[simp] theorem State.modCtrl_ports (s : State) (k : Nat) (f : Controller → Controller) : (s.modCtrl k f).ports = s.ports := rfl
@[simp] theorem State.modCtrl_insts (s : State) (k : Nat) (f : Controller → Controller) : (s.modCtrl k f).insts = s.insts := rfl
@[simp] theorem State.modCtrl_mbxs (s : State) (k : Nat) (f : Controller → Controller) : (s.modCtrl k f).mbxs = s.mbxs := rfl
@[simp] theorem State.modCtrl_longOps (s : State) (k : Nat) (f : Controller → Controller) : (s.modCtrl k f).longOps = s.longOps := rfl
@[simp] theorem State.modCtrl_opNo (s : State) (k : Nat) (f : Controller → Controller) : (s.modCtrl k f).opNo = s.opNo := rfl
@[simp] theorem State.modCtrl_ctxs (s : State) (k : Nat) (f : Controller → Controller) : (s.modCtrl k f).ctxs = s.ctxs := rfl
@[simp] theorem State.modCtrl_fw (s : State) (k : Nat) (f : Controller → Controller) : (s.modCtrl k f).fw = s.fw := rfl
@[simp] theorem State.modCtrl_faultLog (s : State) (k : Nat) (f : Controller → Controller) : (s.modCtrl k f).faultLog = s.faultLog := rfl
@[simp] theorem State.modCtrl_tiles (s : State) (k : Nat) (f : Controller → Controller) : (s.modCtrl k f).tiles = s.tiles := rfl
@[simp] theorem State.modCtrl_groups (s : State) (k : Nat) (f : Controller → Controller) : (s.modCtrl k f).groups = s.groups := rfl
@[simp] theorem State.modCtrl_mesh (s : State) (k : Nat) (f : Controller → Controller) : (s.modCtrl k f).mesh = s.mesh := rfl
@[simp] theorem State.modCtrl_models (s : State) (k : Nat) (f : Controller → Controller) : (s.modCtrl k f).models = s.models := rfl
@[simp] theorem State.modCtrl_sessions (s : State) (k : Nat) (f : Controller → Controller) : (s.modCtrl k f).sessions = s.sessions := rfl
@[simp] theorem State.modCtrl_cores (s : State) (k : Nat) (f : Controller → Controller) : (s.modCtrl k f).cores = s.cores := rfl
@[simp] theorem State.modCtrl_reserve (s : State) (k : Nat) (f : Controller → Controller) : (s.modCtrl k f).reserve = s.reserve := rfl
@[simp] theorem State.modCtrl_dram (s : State) (k : Nat) (f : Controller → Controller) : (s.modCtrl k f).dram = s.dram := rfl
@[simp] theorem State.modCtrl_link (s : State) (k : Nat) (f : Controller → Controller) : (s.modCtrl k f).link = s.link := rfl
@[simp] theorem State.modCtrl_ckp (s : State) (k : Nat) (f : Controller → Controller) : (s.modCtrl k f).ckp = s.ckp := rfl
@[simp] theorem State.modCtrl_pkt (s : State) (k : Nat) (f : Controller → Controller) : (s.modCtrl k f).pkt = s.pkt := rfl
@[simp] theorem State.modCtrl_sec (s : State) (k : Nat) (f : Controller → Controller) : (s.modCtrl k f).sec = s.sec := rfl
@[simp] theorem State.modCtrl_mon (s : State) (k : Nat) (f : Controller → Controller) : (s.modCtrl k f).mon = s.mon := rfl
@[simp] theorem State.modCtrl_jtag (s : State) (k : Nat) (f : Controller → Controller) : (s.modCtrl k f).jtag = s.jtag := rfl
@[simp] theorem State.modCtrl_mgmt (s : State) (k : Nat) (f : Controller → Controller) : (s.modCtrl k f).mgmt = s.mgmt := rfl
@[simp] theorem State.modCtrl_emitted (s : State) (k : Nat) (f : Controller → Controller) : (s.modCtrl k f).emitted = s.emitted := rfl
@[simp] theorem State.modCtrl_free (s : State) (k : Nat) (f : Controller → Controller) : (s.modCtrl k f).free = s.free := rfl
@[simp] theorem State.modCtrl_time (s : State) (k : Nat) (f : Controller → Controller) : (s.modCtrl k f).time = s.time := rfl
@[simp] theorem State.modCtrl_pending (s : State) (k : Nat) (f : Controller → Controller) : (s.modCtrl k f).pending = s.pending := rfl

@[simp] theorem State.modPipe_clk (s : State) (k : Nat) (f : Pipeline → Pipeline) : (s.modPipe k f).clk = s.clk := rfl
@[simp] theorem State.modPipe_power (s : State) (k : Nat) (f : Pipeline → Pipeline) : (s.modPipe k f).power = s.power := rfl
@[simp] theorem State.modPipe_fuses (s : State) (k : Nat) (f : Pipeline → Pipeline) : (s.modPipe k f).fuses = s.fuses := rfl
@[simp] theorem State.modPipe_boot (s : State) (k : Nat) (f : Pipeline → Pipeline) : (s.modPipe k f).boot = s.boot := rfl
@[simp] theorem State.modPipe_units (s : State) (k : Nat) (f : Pipeline → Pipeline) : (s.modPipe k f).units = s.units := rfl
@[simp] theorem State.modPipe_tracker (s : State) (k : Nat) (f : Pipeline → Pipeline) : (s.modPipe k f).tracker = s.tracker := rfl
@[simp] theorem State.modPipe_vio (s : State) (k : Nat) (f : Pipeline → Pipeline) : (s.modPipe k f).vio = s.vio := rfl
@[simp] theorem State.modPipe_parts (s : State) (k : Nat) (f : Pipeline → Pipeline) : (s.modPipe k f).parts = s.parts := rfl
@[simp] theorem State.modPipe_excRates (s : State) (k : Nat) (f : Pipeline → Pipeline) : (s.modPipe k f).excRates = s.excRates := rfl
@[simp] theorem State.modPipe_decode (s : State) (k : Nat) (f : Pipeline → Pipeline) : (s.modPipe k f).decode = s.decode := rfl
@[simp] theorem State.modPipe_opResident (s : State) (k : Nat) (f : Pipeline → Pipeline) : (s.modPipe k f).opResident = s.opResident := rfl
@[simp] theorem State.modPipe_launch (s : State) (k : Nat) (f : Pipeline → Pipeline) : (s.modPipe k f).launch = s.launch := rfl
@[simp] theorem State.modPipe_crossings (s : State) (k : Nat) (f : Pipeline → Pipeline) : (s.modPipe k f).crossings = s.crossings := rfl
@[simp] theorem State.modPipe_ports (s : State) (k : Nat) (f : Pipeline → Pipeline) : (s.modPipe k f).ports = s.ports := rfl
@[simp] theorem State.modPipe_insts (s : State) (k : Nat) (f : Pipeline → Pipeline) : (s.modPipe k f).insts = s.insts := rfl
@[simp] theorem State.modPipe_mbxs (s : State) (k : Nat) (f : Pipeline → Pipeline) : (s.modPipe k f).mbxs = s.mbxs := rfl
@[simp] theorem State.modPipe_longOps (s : State) (k : Nat) (f : Pipeline → Pipeline) : (s.modPipe k f).longOps = s.longOps := rfl
@[simp] theorem State.modPipe_opNo (s : State) (k : Nat) (f : Pipeline → Pipeline) : (s.modPipe k f).opNo = s.opNo := rfl
@[simp] theorem State.modPipe_ctxs (s : State) (k : Nat) (f : Pipeline → Pipeline) : (s.modPipe k f).ctxs = s.ctxs := rfl
@[simp] theorem State.modPipe_fw (s : State) (k : Nat) (f : Pipeline → Pipeline) : (s.modPipe k f).fw = s.fw := rfl
@[simp] theorem State.modPipe_faultLog (s : State) (k : Nat) (f : Pipeline → Pipeline) : (s.modPipe k f).faultLog = s.faultLog := rfl
@[simp] theorem State.modPipe_tiles (s : State) (k : Nat) (f : Pipeline → Pipeline) : (s.modPipe k f).tiles = s.tiles := rfl
@[simp] theorem State.modPipe_groups (s : State) (k : Nat) (f : Pipeline → Pipeline) : (s.modPipe k f).groups = s.groups := rfl
@[simp] theorem State.modPipe_mesh (s : State) (k : Nat) (f : Pipeline → Pipeline) : (s.modPipe k f).mesh = s.mesh := rfl
@[simp] theorem State.modPipe_models (s : State) (k : Nat) (f : Pipeline → Pipeline) : (s.modPipe k f).models = s.models := rfl
@[simp] theorem State.modPipe_sessions (s : State) (k : Nat) (f : Pipeline → Pipeline) : (s.modPipe k f).sessions = s.sessions := rfl
@[simp] theorem State.modPipe_cores (s : State) (k : Nat) (f : Pipeline → Pipeline) : (s.modPipe k f).cores = s.cores := rfl
@[simp] theorem State.modPipe_reserve (s : State) (k : Nat) (f : Pipeline → Pipeline) : (s.modPipe k f).reserve = s.reserve := rfl
@[simp] theorem State.modPipe_dram (s : State) (k : Nat) (f : Pipeline → Pipeline) : (s.modPipe k f).dram = s.dram := rfl
@[simp] theorem State.modPipe_link (s : State) (k : Nat) (f : Pipeline → Pipeline) : (s.modPipe k f).link = s.link := rfl
@[simp] theorem State.modPipe_ckp (s : State) (k : Nat) (f : Pipeline → Pipeline) : (s.modPipe k f).ckp = s.ckp := rfl
@[simp] theorem State.modPipe_pkt (s : State) (k : Nat) (f : Pipeline → Pipeline) : (s.modPipe k f).pkt = s.pkt := rfl
@[simp] theorem State.modPipe_sec (s : State) (k : Nat) (f : Pipeline → Pipeline) : (s.modPipe k f).sec = s.sec := rfl
@[simp] theorem State.modPipe_mon (s : State) (k : Nat) (f : Pipeline → Pipeline) : (s.modPipe k f).mon = s.mon := rfl
@[simp] theorem State.modPipe_jtag (s : State) (k : Nat) (f : Pipeline → Pipeline) : (s.modPipe k f).jtag = s.jtag := rfl
@[simp] theorem State.modPipe_mgmt (s : State) (k : Nat) (f : Pipeline → Pipeline) : (s.modPipe k f).mgmt = s.mgmt := rfl
@[simp] theorem State.modPipe_emitted (s : State) (k : Nat) (f : Pipeline → Pipeline) : (s.modPipe k f).emitted = s.emitted := rfl
@[simp] theorem State.modPipe_free (s : State) (k : Nat) (f : Pipeline → Pipeline) : (s.modPipe k f).free = s.free := rfl
@[simp] theorem State.modPipe_time (s : State) (k : Nat) (f : Pipeline → Pipeline) : (s.modPipe k f).time = s.time := rfl
@[simp] theorem State.modPipe_pending (s : State) (k : Nat) (f : Pipeline → Pipeline) : (s.modPipe k f).pending = s.pending := rfl

@[simp] theorem State.modQueue_clk (s : State) (k : Nat) (f : EgressQueue → EgressQueue) : (s.modQueue k f).clk = s.clk := rfl
@[simp] theorem State.modQueue_power (s : State) (k : Nat) (f : EgressQueue → EgressQueue) : (s.modQueue k f).power = s.power := rfl
@[simp] theorem State.modQueue_fuses (s : State) (k : Nat) (f : EgressQueue → EgressQueue) : (s.modQueue k f).fuses = s.fuses := rfl
@[simp] theorem State.modQueue_boot (s : State) (k : Nat) (f : EgressQueue → EgressQueue) : (s.modQueue k f).boot = s.boot := rfl
@[simp] theorem State.modQueue_units (s : State) (k : Nat) (f : EgressQueue → EgressQueue) : (s.modQueue k f).units = s.units := rfl
@[simp] theorem State.modQueue_tracker (s : State) (k : Nat) (f : EgressQueue → EgressQueue) : (s.modQueue k f).tracker = s.tracker := rfl
@[simp] theorem State.modQueue_vio (s : State) (k : Nat) (f : EgressQueue → EgressQueue) : (s.modQueue k f).vio = s.vio := rfl
@[simp] theorem State.modQueue_parts (s : State) (k : Nat) (f : EgressQueue → EgressQueue) : (s.modQueue k f).parts = s.parts := rfl
@[simp] theorem State.modQueue_excRates (s : State) (k : Nat) (f : EgressQueue → EgressQueue) : (s.modQueue k f).excRates = s.excRates := rfl
@[simp] theorem State.modQueue_decode (s : State) (k : Nat) (f : EgressQueue → EgressQueue) : (s.modQueue k f).decode = s.decode := rfl
@[simp] theorem State.modQueue_opResident (s : State) (k : Nat) (f : EgressQueue → EgressQueue) : (s.modQueue k f).opResident = s.opResident := rfl
@[simp] theorem State.modQueue_launch (s : State) (k : Nat) (f : EgressQueue → EgressQueue) : (s.modQueue k f).launch = s.launch := rfl
@[simp] theorem State.modQueue_crossings (s : State) (k : Nat) (f : EgressQueue → EgressQueue) : (s.modQueue k f).crossings = s.crossings := rfl
@[simp] theorem State.modQueue_ports (s : State) (k : Nat) (f : EgressQueue → EgressQueue) : (s.modQueue k f).ports = s.ports := rfl
@[simp] theorem State.modQueue_insts (s : State) (k : Nat) (f : EgressQueue → EgressQueue) : (s.modQueue k f).insts = s.insts := rfl
@[simp] theorem State.modQueue_mbxs (s : State) (k : Nat) (f : EgressQueue → EgressQueue) : (s.modQueue k f).mbxs = s.mbxs := rfl
@[simp] theorem State.modQueue_longOps (s : State) (k : Nat) (f : EgressQueue → EgressQueue) : (s.modQueue k f).longOps = s.longOps := rfl
@[simp] theorem State.modQueue_opNo (s : State) (k : Nat) (f : EgressQueue → EgressQueue) : (s.modQueue k f).opNo = s.opNo := rfl
@[simp] theorem State.modQueue_ctxs (s : State) (k : Nat) (f : EgressQueue → EgressQueue) : (s.modQueue k f).ctxs = s.ctxs := rfl
@[simp] theorem State.modQueue_fw (s : State) (k : Nat) (f : EgressQueue → EgressQueue) : (s.modQueue k f).fw = s.fw := rfl
@[simp] theorem State.modQueue_faultLog (s : State) (k : Nat) (f : EgressQueue → EgressQueue) : (s.modQueue k f).faultLog = s.faultLog := rfl
@[simp] theorem State.modQueue_tiles (s : State) (k : Nat) (f : EgressQueue → EgressQueue) : (s.modQueue k f).tiles = s.tiles := rfl
@[simp] theorem State.modQueue_groups (s : State) (k : Nat) (f : EgressQueue → EgressQueue) : (s.modQueue k f).groups = s.groups := rfl
@[simp] theorem State.modQueue_mesh (s : State) (k : Nat) (f : EgressQueue → EgressQueue) : (s.modQueue k f).mesh = s.mesh := rfl
@[simp] theorem State.modQueue_models (s : State) (k : Nat) (f : EgressQueue → EgressQueue) : (s.modQueue k f).models = s.models := rfl
@[simp] theorem State.modQueue_sessions (s : State) (k : Nat) (f : EgressQueue → EgressQueue) : (s.modQueue k f).sessions = s.sessions := rfl
@[simp] theorem State.modQueue_cores (s : State) (k : Nat) (f : EgressQueue → EgressQueue) : (s.modQueue k f).cores = s.cores := rfl
@[simp] theorem State.modQueue_reserve (s : State) (k : Nat) (f : EgressQueue → EgressQueue) : (s.modQueue k f).reserve = s.reserve := rfl
@[simp] theorem State.modQueue_dram (s : State) (k : Nat) (f : EgressQueue → EgressQueue) : (s.modQueue k f).dram = s.dram := rfl
@[simp] theorem State.modQueue_link (s : State) (k : Nat) (f : EgressQueue → EgressQueue) : (s.modQueue k f).link = s.link := rfl
@[simp] theorem State.modQueue_ckp (s : State) (k : Nat) (f : EgressQueue → EgressQueue) : (s.modQueue k f).ckp = s.ckp := rfl
@[simp] theorem State.modQueue_stor (s : State) (k : Nat) (f : EgressQueue → EgressQueue) : (s.modQueue k f).stor = s.stor := rfl
@[simp] theorem State.modQueue_sec (s : State) (k : Nat) (f : EgressQueue → EgressQueue) : (s.modQueue k f).sec = s.sec := rfl
@[simp] theorem State.modQueue_mon (s : State) (k : Nat) (f : EgressQueue → EgressQueue) : (s.modQueue k f).mon = s.mon := rfl
@[simp] theorem State.modQueue_jtag (s : State) (k : Nat) (f : EgressQueue → EgressQueue) : (s.modQueue k f).jtag = s.jtag := rfl
@[simp] theorem State.modQueue_mgmt (s : State) (k : Nat) (f : EgressQueue → EgressQueue) : (s.modQueue k f).mgmt = s.mgmt := rfl
@[simp] theorem State.modQueue_emitted (s : State) (k : Nat) (f : EgressQueue → EgressQueue) : (s.modQueue k f).emitted = s.emitted := rfl
@[simp] theorem State.modQueue_free (s : State) (k : Nat) (f : EgressQueue → EgressQueue) : (s.modQueue k f).free = s.free := rfl
@[simp] theorem State.modQueue_time (s : State) (k : Nat) (f : EgressQueue → EgressQueue) : (s.modQueue k f).time = s.time := rfl
@[simp] theorem State.modQueue_pending (s : State) (k : Nat) (f : EgressQueue → EgressQueue) : (s.modQueue k f).pending = s.pending := rfl

@[simp] theorem State.modPolicer_clk (s : State) (k : Nat) (f : Policer → Policer) : (s.modPolicer k f).clk = s.clk := rfl
@[simp] theorem State.modPolicer_power (s : State) (k : Nat) (f : Policer → Policer) : (s.modPolicer k f).power = s.power := rfl
@[simp] theorem State.modPolicer_fuses (s : State) (k : Nat) (f : Policer → Policer) : (s.modPolicer k f).fuses = s.fuses := rfl
@[simp] theorem State.modPolicer_boot (s : State) (k : Nat) (f : Policer → Policer) : (s.modPolicer k f).boot = s.boot := rfl
@[simp] theorem State.modPolicer_units (s : State) (k : Nat) (f : Policer → Policer) : (s.modPolicer k f).units = s.units := rfl
@[simp] theorem State.modPolicer_tracker (s : State) (k : Nat) (f : Policer → Policer) : (s.modPolicer k f).tracker = s.tracker := rfl
@[simp] theorem State.modPolicer_vio (s : State) (k : Nat) (f : Policer → Policer) : (s.modPolicer k f).vio = s.vio := rfl
@[simp] theorem State.modPolicer_parts (s : State) (k : Nat) (f : Policer → Policer) : (s.modPolicer k f).parts = s.parts := rfl
@[simp] theorem State.modPolicer_excRates (s : State) (k : Nat) (f : Policer → Policer) : (s.modPolicer k f).excRates = s.excRates := rfl
@[simp] theorem State.modPolicer_decode (s : State) (k : Nat) (f : Policer → Policer) : (s.modPolicer k f).decode = s.decode := rfl
@[simp] theorem State.modPolicer_opResident (s : State) (k : Nat) (f : Policer → Policer) : (s.modPolicer k f).opResident = s.opResident := rfl
@[simp] theorem State.modPolicer_launch (s : State) (k : Nat) (f : Policer → Policer) : (s.modPolicer k f).launch = s.launch := rfl
@[simp] theorem State.modPolicer_crossings (s : State) (k : Nat) (f : Policer → Policer) : (s.modPolicer k f).crossings = s.crossings := rfl
@[simp] theorem State.modPolicer_ports (s : State) (k : Nat) (f : Policer → Policer) : (s.modPolicer k f).ports = s.ports := rfl
@[simp] theorem State.modPolicer_insts (s : State) (k : Nat) (f : Policer → Policer) : (s.modPolicer k f).insts = s.insts := rfl
@[simp] theorem State.modPolicer_mbxs (s : State) (k : Nat) (f : Policer → Policer) : (s.modPolicer k f).mbxs = s.mbxs := rfl
@[simp] theorem State.modPolicer_longOps (s : State) (k : Nat) (f : Policer → Policer) : (s.modPolicer k f).longOps = s.longOps := rfl
@[simp] theorem State.modPolicer_opNo (s : State) (k : Nat) (f : Policer → Policer) : (s.modPolicer k f).opNo = s.opNo := rfl
@[simp] theorem State.modPolicer_ctxs (s : State) (k : Nat) (f : Policer → Policer) : (s.modPolicer k f).ctxs = s.ctxs := rfl
@[simp] theorem State.modPolicer_fw (s : State) (k : Nat) (f : Policer → Policer) : (s.modPolicer k f).fw = s.fw := rfl
@[simp] theorem State.modPolicer_faultLog (s : State) (k : Nat) (f : Policer → Policer) : (s.modPolicer k f).faultLog = s.faultLog := rfl
@[simp] theorem State.modPolicer_tiles (s : State) (k : Nat) (f : Policer → Policer) : (s.modPolicer k f).tiles = s.tiles := rfl
@[simp] theorem State.modPolicer_groups (s : State) (k : Nat) (f : Policer → Policer) : (s.modPolicer k f).groups = s.groups := rfl
@[simp] theorem State.modPolicer_mesh (s : State) (k : Nat) (f : Policer → Policer) : (s.modPolicer k f).mesh = s.mesh := rfl
@[simp] theorem State.modPolicer_models (s : State) (k : Nat) (f : Policer → Policer) : (s.modPolicer k f).models = s.models := rfl
@[simp] theorem State.modPolicer_sessions (s : State) (k : Nat) (f : Policer → Policer) : (s.modPolicer k f).sessions = s.sessions := rfl
@[simp] theorem State.modPolicer_cores (s : State) (k : Nat) (f : Policer → Policer) : (s.modPolicer k f).cores = s.cores := rfl
@[simp] theorem State.modPolicer_reserve (s : State) (k : Nat) (f : Policer → Policer) : (s.modPolicer k f).reserve = s.reserve := rfl
@[simp] theorem State.modPolicer_dram (s : State) (k : Nat) (f : Policer → Policer) : (s.modPolicer k f).dram = s.dram := rfl
@[simp] theorem State.modPolicer_link (s : State) (k : Nat) (f : Policer → Policer) : (s.modPolicer k f).link = s.link := rfl
@[simp] theorem State.modPolicer_ckp (s : State) (k : Nat) (f : Policer → Policer) : (s.modPolicer k f).ckp = s.ckp := rfl
@[simp] theorem State.modPolicer_stor (s : State) (k : Nat) (f : Policer → Policer) : (s.modPolicer k f).stor = s.stor := rfl
@[simp] theorem State.modPolicer_sec (s : State) (k : Nat) (f : Policer → Policer) : (s.modPolicer k f).sec = s.sec := rfl
@[simp] theorem State.modPolicer_mon (s : State) (k : Nat) (f : Policer → Policer) : (s.modPolicer k f).mon = s.mon := rfl
@[simp] theorem State.modPolicer_jtag (s : State) (k : Nat) (f : Policer → Policer) : (s.modPolicer k f).jtag = s.jtag := rfl
@[simp] theorem State.modPolicer_mgmt (s : State) (k : Nat) (f : Policer → Policer) : (s.modPolicer k f).mgmt = s.mgmt := rfl
@[simp] theorem State.modPolicer_emitted (s : State) (k : Nat) (f : Policer → Policer) : (s.modPolicer k f).emitted = s.emitted := rfl
@[simp] theorem State.modPolicer_free (s : State) (k : Nat) (f : Policer → Policer) : (s.modPolicer k f).free = s.free := rfl
@[simp] theorem State.modPolicer_time (s : State) (k : Nat) (f : Policer → Policer) : (s.modPolicer k f).time = s.time := rfl
@[simp] theorem State.modPolicer_pending (s : State) (k : Nat) (f : Policer → Policer) : (s.modPolicer k f).pending = s.pending := rfl

@[simp] theorem State.modExc_clk (s : State) (k : Nat) (f : ExcCounts → ExcCounts) : (s.modExc k f).clk = s.clk := rfl
@[simp] theorem State.modExc_power (s : State) (k : Nat) (f : ExcCounts → ExcCounts) : (s.modExc k f).power = s.power := rfl
@[simp] theorem State.modExc_fuses (s : State) (k : Nat) (f : ExcCounts → ExcCounts) : (s.modExc k f).fuses = s.fuses := rfl
@[simp] theorem State.modExc_boot (s : State) (k : Nat) (f : ExcCounts → ExcCounts) : (s.modExc k f).boot = s.boot := rfl
@[simp] theorem State.modExc_units (s : State) (k : Nat) (f : ExcCounts → ExcCounts) : (s.modExc k f).units = s.units := rfl
@[simp] theorem State.modExc_tracker (s : State) (k : Nat) (f : ExcCounts → ExcCounts) : (s.modExc k f).tracker = s.tracker := rfl
@[simp] theorem State.modExc_vio (s : State) (k : Nat) (f : ExcCounts → ExcCounts) : (s.modExc k f).vio = s.vio := rfl
@[simp] theorem State.modExc_parts (s : State) (k : Nat) (f : ExcCounts → ExcCounts) : (s.modExc k f).parts = s.parts := rfl
@[simp] theorem State.modExc_excRates (s : State) (k : Nat) (f : ExcCounts → ExcCounts) : (s.modExc k f).excRates = s.excRates := rfl
@[simp] theorem State.modExc_decode (s : State) (k : Nat) (f : ExcCounts → ExcCounts) : (s.modExc k f).decode = s.decode := rfl
@[simp] theorem State.modExc_opResident (s : State) (k : Nat) (f : ExcCounts → ExcCounts) : (s.modExc k f).opResident = s.opResident := rfl
@[simp] theorem State.modExc_launch (s : State) (k : Nat) (f : ExcCounts → ExcCounts) : (s.modExc k f).launch = s.launch := rfl
@[simp] theorem State.modExc_crossings (s : State) (k : Nat) (f : ExcCounts → ExcCounts) : (s.modExc k f).crossings = s.crossings := rfl
@[simp] theorem State.modExc_ports (s : State) (k : Nat) (f : ExcCounts → ExcCounts) : (s.modExc k f).ports = s.ports := rfl
@[simp] theorem State.modExc_insts (s : State) (k : Nat) (f : ExcCounts → ExcCounts) : (s.modExc k f).insts = s.insts := rfl
@[simp] theorem State.modExc_mbxs (s : State) (k : Nat) (f : ExcCounts → ExcCounts) : (s.modExc k f).mbxs = s.mbxs := rfl
@[simp] theorem State.modExc_longOps (s : State) (k : Nat) (f : ExcCounts → ExcCounts) : (s.modExc k f).longOps = s.longOps := rfl
@[simp] theorem State.modExc_opNo (s : State) (k : Nat) (f : ExcCounts → ExcCounts) : (s.modExc k f).opNo = s.opNo := rfl
@[simp] theorem State.modExc_ctxs (s : State) (k : Nat) (f : ExcCounts → ExcCounts) : (s.modExc k f).ctxs = s.ctxs := rfl
@[simp] theorem State.modExc_fw (s : State) (k : Nat) (f : ExcCounts → ExcCounts) : (s.modExc k f).fw = s.fw := rfl
@[simp] theorem State.modExc_faultLog (s : State) (k : Nat) (f : ExcCounts → ExcCounts) : (s.modExc k f).faultLog = s.faultLog := rfl
@[simp] theorem State.modExc_tiles (s : State) (k : Nat) (f : ExcCounts → ExcCounts) : (s.modExc k f).tiles = s.tiles := rfl
@[simp] theorem State.modExc_groups (s : State) (k : Nat) (f : ExcCounts → ExcCounts) : (s.modExc k f).groups = s.groups := rfl
@[simp] theorem State.modExc_mesh (s : State) (k : Nat) (f : ExcCounts → ExcCounts) : (s.modExc k f).mesh = s.mesh := rfl
@[simp] theorem State.modExc_models (s : State) (k : Nat) (f : ExcCounts → ExcCounts) : (s.modExc k f).models = s.models := rfl
@[simp] theorem State.modExc_sessions (s : State) (k : Nat) (f : ExcCounts → ExcCounts) : (s.modExc k f).sessions = s.sessions := rfl
@[simp] theorem State.modExc_cores (s : State) (k : Nat) (f : ExcCounts → ExcCounts) : (s.modExc k f).cores = s.cores := rfl
@[simp] theorem State.modExc_reserve (s : State) (k : Nat) (f : ExcCounts → ExcCounts) : (s.modExc k f).reserve = s.reserve := rfl
@[simp] theorem State.modExc_dram (s : State) (k : Nat) (f : ExcCounts → ExcCounts) : (s.modExc k f).dram = s.dram := rfl
@[simp] theorem State.modExc_link (s : State) (k : Nat) (f : ExcCounts → ExcCounts) : (s.modExc k f).link = s.link := rfl
@[simp] theorem State.modExc_ckp (s : State) (k : Nat) (f : ExcCounts → ExcCounts) : (s.modExc k f).ckp = s.ckp := rfl
@[simp] theorem State.modExc_stor (s : State) (k : Nat) (f : ExcCounts → ExcCounts) : (s.modExc k f).stor = s.stor := rfl
@[simp] theorem State.modExc_sec (s : State) (k : Nat) (f : ExcCounts → ExcCounts) : (s.modExc k f).sec = s.sec := rfl
@[simp] theorem State.modExc_mon (s : State) (k : Nat) (f : ExcCounts → ExcCounts) : (s.modExc k f).mon = s.mon := rfl
@[simp] theorem State.modExc_jtag (s : State) (k : Nat) (f : ExcCounts → ExcCounts) : (s.modExc k f).jtag = s.jtag := rfl
@[simp] theorem State.modExc_mgmt (s : State) (k : Nat) (f : ExcCounts → ExcCounts) : (s.modExc k f).mgmt = s.mgmt := rfl
@[simp] theorem State.modExc_emitted (s : State) (k : Nat) (f : ExcCounts → ExcCounts) : (s.modExc k f).emitted = s.emitted := rfl
@[simp] theorem State.modExc_free (s : State) (k : Nat) (f : ExcCounts → ExcCounts) : (s.modExc k f).free = s.free := rfl
@[simp] theorem State.modExc_time (s : State) (k : Nat) (f : ExcCounts → ExcCounts) : (s.modExc k f).time = s.time := rfl
@[simp] theorem State.modExc_pending (s : State) (k : Nat) (f : ExcCounts → ExcCounts) : (s.modExc k f).pending = s.pending := rfl

@[simp] theorem State.modSec_clk (s : State) (f : Security → Security) : (s.modSec f).clk = s.clk := rfl
@[simp] theorem State.modSec_power (s : State) (f : Security → Security) : (s.modSec f).power = s.power := rfl
@[simp] theorem State.modSec_fuses (s : State) (f : Security → Security) : (s.modSec f).fuses = s.fuses := rfl
@[simp] theorem State.modSec_boot (s : State) (f : Security → Security) : (s.modSec f).boot = s.boot := rfl
@[simp] theorem State.modSec_units (s : State) (f : Security → Security) : (s.modSec f).units = s.units := rfl
@[simp] theorem State.modSec_tracker (s : State) (f : Security → Security) : (s.modSec f).tracker = s.tracker := rfl
@[simp] theorem State.modSec_vio (s : State) (f : Security → Security) : (s.modSec f).vio = s.vio := rfl
@[simp] theorem State.modSec_parts (s : State) (f : Security → Security) : (s.modSec f).parts = s.parts := rfl
@[simp] theorem State.modSec_excRates (s : State) (f : Security → Security) : (s.modSec f).excRates = s.excRates := rfl
@[simp] theorem State.modSec_decode (s : State) (f : Security → Security) : (s.modSec f).decode = s.decode := rfl
@[simp] theorem State.modSec_opResident (s : State) (f : Security → Security) : (s.modSec f).opResident = s.opResident := rfl
@[simp] theorem State.modSec_launch (s : State) (f : Security → Security) : (s.modSec f).launch = s.launch := rfl
@[simp] theorem State.modSec_crossings (s : State) (f : Security → Security) : (s.modSec f).crossings = s.crossings := rfl
@[simp] theorem State.modSec_ports (s : State) (f : Security → Security) : (s.modSec f).ports = s.ports := rfl
@[simp] theorem State.modSec_insts (s : State) (f : Security → Security) : (s.modSec f).insts = s.insts := rfl
@[simp] theorem State.modSec_mbxs (s : State) (f : Security → Security) : (s.modSec f).mbxs = s.mbxs := rfl
@[simp] theorem State.modSec_longOps (s : State) (f : Security → Security) : (s.modSec f).longOps = s.longOps := rfl
@[simp] theorem State.modSec_opNo (s : State) (f : Security → Security) : (s.modSec f).opNo = s.opNo := rfl
@[simp] theorem State.modSec_ctxs (s : State) (f : Security → Security) : (s.modSec f).ctxs = s.ctxs := rfl
@[simp] theorem State.modSec_fw (s : State) (f : Security → Security) : (s.modSec f).fw = s.fw := rfl
@[simp] theorem State.modSec_faultLog (s : State) (f : Security → Security) : (s.modSec f).faultLog = s.faultLog := rfl
@[simp] theorem State.modSec_tiles (s : State) (f : Security → Security) : (s.modSec f).tiles = s.tiles := rfl
@[simp] theorem State.modSec_groups (s : State) (f : Security → Security) : (s.modSec f).groups = s.groups := rfl
@[simp] theorem State.modSec_mesh (s : State) (f : Security → Security) : (s.modSec f).mesh = s.mesh := rfl
@[simp] theorem State.modSec_models (s : State) (f : Security → Security) : (s.modSec f).models = s.models := rfl
@[simp] theorem State.modSec_sessions (s : State) (f : Security → Security) : (s.modSec f).sessions = s.sessions := rfl
@[simp] theorem State.modSec_cores (s : State) (f : Security → Security) : (s.modSec f).cores = s.cores := rfl
@[simp] theorem State.modSec_reserve (s : State) (f : Security → Security) : (s.modSec f).reserve = s.reserve := rfl
@[simp] theorem State.modSec_dram (s : State) (f : Security → Security) : (s.modSec f).dram = s.dram := rfl
@[simp] theorem State.modSec_link (s : State) (f : Security → Security) : (s.modSec f).link = s.link := rfl
@[simp] theorem State.modSec_ckp (s : State) (f : Security → Security) : (s.modSec f).ckp = s.ckp := rfl
@[simp] theorem State.modSec_stor (s : State) (f : Security → Security) : (s.modSec f).stor = s.stor := rfl
@[simp] theorem State.modSec_pkt (s : State) (f : Security → Security) : (s.modSec f).pkt = s.pkt := rfl
@[simp] theorem State.modSec_sec (s : State) (f : Security → Security) : (s.modSec f).sec = f s.sec := rfl
@[simp] theorem State.modSec_mon (s : State) (f : Security → Security) : (s.modSec f).mon = s.mon := rfl
@[simp] theorem State.modSec_jtag (s : State) (f : Security → Security) : (s.modSec f).jtag = s.jtag := rfl
@[simp] theorem State.modSec_mgmt (s : State) (f : Security → Security) : (s.modSec f).mgmt = s.mgmt := rfl
@[simp] theorem State.modSec_emitted (s : State) (f : Security → Security) : (s.modSec f).emitted = s.emitted := rfl
@[simp] theorem State.modSec_free (s : State) (f : Security → Security) : (s.modSec f).free = s.free := rfl
@[simp] theorem State.modSec_time (s : State) (f : Security → Security) : (s.modSec f).time = s.time := rfl
@[simp] theorem State.modSec_pending (s : State) (f : Security → Security) : (s.modSec f).pending = s.pending := rfl

@[simp] theorem State.modMon_clk (s : State) (f : Monitor → Monitor) : (s.modMon f).clk = s.clk := rfl
@[simp] theorem State.modMon_power (s : State) (f : Monitor → Monitor) : (s.modMon f).power = s.power := rfl
@[simp] theorem State.modMon_fuses (s : State) (f : Monitor → Monitor) : (s.modMon f).fuses = s.fuses := rfl
@[simp] theorem State.modMon_boot (s : State) (f : Monitor → Monitor) : (s.modMon f).boot = s.boot := rfl
@[simp] theorem State.modMon_units (s : State) (f : Monitor → Monitor) : (s.modMon f).units = s.units := rfl
@[simp] theorem State.modMon_tracker (s : State) (f : Monitor → Monitor) : (s.modMon f).tracker = s.tracker := rfl
@[simp] theorem State.modMon_vio (s : State) (f : Monitor → Monitor) : (s.modMon f).vio = s.vio := rfl
@[simp] theorem State.modMon_parts (s : State) (f : Monitor → Monitor) : (s.modMon f).parts = s.parts := rfl
@[simp] theorem State.modMon_excRates (s : State) (f : Monitor → Monitor) : (s.modMon f).excRates = s.excRates := rfl
@[simp] theorem State.modMon_decode (s : State) (f : Monitor → Monitor) : (s.modMon f).decode = s.decode := rfl
@[simp] theorem State.modMon_opResident (s : State) (f : Monitor → Monitor) : (s.modMon f).opResident = s.opResident := rfl
@[simp] theorem State.modMon_launch (s : State) (f : Monitor → Monitor) : (s.modMon f).launch = s.launch := rfl
@[simp] theorem State.modMon_crossings (s : State) (f : Monitor → Monitor) : (s.modMon f).crossings = s.crossings := rfl
@[simp] theorem State.modMon_ports (s : State) (f : Monitor → Monitor) : (s.modMon f).ports = s.ports := rfl
@[simp] theorem State.modMon_insts (s : State) (f : Monitor → Monitor) : (s.modMon f).insts = s.insts := rfl
@[simp] theorem State.modMon_mbxs (s : State) (f : Monitor → Monitor) : (s.modMon f).mbxs = s.mbxs := rfl
@[simp] theorem State.modMon_longOps (s : State) (f : Monitor → Monitor) : (s.modMon f).longOps = s.longOps := rfl
@[simp] theorem State.modMon_opNo (s : State) (f : Monitor → Monitor) : (s.modMon f).opNo = s.opNo := rfl
@[simp] theorem State.modMon_ctxs (s : State) (f : Monitor → Monitor) : (s.modMon f).ctxs = s.ctxs := rfl
@[simp] theorem State.modMon_fw (s : State) (f : Monitor → Monitor) : (s.modMon f).fw = s.fw := rfl
@[simp] theorem State.modMon_faultLog (s : State) (f : Monitor → Monitor) : (s.modMon f).faultLog = s.faultLog := rfl
@[simp] theorem State.modMon_tiles (s : State) (f : Monitor → Monitor) : (s.modMon f).tiles = s.tiles := rfl
@[simp] theorem State.modMon_groups (s : State) (f : Monitor → Monitor) : (s.modMon f).groups = s.groups := rfl
@[simp] theorem State.modMon_mesh (s : State) (f : Monitor → Monitor) : (s.modMon f).mesh = s.mesh := rfl
@[simp] theorem State.modMon_models (s : State) (f : Monitor → Monitor) : (s.modMon f).models = s.models := rfl
@[simp] theorem State.modMon_sessions (s : State) (f : Monitor → Monitor) : (s.modMon f).sessions = s.sessions := rfl
@[simp] theorem State.modMon_cores (s : State) (f : Monitor → Monitor) : (s.modMon f).cores = s.cores := rfl
@[simp] theorem State.modMon_reserve (s : State) (f : Monitor → Monitor) : (s.modMon f).reserve = s.reserve := rfl
@[simp] theorem State.modMon_dram (s : State) (f : Monitor → Monitor) : (s.modMon f).dram = s.dram := rfl
@[simp] theorem State.modMon_link (s : State) (f : Monitor → Monitor) : (s.modMon f).link = s.link := rfl
@[simp] theorem State.modMon_ckp (s : State) (f : Monitor → Monitor) : (s.modMon f).ckp = s.ckp := rfl
@[simp] theorem State.modMon_stor (s : State) (f : Monitor → Monitor) : (s.modMon f).stor = s.stor := rfl
@[simp] theorem State.modMon_pkt (s : State) (f : Monitor → Monitor) : (s.modMon f).pkt = s.pkt := rfl
@[simp] theorem State.modMon_sec (s : State) (f : Monitor → Monitor) : (s.modMon f).sec = s.sec := rfl
@[simp] theorem State.modMon_mon (s : State) (f : Monitor → Monitor) : (s.modMon f).mon = f s.mon := rfl
@[simp] theorem State.modMon_jtag (s : State) (f : Monitor → Monitor) : (s.modMon f).jtag = s.jtag := rfl
@[simp] theorem State.modMon_mgmt (s : State) (f : Monitor → Monitor) : (s.modMon f).mgmt = s.mgmt := rfl
@[simp] theorem State.modMon_emitted (s : State) (f : Monitor → Monitor) : (s.modMon f).emitted = s.emitted := rfl
@[simp] theorem State.modMon_free (s : State) (f : Monitor → Monitor) : (s.modMon f).free = s.free := rfl
@[simp] theorem State.modMon_time (s : State) (f : Monitor → Monitor) : (s.modMon f).time = s.time := rfl
@[simp] theorem State.modMon_pending (s : State) (f : Monitor → Monitor) : (s.modMon f).pending = s.pending := rfl

@[simp] theorem State.modStor_clk (s : State) (f : Storage → Storage) : (s.modStor f).clk = s.clk := rfl
@[simp] theorem State.modStor_power (s : State) (f : Storage → Storage) : (s.modStor f).power = s.power := rfl
@[simp] theorem State.modStor_fuses (s : State) (f : Storage → Storage) : (s.modStor f).fuses = s.fuses := rfl
@[simp] theorem State.modStor_boot (s : State) (f : Storage → Storage) : (s.modStor f).boot = s.boot := rfl
@[simp] theorem State.modStor_units (s : State) (f : Storage → Storage) : (s.modStor f).units = s.units := rfl
@[simp] theorem State.modStor_tracker (s : State) (f : Storage → Storage) : (s.modStor f).tracker = s.tracker := rfl
@[simp] theorem State.modStor_vio (s : State) (f : Storage → Storage) : (s.modStor f).vio = s.vio := rfl
@[simp] theorem State.modStor_parts (s : State) (f : Storage → Storage) : (s.modStor f).parts = s.parts := rfl
@[simp] theorem State.modStor_excRates (s : State) (f : Storage → Storage) : (s.modStor f).excRates = s.excRates := rfl
@[simp] theorem State.modStor_decode (s : State) (f : Storage → Storage) : (s.modStor f).decode = s.decode := rfl
@[simp] theorem State.modStor_opResident (s : State) (f : Storage → Storage) : (s.modStor f).opResident = s.opResident := rfl
@[simp] theorem State.modStor_launch (s : State) (f : Storage → Storage) : (s.modStor f).launch = s.launch := rfl
@[simp] theorem State.modStor_crossings (s : State) (f : Storage → Storage) : (s.modStor f).crossings = s.crossings := rfl
@[simp] theorem State.modStor_ports (s : State) (f : Storage → Storage) : (s.modStor f).ports = s.ports := rfl
@[simp] theorem State.modStor_insts (s : State) (f : Storage → Storage) : (s.modStor f).insts = s.insts := rfl
@[simp] theorem State.modStor_mbxs (s : State) (f : Storage → Storage) : (s.modStor f).mbxs = s.mbxs := rfl
@[simp] theorem State.modStor_longOps (s : State) (f : Storage → Storage) : (s.modStor f).longOps = s.longOps := rfl
@[simp] theorem State.modStor_opNo (s : State) (f : Storage → Storage) : (s.modStor f).opNo = s.opNo := rfl
@[simp] theorem State.modStor_ctxs (s : State) (f : Storage → Storage) : (s.modStor f).ctxs = s.ctxs := rfl
@[simp] theorem State.modStor_fw (s : State) (f : Storage → Storage) : (s.modStor f).fw = s.fw := rfl
@[simp] theorem State.modStor_faultLog (s : State) (f : Storage → Storage) : (s.modStor f).faultLog = s.faultLog := rfl
@[simp] theorem State.modStor_tiles (s : State) (f : Storage → Storage) : (s.modStor f).tiles = s.tiles := rfl
@[simp] theorem State.modStor_groups (s : State) (f : Storage → Storage) : (s.modStor f).groups = s.groups := rfl
@[simp] theorem State.modStor_mesh (s : State) (f : Storage → Storage) : (s.modStor f).mesh = s.mesh := rfl
@[simp] theorem State.modStor_models (s : State) (f : Storage → Storage) : (s.modStor f).models = s.models := rfl
@[simp] theorem State.modStor_sessions (s : State) (f : Storage → Storage) : (s.modStor f).sessions = s.sessions := rfl
@[simp] theorem State.modStor_cores (s : State) (f : Storage → Storage) : (s.modStor f).cores = s.cores := rfl
@[simp] theorem State.modStor_reserve (s : State) (f : Storage → Storage) : (s.modStor f).reserve = s.reserve := rfl
@[simp] theorem State.modStor_dram (s : State) (f : Storage → Storage) : (s.modStor f).dram = s.dram := rfl
@[simp] theorem State.modStor_link (s : State) (f : Storage → Storage) : (s.modStor f).link = s.link := rfl
@[simp] theorem State.modStor_ckp (s : State) (f : Storage → Storage) : (s.modStor f).ckp = s.ckp := rfl
@[simp] theorem State.modStor_stor (s : State) (f : Storage → Storage) : (s.modStor f).stor = f s.stor := rfl
@[simp] theorem State.modStor_pkt (s : State) (f : Storage → Storage) : (s.modStor f).pkt = s.pkt := rfl
@[simp] theorem State.modStor_sec (s : State) (f : Storage → Storage) : (s.modStor f).sec = s.sec := rfl
@[simp] theorem State.modStor_mon (s : State) (f : Storage → Storage) : (s.modStor f).mon = s.mon := rfl
@[simp] theorem State.modStor_jtag (s : State) (f : Storage → Storage) : (s.modStor f).jtag = s.jtag := rfl
@[simp] theorem State.modStor_mgmt (s : State) (f : Storage → Storage) : (s.modStor f).mgmt = s.mgmt := rfl
@[simp] theorem State.modStor_emitted (s : State) (f : Storage → Storage) : (s.modStor f).emitted = s.emitted := rfl
@[simp] theorem State.modStor_free (s : State) (f : Storage → Storage) : (s.modStor f).free = s.free := rfl
@[simp] theorem State.modStor_time (s : State) (f : Storage → Storage) : (s.modStor f).time = s.time := rfl
@[simp] theorem State.modStor_pending (s : State) (f : Storage → Storage) : (s.modStor f).pending = s.pending := rfl

@[simp] theorem State.modPkt_clk (s : State) (f : Packet → Packet) : (s.modPkt f).clk = s.clk := rfl
@[simp] theorem State.modPkt_power (s : State) (f : Packet → Packet) : (s.modPkt f).power = s.power := rfl
@[simp] theorem State.modPkt_fuses (s : State) (f : Packet → Packet) : (s.modPkt f).fuses = s.fuses := rfl
@[simp] theorem State.modPkt_boot (s : State) (f : Packet → Packet) : (s.modPkt f).boot = s.boot := rfl
@[simp] theorem State.modPkt_units (s : State) (f : Packet → Packet) : (s.modPkt f).units = s.units := rfl
@[simp] theorem State.modPkt_tracker (s : State) (f : Packet → Packet) : (s.modPkt f).tracker = s.tracker := rfl
@[simp] theorem State.modPkt_vio (s : State) (f : Packet → Packet) : (s.modPkt f).vio = s.vio := rfl
@[simp] theorem State.modPkt_parts (s : State) (f : Packet → Packet) : (s.modPkt f).parts = s.parts := rfl
@[simp] theorem State.modPkt_excRates (s : State) (f : Packet → Packet) : (s.modPkt f).excRates = s.excRates := rfl
@[simp] theorem State.modPkt_decode (s : State) (f : Packet → Packet) : (s.modPkt f).decode = s.decode := rfl
@[simp] theorem State.modPkt_opResident (s : State) (f : Packet → Packet) : (s.modPkt f).opResident = s.opResident := rfl
@[simp] theorem State.modPkt_launch (s : State) (f : Packet → Packet) : (s.modPkt f).launch = s.launch := rfl
@[simp] theorem State.modPkt_crossings (s : State) (f : Packet → Packet) : (s.modPkt f).crossings = s.crossings := rfl
@[simp] theorem State.modPkt_ports (s : State) (f : Packet → Packet) : (s.modPkt f).ports = s.ports := rfl
@[simp] theorem State.modPkt_insts (s : State) (f : Packet → Packet) : (s.modPkt f).insts = s.insts := rfl
@[simp] theorem State.modPkt_mbxs (s : State) (f : Packet → Packet) : (s.modPkt f).mbxs = s.mbxs := rfl
@[simp] theorem State.modPkt_longOps (s : State) (f : Packet → Packet) : (s.modPkt f).longOps = s.longOps := rfl
@[simp] theorem State.modPkt_opNo (s : State) (f : Packet → Packet) : (s.modPkt f).opNo = s.opNo := rfl
@[simp] theorem State.modPkt_ctxs (s : State) (f : Packet → Packet) : (s.modPkt f).ctxs = s.ctxs := rfl
@[simp] theorem State.modPkt_fw (s : State) (f : Packet → Packet) : (s.modPkt f).fw = s.fw := rfl
@[simp] theorem State.modPkt_faultLog (s : State) (f : Packet → Packet) : (s.modPkt f).faultLog = s.faultLog := rfl
@[simp] theorem State.modPkt_tiles (s : State) (f : Packet → Packet) : (s.modPkt f).tiles = s.tiles := rfl
@[simp] theorem State.modPkt_groups (s : State) (f : Packet → Packet) : (s.modPkt f).groups = s.groups := rfl
@[simp] theorem State.modPkt_mesh (s : State) (f : Packet → Packet) : (s.modPkt f).mesh = s.mesh := rfl
@[simp] theorem State.modPkt_models (s : State) (f : Packet → Packet) : (s.modPkt f).models = s.models := rfl
@[simp] theorem State.modPkt_sessions (s : State) (f : Packet → Packet) : (s.modPkt f).sessions = s.sessions := rfl
@[simp] theorem State.modPkt_cores (s : State) (f : Packet → Packet) : (s.modPkt f).cores = s.cores := rfl
@[simp] theorem State.modPkt_reserve (s : State) (f : Packet → Packet) : (s.modPkt f).reserve = s.reserve := rfl
@[simp] theorem State.modPkt_dram (s : State) (f : Packet → Packet) : (s.modPkt f).dram = s.dram := rfl
@[simp] theorem State.modPkt_link (s : State) (f : Packet → Packet) : (s.modPkt f).link = s.link := rfl
@[simp] theorem State.modPkt_ckp (s : State) (f : Packet → Packet) : (s.modPkt f).ckp = s.ckp := rfl
@[simp] theorem State.modPkt_stor (s : State) (f : Packet → Packet) : (s.modPkt f).stor = s.stor := rfl
@[simp] theorem State.modPkt_pkt (s : State) (f : Packet → Packet) : (s.modPkt f).pkt = f s.pkt := rfl
@[simp] theorem State.modPkt_sec (s : State) (f : Packet → Packet) : (s.modPkt f).sec = s.sec := rfl
@[simp] theorem State.modPkt_mon (s : State) (f : Packet → Packet) : (s.modPkt f).mon = s.mon := rfl
@[simp] theorem State.modPkt_jtag (s : State) (f : Packet → Packet) : (s.modPkt f).jtag = s.jtag := rfl
@[simp] theorem State.modPkt_mgmt (s : State) (f : Packet → Packet) : (s.modPkt f).mgmt = s.mgmt := rfl
@[simp] theorem State.modPkt_emitted (s : State) (f : Packet → Packet) : (s.modPkt f).emitted = s.emitted := rfl
@[simp] theorem State.modPkt_free (s : State) (f : Packet → Packet) : (s.modPkt f).free = s.free := rfl
@[simp] theorem State.modPkt_time (s : State) (f : Packet → Packet) : (s.modPkt f).time = s.time := rfl
@[simp] theorem State.modPkt_pending (s : State) (f : Packet → Packet) : (s.modPkt f).pending = s.pending := rfl

@[simp] theorem State.modLink_clk (s : State) (f : Link → Link) : (s.modLink f).clk = s.clk := rfl
@[simp] theorem State.modLink_power (s : State) (f : Link → Link) : (s.modLink f).power = s.power := rfl
@[simp] theorem State.modLink_fuses (s : State) (f : Link → Link) : (s.modLink f).fuses = s.fuses := rfl
@[simp] theorem State.modLink_boot (s : State) (f : Link → Link) : (s.modLink f).boot = s.boot := rfl
@[simp] theorem State.modLink_units (s : State) (f : Link → Link) : (s.modLink f).units = s.units := rfl
@[simp] theorem State.modLink_tracker (s : State) (f : Link → Link) : (s.modLink f).tracker = s.tracker := rfl
@[simp] theorem State.modLink_vio (s : State) (f : Link → Link) : (s.modLink f).vio = s.vio := rfl
@[simp] theorem State.modLink_parts (s : State) (f : Link → Link) : (s.modLink f).parts = s.parts := rfl
@[simp] theorem State.modLink_excRates (s : State) (f : Link → Link) : (s.modLink f).excRates = s.excRates := rfl
@[simp] theorem State.modLink_decode (s : State) (f : Link → Link) : (s.modLink f).decode = s.decode := rfl
@[simp] theorem State.modLink_opResident (s : State) (f : Link → Link) : (s.modLink f).opResident = s.opResident := rfl
@[simp] theorem State.modLink_launch (s : State) (f : Link → Link) : (s.modLink f).launch = s.launch := rfl
@[simp] theorem State.modLink_crossings (s : State) (f : Link → Link) : (s.modLink f).crossings = s.crossings := rfl
@[simp] theorem State.modLink_ports (s : State) (f : Link → Link) : (s.modLink f).ports = s.ports := rfl
@[simp] theorem State.modLink_insts (s : State) (f : Link → Link) : (s.modLink f).insts = s.insts := rfl
@[simp] theorem State.modLink_mbxs (s : State) (f : Link → Link) : (s.modLink f).mbxs = s.mbxs := rfl
@[simp] theorem State.modLink_longOps (s : State) (f : Link → Link) : (s.modLink f).longOps = s.longOps := rfl
@[simp] theorem State.modLink_opNo (s : State) (f : Link → Link) : (s.modLink f).opNo = s.opNo := rfl
@[simp] theorem State.modLink_ctxs (s : State) (f : Link → Link) : (s.modLink f).ctxs = s.ctxs := rfl
@[simp] theorem State.modLink_fw (s : State) (f : Link → Link) : (s.modLink f).fw = s.fw := rfl
@[simp] theorem State.modLink_faultLog (s : State) (f : Link → Link) : (s.modLink f).faultLog = s.faultLog := rfl
@[simp] theorem State.modLink_tiles (s : State) (f : Link → Link) : (s.modLink f).tiles = s.tiles := rfl
@[simp] theorem State.modLink_groups (s : State) (f : Link → Link) : (s.modLink f).groups = s.groups := rfl
@[simp] theorem State.modLink_mesh (s : State) (f : Link → Link) : (s.modLink f).mesh = s.mesh := rfl
@[simp] theorem State.modLink_models (s : State) (f : Link → Link) : (s.modLink f).models = s.models := rfl
@[simp] theorem State.modLink_sessions (s : State) (f : Link → Link) : (s.modLink f).sessions = s.sessions := rfl
@[simp] theorem State.modLink_cores (s : State) (f : Link → Link) : (s.modLink f).cores = s.cores := rfl
@[simp] theorem State.modLink_reserve (s : State) (f : Link → Link) : (s.modLink f).reserve = s.reserve := rfl
@[simp] theorem State.modLink_dram (s : State) (f : Link → Link) : (s.modLink f).dram = s.dram := rfl
@[simp] theorem State.modLink_link (s : State) (f : Link → Link) : (s.modLink f).link = f s.link := rfl
@[simp] theorem State.modLink_ckp (s : State) (f : Link → Link) : (s.modLink f).ckp = s.ckp := rfl
@[simp] theorem State.modLink_stor (s : State) (f : Link → Link) : (s.modLink f).stor = s.stor := rfl
@[simp] theorem State.modLink_pkt (s : State) (f : Link → Link) : (s.modLink f).pkt = s.pkt := rfl
@[simp] theorem State.modLink_sec (s : State) (f : Link → Link) : (s.modLink f).sec = s.sec := rfl
@[simp] theorem State.modLink_mon (s : State) (f : Link → Link) : (s.modLink f).mon = s.mon := rfl
@[simp] theorem State.modLink_jtag (s : State) (f : Link → Link) : (s.modLink f).jtag = s.jtag := rfl
@[simp] theorem State.modLink_mgmt (s : State) (f : Link → Link) : (s.modLink f).mgmt = s.mgmt := rfl
@[simp] theorem State.modLink_emitted (s : State) (f : Link → Link) : (s.modLink f).emitted = s.emitted := rfl
@[simp] theorem State.modLink_free (s : State) (f : Link → Link) : (s.modLink f).free = s.free := rfl
@[simp] theorem State.modLink_time (s : State) (f : Link → Link) : (s.modLink f).time = s.time := rfl
@[simp] theorem State.modLink_pending (s : State) (f : Link → Link) : (s.modLink f).pending = s.pending := rfl

@[simp] theorem State.modTrack_clk (s : State) (k : Nat) (f : TrackEntry → TrackEntry) : (s.modTrack k f).clk = s.clk := rfl
@[simp] theorem State.modTrack_power (s : State) (k : Nat) (f : TrackEntry → TrackEntry) : (s.modTrack k f).power = s.power := rfl
@[simp] theorem State.modTrack_fuses (s : State) (k : Nat) (f : TrackEntry → TrackEntry) : (s.modTrack k f).fuses = s.fuses := rfl
@[simp] theorem State.modTrack_boot (s : State) (k : Nat) (f : TrackEntry → TrackEntry) : (s.modTrack k f).boot = s.boot := rfl
@[simp] theorem State.modTrack_units (s : State) (k : Nat) (f : TrackEntry → TrackEntry) : (s.modTrack k f).units = s.units := rfl
@[simp] theorem State.modTrack_vio (s : State) (k : Nat) (f : TrackEntry → TrackEntry) : (s.modTrack k f).vio = s.vio := rfl
@[simp] theorem State.modTrack_parts (s : State) (k : Nat) (f : TrackEntry → TrackEntry) : (s.modTrack k f).parts = s.parts := rfl
@[simp] theorem State.modTrack_excRates (s : State) (k : Nat) (f : TrackEntry → TrackEntry) : (s.modTrack k f).excRates = s.excRates := rfl
@[simp] theorem State.modTrack_decode (s : State) (k : Nat) (f : TrackEntry → TrackEntry) : (s.modTrack k f).decode = s.decode := rfl
@[simp] theorem State.modTrack_opResident (s : State) (k : Nat) (f : TrackEntry → TrackEntry) : (s.modTrack k f).opResident = s.opResident := rfl
@[simp] theorem State.modTrack_launch (s : State) (k : Nat) (f : TrackEntry → TrackEntry) : (s.modTrack k f).launch = s.launch := rfl
@[simp] theorem State.modTrack_crossings (s : State) (k : Nat) (f : TrackEntry → TrackEntry) : (s.modTrack k f).crossings = s.crossings := rfl
@[simp] theorem State.modTrack_ports (s : State) (k : Nat) (f : TrackEntry → TrackEntry) : (s.modTrack k f).ports = s.ports := rfl
@[simp] theorem State.modTrack_insts (s : State) (k : Nat) (f : TrackEntry → TrackEntry) : (s.modTrack k f).insts = s.insts := rfl
@[simp] theorem State.modTrack_mbxs (s : State) (k : Nat) (f : TrackEntry → TrackEntry) : (s.modTrack k f).mbxs = s.mbxs := rfl
@[simp] theorem State.modTrack_longOps (s : State) (k : Nat) (f : TrackEntry → TrackEntry) : (s.modTrack k f).longOps = s.longOps := rfl
@[simp] theorem State.modTrack_opNo (s : State) (k : Nat) (f : TrackEntry → TrackEntry) : (s.modTrack k f).opNo = s.opNo := rfl
@[simp] theorem State.modTrack_ctxs (s : State) (k : Nat) (f : TrackEntry → TrackEntry) : (s.modTrack k f).ctxs = s.ctxs := rfl
@[simp] theorem State.modTrack_fw (s : State) (k : Nat) (f : TrackEntry → TrackEntry) : (s.modTrack k f).fw = s.fw := rfl
@[simp] theorem State.modTrack_faultLog (s : State) (k : Nat) (f : TrackEntry → TrackEntry) : (s.modTrack k f).faultLog = s.faultLog := rfl
@[simp] theorem State.modTrack_tiles (s : State) (k : Nat) (f : TrackEntry → TrackEntry) : (s.modTrack k f).tiles = s.tiles := rfl
@[simp] theorem State.modTrack_groups (s : State) (k : Nat) (f : TrackEntry → TrackEntry) : (s.modTrack k f).groups = s.groups := rfl
@[simp] theorem State.modTrack_mesh (s : State) (k : Nat) (f : TrackEntry → TrackEntry) : (s.modTrack k f).mesh = s.mesh := rfl
@[simp] theorem State.modTrack_models (s : State) (k : Nat) (f : TrackEntry → TrackEntry) : (s.modTrack k f).models = s.models := rfl
@[simp] theorem State.modTrack_sessions (s : State) (k : Nat) (f : TrackEntry → TrackEntry) : (s.modTrack k f).sessions = s.sessions := rfl
@[simp] theorem State.modTrack_cores (s : State) (k : Nat) (f : TrackEntry → TrackEntry) : (s.modTrack k f).cores = s.cores := rfl
@[simp] theorem State.modTrack_reserve (s : State) (k : Nat) (f : TrackEntry → TrackEntry) : (s.modTrack k f).reserve = s.reserve := rfl
@[simp] theorem State.modTrack_dram (s : State) (k : Nat) (f : TrackEntry → TrackEntry) : (s.modTrack k f).dram = s.dram := rfl
@[simp] theorem State.modTrack_link (s : State) (k : Nat) (f : TrackEntry → TrackEntry) : (s.modTrack k f).link = s.link := rfl
@[simp] theorem State.modTrack_ckp (s : State) (k : Nat) (f : TrackEntry → TrackEntry) : (s.modTrack k f).ckp = s.ckp := rfl
@[simp] theorem State.modTrack_stor (s : State) (k : Nat) (f : TrackEntry → TrackEntry) : (s.modTrack k f).stor = s.stor := rfl
@[simp] theorem State.modTrack_pkt (s : State) (k : Nat) (f : TrackEntry → TrackEntry) : (s.modTrack k f).pkt = s.pkt := rfl
@[simp] theorem State.modTrack_sec (s : State) (k : Nat) (f : TrackEntry → TrackEntry) : (s.modTrack k f).sec = s.sec := rfl
@[simp] theorem State.modTrack_mon (s : State) (k : Nat) (f : TrackEntry → TrackEntry) : (s.modTrack k f).mon = s.mon := rfl
@[simp] theorem State.modTrack_jtag (s : State) (k : Nat) (f : TrackEntry → TrackEntry) : (s.modTrack k f).jtag = s.jtag := rfl
@[simp] theorem State.modTrack_mgmt (s : State) (k : Nat) (f : TrackEntry → TrackEntry) : (s.modTrack k f).mgmt = s.mgmt := rfl
@[simp] theorem State.modTrack_emitted (s : State) (k : Nat) (f : TrackEntry → TrackEntry) : (s.modTrack k f).emitted = s.emitted := rfl
@[simp] theorem State.modTrack_free (s : State) (k : Nat) (f : TrackEntry → TrackEntry) : (s.modTrack k f).free = s.free := rfl
@[simp] theorem State.modTrack_time (s : State) (k : Nat) (f : TrackEntry → TrackEntry) : (s.modTrack k f).time = s.time := rfl
@[simp] theorem State.modTrack_pending (s : State) (k : Nat) (f : TrackEntry → TrackEntry) : (s.modTrack k f).pending = s.pending := rfl

@[simp] theorem modUnit_clk (s : State) (u : Nat) (f : UnitRec → UnitRec) : (modUnit s u f).clk = s.clk := rfl
@[simp] theorem modUnit_power (s : State) (u : Nat) (f : UnitRec → UnitRec) : (modUnit s u f).power = s.power := rfl
@[simp] theorem modUnit_fuses (s : State) (u : Nat) (f : UnitRec → UnitRec) : (modUnit s u f).fuses = s.fuses := rfl
@[simp] theorem modUnit_boot (s : State) (u : Nat) (f : UnitRec → UnitRec) : (modUnit s u f).boot = s.boot := rfl
@[simp] theorem modUnit_tracker (s : State) (u : Nat) (f : UnitRec → UnitRec) : (modUnit s u f).tracker = s.tracker := rfl
@[simp] theorem modUnit_vio (s : State) (u : Nat) (f : UnitRec → UnitRec) : (modUnit s u f).vio = s.vio := rfl
@[simp] theorem modUnit_parts (s : State) (u : Nat) (f : UnitRec → UnitRec) : (modUnit s u f).parts = s.parts := rfl
@[simp] theorem modUnit_excRates (s : State) (u : Nat) (f : UnitRec → UnitRec) : (modUnit s u f).excRates = s.excRates := rfl
@[simp] theorem modUnit_decode (s : State) (u : Nat) (f : UnitRec → UnitRec) : (modUnit s u f).decode = s.decode := rfl
@[simp] theorem modUnit_opResident (s : State) (u : Nat) (f : UnitRec → UnitRec) : (modUnit s u f).opResident = s.opResident := rfl
@[simp] theorem modUnit_launch (s : State) (u : Nat) (f : UnitRec → UnitRec) : (modUnit s u f).launch = s.launch := rfl
@[simp] theorem modUnit_crossings (s : State) (u : Nat) (f : UnitRec → UnitRec) : (modUnit s u f).crossings = s.crossings := rfl
@[simp] theorem modUnit_ports (s : State) (u : Nat) (f : UnitRec → UnitRec) : (modUnit s u f).ports = s.ports := rfl
@[simp] theorem modUnit_insts (s : State) (u : Nat) (f : UnitRec → UnitRec) : (modUnit s u f).insts = s.insts := rfl
@[simp] theorem modUnit_mbxs (s : State) (u : Nat) (f : UnitRec → UnitRec) : (modUnit s u f).mbxs = s.mbxs := rfl
@[simp] theorem modUnit_longOps (s : State) (u : Nat) (f : UnitRec → UnitRec) : (modUnit s u f).longOps = s.longOps := rfl
@[simp] theorem modUnit_opNo (s : State) (u : Nat) (f : UnitRec → UnitRec) : (modUnit s u f).opNo = s.opNo := rfl
@[simp] theorem modUnit_ctxs (s : State) (u : Nat) (f : UnitRec → UnitRec) : (modUnit s u f).ctxs = s.ctxs := rfl
@[simp] theorem modUnit_fw (s : State) (u : Nat) (f : UnitRec → UnitRec) : (modUnit s u f).fw = s.fw := rfl
@[simp] theorem modUnit_faultLog (s : State) (u : Nat) (f : UnitRec → UnitRec) : (modUnit s u f).faultLog = s.faultLog := rfl
@[simp] theorem modUnit_tiles (s : State) (u : Nat) (f : UnitRec → UnitRec) : (modUnit s u f).tiles = s.tiles := rfl
@[simp] theorem modUnit_groups (s : State) (u : Nat) (f : UnitRec → UnitRec) : (modUnit s u f).groups = s.groups := rfl
@[simp] theorem modUnit_mesh (s : State) (u : Nat) (f : UnitRec → UnitRec) : (modUnit s u f).mesh = s.mesh := rfl
@[simp] theorem modUnit_models (s : State) (u : Nat) (f : UnitRec → UnitRec) : (modUnit s u f).models = s.models := rfl
@[simp] theorem modUnit_sessions (s : State) (u : Nat) (f : UnitRec → UnitRec) : (modUnit s u f).sessions = s.sessions := rfl
@[simp] theorem modUnit_cores (s : State) (u : Nat) (f : UnitRec → UnitRec) : (modUnit s u f).cores = s.cores := rfl
@[simp] theorem modUnit_reserve (s : State) (u : Nat) (f : UnitRec → UnitRec) : (modUnit s u f).reserve = s.reserve := rfl
@[simp] theorem modUnit_dram (s : State) (u : Nat) (f : UnitRec → UnitRec) : (modUnit s u f).dram = s.dram := rfl
@[simp] theorem modUnit_link (s : State) (u : Nat) (f : UnitRec → UnitRec) : (modUnit s u f).link = s.link := rfl
@[simp] theorem modUnit_ckp (s : State) (u : Nat) (f : UnitRec → UnitRec) : (modUnit s u f).ckp = s.ckp := rfl
@[simp] theorem modUnit_stor (s : State) (u : Nat) (f : UnitRec → UnitRec) : (modUnit s u f).stor = s.stor := rfl
@[simp] theorem modUnit_pkt (s : State) (u : Nat) (f : UnitRec → UnitRec) : (modUnit s u f).pkt = s.pkt := rfl
@[simp] theorem modUnit_sec (s : State) (u : Nat) (f : UnitRec → UnitRec) : (modUnit s u f).sec = s.sec := rfl
@[simp] theorem modUnit_mon (s : State) (u : Nat) (f : UnitRec → UnitRec) : (modUnit s u f).mon = s.mon := rfl
@[simp] theorem modUnit_jtag (s : State) (u : Nat) (f : UnitRec → UnitRec) : (modUnit s u f).jtag = s.jtag := rfl
@[simp] theorem modUnit_mgmt (s : State) (u : Nat) (f : UnitRec → UnitRec) : (modUnit s u f).mgmt = s.mgmt := rfl
@[simp] theorem modUnit_emitted (s : State) (u : Nat) (f : UnitRec → UnitRec) : (modUnit s u f).emitted = s.emitted := rfl
@[simp] theorem modUnit_free (s : State) (u : Nat) (f : UnitRec → UnitRec) : (modUnit s u f).free = s.free := rfl
@[simp] theorem modUnit_time (s : State) (u : Nat) (f : UnitRec → UnitRec) : (modUnit s u f).time = s.time := rfl
@[simp] theorem modUnit_pending (s : State) (u : Nat) (f : UnitRec → UnitRec) : (modUnit s u f).pending = s.pending := rfl

@[simp] theorem modPlot_clk (s : State) (n : Nat) (f : Plot → Plot) : (modPlot s n f).clk = s.clk := rfl
@[simp] theorem modPlot_power (s : State) (n : Nat) (f : Plot → Plot) : (modPlot s n f).power = s.power := rfl
@[simp] theorem modPlot_fuses (s : State) (n : Nat) (f : Plot → Plot) : (modPlot s n f).fuses = s.fuses := rfl
@[simp] theorem modPlot_boot (s : State) (n : Nat) (f : Plot → Plot) : (modPlot s n f).boot = s.boot := rfl
@[simp] theorem modPlot_units (s : State) (n : Nat) (f : Plot → Plot) : (modPlot s n f).units = s.units := rfl
@[simp] theorem modPlot_tracker (s : State) (n : Nat) (f : Plot → Plot) : (modPlot s n f).tracker = s.tracker := rfl
@[simp] theorem modPlot_vio (s : State) (n : Nat) (f : Plot → Plot) : (modPlot s n f).vio = s.vio := rfl
@[simp] theorem modPlot_parts (s : State) (n : Nat) (f : Plot → Plot) : (modPlot s n f).parts = s.parts := rfl
@[simp] theorem modPlot_excRates (s : State) (n : Nat) (f : Plot → Plot) : (modPlot s n f).excRates = s.excRates := rfl
@[simp] theorem modPlot_decode (s : State) (n : Nat) (f : Plot → Plot) : (modPlot s n f).decode = s.decode := rfl
@[simp] theorem modPlot_opResident (s : State) (n : Nat) (f : Plot → Plot) : (modPlot s n f).opResident = s.opResident := rfl
@[simp] theorem modPlot_launch (s : State) (n : Nat) (f : Plot → Plot) : (modPlot s n f).launch = s.launch := rfl
@[simp] theorem modPlot_crossings (s : State) (n : Nat) (f : Plot → Plot) : (modPlot s n f).crossings = s.crossings := rfl
@[simp] theorem modPlot_ports (s : State) (n : Nat) (f : Plot → Plot) : (modPlot s n f).ports = s.ports := rfl
@[simp] theorem modPlot_insts (s : State) (n : Nat) (f : Plot → Plot) : (modPlot s n f).insts = s.insts := rfl
@[simp] theorem modPlot_mbxs (s : State) (n : Nat) (f : Plot → Plot) : (modPlot s n f).mbxs = s.mbxs := rfl
@[simp] theorem modPlot_longOps (s : State) (n : Nat) (f : Plot → Plot) : (modPlot s n f).longOps = s.longOps := rfl
@[simp] theorem modPlot_opNo (s : State) (n : Nat) (f : Plot → Plot) : (modPlot s n f).opNo = s.opNo := rfl
@[simp] theorem modPlot_ctxs (s : State) (n : Nat) (f : Plot → Plot) : (modPlot s n f).ctxs = s.ctxs := rfl
@[simp] theorem modPlot_fw (s : State) (n : Nat) (f : Plot → Plot) : (modPlot s n f).fw = s.fw := rfl
@[simp] theorem modPlot_faultLog (s : State) (n : Nat) (f : Plot → Plot) : (modPlot s n f).faultLog = s.faultLog := rfl
@[simp] theorem modPlot_tiles (s : State) (n : Nat) (f : Plot → Plot) : (modPlot s n f).tiles = s.tiles := rfl
@[simp] theorem modPlot_groups (s : State) (n : Nat) (f : Plot → Plot) : (modPlot s n f).groups = s.groups := rfl
@[simp] theorem modPlot_mesh (s : State) (n : Nat) (f : Plot → Plot) : (modPlot s n f).mesh = s.mesh := rfl
@[simp] theorem modPlot_models (s : State) (n : Nat) (f : Plot → Plot) : (modPlot s n f).models = s.models := rfl
@[simp] theorem modPlot_sessions (s : State) (n : Nat) (f : Plot → Plot) : (modPlot s n f).sessions = s.sessions := rfl
@[simp] theorem modPlot_cores (s : State) (n : Nat) (f : Plot → Plot) : (modPlot s n f).cores = s.cores := rfl
@[simp] theorem modPlot_reserve (s : State) (n : Nat) (f : Plot → Plot) : (modPlot s n f).reserve = s.reserve := rfl
@[simp] theorem modPlot_link (s : State) (n : Nat) (f : Plot → Plot) : (modPlot s n f).link = s.link := rfl
@[simp] theorem modPlot_ckp (s : State) (n : Nat) (f : Plot → Plot) : (modPlot s n f).ckp = s.ckp := rfl
@[simp] theorem modPlot_stor (s : State) (n : Nat) (f : Plot → Plot) : (modPlot s n f).stor = s.stor := rfl
@[simp] theorem modPlot_pkt (s : State) (n : Nat) (f : Plot → Plot) : (modPlot s n f).pkt = s.pkt := rfl
@[simp] theorem modPlot_sec (s : State) (n : Nat) (f : Plot → Plot) : (modPlot s n f).sec = s.sec := rfl
@[simp] theorem modPlot_mon (s : State) (n : Nat) (f : Plot → Plot) : (modPlot s n f).mon = s.mon := rfl
@[simp] theorem modPlot_jtag (s : State) (n : Nat) (f : Plot → Plot) : (modPlot s n f).jtag = s.jtag := rfl
@[simp] theorem modPlot_mgmt (s : State) (n : Nat) (f : Plot → Plot) : (modPlot s n f).mgmt = s.mgmt := rfl
@[simp] theorem modPlot_emitted (s : State) (n : Nat) (f : Plot → Plot) : (modPlot s n f).emitted = s.emitted := rfl
@[simp] theorem modPlot_free (s : State) (n : Nat) (f : Plot → Plot) : (modPlot s n f).free = s.free := rfl
@[simp] theorem modPlot_time (s : State) (n : Nat) (f : Plot → Plot) : (modPlot s n f).time = s.time := rfl
@[simp] theorem modPlot_pending (s : State) (n : Nat) (f : Plot → Plot) : (modPlot s n f).pending = s.pending := rfl

@[simp] theorem logFault_clk (s : State) (u k c : Nat) : (logFault s u k c).clk = s.clk := rfl
@[simp] theorem logFault_power (s : State) (u k c : Nat) : (logFault s u k c).power = s.power := rfl
@[simp] theorem logFault_fuses (s : State) (u k c : Nat) : (logFault s u k c).fuses = s.fuses := rfl
@[simp] theorem logFault_boot (s : State) (u k c : Nat) : (logFault s u k c).boot = s.boot := rfl
@[simp] theorem logFault_units (s : State) (u k c : Nat) : (logFault s u k c).units = s.units := rfl
@[simp] theorem logFault_tracker (s : State) (u k c : Nat) : (logFault s u k c).tracker = s.tracker := rfl
@[simp] theorem logFault_vio (s : State) (u k c : Nat) : (logFault s u k c).vio = s.vio := rfl
@[simp] theorem logFault_parts (s : State) (u k c : Nat) : (logFault s u k c).parts = s.parts := rfl
@[simp] theorem logFault_excRates (s : State) (u k c : Nat) : (logFault s u k c).excRates = s.excRates := rfl
@[simp] theorem logFault_decode (s : State) (u k c : Nat) : (logFault s u k c).decode = s.decode := rfl
@[simp] theorem logFault_opResident (s : State) (u k c : Nat) : (logFault s u k c).opResident = s.opResident := rfl
@[simp] theorem logFault_launch (s : State) (u k c : Nat) : (logFault s u k c).launch = s.launch := rfl
@[simp] theorem logFault_crossings (s : State) (u k c : Nat) : (logFault s u k c).crossings = s.crossings := rfl
@[simp] theorem logFault_ports (s : State) (u k c : Nat) : (logFault s u k c).ports = s.ports := rfl
@[simp] theorem logFault_insts (s : State) (u k c : Nat) : (logFault s u k c).insts = s.insts := rfl
@[simp] theorem logFault_mbxs (s : State) (u k c : Nat) : (logFault s u k c).mbxs = s.mbxs := rfl
@[simp] theorem logFault_longOps (s : State) (u k c : Nat) : (logFault s u k c).longOps = s.longOps := rfl
@[simp] theorem logFault_opNo (s : State) (u k c : Nat) : (logFault s u k c).opNo = s.opNo := rfl
@[simp] theorem logFault_ctxs (s : State) (u k c : Nat) : (logFault s u k c).ctxs = s.ctxs := rfl
@[simp] theorem logFault_fw (s : State) (u k c : Nat) : (logFault s u k c).fw = s.fw := rfl
@[simp] theorem logFault_tiles (s : State) (u k c : Nat) : (logFault s u k c).tiles = s.tiles := rfl
@[simp] theorem logFault_groups (s : State) (u k c : Nat) : (logFault s u k c).groups = s.groups := rfl
@[simp] theorem logFault_mesh (s : State) (u k c : Nat) : (logFault s u k c).mesh = s.mesh := rfl
@[simp] theorem logFault_models (s : State) (u k c : Nat) : (logFault s u k c).models = s.models := rfl
@[simp] theorem logFault_sessions (s : State) (u k c : Nat) : (logFault s u k c).sessions = s.sessions := rfl
@[simp] theorem logFault_cores (s : State) (u k c : Nat) : (logFault s u k c).cores = s.cores := rfl
@[simp] theorem logFault_reserve (s : State) (u k c : Nat) : (logFault s u k c).reserve = s.reserve := rfl
@[simp] theorem logFault_dram (s : State) (u k c : Nat) : (logFault s u k c).dram = s.dram := rfl
@[simp] theorem logFault_link (s : State) (u k c : Nat) : (logFault s u k c).link = s.link := rfl
@[simp] theorem logFault_ckp (s : State) (u k c : Nat) : (logFault s u k c).ckp = s.ckp := rfl
@[simp] theorem logFault_stor (s : State) (u k c : Nat) : (logFault s u k c).stor = s.stor := rfl
@[simp] theorem logFault_pkt (s : State) (u k c : Nat) : (logFault s u k c).pkt = s.pkt := rfl
@[simp] theorem logFault_sec (s : State) (u k c : Nat) : (logFault s u k c).sec = s.sec := rfl
@[simp] theorem logFault_mon (s : State) (u k c : Nat) : (logFault s u k c).mon = s.mon := rfl
@[simp] theorem logFault_jtag (s : State) (u k c : Nat) : (logFault s u k c).jtag = s.jtag := rfl
@[simp] theorem logFault_mgmt (s : State) (u k c : Nat) : (logFault s u k c).mgmt = s.mgmt := rfl
@[simp] theorem logFault_emitted (s : State) (u k c : Nat) : (logFault s u k c).emitted = s.emitted := rfl
@[simp] theorem logFault_free (s : State) (u k c : Nat) : (logFault s u k c).free = s.free := rfl
@[simp] theorem logFault_time (s : State) (u k c : Nat) : (logFault s u k c).time = s.time := rfl
@[simp] theorem logFault_pending (s : State) (u k c : Nat) : (logFault s u k c).pending = s.pending := rfl

end Sys2Proof.Machine
end

