-- ==== Sys2Proof/Laws/Fields.lean ====
section
/-! SUPPORT. The fields of the state that responses, events and records leave as they are. -/

namespace Sys2Proof.Machine

@[simp] theorem emitAll_clk (s : State) (es : List Emit): (s.emitAll es).clk = s.clk := emitAll_keeps (π := State.clk) (fun _ _ _ _ _ => rfl) s _
@[simp] theorem emitAll_power (s : State) (es : List Emit): (s.emitAll es).power = s.power := emitAll_keeps (π := State.power) (fun _ _ _ _ _ => rfl) s _
@[simp] theorem emitAll_fuses (s : State) (es : List Emit): (s.emitAll es).fuses = s.fuses := emitAll_keeps (π := State.fuses) (fun _ _ _ _ _ => rfl) s _
@[simp] theorem emitAll_boot (s : State) (es : List Emit): (s.emitAll es).boot = s.boot := emitAll_keeps (π := State.boot) (fun _ _ _ _ _ => rfl) s _
@[simp] theorem emitAll_units (s : State) (es : List Emit): (s.emitAll es).units = s.units := emitAll_keeps (π := State.units) (fun _ _ _ _ _ => rfl) s _
@[simp] theorem emitAll_tracker (s : State) (es : List Emit): (s.emitAll es).tracker = s.tracker := emitAll_keeps (π := State.tracker) (fun _ _ _ _ _ => rfl) s _
@[simp] theorem emitAll_vio (s : State) (es : List Emit): (s.emitAll es).vio = s.vio := emitAll_keeps (π := State.vio) (fun _ _ _ _ _ => rfl) s _
@[simp] theorem emitAll_parts (s : State) (es : List Emit): (s.emitAll es).parts = s.parts := emitAll_keeps (π := State.parts) (fun _ _ _ _ _ => rfl) s _
@[simp] theorem emitAll_excRates (s : State) (es : List Emit): (s.emitAll es).excRates = s.excRates := emitAll_keeps (π := State.excRates) (fun _ _ _ _ _ => rfl) s _
@[simp] theorem emitAll_decode (s : State) (es : List Emit): (s.emitAll es).decode = s.decode := emitAll_keeps (π := State.decode) (fun _ _ _ _ _ => rfl) s _
@[simp] theorem emitAll_opResident (s : State) (es : List Emit): (s.emitAll es).opResident = s.opResident := emitAll_keeps (π := State.opResident) (fun _ _ _ _ _ => rfl) s _
@[simp] theorem emitAll_launch (s : State) (es : List Emit): (s.emitAll es).launch = s.launch := emitAll_keeps (π := State.launch) (fun _ _ _ _ _ => rfl) s _
@[simp] theorem emitAll_crossings (s : State) (es : List Emit): (s.emitAll es).crossings = s.crossings := emitAll_keeps (π := State.crossings) (fun _ _ _ _ _ => rfl) s _
@[simp] theorem emitAll_longOps (s : State) (es : List Emit): (s.emitAll es).longOps = s.longOps := emitAll_keeps (π := State.longOps) (fun _ _ _ _ _ => rfl) s _
@[simp] theorem emitAll_opNo (s : State) (es : List Emit): (s.emitAll es).opNo = s.opNo := emitAll_keeps (π := State.opNo) (fun _ _ _ _ _ => rfl) s _
@[simp] theorem emitAll_ctxs (s : State) (es : List Emit): (s.emitAll es).ctxs = s.ctxs := emitAll_keeps (π := State.ctxs) (fun _ _ _ _ _ => rfl) s _
@[simp] theorem emitAll_fw (s : State) (es : List Emit): (s.emitAll es).fw = s.fw := emitAll_keeps (π := State.fw) (fun _ _ _ _ _ => rfl) s _
@[simp] theorem emitAll_faultLog (s : State) (es : List Emit): (s.emitAll es).faultLog = s.faultLog := emitAll_keeps (π := State.faultLog) (fun _ _ _ _ _ => rfl) s _
@[simp] theorem emitAll_tiles (s : State) (es : List Emit): (s.emitAll es).tiles = s.tiles := emitAll_keeps (π := State.tiles) (fun _ _ _ _ _ => rfl) s _
@[simp] theorem emitAll_groups (s : State) (es : List Emit): (s.emitAll es).groups = s.groups := emitAll_keeps (π := State.groups) (fun _ _ _ _ _ => rfl) s _
@[simp] theorem emitAll_mesh (s : State) (es : List Emit): (s.emitAll es).mesh = s.mesh := emitAll_keeps (π := State.mesh) (fun _ _ _ _ _ => rfl) s _
@[simp] theorem emitAll_models (s : State) (es : List Emit): (s.emitAll es).models = s.models := emitAll_keeps (π := State.models) (fun _ _ _ _ _ => rfl) s _
@[simp] theorem emitAll_sessions (s : State) (es : List Emit): (s.emitAll es).sessions = s.sessions := emitAll_keeps (π := State.sessions) (fun _ _ _ _ _ => rfl) s _
@[simp] theorem emitAll_cores (s : State) (es : List Emit): (s.emitAll es).cores = s.cores := emitAll_keeps (π := State.cores) (fun _ _ _ _ _ => rfl) s _
@[simp] theorem emitAll_reserve (s : State) (es : List Emit): (s.emitAll es).reserve = s.reserve := emitAll_keeps (π := State.reserve) (fun _ _ _ _ _ => rfl) s _
@[simp] theorem emitAll_dram (s : State) (es : List Emit): (s.emitAll es).dram = s.dram := emitAll_keeps (π := State.dram) (fun _ _ _ _ _ => rfl) s _
@[simp] theorem emitAll_link (s : State) (es : List Emit): (s.emitAll es).link = s.link := emitAll_keeps (π := State.link) (fun _ _ _ _ _ => rfl) s _
@[simp] theorem emitAll_ckp (s : State) (es : List Emit): (s.emitAll es).ckp = s.ckp := emitAll_keeps (π := State.ckp) (fun _ _ _ _ _ => rfl) s _
@[simp] theorem emitAll_stor (s : State) (es : List Emit): (s.emitAll es).stor = s.stor := emitAll_keeps (π := State.stor) (fun _ _ _ _ _ => rfl) s _
@[simp] theorem emitAll_pkt (s : State) (es : List Emit): (s.emitAll es).pkt = s.pkt := emitAll_keeps (π := State.pkt) (fun _ _ _ _ _ => rfl) s _
@[simp] theorem emitAll_sec (s : State) (es : List Emit): (s.emitAll es).sec = s.sec := emitAll_keeps (π := State.sec) (fun _ _ _ _ _ => rfl) s _
@[simp] theorem emitAll_mon (s : State) (es : List Emit): (s.emitAll es).mon = s.mon := emitAll_keeps (π := State.mon) (fun _ _ _ _ _ => rfl) s _
@[simp] theorem emitAll_jtag (s : State) (es : List Emit): (s.emitAll es).jtag = s.jtag := emitAll_keeps (π := State.jtag) (fun _ _ _ _ _ => rfl) s _
@[simp] theorem emitAll_mgmt (s : State) (es : List Emit): (s.emitAll es).mgmt = s.mgmt := emitAll_keeps (π := State.mgmt) (fun _ _ _ _ _ => rfl) s _
@[simp] theorem emitAll_free (s : State) (es : List Emit): (s.emitAll es).free = s.free := emitAll_keeps (π := State.free) (fun _ _ _ _ _ => rfl) s _
@[simp] theorem emitAll_time (s : State) (es : List Emit): (s.emitAll es).time = s.time := emitAll_keeps (π := State.time) (fun _ _ _ _ _ => rfl) s _
@[simp] theorem emitAll_pending (s : State) (es : List Emit): (s.emitAll es).pending = s.pending := emitAll_keeps (π := State.pending) (fun _ _ _ _ _ => rfl) s _

@[simp] theorem fetchReq_clk (s : State) (m : Nat): (fetchReq s m).clk = s.clk := fetchReq_keeps (π := State.clk) (fun _ _ _ _ _ => rfl) s _
@[simp] theorem fetchReq_power (s : State) (m : Nat): (fetchReq s m).power = s.power := fetchReq_keeps (π := State.power) (fun _ _ _ _ _ => rfl) s _
@[simp] theorem fetchReq_fuses (s : State) (m : Nat): (fetchReq s m).fuses = s.fuses := fetchReq_keeps (π := State.fuses) (fun _ _ _ _ _ => rfl) s _
@[simp] theorem fetchReq_boot (s : State) (m : Nat): (fetchReq s m).boot = s.boot := fetchReq_keeps (π := State.boot) (fun _ _ _ _ _ => rfl) s _
@[simp] theorem fetchReq_units (s : State) (m : Nat): (fetchReq s m).units = s.units := fetchReq_keeps (π := State.units) (fun _ _ _ _ _ => rfl) s _
@[simp] theorem fetchReq_tracker (s : State) (m : Nat): (fetchReq s m).tracker = s.tracker := fetchReq_keeps (π := State.tracker) (fun _ _ _ _ _ => rfl) s _
@[simp] theorem fetchReq_vio (s : State) (m : Nat): (fetchReq s m).vio = s.vio := fetchReq_keeps (π := State.vio) (fun _ _ _ _ _ => rfl) s _
@[simp] theorem fetchReq_parts (s : State) (m : Nat): (fetchReq s m).parts = s.parts := fetchReq_keeps (π := State.parts) (fun _ _ _ _ _ => rfl) s _
@[simp] theorem fetchReq_excRates (s : State) (m : Nat): (fetchReq s m).excRates = s.excRates := fetchReq_keeps (π := State.excRates) (fun _ _ _ _ _ => rfl) s _
@[simp] theorem fetchReq_decode (s : State) (m : Nat): (fetchReq s m).decode = s.decode := fetchReq_keeps (π := State.decode) (fun _ _ _ _ _ => rfl) s _
@[simp] theorem fetchReq_opResident (s : State) (m : Nat): (fetchReq s m).opResident = s.opResident := fetchReq_keeps (π := State.opResident) (fun _ _ _ _ _ => rfl) s _
@[simp] theorem fetchReq_launch (s : State) (m : Nat): (fetchReq s m).launch = s.launch := fetchReq_keeps (π := State.launch) (fun _ _ _ _ _ => rfl) s _
@[simp] theorem fetchReq_crossings (s : State) (m : Nat): (fetchReq s m).crossings = s.crossings := fetchReq_keeps (π := State.crossings) (fun _ _ _ _ _ => rfl) s _
@[simp] theorem fetchReq_longOps (s : State) (m : Nat): (fetchReq s m).longOps = s.longOps := fetchReq_keeps (π := State.longOps) (fun _ _ _ _ _ => rfl) s _
@[simp] theorem fetchReq_opNo (s : State) (m : Nat): (fetchReq s m).opNo = s.opNo := fetchReq_keeps (π := State.opNo) (fun _ _ _ _ _ => rfl) s _
@[simp] theorem fetchReq_ctxs (s : State) (m : Nat): (fetchReq s m).ctxs = s.ctxs := fetchReq_keeps (π := State.ctxs) (fun _ _ _ _ _ => rfl) s _
@[simp] theorem fetchReq_fw (s : State) (m : Nat): (fetchReq s m).fw = s.fw := fetchReq_keeps (π := State.fw) (fun _ _ _ _ _ => rfl) s _
@[simp] theorem fetchReq_faultLog (s : State) (m : Nat): (fetchReq s m).faultLog = s.faultLog := fetchReq_keeps (π := State.faultLog) (fun _ _ _ _ _ => rfl) s _
@[simp] theorem fetchReq_tiles (s : State) (m : Nat): (fetchReq s m).tiles = s.tiles := fetchReq_keeps (π := State.tiles) (fun _ _ _ _ _ => rfl) s _
@[simp] theorem fetchReq_groups (s : State) (m : Nat): (fetchReq s m).groups = s.groups := fetchReq_keeps (π := State.groups) (fun _ _ _ _ _ => rfl) s _
@[simp] theorem fetchReq_mesh (s : State) (m : Nat): (fetchReq s m).mesh = s.mesh := fetchReq_keeps (π := State.mesh) (fun _ _ _ _ _ => rfl) s _
@[simp] theorem fetchReq_models (s : State) (m : Nat): (fetchReq s m).models = s.models := fetchReq_keeps (π := State.models) (fun _ _ _ _ _ => rfl) s _
@[simp] theorem fetchReq_sessions (s : State) (m : Nat): (fetchReq s m).sessions = s.sessions := fetchReq_keeps (π := State.sessions) (fun _ _ _ _ _ => rfl) s _
@[simp] theorem fetchReq_cores (s : State) (m : Nat): (fetchReq s m).cores = s.cores := fetchReq_keeps (π := State.cores) (fun _ _ _ _ _ => rfl) s _
@[simp] theorem fetchReq_reserve (s : State) (m : Nat): (fetchReq s m).reserve = s.reserve := fetchReq_keeps (π := State.reserve) (fun _ _ _ _ _ => rfl) s _
@[simp] theorem fetchReq_dram (s : State) (m : Nat): (fetchReq s m).dram = s.dram := fetchReq_keeps (π := State.dram) (fun _ _ _ _ _ => rfl) s _
@[simp] theorem fetchReq_link (s : State) (m : Nat): (fetchReq s m).link = s.link := fetchReq_keeps (π := State.link) (fun _ _ _ _ _ => rfl) s _
@[simp] theorem fetchReq_ckp (s : State) (m : Nat): (fetchReq s m).ckp = s.ckp := fetchReq_keeps (π := State.ckp) (fun _ _ _ _ _ => rfl) s _
@[simp] theorem fetchReq_stor (s : State) (m : Nat): (fetchReq s m).stor = s.stor := fetchReq_keeps (π := State.stor) (fun _ _ _ _ _ => rfl) s _
@[simp] theorem fetchReq_pkt (s : State) (m : Nat): (fetchReq s m).pkt = s.pkt := fetchReq_keeps (π := State.pkt) (fun _ _ _ _ _ => rfl) s _
@[simp] theorem fetchReq_sec (s : State) (m : Nat): (fetchReq s m).sec = s.sec := fetchReq_keeps (π := State.sec) (fun _ _ _ _ _ => rfl) s _
@[simp] theorem fetchReq_mon (s : State) (m : Nat): (fetchReq s m).mon = s.mon := fetchReq_keeps (π := State.mon) (fun _ _ _ _ _ => rfl) s _
@[simp] theorem fetchReq_jtag (s : State) (m : Nat): (fetchReq s m).jtag = s.jtag := fetchReq_keeps (π := State.jtag) (fun _ _ _ _ _ => rfl) s _
@[simp] theorem fetchReq_mgmt (s : State) (m : Nat): (fetchReq s m).mgmt = s.mgmt := fetchReq_keeps (π := State.mgmt) (fun _ _ _ _ _ => rfl) s _
@[simp] theorem fetchReq_free (s : State) (m : Nat): (fetchReq s m).free = s.free := fetchReq_keeps (π := State.free) (fun _ _ _ _ _ => rfl) s _
@[simp] theorem fetchReq_time (s : State) (m : Nat): (fetchReq s m).time = s.time := fetchReq_keeps (π := State.time) (fun _ _ _ _ _ => rfl) s _
@[simp] theorem fetchReq_pending (s : State) (m : Nat): (fetchReq s m).pending = s.pending := fetchReq_keeps (π := State.pending) (fun _ _ _ _ _ => rfl) s _

@[simp] theorem dropDma_clk (s : State) (p n : Nat): (dropDma s p n).clk = s.clk := dropDma_keeps (π := State.clk) (fun _ _ _ _ _ => rfl) s _ _
@[simp] theorem dropDma_power (s : State) (p n : Nat): (dropDma s p n).power = s.power := dropDma_keeps (π := State.power) (fun _ _ _ _ _ => rfl) s _ _
@[simp] theorem dropDma_fuses (s : State) (p n : Nat): (dropDma s p n).fuses = s.fuses := dropDma_keeps (π := State.fuses) (fun _ _ _ _ _ => rfl) s _ _
@[simp] theorem dropDma_boot (s : State) (p n : Nat): (dropDma s p n).boot = s.boot := dropDma_keeps (π := State.boot) (fun _ _ _ _ _ => rfl) s _ _
@[simp] theorem dropDma_units (s : State) (p n : Nat): (dropDma s p n).units = s.units := dropDma_keeps (π := State.units) (fun _ _ _ _ _ => rfl) s _ _
@[simp] theorem dropDma_tracker (s : State) (p n : Nat): (dropDma s p n).tracker = s.tracker := dropDma_keeps (π := State.tracker) (fun _ _ _ _ _ => rfl) s _ _
@[simp] theorem dropDma_vio (s : State) (p n : Nat): (dropDma s p n).vio = s.vio := dropDma_keeps (π := State.vio) (fun _ _ _ _ _ => rfl) s _ _
@[simp] theorem dropDma_parts (s : State) (p n : Nat): (dropDma s p n).parts = s.parts := dropDma_keeps (π := State.parts) (fun _ _ _ _ _ => rfl) s _ _
@[simp] theorem dropDma_excRates (s : State) (p n : Nat): (dropDma s p n).excRates = s.excRates := dropDma_keeps (π := State.excRates) (fun _ _ _ _ _ => rfl) s _ _
@[simp] theorem dropDma_decode (s : State) (p n : Nat): (dropDma s p n).decode = s.decode := dropDma_keeps (π := State.decode) (fun _ _ _ _ _ => rfl) s _ _
@[simp] theorem dropDma_opResident (s : State) (p n : Nat): (dropDma s p n).opResident = s.opResident := dropDma_keeps (π := State.opResident) (fun _ _ _ _ _ => rfl) s _ _
@[simp] theorem dropDma_launch (s : State) (p n : Nat): (dropDma s p n).launch = s.launch := dropDma_keeps (π := State.launch) (fun _ _ _ _ _ => rfl) s _ _
@[simp] theorem dropDma_crossings (s : State) (p n : Nat): (dropDma s p n).crossings = s.crossings := dropDma_keeps (π := State.crossings) (fun _ _ _ _ _ => rfl) s _ _
@[simp] theorem dropDma_longOps (s : State) (p n : Nat): (dropDma s p n).longOps = s.longOps := dropDma_keeps (π := State.longOps) (fun _ _ _ _ _ => rfl) s _ _
@[simp] theorem dropDma_opNo (s : State) (p n : Nat): (dropDma s p n).opNo = s.opNo := dropDma_keeps (π := State.opNo) (fun _ _ _ _ _ => rfl) s _ _
@[simp] theorem dropDma_ctxs (s : State) (p n : Nat): (dropDma s p n).ctxs = s.ctxs := dropDma_keeps (π := State.ctxs) (fun _ _ _ _ _ => rfl) s _ _
@[simp] theorem dropDma_fw (s : State) (p n : Nat): (dropDma s p n).fw = s.fw := dropDma_keeps (π := State.fw) (fun _ _ _ _ _ => rfl) s _ _
@[simp] theorem dropDma_faultLog (s : State) (p n : Nat): (dropDma s p n).faultLog = s.faultLog := dropDma_keeps (π := State.faultLog) (fun _ _ _ _ _ => rfl) s _ _
@[simp] theorem dropDma_tiles (s : State) (p n : Nat): (dropDma s p n).tiles = s.tiles := dropDma_keeps (π := State.tiles) (fun _ _ _ _ _ => rfl) s _ _
@[simp] theorem dropDma_groups (s : State) (p n : Nat): (dropDma s p n).groups = s.groups := dropDma_keeps (π := State.groups) (fun _ _ _ _ _ => rfl) s _ _
@[simp] theorem dropDma_mesh (s : State) (p n : Nat): (dropDma s p n).mesh = s.mesh := dropDma_keeps (π := State.mesh) (fun _ _ _ _ _ => rfl) s _ _
@[simp] theorem dropDma_models (s : State) (p n : Nat): (dropDma s p n).models = s.models := dropDma_keeps (π := State.models) (fun _ _ _ _ _ => rfl) s _ _
@[simp] theorem dropDma_sessions (s : State) (p n : Nat): (dropDma s p n).sessions = s.sessions := dropDma_keeps (π := State.sessions) (fun _ _ _ _ _ => rfl) s _ _
@[simp] theorem dropDma_cores (s : State) (p n : Nat): (dropDma s p n).cores = s.cores := dropDma_keeps (π := State.cores) (fun _ _ _ _ _ => rfl) s _ _
@[simp] theorem dropDma_reserve (s : State) (p n : Nat): (dropDma s p n).reserve = s.reserve := dropDma_keeps (π := State.reserve) (fun _ _ _ _ _ => rfl) s _ _
@[simp] theorem dropDma_dram (s : State) (p n : Nat): (dropDma s p n).dram = s.dram := dropDma_keeps (π := State.dram) (fun _ _ _ _ _ => rfl) s _ _
@[simp] theorem dropDma_link (s : State) (p n : Nat): (dropDma s p n).link = s.link := dropDma_keeps (π := State.link) (fun _ _ _ _ _ => rfl) s _ _
@[simp] theorem dropDma_ckp (s : State) (p n : Nat): (dropDma s p n).ckp = s.ckp := dropDma_keeps (π := State.ckp) (fun _ _ _ _ _ => rfl) s _ _
@[simp] theorem dropDma_stor (s : State) (p n : Nat): (dropDma s p n).stor = s.stor := dropDma_keeps (π := State.stor) (fun _ _ _ _ _ => rfl) s _ _
@[simp] theorem dropDma_pkt (s : State) (p n : Nat): (dropDma s p n).pkt = s.pkt := dropDma_keeps (π := State.pkt) (fun _ _ _ _ _ => rfl) s _ _
@[simp] theorem dropDma_sec (s : State) (p n : Nat): (dropDma s p n).sec = s.sec := dropDma_keeps (π := State.sec) (fun _ _ _ _ _ => rfl) s _ _
@[simp] theorem dropDma_mon (s : State) (p n : Nat): (dropDma s p n).mon = s.mon := dropDma_keeps (π := State.mon) (fun _ _ _ _ _ => rfl) s _ _
@[simp] theorem dropDma_jtag (s : State) (p n : Nat): (dropDma s p n).jtag = s.jtag := dropDma_keeps (π := State.jtag) (fun _ _ _ _ _ => rfl) s _ _
@[simp] theorem dropDma_mgmt (s : State) (p n : Nat): (dropDma s p n).mgmt = s.mgmt := dropDma_keeps (π := State.mgmt) (fun _ _ _ _ _ => rfl) s _ _
@[simp] theorem dropDma_free (s : State) (p n : Nat): (dropDma s p n).free = s.free := dropDma_keeps (π := State.free) (fun _ _ _ _ _ => rfl) s _ _
@[simp] theorem dropDma_time (s : State) (p n : Nat): (dropDma s p n).time = s.time := dropDma_keeps (π := State.time) (fun _ _ _ _ _ => rfl) s _ _
@[simp] theorem dropDma_pending (s : State) (p n : Nat): (dropDma s p n).pending = s.pending := dropDma_keeps (π := State.pending) (fun _ _ _ _ _ => rfl) s _ _

@[simp] theorem hostWrite_clk (s : State) (p i a : Nat) (d : Bytes): (hostWrite s p i a d).clk = s.clk := hostWrite_keeps (π := State.clk) (fun _ _ _ _ _ => rfl) s _ _ _ _
@[simp] theorem hostWrite_power (s : State) (p i a : Nat) (d : Bytes): (hostWrite s p i a d).power = s.power := hostWrite_keeps (π := State.power) (fun _ _ _ _ _ => rfl) s _ _ _ _
@[simp] theorem hostWrite_fuses (s : State) (p i a : Nat) (d : Bytes): (hostWrite s p i a d).fuses = s.fuses := hostWrite_keeps (π := State.fuses) (fun _ _ _ _ _ => rfl) s _ _ _ _
@[simp] theorem hostWrite_boot (s : State) (p i a : Nat) (d : Bytes): (hostWrite s p i a d).boot = s.boot := hostWrite_keeps (π := State.boot) (fun _ _ _ _ _ => rfl) s _ _ _ _
@[simp] theorem hostWrite_units (s : State) (p i a : Nat) (d : Bytes): (hostWrite s p i a d).units = s.units := hostWrite_keeps (π := State.units) (fun _ _ _ _ _ => rfl) s _ _ _ _
@[simp] theorem hostWrite_tracker (s : State) (p i a : Nat) (d : Bytes): (hostWrite s p i a d).tracker = s.tracker := hostWrite_keeps (π := State.tracker) (fun _ _ _ _ _ => rfl) s _ _ _ _
@[simp] theorem hostWrite_vio (s : State) (p i a : Nat) (d : Bytes): (hostWrite s p i a d).vio = s.vio := hostWrite_keeps (π := State.vio) (fun _ _ _ _ _ => rfl) s _ _ _ _
@[simp] theorem hostWrite_parts (s : State) (p i a : Nat) (d : Bytes): (hostWrite s p i a d).parts = s.parts := hostWrite_keeps (π := State.parts) (fun _ _ _ _ _ => rfl) s _ _ _ _
@[simp] theorem hostWrite_excRates (s : State) (p i a : Nat) (d : Bytes): (hostWrite s p i a d).excRates = s.excRates := hostWrite_keeps (π := State.excRates) (fun _ _ _ _ _ => rfl) s _ _ _ _
@[simp] theorem hostWrite_decode (s : State) (p i a : Nat) (d : Bytes): (hostWrite s p i a d).decode = s.decode := hostWrite_keeps (π := State.decode) (fun _ _ _ _ _ => rfl) s _ _ _ _
@[simp] theorem hostWrite_opResident (s : State) (p i a : Nat) (d : Bytes): (hostWrite s p i a d).opResident = s.opResident := hostWrite_keeps (π := State.opResident) (fun _ _ _ _ _ => rfl) s _ _ _ _
@[simp] theorem hostWrite_launch (s : State) (p i a : Nat) (d : Bytes): (hostWrite s p i a d).launch = s.launch := hostWrite_keeps (π := State.launch) (fun _ _ _ _ _ => rfl) s _ _ _ _
@[simp] theorem hostWrite_crossings (s : State) (p i a : Nat) (d : Bytes): (hostWrite s p i a d).crossings = s.crossings := hostWrite_keeps (π := State.crossings) (fun _ _ _ _ _ => rfl) s _ _ _ _
@[simp] theorem hostWrite_longOps (s : State) (p i a : Nat) (d : Bytes): (hostWrite s p i a d).longOps = s.longOps := hostWrite_keeps (π := State.longOps) (fun _ _ _ _ _ => rfl) s _ _ _ _
@[simp] theorem hostWrite_opNo (s : State) (p i a : Nat) (d : Bytes): (hostWrite s p i a d).opNo = s.opNo := hostWrite_keeps (π := State.opNo) (fun _ _ _ _ _ => rfl) s _ _ _ _
@[simp] theorem hostWrite_ctxs (s : State) (p i a : Nat) (d : Bytes): (hostWrite s p i a d).ctxs = s.ctxs := hostWrite_keeps (π := State.ctxs) (fun _ _ _ _ _ => rfl) s _ _ _ _
@[simp] theorem hostWrite_fw (s : State) (p i a : Nat) (d : Bytes): (hostWrite s p i a d).fw = s.fw := hostWrite_keeps (π := State.fw) (fun _ _ _ _ _ => rfl) s _ _ _ _
@[simp] theorem hostWrite_faultLog (s : State) (p i a : Nat) (d : Bytes): (hostWrite s p i a d).faultLog = s.faultLog := hostWrite_keeps (π := State.faultLog) (fun _ _ _ _ _ => rfl) s _ _ _ _
@[simp] theorem hostWrite_tiles (s : State) (p i a : Nat) (d : Bytes): (hostWrite s p i a d).tiles = s.tiles := hostWrite_keeps (π := State.tiles) (fun _ _ _ _ _ => rfl) s _ _ _ _
@[simp] theorem hostWrite_groups (s : State) (p i a : Nat) (d : Bytes): (hostWrite s p i a d).groups = s.groups := hostWrite_keeps (π := State.groups) (fun _ _ _ _ _ => rfl) s _ _ _ _
@[simp] theorem hostWrite_mesh (s : State) (p i a : Nat) (d : Bytes): (hostWrite s p i a d).mesh = s.mesh := hostWrite_keeps (π := State.mesh) (fun _ _ _ _ _ => rfl) s _ _ _ _
@[simp] theorem hostWrite_models (s : State) (p i a : Nat) (d : Bytes): (hostWrite s p i a d).models = s.models := hostWrite_keeps (π := State.models) (fun _ _ _ _ _ => rfl) s _ _ _ _
@[simp] theorem hostWrite_sessions (s : State) (p i a : Nat) (d : Bytes): (hostWrite s p i a d).sessions = s.sessions := hostWrite_keeps (π := State.sessions) (fun _ _ _ _ _ => rfl) s _ _ _ _
@[simp] theorem hostWrite_cores (s : State) (p i a : Nat) (d : Bytes): (hostWrite s p i a d).cores = s.cores := hostWrite_keeps (π := State.cores) (fun _ _ _ _ _ => rfl) s _ _ _ _
@[simp] theorem hostWrite_reserve (s : State) (p i a : Nat) (d : Bytes): (hostWrite s p i a d).reserve = s.reserve := hostWrite_keeps (π := State.reserve) (fun _ _ _ _ _ => rfl) s _ _ _ _
@[simp] theorem hostWrite_dram (s : State) (p i a : Nat) (d : Bytes): (hostWrite s p i a d).dram = s.dram := hostWrite_keeps (π := State.dram) (fun _ _ _ _ _ => rfl) s _ _ _ _
@[simp] theorem hostWrite_link (s : State) (p i a : Nat) (d : Bytes): (hostWrite s p i a d).link = s.link := hostWrite_keeps (π := State.link) (fun _ _ _ _ _ => rfl) s _ _ _ _
@[simp] theorem hostWrite_ckp (s : State) (p i a : Nat) (d : Bytes): (hostWrite s p i a d).ckp = s.ckp := hostWrite_keeps (π := State.ckp) (fun _ _ _ _ _ => rfl) s _ _ _ _
@[simp] theorem hostWrite_stor (s : State) (p i a : Nat) (d : Bytes): (hostWrite s p i a d).stor = s.stor := hostWrite_keeps (π := State.stor) (fun _ _ _ _ _ => rfl) s _ _ _ _
@[simp] theorem hostWrite_pkt (s : State) (p i a : Nat) (d : Bytes): (hostWrite s p i a d).pkt = s.pkt := hostWrite_keeps (π := State.pkt) (fun _ _ _ _ _ => rfl) s _ _ _ _
@[simp] theorem hostWrite_sec (s : State) (p i a : Nat) (d : Bytes): (hostWrite s p i a d).sec = s.sec := hostWrite_keeps (π := State.sec) (fun _ _ _ _ _ => rfl) s _ _ _ _
@[simp] theorem hostWrite_mon (s : State) (p i a : Nat) (d : Bytes): (hostWrite s p i a d).mon = s.mon := hostWrite_keeps (π := State.mon) (fun _ _ _ _ _ => rfl) s _ _ _ _
@[simp] theorem hostWrite_jtag (s : State) (p i a : Nat) (d : Bytes): (hostWrite s p i a d).jtag = s.jtag := hostWrite_keeps (π := State.jtag) (fun _ _ _ _ _ => rfl) s _ _ _ _
@[simp] theorem hostWrite_mgmt (s : State) (p i a : Nat) (d : Bytes): (hostWrite s p i a d).mgmt = s.mgmt := hostWrite_keeps (π := State.mgmt) (fun _ _ _ _ _ => rfl) s _ _ _ _
@[simp] theorem hostWrite_free (s : State) (p i a : Nat) (d : Bytes): (hostWrite s p i a d).free = s.free := hostWrite_keeps (π := State.free) (fun _ _ _ _ _ => rfl) s _ _ _ _
@[simp] theorem hostWrite_time (s : State) (p i a : Nat) (d : Bytes): (hostWrite s p i a d).time = s.time := hostWrite_keeps (π := State.time) (fun _ _ _ _ _ => rfl) s _ _ _ _
@[simp] theorem hostWrite_pending (s : State) (p i a : Nat) (d : Bytes): (hostWrite s p i a d).pending = s.pending := hostWrite_keeps (π := State.pending) (fun _ _ _ _ _ => rfl) s _ _ _ _

@[simp] theorem msixPort_clk (s : State) (p v : Nat): (msixPort s p v).clk = s.clk := msixPort_keeps (π := State.clk) (fun _ _ _ _ _ => rfl) s _ _
@[simp] theorem msixPort_power (s : State) (p v : Nat): (msixPort s p v).power = s.power := msixPort_keeps (π := State.power) (fun _ _ _ _ _ => rfl) s _ _
@[simp] theorem msixPort_fuses (s : State) (p v : Nat): (msixPort s p v).fuses = s.fuses := msixPort_keeps (π := State.fuses) (fun _ _ _ _ _ => rfl) s _ _
@[simp] theorem msixPort_boot (s : State) (p v : Nat): (msixPort s p v).boot = s.boot := msixPort_keeps (π := State.boot) (fun _ _ _ _ _ => rfl) s _ _
@[simp] theorem msixPort_units (s : State) (p v : Nat): (msixPort s p v).units = s.units := msixPort_keeps (π := State.units) (fun _ _ _ _ _ => rfl) s _ _
@[simp] theorem msixPort_tracker (s : State) (p v : Nat): (msixPort s p v).tracker = s.tracker := msixPort_keeps (π := State.tracker) (fun _ _ _ _ _ => rfl) s _ _
@[simp] theorem msixPort_vio (s : State) (p v : Nat): (msixPort s p v).vio = s.vio := msixPort_keeps (π := State.vio) (fun _ _ _ _ _ => rfl) s _ _
@[simp] theorem msixPort_parts (s : State) (p v : Nat): (msixPort s p v).parts = s.parts := msixPort_keeps (π := State.parts) (fun _ _ _ _ _ => rfl) s _ _
@[simp] theorem msixPort_excRates (s : State) (p v : Nat): (msixPort s p v).excRates = s.excRates := msixPort_keeps (π := State.excRates) (fun _ _ _ _ _ => rfl) s _ _
@[simp] theorem msixPort_decode (s : State) (p v : Nat): (msixPort s p v).decode = s.decode := msixPort_keeps (π := State.decode) (fun _ _ _ _ _ => rfl) s _ _
@[simp] theorem msixPort_opResident (s : State) (p v : Nat): (msixPort s p v).opResident = s.opResident := msixPort_keeps (π := State.opResident) (fun _ _ _ _ _ => rfl) s _ _
@[simp] theorem msixPort_launch (s : State) (p v : Nat): (msixPort s p v).launch = s.launch := msixPort_keeps (π := State.launch) (fun _ _ _ _ _ => rfl) s _ _
@[simp] theorem msixPort_crossings (s : State) (p v : Nat): (msixPort s p v).crossings = s.crossings := msixPort_keeps (π := State.crossings) (fun _ _ _ _ _ => rfl) s _ _
@[simp] theorem msixPort_longOps (s : State) (p v : Nat): (msixPort s p v).longOps = s.longOps := msixPort_keeps (π := State.longOps) (fun _ _ _ _ _ => rfl) s _ _
@[simp] theorem msixPort_opNo (s : State) (p v : Nat): (msixPort s p v).opNo = s.opNo := msixPort_keeps (π := State.opNo) (fun _ _ _ _ _ => rfl) s _ _
@[simp] theorem msixPort_ctxs (s : State) (p v : Nat): (msixPort s p v).ctxs = s.ctxs := msixPort_keeps (π := State.ctxs) (fun _ _ _ _ _ => rfl) s _ _
@[simp] theorem msixPort_fw (s : State) (p v : Nat): (msixPort s p v).fw = s.fw := msixPort_keeps (π := State.fw) (fun _ _ _ _ _ => rfl) s _ _
@[simp] theorem msixPort_faultLog (s : State) (p v : Nat): (msixPort s p v).faultLog = s.faultLog := msixPort_keeps (π := State.faultLog) (fun _ _ _ _ _ => rfl) s _ _
@[simp] theorem msixPort_tiles (s : State) (p v : Nat): (msixPort s p v).tiles = s.tiles := msixPort_keeps (π := State.tiles) (fun _ _ _ _ _ => rfl) s _ _
@[simp] theorem msixPort_groups (s : State) (p v : Nat): (msixPort s p v).groups = s.groups := msixPort_keeps (π := State.groups) (fun _ _ _ _ _ => rfl) s _ _
@[simp] theorem msixPort_mesh (s : State) (p v : Nat): (msixPort s p v).mesh = s.mesh := msixPort_keeps (π := State.mesh) (fun _ _ _ _ _ => rfl) s _ _
@[simp] theorem msixPort_models (s : State) (p v : Nat): (msixPort s p v).models = s.models := msixPort_keeps (π := State.models) (fun _ _ _ _ _ => rfl) s _ _
@[simp] theorem msixPort_sessions (s : State) (p v : Nat): (msixPort s p v).sessions = s.sessions := msixPort_keeps (π := State.sessions) (fun _ _ _ _ _ => rfl) s _ _
@[simp] theorem msixPort_cores (s : State) (p v : Nat): (msixPort s p v).cores = s.cores := msixPort_keeps (π := State.cores) (fun _ _ _ _ _ => rfl) s _ _
@[simp] theorem msixPort_reserve (s : State) (p v : Nat): (msixPort s p v).reserve = s.reserve := msixPort_keeps (π := State.reserve) (fun _ _ _ _ _ => rfl) s _ _
@[simp] theorem msixPort_dram (s : State) (p v : Nat): (msixPort s p v).dram = s.dram := msixPort_keeps (π := State.dram) (fun _ _ _ _ _ => rfl) s _ _
@[simp] theorem msixPort_link (s : State) (p v : Nat): (msixPort s p v).link = s.link := msixPort_keeps (π := State.link) (fun _ _ _ _ _ => rfl) s _ _
@[simp] theorem msixPort_ckp (s : State) (p v : Nat): (msixPort s p v).ckp = s.ckp := msixPort_keeps (π := State.ckp) (fun _ _ _ _ _ => rfl) s _ _
@[simp] theorem msixPort_stor (s : State) (p v : Nat): (msixPort s p v).stor = s.stor := msixPort_keeps (π := State.stor) (fun _ _ _ _ _ => rfl) s _ _
@[simp] theorem msixPort_pkt (s : State) (p v : Nat): (msixPort s p v).pkt = s.pkt := msixPort_keeps (π := State.pkt) (fun _ _ _ _ _ => rfl) s _ _
@[simp] theorem msixPort_sec (s : State) (p v : Nat): (msixPort s p v).sec = s.sec := msixPort_keeps (π := State.sec) (fun _ _ _ _ _ => rfl) s _ _
@[simp] theorem msixPort_mon (s : State) (p v : Nat): (msixPort s p v).mon = s.mon := msixPort_keeps (π := State.mon) (fun _ _ _ _ _ => rfl) s _ _
@[simp] theorem msixPort_jtag (s : State) (p v : Nat): (msixPort s p v).jtag = s.jtag := msixPort_keeps (π := State.jtag) (fun _ _ _ _ _ => rfl) s _ _
@[simp] theorem msixPort_mgmt (s : State) (p v : Nat): (msixPort s p v).mgmt = s.mgmt := msixPort_keeps (π := State.mgmt) (fun _ _ _ _ _ => rfl) s _ _
@[simp] theorem msixPort_free (s : State) (p v : Nat): (msixPort s p v).free = s.free := msixPort_keeps (π := State.free) (fun _ _ _ _ _ => rfl) s _ _
@[simp] theorem msixPort_time (s : State) (p v : Nat): (msixPort s p v).time = s.time := msixPort_keeps (π := State.time) (fun _ _ _ _ _ => rfl) s _ _
@[simp] theorem msixPort_pending (s : State) (p v : Nat): (msixPort s p v).pending = s.pending := msixPort_keeps (π := State.pending) (fun _ _ _ _ _ => rfl) s _ _

@[simp] theorem msix_clk (s : State) (p i v : Nat): (msix s p i v).clk = s.clk := msix_keeps (π := State.clk) (fun _ _ _ _ _ => rfl) s _ _ _
@[simp] theorem msix_power (s : State) (p i v : Nat): (msix s p i v).power = s.power := msix_keeps (π := State.power) (fun _ _ _ _ _ => rfl) s _ _ _
@[simp] theorem msix_fuses (s : State) (p i v : Nat): (msix s p i v).fuses = s.fuses := msix_keeps (π := State.fuses) (fun _ _ _ _ _ => rfl) s _ _ _
@[simp] theorem msix_boot (s : State) (p i v : Nat): (msix s p i v).boot = s.boot := msix_keeps (π := State.boot) (fun _ _ _ _ _ => rfl) s _ _ _
@[simp] theorem msix_units (s : State) (p i v : Nat): (msix s p i v).units = s.units := msix_keeps (π := State.units) (fun _ _ _ _ _ => rfl) s _ _ _
@[simp] theorem msix_tracker (s : State) (p i v : Nat): (msix s p i v).tracker = s.tracker := msix_keeps (π := State.tracker) (fun _ _ _ _ _ => rfl) s _ _ _
@[simp] theorem msix_vio (s : State) (p i v : Nat): (msix s p i v).vio = s.vio := msix_keeps (π := State.vio) (fun _ _ _ _ _ => rfl) s _ _ _
@[simp] theorem msix_parts (s : State) (p i v : Nat): (msix s p i v).parts = s.parts := msix_keeps (π := State.parts) (fun _ _ _ _ _ => rfl) s _ _ _
@[simp] theorem msix_excRates (s : State) (p i v : Nat): (msix s p i v).excRates = s.excRates := msix_keeps (π := State.excRates) (fun _ _ _ _ _ => rfl) s _ _ _
@[simp] theorem msix_decode (s : State) (p i v : Nat): (msix s p i v).decode = s.decode := msix_keeps (π := State.decode) (fun _ _ _ _ _ => rfl) s _ _ _
@[simp] theorem msix_opResident (s : State) (p i v : Nat): (msix s p i v).opResident = s.opResident := msix_keeps (π := State.opResident) (fun _ _ _ _ _ => rfl) s _ _ _
@[simp] theorem msix_launch (s : State) (p i v : Nat): (msix s p i v).launch = s.launch := msix_keeps (π := State.launch) (fun _ _ _ _ _ => rfl) s _ _ _
@[simp] theorem msix_crossings (s : State) (p i v : Nat): (msix s p i v).crossings = s.crossings := msix_keeps (π := State.crossings) (fun _ _ _ _ _ => rfl) s _ _ _
@[simp] theorem msix_longOps (s : State) (p i v : Nat): (msix s p i v).longOps = s.longOps := msix_keeps (π := State.longOps) (fun _ _ _ _ _ => rfl) s _ _ _
@[simp] theorem msix_opNo (s : State) (p i v : Nat): (msix s p i v).opNo = s.opNo := msix_keeps (π := State.opNo) (fun _ _ _ _ _ => rfl) s _ _ _
@[simp] theorem msix_ctxs (s : State) (p i v : Nat): (msix s p i v).ctxs = s.ctxs := msix_keeps (π := State.ctxs) (fun _ _ _ _ _ => rfl) s _ _ _
@[simp] theorem msix_fw (s : State) (p i v : Nat): (msix s p i v).fw = s.fw := msix_keeps (π := State.fw) (fun _ _ _ _ _ => rfl) s _ _ _
@[simp] theorem msix_faultLog (s : State) (p i v : Nat): (msix s p i v).faultLog = s.faultLog := msix_keeps (π := State.faultLog) (fun _ _ _ _ _ => rfl) s _ _ _
@[simp] theorem msix_tiles (s : State) (p i v : Nat): (msix s p i v).tiles = s.tiles := msix_keeps (π := State.tiles) (fun _ _ _ _ _ => rfl) s _ _ _
@[simp] theorem msix_groups (s : State) (p i v : Nat): (msix s p i v).groups = s.groups := msix_keeps (π := State.groups) (fun _ _ _ _ _ => rfl) s _ _ _
@[simp] theorem msix_mesh (s : State) (p i v : Nat): (msix s p i v).mesh = s.mesh := msix_keeps (π := State.mesh) (fun _ _ _ _ _ => rfl) s _ _ _
@[simp] theorem msix_models (s : State) (p i v : Nat): (msix s p i v).models = s.models := msix_keeps (π := State.models) (fun _ _ _ _ _ => rfl) s _ _ _
@[simp] theorem msix_sessions (s : State) (p i v : Nat): (msix s p i v).sessions = s.sessions := msix_keeps (π := State.sessions) (fun _ _ _ _ _ => rfl) s _ _ _
@[simp] theorem msix_cores (s : State) (p i v : Nat): (msix s p i v).cores = s.cores := msix_keeps (π := State.cores) (fun _ _ _ _ _ => rfl) s _ _ _
@[simp] theorem msix_reserve (s : State) (p i v : Nat): (msix s p i v).reserve = s.reserve := msix_keeps (π := State.reserve) (fun _ _ _ _ _ => rfl) s _ _ _
@[simp] theorem msix_dram (s : State) (p i v : Nat): (msix s p i v).dram = s.dram := msix_keeps (π := State.dram) (fun _ _ _ _ _ => rfl) s _ _ _
@[simp] theorem msix_link (s : State) (p i v : Nat): (msix s p i v).link = s.link := msix_keeps (π := State.link) (fun _ _ _ _ _ => rfl) s _ _ _
@[simp] theorem msix_ckp (s : State) (p i v : Nat): (msix s p i v).ckp = s.ckp := msix_keeps (π := State.ckp) (fun _ _ _ _ _ => rfl) s _ _ _
@[simp] theorem msix_stor (s : State) (p i v : Nat): (msix s p i v).stor = s.stor := msix_keeps (π := State.stor) (fun _ _ _ _ _ => rfl) s _ _ _
@[simp] theorem msix_pkt (s : State) (p i v : Nat): (msix s p i v).pkt = s.pkt := msix_keeps (π := State.pkt) (fun _ _ _ _ _ => rfl) s _ _ _
@[simp] theorem msix_sec (s : State) (p i v : Nat): (msix s p i v).sec = s.sec := msix_keeps (π := State.sec) (fun _ _ _ _ _ => rfl) s _ _ _
@[simp] theorem msix_mon (s : State) (p i v : Nat): (msix s p i v).mon = s.mon := msix_keeps (π := State.mon) (fun _ _ _ _ _ => rfl) s _ _ _
@[simp] theorem msix_jtag (s : State) (p i v : Nat): (msix s p i v).jtag = s.jtag := msix_keeps (π := State.jtag) (fun _ _ _ _ _ => rfl) s _ _ _
@[simp] theorem msix_mgmt (s : State) (p i v : Nat): (msix s p i v).mgmt = s.mgmt := msix_keeps (π := State.mgmt) (fun _ _ _ _ _ => rfl) s _ _ _
@[simp] theorem msix_free (s : State) (p i v : Nat): (msix s p i v).free = s.free := msix_keeps (π := State.free) (fun _ _ _ _ _ => rfl) s _ _ _
@[simp] theorem msix_time (s : State) (p i v : Nat): (msix s p i v).time = s.time := msix_keeps (π := State.time) (fun _ _ _ _ _ => rfl) s _ _ _
@[simp] theorem msix_pending (s : State) (p i v : Nat): (msix s p i v).pending = s.pending := msix_keeps (π := State.pending) (fun _ _ _ _ _ => rfl) s _ _ _

@[simp] theorem msixUnlessFF_clk (s : State) (p i v : Nat): (msixUnlessFF s p i v).clk = s.clk := msixUnlessFF_keeps (π := State.clk) (fun _ _ _ _ _ => rfl) s _ _ _
@[simp] theorem msixUnlessFF_power (s : State) (p i v : Nat): (msixUnlessFF s p i v).power = s.power := msixUnlessFF_keeps (π := State.power) (fun _ _ _ _ _ => rfl) s _ _ _
@[simp] theorem msixUnlessFF_fuses (s : State) (p i v : Nat): (msixUnlessFF s p i v).fuses = s.fuses := msixUnlessFF_keeps (π := State.fuses) (fun _ _ _ _ _ => rfl) s _ _ _
@[simp] theorem msixUnlessFF_boot (s : State) (p i v : Nat): (msixUnlessFF s p i v).boot = s.boot := msixUnlessFF_keeps (π := State.boot) (fun _ _ _ _ _ => rfl) s _ _ _
@[simp] theorem msixUnlessFF_units (s : State) (p i v : Nat): (msixUnlessFF s p i v).units = s.units := msixUnlessFF_keeps (π := State.units) (fun _ _ _ _ _ => rfl) s _ _ _
@[simp] theorem msixUnlessFF_tracker (s : State) (p i v : Nat): (msixUnlessFF s p i v).tracker = s.tracker := msixUnlessFF_keeps (π := State.tracker) (fun _ _ _ _ _ => rfl) s _ _ _
@[simp] theorem msixUnlessFF_vio (s : State) (p i v : Nat): (msixUnlessFF s p i v).vio = s.vio := msixUnlessFF_keeps (π := State.vio) (fun _ _ _ _ _ => rfl) s _ _ _
@[simp] theorem msixUnlessFF_parts (s : State) (p i v : Nat): (msixUnlessFF s p i v).parts = s.parts := msixUnlessFF_keeps (π := State.parts) (fun _ _ _ _ _ => rfl) s _ _ _
@[simp] theorem msixUnlessFF_excRates (s : State) (p i v : Nat): (msixUnlessFF s p i v).excRates = s.excRates := msixUnlessFF_keeps (π := State.excRates) (fun _ _ _ _ _ => rfl) s _ _ _
@[simp] theorem msixUnlessFF_decode (s : State) (p i v : Nat): (msixUnlessFF s p i v).decode = s.decode := msixUnlessFF_keeps (π := State.decode) (fun _ _ _ _ _ => rfl) s _ _ _
@[simp] theorem msixUnlessFF_opResident (s : State) (p i v : Nat): (msixUnlessFF s p i v).opResident = s.opResident := msixUnlessFF_keeps (π := State.opResident) (fun _ _ _ _ _ => rfl) s _ _ _
@[simp] theorem msixUnlessFF_launch (s : State) (p i v : Nat): (msixUnlessFF s p i v).launch = s.launch := msixUnlessFF_keeps (π := State.launch) (fun _ _ _ _ _ => rfl) s _ _ _
@[simp] theorem msixUnlessFF_crossings (s : State) (p i v : Nat): (msixUnlessFF s p i v).crossings = s.crossings := msixUnlessFF_keeps (π := State.crossings) (fun _ _ _ _ _ => rfl) s _ _ _
@[simp] theorem msixUnlessFF_longOps (s : State) (p i v : Nat): (msixUnlessFF s p i v).longOps = s.longOps := msixUnlessFF_keeps (π := State.longOps) (fun _ _ _ _ _ => rfl) s _ _ _
@[simp] theorem msixUnlessFF_opNo (s : State) (p i v : Nat): (msixUnlessFF s p i v).opNo = s.opNo := msixUnlessFF_keeps (π := State.opNo) (fun _ _ _ _ _ => rfl) s _ _ _
@[simp] theorem msixUnlessFF_ctxs (s : State) (p i v : Nat): (msixUnlessFF s p i v).ctxs = s.ctxs := msixUnlessFF_keeps (π := State.ctxs) (fun _ _ _ _ _ => rfl) s _ _ _
@[simp] theorem msixUnlessFF_fw (s : State) (p i v : Nat): (msixUnlessFF s p i v).fw = s.fw := msixUnlessFF_keeps (π := State.fw) (fun _ _ _ _ _ => rfl) s _ _ _
@[simp] theorem msixUnlessFF_faultLog (s : State) (p i v : Nat): (msixUnlessFF s p i v).faultLog = s.faultLog := msixUnlessFF_keeps (π := State.faultLog) (fun _ _ _ _ _ => rfl) s _ _ _
@[simp] theorem msixUnlessFF_tiles (s : State) (p i v : Nat): (msixUnlessFF s p i v).tiles = s.tiles := msixUnlessFF_keeps (π := State.tiles) (fun _ _ _ _ _ => rfl) s _ _ _
@[simp] theorem msixUnlessFF_groups (s : State) (p i v : Nat): (msixUnlessFF s p i v).groups = s.groups := msixUnlessFF_keeps (π := State.groups) (fun _ _ _ _ _ => rfl) s _ _ _
@[simp] theorem msixUnlessFF_mesh (s : State) (p i v : Nat): (msixUnlessFF s p i v).mesh = s.mesh := msixUnlessFF_keeps (π := State.mesh) (fun _ _ _ _ _ => rfl) s _ _ _
@[simp] theorem msixUnlessFF_models (s : State) (p i v : Nat): (msixUnlessFF s p i v).models = s.models := msixUnlessFF_keeps (π := State.models) (fun _ _ _ _ _ => rfl) s _ _ _
@[simp] theorem msixUnlessFF_sessions (s : State) (p i v : Nat): (msixUnlessFF s p i v).sessions = s.sessions := msixUnlessFF_keeps (π := State.sessions) (fun _ _ _ _ _ => rfl) s _ _ _
@[simp] theorem msixUnlessFF_cores (s : State) (p i v : Nat): (msixUnlessFF s p i v).cores = s.cores := msixUnlessFF_keeps (π := State.cores) (fun _ _ _ _ _ => rfl) s _ _ _
@[simp] theorem msixUnlessFF_reserve (s : State) (p i v : Nat): (msixUnlessFF s p i v).reserve = s.reserve := msixUnlessFF_keeps (π := State.reserve) (fun _ _ _ _ _ => rfl) s _ _ _
@[simp] theorem msixUnlessFF_dram (s : State) (p i v : Nat): (msixUnlessFF s p i v).dram = s.dram := msixUnlessFF_keeps (π := State.dram) (fun _ _ _ _ _ => rfl) s _ _ _
@[simp] theorem msixUnlessFF_link (s : State) (p i v : Nat): (msixUnlessFF s p i v).link = s.link := msixUnlessFF_keeps (π := State.link) (fun _ _ _ _ _ => rfl) s _ _ _
@[simp] theorem msixUnlessFF_ckp (s : State) (p i v : Nat): (msixUnlessFF s p i v).ckp = s.ckp := msixUnlessFF_keeps (π := State.ckp) (fun _ _ _ _ _ => rfl) s _ _ _
@[simp] theorem msixUnlessFF_stor (s : State) (p i v : Nat): (msixUnlessFF s p i v).stor = s.stor := msixUnlessFF_keeps (π := State.stor) (fun _ _ _ _ _ => rfl) s _ _ _
@[simp] theorem msixUnlessFF_pkt (s : State) (p i v : Nat): (msixUnlessFF s p i v).pkt = s.pkt := msixUnlessFF_keeps (π := State.pkt) (fun _ _ _ _ _ => rfl) s _ _ _
@[simp] theorem msixUnlessFF_sec (s : State) (p i v : Nat): (msixUnlessFF s p i v).sec = s.sec := msixUnlessFF_keeps (π := State.sec) (fun _ _ _ _ _ => rfl) s _ _ _
@[simp] theorem msixUnlessFF_mon (s : State) (p i v : Nat): (msixUnlessFF s p i v).mon = s.mon := msixUnlessFF_keeps (π := State.mon) (fun _ _ _ _ _ => rfl) s _ _ _
@[simp] theorem msixUnlessFF_jtag (s : State) (p i v : Nat): (msixUnlessFF s p i v).jtag = s.jtag := msixUnlessFF_keeps (π := State.jtag) (fun _ _ _ _ _ => rfl) s _ _ _
@[simp] theorem msixUnlessFF_mgmt (s : State) (p i v : Nat): (msixUnlessFF s p i v).mgmt = s.mgmt := msixUnlessFF_keeps (π := State.mgmt) (fun _ _ _ _ _ => rfl) s _ _ _
@[simp] theorem msixUnlessFF_free (s : State) (p i v : Nat): (msixUnlessFF s p i v).free = s.free := msixUnlessFF_keeps (π := State.free) (fun _ _ _ _ _ => rfl) s _ _ _
@[simp] theorem msixUnlessFF_time (s : State) (p i v : Nat): (msixUnlessFF s p i v).time = s.time := msixUnlessFF_keeps (π := State.time) (fun _ _ _ _ _ => rfl) s _ _ _
@[simp] theorem msixUnlessFF_pending (s : State) (p i v : Nat): (msixUnlessFF s p i v).pending = s.pending := msixUnlessFF_keeps (π := State.pending) (fun _ _ _ _ _ => rfl) s _ _ _

@[simp] theorem writeEntry_clk (s : State) (m : Nat) (e : IaldoEntry): (writeEntry s m e).clk = s.clk := writeEntry_keeps (π := State.clk) (fun _ _ _ _ _ => rfl) s _ _
@[simp] theorem writeEntry_power (s : State) (m : Nat) (e : IaldoEntry): (writeEntry s m e).power = s.power := writeEntry_keeps (π := State.power) (fun _ _ _ _ _ => rfl) s _ _
@[simp] theorem writeEntry_fuses (s : State) (m : Nat) (e : IaldoEntry): (writeEntry s m e).fuses = s.fuses := writeEntry_keeps (π := State.fuses) (fun _ _ _ _ _ => rfl) s _ _
@[simp] theorem writeEntry_boot (s : State) (m : Nat) (e : IaldoEntry): (writeEntry s m e).boot = s.boot := writeEntry_keeps (π := State.boot) (fun _ _ _ _ _ => rfl) s _ _
@[simp] theorem writeEntry_units (s : State) (m : Nat) (e : IaldoEntry): (writeEntry s m e).units = s.units := writeEntry_keeps (π := State.units) (fun _ _ _ _ _ => rfl) s _ _
@[simp] theorem writeEntry_tracker (s : State) (m : Nat) (e : IaldoEntry): (writeEntry s m e).tracker = s.tracker := writeEntry_keeps (π := State.tracker) (fun _ _ _ _ _ => rfl) s _ _
@[simp] theorem writeEntry_vio (s : State) (m : Nat) (e : IaldoEntry): (writeEntry s m e).vio = s.vio := writeEntry_keeps (π := State.vio) (fun _ _ _ _ _ => rfl) s _ _
@[simp] theorem writeEntry_parts (s : State) (m : Nat) (e : IaldoEntry): (writeEntry s m e).parts = s.parts := writeEntry_keeps (π := State.parts) (fun _ _ _ _ _ => rfl) s _ _
@[simp] theorem writeEntry_excRates (s : State) (m : Nat) (e : IaldoEntry): (writeEntry s m e).excRates = s.excRates := writeEntry_keeps (π := State.excRates) (fun _ _ _ _ _ => rfl) s _ _
@[simp] theorem writeEntry_decode (s : State) (m : Nat) (e : IaldoEntry): (writeEntry s m e).decode = s.decode := writeEntry_keeps (π := State.decode) (fun _ _ _ _ _ => rfl) s _ _
@[simp] theorem writeEntry_opResident (s : State) (m : Nat) (e : IaldoEntry): (writeEntry s m e).opResident = s.opResident := writeEntry_keeps (π := State.opResident) (fun _ _ _ _ _ => rfl) s _ _
@[simp] theorem writeEntry_launch (s : State) (m : Nat) (e : IaldoEntry): (writeEntry s m e).launch = s.launch := writeEntry_keeps (π := State.launch) (fun _ _ _ _ _ => rfl) s _ _
@[simp] theorem writeEntry_crossings (s : State) (m : Nat) (e : IaldoEntry): (writeEntry s m e).crossings = s.crossings := writeEntry_keeps (π := State.crossings) (fun _ _ _ _ _ => rfl) s _ _
@[simp] theorem writeEntry_longOps (s : State) (m : Nat) (e : IaldoEntry): (writeEntry s m e).longOps = s.longOps := writeEntry_keeps (π := State.longOps) (fun _ _ _ _ _ => rfl) s _ _
@[simp] theorem writeEntry_opNo (s : State) (m : Nat) (e : IaldoEntry): (writeEntry s m e).opNo = s.opNo := writeEntry_keeps (π := State.opNo) (fun _ _ _ _ _ => rfl) s _ _
@[simp] theorem writeEntry_ctxs (s : State) (m : Nat) (e : IaldoEntry): (writeEntry s m e).ctxs = s.ctxs := writeEntry_keeps (π := State.ctxs) (fun _ _ _ _ _ => rfl) s _ _
@[simp] theorem writeEntry_fw (s : State) (m : Nat) (e : IaldoEntry): (writeEntry s m e).fw = s.fw := writeEntry_keeps (π := State.fw) (fun _ _ _ _ _ => rfl) s _ _
@[simp] theorem writeEntry_faultLog (s : State) (m : Nat) (e : IaldoEntry): (writeEntry s m e).faultLog = s.faultLog := writeEntry_keeps (π := State.faultLog) (fun _ _ _ _ _ => rfl) s _ _
@[simp] theorem writeEntry_tiles (s : State) (m : Nat) (e : IaldoEntry): (writeEntry s m e).tiles = s.tiles := writeEntry_keeps (π := State.tiles) (fun _ _ _ _ _ => rfl) s _ _
@[simp] theorem writeEntry_groups (s : State) (m : Nat) (e : IaldoEntry): (writeEntry s m e).groups = s.groups := writeEntry_keeps (π := State.groups) (fun _ _ _ _ _ => rfl) s _ _
@[simp] theorem writeEntry_mesh (s : State) (m : Nat) (e : IaldoEntry): (writeEntry s m e).mesh = s.mesh := writeEntry_keeps (π := State.mesh) (fun _ _ _ _ _ => rfl) s _ _
@[simp] theorem writeEntry_models (s : State) (m : Nat) (e : IaldoEntry): (writeEntry s m e).models = s.models := writeEntry_keeps (π := State.models) (fun _ _ _ _ _ => rfl) s _ _
@[simp] theorem writeEntry_sessions (s : State) (m : Nat) (e : IaldoEntry): (writeEntry s m e).sessions = s.sessions := writeEntry_keeps (π := State.sessions) (fun _ _ _ _ _ => rfl) s _ _
@[simp] theorem writeEntry_cores (s : State) (m : Nat) (e : IaldoEntry): (writeEntry s m e).cores = s.cores := writeEntry_keeps (π := State.cores) (fun _ _ _ _ _ => rfl) s _ _
@[simp] theorem writeEntry_reserve (s : State) (m : Nat) (e : IaldoEntry): (writeEntry s m e).reserve = s.reserve := writeEntry_keeps (π := State.reserve) (fun _ _ _ _ _ => rfl) s _ _
@[simp] theorem writeEntry_dram (s : State) (m : Nat) (e : IaldoEntry): (writeEntry s m e).dram = s.dram := writeEntry_keeps (π := State.dram) (fun _ _ _ _ _ => rfl) s _ _
@[simp] theorem writeEntry_link (s : State) (m : Nat) (e : IaldoEntry): (writeEntry s m e).link = s.link := writeEntry_keeps (π := State.link) (fun _ _ _ _ _ => rfl) s _ _
@[simp] theorem writeEntry_ckp (s : State) (m : Nat) (e : IaldoEntry): (writeEntry s m e).ckp = s.ckp := writeEntry_keeps (π := State.ckp) (fun _ _ _ _ _ => rfl) s _ _
@[simp] theorem writeEntry_stor (s : State) (m : Nat) (e : IaldoEntry): (writeEntry s m e).stor = s.stor := writeEntry_keeps (π := State.stor) (fun _ _ _ _ _ => rfl) s _ _
@[simp] theorem writeEntry_pkt (s : State) (m : Nat) (e : IaldoEntry): (writeEntry s m e).pkt = s.pkt := writeEntry_keeps (π := State.pkt) (fun _ _ _ _ _ => rfl) s _ _
@[simp] theorem writeEntry_sec (s : State) (m : Nat) (e : IaldoEntry): (writeEntry s m e).sec = s.sec := writeEntry_keeps (π := State.sec) (fun _ _ _ _ _ => rfl) s _ _
@[simp] theorem writeEntry_mon (s : State) (m : Nat) (e : IaldoEntry): (writeEntry s m e).mon = s.mon := writeEntry_keeps (π := State.mon) (fun _ _ _ _ _ => rfl) s _ _
@[simp] theorem writeEntry_jtag (s : State) (m : Nat) (e : IaldoEntry): (writeEntry s m e).jtag = s.jtag := writeEntry_keeps (π := State.jtag) (fun _ _ _ _ _ => rfl) s _ _
@[simp] theorem writeEntry_mgmt (s : State) (m : Nat) (e : IaldoEntry): (writeEntry s m e).mgmt = s.mgmt := writeEntry_keeps (π := State.mgmt) (fun _ _ _ _ _ => rfl) s _ _
@[simp] theorem writeEntry_free (s : State) (m : Nat) (e : IaldoEntry): (writeEntry s m e).free = s.free := writeEntry_keeps (π := State.free) (fun _ _ _ _ _ => rfl) s _ _
@[simp] theorem writeEntry_time (s : State) (m : Nat) (e : IaldoEntry): (writeEntry s m e).time = s.time := writeEntry_keeps (π := State.time) (fun _ _ _ _ _ => rfl) s _ _
@[simp] theorem writeEntry_pending (s : State) (m : Nat) (e : IaldoEntry): (writeEntry s m e).pending = s.pending := writeEntry_keeps (π := State.pending) (fun _ _ _ _ _ => rfl) s _ _

@[simp] theorem postReply_clk (s : State) (m : Nat) (e : IaldoEntry): (postReply s m e).clk = s.clk := postReply_keeps (π := State.clk) (fun _ _ _ _ _ => rfl) s _ _
@[simp] theorem postReply_power (s : State) (m : Nat) (e : IaldoEntry): (postReply s m e).power = s.power := postReply_keeps (π := State.power) (fun _ _ _ _ _ => rfl) s _ _
@[simp] theorem postReply_fuses (s : State) (m : Nat) (e : IaldoEntry): (postReply s m e).fuses = s.fuses := postReply_keeps (π := State.fuses) (fun _ _ _ _ _ => rfl) s _ _
@[simp] theorem postReply_boot (s : State) (m : Nat) (e : IaldoEntry): (postReply s m e).boot = s.boot := postReply_keeps (π := State.boot) (fun _ _ _ _ _ => rfl) s _ _
@[simp] theorem postReply_units (s : State) (m : Nat) (e : IaldoEntry): (postReply s m e).units = s.units := postReply_keeps (π := State.units) (fun _ _ _ _ _ => rfl) s _ _
@[simp] theorem postReply_tracker (s : State) (m : Nat) (e : IaldoEntry): (postReply s m e).tracker = s.tracker := postReply_keeps (π := State.tracker) (fun _ _ _ _ _ => rfl) s _ _
@[simp] theorem postReply_vio (s : State) (m : Nat) (e : IaldoEntry): (postReply s m e).vio = s.vio := postReply_keeps (π := State.vio) (fun _ _ _ _ _ => rfl) s _ _
@[simp] theorem postReply_parts (s : State) (m : Nat) (e : IaldoEntry): (postReply s m e).parts = s.parts := postReply_keeps (π := State.parts) (fun _ _ _ _ _ => rfl) s _ _
@[simp] theorem postReply_excRates (s : State) (m : Nat) (e : IaldoEntry): (postReply s m e).excRates = s.excRates := postReply_keeps (π := State.excRates) (fun _ _ _ _ _ => rfl) s _ _
@[simp] theorem postReply_decode (s : State) (m : Nat) (e : IaldoEntry): (postReply s m e).decode = s.decode := postReply_keeps (π := State.decode) (fun _ _ _ _ _ => rfl) s _ _
@[simp] theorem postReply_opResident (s : State) (m : Nat) (e : IaldoEntry): (postReply s m e).opResident = s.opResident := postReply_keeps (π := State.opResident) (fun _ _ _ _ _ => rfl) s _ _
@[simp] theorem postReply_launch (s : State) (m : Nat) (e : IaldoEntry): (postReply s m e).launch = s.launch := postReply_keeps (π := State.launch) (fun _ _ _ _ _ => rfl) s _ _
@[simp] theorem postReply_crossings (s : State) (m : Nat) (e : IaldoEntry): (postReply s m e).crossings = s.crossings := postReply_keeps (π := State.crossings) (fun _ _ _ _ _ => rfl) s _ _
@[simp] theorem postReply_longOps (s : State) (m : Nat) (e : IaldoEntry): (postReply s m e).longOps = s.longOps := postReply_keeps (π := State.longOps) (fun _ _ _ _ _ => rfl) s _ _
@[simp] theorem postReply_opNo (s : State) (m : Nat) (e : IaldoEntry): (postReply s m e).opNo = s.opNo := postReply_keeps (π := State.opNo) (fun _ _ _ _ _ => rfl) s _ _
@[simp] theorem postReply_ctxs (s : State) (m : Nat) (e : IaldoEntry): (postReply s m e).ctxs = s.ctxs := postReply_keeps (π := State.ctxs) (fun _ _ _ _ _ => rfl) s _ _
@[simp] theorem postReply_fw (s : State) (m : Nat) (e : IaldoEntry): (postReply s m e).fw = s.fw := postReply_keeps (π := State.fw) (fun _ _ _ _ _ => rfl) s _ _
@[simp] theorem postReply_faultLog (s : State) (m : Nat) (e : IaldoEntry): (postReply s m e).faultLog = s.faultLog := postReply_keeps (π := State.faultLog) (fun _ _ _ _ _ => rfl) s _ _
@[simp] theorem postReply_tiles (s : State) (m : Nat) (e : IaldoEntry): (postReply s m e).tiles = s.tiles := postReply_keeps (π := State.tiles) (fun _ _ _ _ _ => rfl) s _ _
@[simp] theorem postReply_groups (s : State) (m : Nat) (e : IaldoEntry): (postReply s m e).groups = s.groups := postReply_keeps (π := State.groups) (fun _ _ _ _ _ => rfl) s _ _
@[simp] theorem postReply_mesh (s : State) (m : Nat) (e : IaldoEntry): (postReply s m e).mesh = s.mesh := postReply_keeps (π := State.mesh) (fun _ _ _ _ _ => rfl) s _ _
@[simp] theorem postReply_models (s : State) (m : Nat) (e : IaldoEntry): (postReply s m e).models = s.models := postReply_keeps (π := State.models) (fun _ _ _ _ _ => rfl) s _ _
@[simp] theorem postReply_sessions (s : State) (m : Nat) (e : IaldoEntry): (postReply s m e).sessions = s.sessions := postReply_keeps (π := State.sessions) (fun _ _ _ _ _ => rfl) s _ _
@[simp] theorem postReply_cores (s : State) (m : Nat) (e : IaldoEntry): (postReply s m e).cores = s.cores := postReply_keeps (π := State.cores) (fun _ _ _ _ _ => rfl) s _ _
@[simp] theorem postReply_reserve (s : State) (m : Nat) (e : IaldoEntry): (postReply s m e).reserve = s.reserve := postReply_keeps (π := State.reserve) (fun _ _ _ _ _ => rfl) s _ _
@[simp] theorem postReply_dram (s : State) (m : Nat) (e : IaldoEntry): (postReply s m e).dram = s.dram := postReply_keeps (π := State.dram) (fun _ _ _ _ _ => rfl) s _ _
@[simp] theorem postReply_link (s : State) (m : Nat) (e : IaldoEntry): (postReply s m e).link = s.link := postReply_keeps (π := State.link) (fun _ _ _ _ _ => rfl) s _ _
@[simp] theorem postReply_ckp (s : State) (m : Nat) (e : IaldoEntry): (postReply s m e).ckp = s.ckp := postReply_keeps (π := State.ckp) (fun _ _ _ _ _ => rfl) s _ _
@[simp] theorem postReply_stor (s : State) (m : Nat) (e : IaldoEntry): (postReply s m e).stor = s.stor := postReply_keeps (π := State.stor) (fun _ _ _ _ _ => rfl) s _ _
@[simp] theorem postReply_pkt (s : State) (m : Nat) (e : IaldoEntry): (postReply s m e).pkt = s.pkt := postReply_keeps (π := State.pkt) (fun _ _ _ _ _ => rfl) s _ _
@[simp] theorem postReply_sec (s : State) (m : Nat) (e : IaldoEntry): (postReply s m e).sec = s.sec := postReply_keeps (π := State.sec) (fun _ _ _ _ _ => rfl) s _ _
@[simp] theorem postReply_mon (s : State) (m : Nat) (e : IaldoEntry): (postReply s m e).mon = s.mon := postReply_keeps (π := State.mon) (fun _ _ _ _ _ => rfl) s _ _
@[simp] theorem postReply_jtag (s : State) (m : Nat) (e : IaldoEntry): (postReply s m e).jtag = s.jtag := postReply_keeps (π := State.jtag) (fun _ _ _ _ _ => rfl) s _ _
@[simp] theorem postReply_mgmt (s : State) (m : Nat) (e : IaldoEntry): (postReply s m e).mgmt = s.mgmt := postReply_keeps (π := State.mgmt) (fun _ _ _ _ _ => rfl) s _ _
@[simp] theorem postReply_free (s : State) (m : Nat) (e : IaldoEntry): (postReply s m e).free = s.free := postReply_keeps (π := State.free) (fun _ _ _ _ _ => rfl) s _ _
@[simp] theorem postReply_time (s : State) (m : Nat) (e : IaldoEntry): (postReply s m e).time = s.time := postReply_keeps (π := State.time) (fun _ _ _ _ _ => rfl) s _ _
@[simp] theorem postReply_pending (s : State) (m : Nat) (e : IaldoEntry): (postReply s m e).pending = s.pending := postReply_keeps (π := State.pending) (fun _ _ _ _ _ => rfl) s _ _

@[simp] theorem postEvent_clk (s : State) (m : Nat) (e : IaldoEntry): (postEvent s m e).clk = s.clk := postEvent_keeps (π := State.clk) (fun _ _ _ _ _ => rfl) s _ _
@[simp] theorem postEvent_power (s : State) (m : Nat) (e : IaldoEntry): (postEvent s m e).power = s.power := postEvent_keeps (π := State.power) (fun _ _ _ _ _ => rfl) s _ _
@[simp] theorem postEvent_fuses (s : State) (m : Nat) (e : IaldoEntry): (postEvent s m e).fuses = s.fuses := postEvent_keeps (π := State.fuses) (fun _ _ _ _ _ => rfl) s _ _
@[simp] theorem postEvent_boot (s : State) (m : Nat) (e : IaldoEntry): (postEvent s m e).boot = s.boot := postEvent_keeps (π := State.boot) (fun _ _ _ _ _ => rfl) s _ _
@[simp] theorem postEvent_units (s : State) (m : Nat) (e : IaldoEntry): (postEvent s m e).units = s.units := postEvent_keeps (π := State.units) (fun _ _ _ _ _ => rfl) s _ _
@[simp] theorem postEvent_tracker (s : State) (m : Nat) (e : IaldoEntry): (postEvent s m e).tracker = s.tracker := postEvent_keeps (π := State.tracker) (fun _ _ _ _ _ => rfl) s _ _
@[simp] theorem postEvent_vio (s : State) (m : Nat) (e : IaldoEntry): (postEvent s m e).vio = s.vio := postEvent_keeps (π := State.vio) (fun _ _ _ _ _ => rfl) s _ _
@[simp] theorem postEvent_parts (s : State) (m : Nat) (e : IaldoEntry): (postEvent s m e).parts = s.parts := postEvent_keeps (π := State.parts) (fun _ _ _ _ _ => rfl) s _ _
@[simp] theorem postEvent_excRates (s : State) (m : Nat) (e : IaldoEntry): (postEvent s m e).excRates = s.excRates := postEvent_keeps (π := State.excRates) (fun _ _ _ _ _ => rfl) s _ _
@[simp] theorem postEvent_decode (s : State) (m : Nat) (e : IaldoEntry): (postEvent s m e).decode = s.decode := postEvent_keeps (π := State.decode) (fun _ _ _ _ _ => rfl) s _ _
@[simp] theorem postEvent_opResident (s : State) (m : Nat) (e : IaldoEntry): (postEvent s m e).opResident = s.opResident := postEvent_keeps (π := State.opResident) (fun _ _ _ _ _ => rfl) s _ _
@[simp] theorem postEvent_launch (s : State) (m : Nat) (e : IaldoEntry): (postEvent s m e).launch = s.launch := postEvent_keeps (π := State.launch) (fun _ _ _ _ _ => rfl) s _ _
@[simp] theorem postEvent_crossings (s : State) (m : Nat) (e : IaldoEntry): (postEvent s m e).crossings = s.crossings := postEvent_keeps (π := State.crossings) (fun _ _ _ _ _ => rfl) s _ _
@[simp] theorem postEvent_longOps (s : State) (m : Nat) (e : IaldoEntry): (postEvent s m e).longOps = s.longOps := postEvent_keeps (π := State.longOps) (fun _ _ _ _ _ => rfl) s _ _
@[simp] theorem postEvent_opNo (s : State) (m : Nat) (e : IaldoEntry): (postEvent s m e).opNo = s.opNo := postEvent_keeps (π := State.opNo) (fun _ _ _ _ _ => rfl) s _ _
@[simp] theorem postEvent_ctxs (s : State) (m : Nat) (e : IaldoEntry): (postEvent s m e).ctxs = s.ctxs := postEvent_keeps (π := State.ctxs) (fun _ _ _ _ _ => rfl) s _ _
@[simp] theorem postEvent_fw (s : State) (m : Nat) (e : IaldoEntry): (postEvent s m e).fw = s.fw := postEvent_keeps (π := State.fw) (fun _ _ _ _ _ => rfl) s _ _
@[simp] theorem postEvent_faultLog (s : State) (m : Nat) (e : IaldoEntry): (postEvent s m e).faultLog = s.faultLog := postEvent_keeps (π := State.faultLog) (fun _ _ _ _ _ => rfl) s _ _
@[simp] theorem postEvent_tiles (s : State) (m : Nat) (e : IaldoEntry): (postEvent s m e).tiles = s.tiles := postEvent_keeps (π := State.tiles) (fun _ _ _ _ _ => rfl) s _ _
@[simp] theorem postEvent_groups (s : State) (m : Nat) (e : IaldoEntry): (postEvent s m e).groups = s.groups := postEvent_keeps (π := State.groups) (fun _ _ _ _ _ => rfl) s _ _
@[simp] theorem postEvent_mesh (s : State) (m : Nat) (e : IaldoEntry): (postEvent s m e).mesh = s.mesh := postEvent_keeps (π := State.mesh) (fun _ _ _ _ _ => rfl) s _ _
@[simp] theorem postEvent_models (s : State) (m : Nat) (e : IaldoEntry): (postEvent s m e).models = s.models := postEvent_keeps (π := State.models) (fun _ _ _ _ _ => rfl) s _ _
@[simp] theorem postEvent_sessions (s : State) (m : Nat) (e : IaldoEntry): (postEvent s m e).sessions = s.sessions := postEvent_keeps (π := State.sessions) (fun _ _ _ _ _ => rfl) s _ _
@[simp] theorem postEvent_cores (s : State) (m : Nat) (e : IaldoEntry): (postEvent s m e).cores = s.cores := postEvent_keeps (π := State.cores) (fun _ _ _ _ _ => rfl) s _ _
@[simp] theorem postEvent_reserve (s : State) (m : Nat) (e : IaldoEntry): (postEvent s m e).reserve = s.reserve := postEvent_keeps (π := State.reserve) (fun _ _ _ _ _ => rfl) s _ _
@[simp] theorem postEvent_dram (s : State) (m : Nat) (e : IaldoEntry): (postEvent s m e).dram = s.dram := postEvent_keeps (π := State.dram) (fun _ _ _ _ _ => rfl) s _ _
@[simp] theorem postEvent_link (s : State) (m : Nat) (e : IaldoEntry): (postEvent s m e).link = s.link := postEvent_keeps (π := State.link) (fun _ _ _ _ _ => rfl) s _ _
@[simp] theorem postEvent_ckp (s : State) (m : Nat) (e : IaldoEntry): (postEvent s m e).ckp = s.ckp := postEvent_keeps (π := State.ckp) (fun _ _ _ _ _ => rfl) s _ _
@[simp] theorem postEvent_stor (s : State) (m : Nat) (e : IaldoEntry): (postEvent s m e).stor = s.stor := postEvent_keeps (π := State.stor) (fun _ _ _ _ _ => rfl) s _ _
@[simp] theorem postEvent_pkt (s : State) (m : Nat) (e : IaldoEntry): (postEvent s m e).pkt = s.pkt := postEvent_keeps (π := State.pkt) (fun _ _ _ _ _ => rfl) s _ _
@[simp] theorem postEvent_sec (s : State) (m : Nat) (e : IaldoEntry): (postEvent s m e).sec = s.sec := postEvent_keeps (π := State.sec) (fun _ _ _ _ _ => rfl) s _ _
@[simp] theorem postEvent_mon (s : State) (m : Nat) (e : IaldoEntry): (postEvent s m e).mon = s.mon := postEvent_keeps (π := State.mon) (fun _ _ _ _ _ => rfl) s _ _
@[simp] theorem postEvent_jtag (s : State) (m : Nat) (e : IaldoEntry): (postEvent s m e).jtag = s.jtag := postEvent_keeps (π := State.jtag) (fun _ _ _ _ _ => rfl) s _ _
@[simp] theorem postEvent_mgmt (s : State) (m : Nat) (e : IaldoEntry): (postEvent s m e).mgmt = s.mgmt := postEvent_keeps (π := State.mgmt) (fun _ _ _ _ _ => rfl) s _ _
@[simp] theorem postEvent_free (s : State) (m : Nat) (e : IaldoEntry): (postEvent s m e).free = s.free := postEvent_keeps (π := State.free) (fun _ _ _ _ _ => rfl) s _ _
@[simp] theorem postEvent_time (s : State) (m : Nat) (e : IaldoEntry): (postEvent s m e).time = s.time := postEvent_keeps (π := State.time) (fun _ _ _ _ _ => rfl) s _ _
@[simp] theorem postEvent_pending (s : State) (m : Nat) (e : IaldoEntry): (postEvent s m e).pending = s.pending := postEvent_keeps (π := State.pending) (fun _ _ _ _ _ => rfl) s _ _

@[simp] theorem respond_clk (s : State) (q : Req) (op n st tok : Nat) (body : Bytes): (respond s q op n st tok body).clk = s.clk := respond_keeps (π := State.clk) (fun _ _ _ _ _ => rfl) s _ _ _ _ _ _
@[simp] theorem respond_power (s : State) (q : Req) (op n st tok : Nat) (body : Bytes): (respond s q op n st tok body).power = s.power := respond_keeps (π := State.power) (fun _ _ _ _ _ => rfl) s _ _ _ _ _ _
@[simp] theorem respond_fuses (s : State) (q : Req) (op n st tok : Nat) (body : Bytes): (respond s q op n st tok body).fuses = s.fuses := respond_keeps (π := State.fuses) (fun _ _ _ _ _ => rfl) s _ _ _ _ _ _
@[simp] theorem respond_boot (s : State) (q : Req) (op n st tok : Nat) (body : Bytes): (respond s q op n st tok body).boot = s.boot := respond_keeps (π := State.boot) (fun _ _ _ _ _ => rfl) s _ _ _ _ _ _
@[simp] theorem respond_units (s : State) (q : Req) (op n st tok : Nat) (body : Bytes): (respond s q op n st tok body).units = s.units := respond_keeps (π := State.units) (fun _ _ _ _ _ => rfl) s _ _ _ _ _ _
@[simp] theorem respond_tracker (s : State) (q : Req) (op n st tok : Nat) (body : Bytes): (respond s q op n st tok body).tracker = s.tracker := respond_keeps (π := State.tracker) (fun _ _ _ _ _ => rfl) s _ _ _ _ _ _
@[simp] theorem respond_vio (s : State) (q : Req) (op n st tok : Nat) (body : Bytes): (respond s q op n st tok body).vio = s.vio := respond_keeps (π := State.vio) (fun _ _ _ _ _ => rfl) s _ _ _ _ _ _
@[simp] theorem respond_parts (s : State) (q : Req) (op n st tok : Nat) (body : Bytes): (respond s q op n st tok body).parts = s.parts := respond_keeps (π := State.parts) (fun _ _ _ _ _ => rfl) s _ _ _ _ _ _
@[simp] theorem respond_excRates (s : State) (q : Req) (op n st tok : Nat) (body : Bytes): (respond s q op n st tok body).excRates = s.excRates := respond_keeps (π := State.excRates) (fun _ _ _ _ _ => rfl) s _ _ _ _ _ _
@[simp] theorem respond_decode (s : State) (q : Req) (op n st tok : Nat) (body : Bytes): (respond s q op n st tok body).decode = s.decode := respond_keeps (π := State.decode) (fun _ _ _ _ _ => rfl) s _ _ _ _ _ _
@[simp] theorem respond_opResident (s : State) (q : Req) (op n st tok : Nat) (body : Bytes): (respond s q op n st tok body).opResident = s.opResident := respond_keeps (π := State.opResident) (fun _ _ _ _ _ => rfl) s _ _ _ _ _ _
@[simp] theorem respond_launch (s : State) (q : Req) (op n st tok : Nat) (body : Bytes): (respond s q op n st tok body).launch = s.launch := respond_keeps (π := State.launch) (fun _ _ _ _ _ => rfl) s _ _ _ _ _ _
@[simp] theorem respond_crossings (s : State) (q : Req) (op n st tok : Nat) (body : Bytes): (respond s q op n st tok body).crossings = s.crossings := respond_keeps (π := State.crossings) (fun _ _ _ _ _ => rfl) s _ _ _ _ _ _
@[simp] theorem respond_longOps (s : State) (q : Req) (op n st tok : Nat) (body : Bytes): (respond s q op n st tok body).longOps = s.longOps := respond_keeps (π := State.longOps) (fun _ _ _ _ _ => rfl) s _ _ _ _ _ _
@[simp] theorem respond_opNo (s : State) (q : Req) (op n st tok : Nat) (body : Bytes): (respond s q op n st tok body).opNo = s.opNo := respond_keeps (π := State.opNo) (fun _ _ _ _ _ => rfl) s _ _ _ _ _ _
@[simp] theorem respond_ctxs (s : State) (q : Req) (op n st tok : Nat) (body : Bytes): (respond s q op n st tok body).ctxs = s.ctxs := respond_keeps (π := State.ctxs) (fun _ _ _ _ _ => rfl) s _ _ _ _ _ _
@[simp] theorem respond_fw (s : State) (q : Req) (op n st tok : Nat) (body : Bytes): (respond s q op n st tok body).fw = s.fw := respond_keeps (π := State.fw) (fun _ _ _ _ _ => rfl) s _ _ _ _ _ _
@[simp] theorem respond_faultLog (s : State) (q : Req) (op n st tok : Nat) (body : Bytes): (respond s q op n st tok body).faultLog = s.faultLog := respond_keeps (π := State.faultLog) (fun _ _ _ _ _ => rfl) s _ _ _ _ _ _
@[simp] theorem respond_tiles (s : State) (q : Req) (op n st tok : Nat) (body : Bytes): (respond s q op n st tok body).tiles = s.tiles := respond_keeps (π := State.tiles) (fun _ _ _ _ _ => rfl) s _ _ _ _ _ _
@[simp] theorem respond_groups (s : State) (q : Req) (op n st tok : Nat) (body : Bytes): (respond s q op n st tok body).groups = s.groups := respond_keeps (π := State.groups) (fun _ _ _ _ _ => rfl) s _ _ _ _ _ _
@[simp] theorem respond_mesh (s : State) (q : Req) (op n st tok : Nat) (body : Bytes): (respond s q op n st tok body).mesh = s.mesh := respond_keeps (π := State.mesh) (fun _ _ _ _ _ => rfl) s _ _ _ _ _ _
@[simp] theorem respond_models (s : State) (q : Req) (op n st tok : Nat) (body : Bytes): (respond s q op n st tok body).models = s.models := respond_keeps (π := State.models) (fun _ _ _ _ _ => rfl) s _ _ _ _ _ _
@[simp] theorem respond_sessions (s : State) (q : Req) (op n st tok : Nat) (body : Bytes): (respond s q op n st tok body).sessions = s.sessions := respond_keeps (π := State.sessions) (fun _ _ _ _ _ => rfl) s _ _ _ _ _ _
@[simp] theorem respond_cores (s : State) (q : Req) (op n st tok : Nat) (body : Bytes): (respond s q op n st tok body).cores = s.cores := respond_keeps (π := State.cores) (fun _ _ _ _ _ => rfl) s _ _ _ _ _ _
@[simp] theorem respond_reserve (s : State) (q : Req) (op n st tok : Nat) (body : Bytes): (respond s q op n st tok body).reserve = s.reserve := respond_keeps (π := State.reserve) (fun _ _ _ _ _ => rfl) s _ _ _ _ _ _
@[simp] theorem respond_dram (s : State) (q : Req) (op n st tok : Nat) (body : Bytes): (respond s q op n st tok body).dram = s.dram := respond_keeps (π := State.dram) (fun _ _ _ _ _ => rfl) s _ _ _ _ _ _
@[simp] theorem respond_link (s : State) (q : Req) (op n st tok : Nat) (body : Bytes): (respond s q op n st tok body).link = s.link := respond_keeps (π := State.link) (fun _ _ _ _ _ => rfl) s _ _ _ _ _ _
@[simp] theorem respond_ckp (s : State) (q : Req) (op n st tok : Nat) (body : Bytes): (respond s q op n st tok body).ckp = s.ckp := respond_keeps (π := State.ckp) (fun _ _ _ _ _ => rfl) s _ _ _ _ _ _
@[simp] theorem respond_stor (s : State) (q : Req) (op n st tok : Nat) (body : Bytes): (respond s q op n st tok body).stor = s.stor := respond_keeps (π := State.stor) (fun _ _ _ _ _ => rfl) s _ _ _ _ _ _
@[simp] theorem respond_pkt (s : State) (q : Req) (op n st tok : Nat) (body : Bytes): (respond s q op n st tok body).pkt = s.pkt := respond_keeps (π := State.pkt) (fun _ _ _ _ _ => rfl) s _ _ _ _ _ _
@[simp] theorem respond_sec (s : State) (q : Req) (op n st tok : Nat) (body : Bytes): (respond s q op n st tok body).sec = s.sec := respond_keeps (π := State.sec) (fun _ _ _ _ _ => rfl) s _ _ _ _ _ _
@[simp] theorem respond_mon (s : State) (q : Req) (op n st tok : Nat) (body : Bytes): (respond s q op n st tok body).mon = s.mon := respond_keeps (π := State.mon) (fun _ _ _ _ _ => rfl) s _ _ _ _ _ _
@[simp] theorem respond_jtag (s : State) (q : Req) (op n st tok : Nat) (body : Bytes): (respond s q op n st tok body).jtag = s.jtag := respond_keeps (π := State.jtag) (fun _ _ _ _ _ => rfl) s _ _ _ _ _ _
@[simp] theorem respond_mgmt (s : State) (q : Req) (op n st tok : Nat) (body : Bytes): (respond s q op n st tok body).mgmt = s.mgmt := respond_keeps (π := State.mgmt) (fun _ _ _ _ _ => rfl) s _ _ _ _ _ _
@[simp] theorem respond_free (s : State) (q : Req) (op n st tok : Nat) (body : Bytes): (respond s q op n st tok body).free = s.free := respond_keeps (π := State.free) (fun _ _ _ _ _ => rfl) s _ _ _ _ _ _
@[simp] theorem respond_time (s : State) (q : Req) (op n st tok : Nat) (body : Bytes): (respond s q op n st tok body).time = s.time := respond_keeps (π := State.time) (fun _ _ _ _ _ => rfl) s _ _ _ _ _ _
@[simp] theorem respond_pending (s : State) (q : Req) (op n st tok : Nat) (body : Bytes): (respond s q op n st tok body).pending = s.pending := respond_keeps (π := State.pending) (fun _ _ _ _ _ => rfl) s _ _ _ _ _ _

@[simp] theorem sendEvent_clk (s : State) (a : Admit) (op h c d : Nat): (sendEvent s a op h c d).clk = s.clk := sendEvent_keeps (π := State.clk) (fun _ _ _ _ _ => rfl) s _ _ _ _ _
@[simp] theorem sendEvent_power (s : State) (a : Admit) (op h c d : Nat): (sendEvent s a op h c d).power = s.power := sendEvent_keeps (π := State.power) (fun _ _ _ _ _ => rfl) s _ _ _ _ _
@[simp] theorem sendEvent_fuses (s : State) (a : Admit) (op h c d : Nat): (sendEvent s a op h c d).fuses = s.fuses := sendEvent_keeps (π := State.fuses) (fun _ _ _ _ _ => rfl) s _ _ _ _ _
@[simp] theorem sendEvent_boot (s : State) (a : Admit) (op h c d : Nat): (sendEvent s a op h c d).boot = s.boot := sendEvent_keeps (π := State.boot) (fun _ _ _ _ _ => rfl) s _ _ _ _ _
@[simp] theorem sendEvent_units (s : State) (a : Admit) (op h c d : Nat): (sendEvent s a op h c d).units = s.units := sendEvent_keeps (π := State.units) (fun _ _ _ _ _ => rfl) s _ _ _ _ _
@[simp] theorem sendEvent_tracker (s : State) (a : Admit) (op h c d : Nat): (sendEvent s a op h c d).tracker = s.tracker := sendEvent_keeps (π := State.tracker) (fun _ _ _ _ _ => rfl) s _ _ _ _ _
@[simp] theorem sendEvent_vio (s : State) (a : Admit) (op h c d : Nat): (sendEvent s a op h c d).vio = s.vio := sendEvent_keeps (π := State.vio) (fun _ _ _ _ _ => rfl) s _ _ _ _ _
@[simp] theorem sendEvent_parts (s : State) (a : Admit) (op h c d : Nat): (sendEvent s a op h c d).parts = s.parts := sendEvent_keeps (π := State.parts) (fun _ _ _ _ _ => rfl) s _ _ _ _ _
@[simp] theorem sendEvent_excRates (s : State) (a : Admit) (op h c d : Nat): (sendEvent s a op h c d).excRates = s.excRates := sendEvent_keeps (π := State.excRates) (fun _ _ _ _ _ => rfl) s _ _ _ _ _
@[simp] theorem sendEvent_decode (s : State) (a : Admit) (op h c d : Nat): (sendEvent s a op h c d).decode = s.decode := sendEvent_keeps (π := State.decode) (fun _ _ _ _ _ => rfl) s _ _ _ _ _
@[simp] theorem sendEvent_opResident (s : State) (a : Admit) (op h c d : Nat): (sendEvent s a op h c d).opResident = s.opResident := sendEvent_keeps (π := State.opResident) (fun _ _ _ _ _ => rfl) s _ _ _ _ _
@[simp] theorem sendEvent_launch (s : State) (a : Admit) (op h c d : Nat): (sendEvent s a op h c d).launch = s.launch := sendEvent_keeps (π := State.launch) (fun _ _ _ _ _ => rfl) s _ _ _ _ _
@[simp] theorem sendEvent_crossings (s : State) (a : Admit) (op h c d : Nat): (sendEvent s a op h c d).crossings = s.crossings := sendEvent_keeps (π := State.crossings) (fun _ _ _ _ _ => rfl) s _ _ _ _ _
@[simp] theorem sendEvent_longOps (s : State) (a : Admit) (op h c d : Nat): (sendEvent s a op h c d).longOps = s.longOps := sendEvent_keeps (π := State.longOps) (fun _ _ _ _ _ => rfl) s _ _ _ _ _
@[simp] theorem sendEvent_opNo (s : State) (a : Admit) (op h c d : Nat): (sendEvent s a op h c d).opNo = s.opNo := sendEvent_keeps (π := State.opNo) (fun _ _ _ _ _ => rfl) s _ _ _ _ _
@[simp] theorem sendEvent_ctxs (s : State) (a : Admit) (op h c d : Nat): (sendEvent s a op h c d).ctxs = s.ctxs := sendEvent_keeps (π := State.ctxs) (fun _ _ _ _ _ => rfl) s _ _ _ _ _
@[simp] theorem sendEvent_fw (s : State) (a : Admit) (op h c d : Nat): (sendEvent s a op h c d).fw = s.fw := sendEvent_keeps (π := State.fw) (fun _ _ _ _ _ => rfl) s _ _ _ _ _
@[simp] theorem sendEvent_faultLog (s : State) (a : Admit) (op h c d : Nat): (sendEvent s a op h c d).faultLog = s.faultLog := sendEvent_keeps (π := State.faultLog) (fun _ _ _ _ _ => rfl) s _ _ _ _ _
@[simp] theorem sendEvent_tiles (s : State) (a : Admit) (op h c d : Nat): (sendEvent s a op h c d).tiles = s.tiles := sendEvent_keeps (π := State.tiles) (fun _ _ _ _ _ => rfl) s _ _ _ _ _
@[simp] theorem sendEvent_groups (s : State) (a : Admit) (op h c d : Nat): (sendEvent s a op h c d).groups = s.groups := sendEvent_keeps (π := State.groups) (fun _ _ _ _ _ => rfl) s _ _ _ _ _
@[simp] theorem sendEvent_mesh (s : State) (a : Admit) (op h c d : Nat): (sendEvent s a op h c d).mesh = s.mesh := sendEvent_keeps (π := State.mesh) (fun _ _ _ _ _ => rfl) s _ _ _ _ _
@[simp] theorem sendEvent_models (s : State) (a : Admit) (op h c d : Nat): (sendEvent s a op h c d).models = s.models := sendEvent_keeps (π := State.models) (fun _ _ _ _ _ => rfl) s _ _ _ _ _
@[simp] theorem sendEvent_sessions (s : State) (a : Admit) (op h c d : Nat): (sendEvent s a op h c d).sessions = s.sessions := sendEvent_keeps (π := State.sessions) (fun _ _ _ _ _ => rfl) s _ _ _ _ _
@[simp] theorem sendEvent_cores (s : State) (a : Admit) (op h c d : Nat): (sendEvent s a op h c d).cores = s.cores := sendEvent_keeps (π := State.cores) (fun _ _ _ _ _ => rfl) s _ _ _ _ _
@[simp] theorem sendEvent_reserve (s : State) (a : Admit) (op h c d : Nat): (sendEvent s a op h c d).reserve = s.reserve := sendEvent_keeps (π := State.reserve) (fun _ _ _ _ _ => rfl) s _ _ _ _ _
@[simp] theorem sendEvent_dram (s : State) (a : Admit) (op h c d : Nat): (sendEvent s a op h c d).dram = s.dram := sendEvent_keeps (π := State.dram) (fun _ _ _ _ _ => rfl) s _ _ _ _ _
@[simp] theorem sendEvent_link (s : State) (a : Admit) (op h c d : Nat): (sendEvent s a op h c d).link = s.link := sendEvent_keeps (π := State.link) (fun _ _ _ _ _ => rfl) s _ _ _ _ _
@[simp] theorem sendEvent_ckp (s : State) (a : Admit) (op h c d : Nat): (sendEvent s a op h c d).ckp = s.ckp := sendEvent_keeps (π := State.ckp) (fun _ _ _ _ _ => rfl) s _ _ _ _ _
@[simp] theorem sendEvent_stor (s : State) (a : Admit) (op h c d : Nat): (sendEvent s a op h c d).stor = s.stor := sendEvent_keeps (π := State.stor) (fun _ _ _ _ _ => rfl) s _ _ _ _ _
@[simp] theorem sendEvent_pkt (s : State) (a : Admit) (op h c d : Nat): (sendEvent s a op h c d).pkt = s.pkt := sendEvent_keeps (π := State.pkt) (fun _ _ _ _ _ => rfl) s _ _ _ _ _
@[simp] theorem sendEvent_sec (s : State) (a : Admit) (op h c d : Nat): (sendEvent s a op h c d).sec = s.sec := sendEvent_keeps (π := State.sec) (fun _ _ _ _ _ => rfl) s _ _ _ _ _
@[simp] theorem sendEvent_mon (s : State) (a : Admit) (op h c d : Nat): (sendEvent s a op h c d).mon = s.mon := sendEvent_keeps (π := State.mon) (fun _ _ _ _ _ => rfl) s _ _ _ _ _
@[simp] theorem sendEvent_jtag (s : State) (a : Admit) (op h c d : Nat): (sendEvent s a op h c d).jtag = s.jtag := sendEvent_keeps (π := State.jtag) (fun _ _ _ _ _ => rfl) s _ _ _ _ _
@[simp] theorem sendEvent_mgmt (s : State) (a : Admit) (op h c d : Nat): (sendEvent s a op h c d).mgmt = s.mgmt := sendEvent_keeps (π := State.mgmt) (fun _ _ _ _ _ => rfl) s _ _ _ _ _
@[simp] theorem sendEvent_free (s : State) (a : Admit) (op h c d : Nat): (sendEvent s a op h c d).free = s.free := sendEvent_keeps (π := State.free) (fun _ _ _ _ _ => rfl) s _ _ _ _ _
@[simp] theorem sendEvent_time (s : State) (a : Admit) (op h c d : Nat): (sendEvent s a op h c d).time = s.time := sendEvent_keeps (π := State.time) (fun _ _ _ _ _ => rfl) s _ _ _ _ _
@[simp] theorem sendEvent_pending (s : State) (a : Admit) (op h c d : Nat): (sendEvent s a op h c d).pending = s.pending := sendEvent_keeps (π := State.pending) (fun _ _ _ _ _ => rfl) s _ _ _ _ _

@[simp] theorem readyChanged_clk (s : State) : (readyChanged s).clk = s.clk := readyChanged_keeps (π := State.clk) (fun _ _ _ _ _ => rfl) s
@[simp] theorem readyChanged_power (s : State) : (readyChanged s).power = s.power := readyChanged_keeps (π := State.power) (fun _ _ _ _ _ => rfl) s
@[simp] theorem readyChanged_fuses (s : State) : (readyChanged s).fuses = s.fuses := readyChanged_keeps (π := State.fuses) (fun _ _ _ _ _ => rfl) s
@[simp] theorem readyChanged_boot (s : State) : (readyChanged s).boot = s.boot := readyChanged_keeps (π := State.boot) (fun _ _ _ _ _ => rfl) s
@[simp] theorem readyChanged_units (s : State) : (readyChanged s).units = s.units := readyChanged_keeps (π := State.units) (fun _ _ _ _ _ => rfl) s
@[simp] theorem readyChanged_tracker (s : State) : (readyChanged s).tracker = s.tracker := readyChanged_keeps (π := State.tracker) (fun _ _ _ _ _ => rfl) s
@[simp] theorem readyChanged_vio (s : State) : (readyChanged s).vio = s.vio := readyChanged_keeps (π := State.vio) (fun _ _ _ _ _ => rfl) s
@[simp] theorem readyChanged_parts (s : State) : (readyChanged s).parts = s.parts := readyChanged_keeps (π := State.parts) (fun _ _ _ _ _ => rfl) s
@[simp] theorem readyChanged_excRates (s : State) : (readyChanged s).excRates = s.excRates := readyChanged_keeps (π := State.excRates) (fun _ _ _ _ _ => rfl) s
@[simp] theorem readyChanged_decode (s : State) : (readyChanged s).decode = s.decode := readyChanged_keeps (π := State.decode) (fun _ _ _ _ _ => rfl) s
@[simp] theorem readyChanged_opResident (s : State) : (readyChanged s).opResident = s.opResident := readyChanged_keeps (π := State.opResident) (fun _ _ _ _ _ => rfl) s
@[simp] theorem readyChanged_launch (s : State) : (readyChanged s).launch = s.launch := readyChanged_keeps (π := State.launch) (fun _ _ _ _ _ => rfl) s
@[simp] theorem readyChanged_crossings (s : State) : (readyChanged s).crossings = s.crossings := readyChanged_keeps (π := State.crossings) (fun _ _ _ _ _ => rfl) s
@[simp] theorem readyChanged_longOps (s : State) : (readyChanged s).longOps = s.longOps := readyChanged_keeps (π := State.longOps) (fun _ _ _ _ _ => rfl) s
@[simp] theorem readyChanged_opNo (s : State) : (readyChanged s).opNo = s.opNo := readyChanged_keeps (π := State.opNo) (fun _ _ _ _ _ => rfl) s
@[simp] theorem readyChanged_ctxs (s : State) : (readyChanged s).ctxs = s.ctxs := readyChanged_keeps (π := State.ctxs) (fun _ _ _ _ _ => rfl) s
@[simp] theorem readyChanged_fw (s : State) : (readyChanged s).fw = s.fw := readyChanged_keeps (π := State.fw) (fun _ _ _ _ _ => rfl) s
@[simp] theorem readyChanged_faultLog (s : State) : (readyChanged s).faultLog = s.faultLog := readyChanged_keeps (π := State.faultLog) (fun _ _ _ _ _ => rfl) s
@[simp] theorem readyChanged_tiles (s : State) : (readyChanged s).tiles = s.tiles := readyChanged_keeps (π := State.tiles) (fun _ _ _ _ _ => rfl) s
@[simp] theorem readyChanged_groups (s : State) : (readyChanged s).groups = s.groups := readyChanged_keeps (π := State.groups) (fun _ _ _ _ _ => rfl) s
@[simp] theorem readyChanged_mesh (s : State) : (readyChanged s).mesh = s.mesh := readyChanged_keeps (π := State.mesh) (fun _ _ _ _ _ => rfl) s
@[simp] theorem readyChanged_models (s : State) : (readyChanged s).models = s.models := readyChanged_keeps (π := State.models) (fun _ _ _ _ _ => rfl) s
@[simp] theorem readyChanged_sessions (s : State) : (readyChanged s).sessions = s.sessions := readyChanged_keeps (π := State.sessions) (fun _ _ _ _ _ => rfl) s
@[simp] theorem readyChanged_cores (s : State) : (readyChanged s).cores = s.cores := readyChanged_keeps (π := State.cores) (fun _ _ _ _ _ => rfl) s
@[simp] theorem readyChanged_reserve (s : State) : (readyChanged s).reserve = s.reserve := readyChanged_keeps (π := State.reserve) (fun _ _ _ _ _ => rfl) s
@[simp] theorem readyChanged_dram (s : State) : (readyChanged s).dram = s.dram := readyChanged_keeps (π := State.dram) (fun _ _ _ _ _ => rfl) s
@[simp] theorem readyChanged_link (s : State) : (readyChanged s).link = s.link := readyChanged_keeps (π := State.link) (fun _ _ _ _ _ => rfl) s
@[simp] theorem readyChanged_ckp (s : State) : (readyChanged s).ckp = s.ckp := readyChanged_keeps (π := State.ckp) (fun _ _ _ _ _ => rfl) s
@[simp] theorem readyChanged_stor (s : State) : (readyChanged s).stor = s.stor := readyChanged_keeps (π := State.stor) (fun _ _ _ _ _ => rfl) s
@[simp] theorem readyChanged_pkt (s : State) : (readyChanged s).pkt = s.pkt := readyChanged_keeps (π := State.pkt) (fun _ _ _ _ _ => rfl) s
@[simp] theorem readyChanged_sec (s : State) : (readyChanged s).sec = s.sec := readyChanged_keeps (π := State.sec) (fun _ _ _ _ _ => rfl) s
@[simp] theorem readyChanged_mon (s : State) : (readyChanged s).mon = s.mon := readyChanged_keeps (π := State.mon) (fun _ _ _ _ _ => rfl) s
@[simp] theorem readyChanged_jtag (s : State) : (readyChanged s).jtag = s.jtag := readyChanged_keeps (π := State.jtag) (fun _ _ _ _ _ => rfl) s
@[simp] theorem readyChanged_mgmt (s : State) : (readyChanged s).mgmt = s.mgmt := readyChanged_keeps (π := State.mgmt) (fun _ _ _ _ _ => rfl) s
@[simp] theorem readyChanged_free (s : State) : (readyChanged s).free = s.free := readyChanged_keeps (π := State.free) (fun _ _ _ _ _ => rfl) s
@[simp] theorem readyChanged_time (s : State) : (readyChanged s).time = s.time := readyChanged_keeps (π := State.time) (fun _ _ _ _ _ => rfl) s
@[simp] theorem readyChanged_pending (s : State) : (readyChanged s).pending = s.pending := readyChanged_keeps (π := State.pending) (fun _ _ _ _ _ => rfl) s

@[simp] theorem finishOp_clk (s : State) (n st : Nat) (body : Bytes): (finishOp s n st body).clk = s.clk := finishOp_keeps (π := State.clk) (fun _ _ _ _ _ _ _ => rfl) s _ _ _
@[simp] theorem finishOp_power (s : State) (n st : Nat) (body : Bytes): (finishOp s n st body).power = s.power := finishOp_keeps (π := State.power) (fun _ _ _ _ _ _ _ => rfl) s _ _ _
@[simp] theorem finishOp_fuses (s : State) (n st : Nat) (body : Bytes): (finishOp s n st body).fuses = s.fuses := finishOp_keeps (π := State.fuses) (fun _ _ _ _ _ _ _ => rfl) s _ _ _
@[simp] theorem finishOp_boot (s : State) (n st : Nat) (body : Bytes): (finishOp s n st body).boot = s.boot := finishOp_keeps (π := State.boot) (fun _ _ _ _ _ _ _ => rfl) s _ _ _
@[simp] theorem finishOp_units (s : State) (n st : Nat) (body : Bytes): (finishOp s n st body).units = s.units := finishOp_keeps (π := State.units) (fun _ _ _ _ _ _ _ => rfl) s _ _ _
@[simp] theorem finishOp_tracker (s : State) (n st : Nat) (body : Bytes): (finishOp s n st body).tracker = s.tracker := finishOp_keeps (π := State.tracker) (fun _ _ _ _ _ _ _ => rfl) s _ _ _
@[simp] theorem finishOp_vio (s : State) (n st : Nat) (body : Bytes): (finishOp s n st body).vio = s.vio := finishOp_keeps (π := State.vio) (fun _ _ _ _ _ _ _ => rfl) s _ _ _
@[simp] theorem finishOp_parts (s : State) (n st : Nat) (body : Bytes): (finishOp s n st body).parts = s.parts := finishOp_keeps (π := State.parts) (fun _ _ _ _ _ _ _ => rfl) s _ _ _
@[simp] theorem finishOp_excRates (s : State) (n st : Nat) (body : Bytes): (finishOp s n st body).excRates = s.excRates := finishOp_keeps (π := State.excRates) (fun _ _ _ _ _ _ _ => rfl) s _ _ _
@[simp] theorem finishOp_decode (s : State) (n st : Nat) (body : Bytes): (finishOp s n st body).decode = s.decode := finishOp_keeps (π := State.decode) (fun _ _ _ _ _ _ _ => rfl) s _ _ _
@[simp] theorem finishOp_opResident (s : State) (n st : Nat) (body : Bytes): (finishOp s n st body).opResident = s.opResident := finishOp_keeps (π := State.opResident) (fun _ _ _ _ _ _ _ => rfl) s _ _ _
@[simp] theorem finishOp_launch (s : State) (n st : Nat) (body : Bytes): (finishOp s n st body).launch = s.launch := finishOp_keeps (π := State.launch) (fun _ _ _ _ _ _ _ => rfl) s _ _ _
@[simp] theorem finishOp_crossings (s : State) (n st : Nat) (body : Bytes): (finishOp s n st body).crossings = s.crossings := finishOp_keeps (π := State.crossings) (fun _ _ _ _ _ _ _ => rfl) s _ _ _
@[simp] theorem finishOp_ctxs (s : State) (n st : Nat) (body : Bytes): (finishOp s n st body).ctxs = s.ctxs := finishOp_keeps (π := State.ctxs) (fun _ _ _ _ _ _ _ => rfl) s _ _ _
@[simp] theorem finishOp_fw (s : State) (n st : Nat) (body : Bytes): (finishOp s n st body).fw = s.fw := finishOp_keeps (π := State.fw) (fun _ _ _ _ _ _ _ => rfl) s _ _ _
@[simp] theorem finishOp_faultLog (s : State) (n st : Nat) (body : Bytes): (finishOp s n st body).faultLog = s.faultLog := finishOp_keeps (π := State.faultLog) (fun _ _ _ _ _ _ _ => rfl) s _ _ _
@[simp] theorem finishOp_tiles (s : State) (n st : Nat) (body : Bytes): (finishOp s n st body).tiles = s.tiles := finishOp_keeps (π := State.tiles) (fun _ _ _ _ _ _ _ => rfl) s _ _ _
@[simp] theorem finishOp_groups (s : State) (n st : Nat) (body : Bytes): (finishOp s n st body).groups = s.groups := finishOp_keeps (π := State.groups) (fun _ _ _ _ _ _ _ => rfl) s _ _ _
@[simp] theorem finishOp_mesh (s : State) (n st : Nat) (body : Bytes): (finishOp s n st body).mesh = s.mesh := finishOp_keeps (π := State.mesh) (fun _ _ _ _ _ _ _ => rfl) s _ _ _
@[simp] theorem finishOp_models (s : State) (n st : Nat) (body : Bytes): (finishOp s n st body).models = s.models := finishOp_keeps (π := State.models) (fun _ _ _ _ _ _ _ => rfl) s _ _ _
@[simp] theorem finishOp_sessions (s : State) (n st : Nat) (body : Bytes): (finishOp s n st body).sessions = s.sessions := finishOp_keeps (π := State.sessions) (fun _ _ _ _ _ _ _ => rfl) s _ _ _
@[simp] theorem finishOp_cores (s : State) (n st : Nat) (body : Bytes): (finishOp s n st body).cores = s.cores := finishOp_keeps (π := State.cores) (fun _ _ _ _ _ _ _ => rfl) s _ _ _
@[simp] theorem finishOp_reserve (s : State) (n st : Nat) (body : Bytes): (finishOp s n st body).reserve = s.reserve := finishOp_keeps (π := State.reserve) (fun _ _ _ _ _ _ _ => rfl) s _ _ _
@[simp] theorem finishOp_dram (s : State) (n st : Nat) (body : Bytes): (finishOp s n st body).dram = s.dram := finishOp_keeps (π := State.dram) (fun _ _ _ _ _ _ _ => rfl) s _ _ _
@[simp] theorem finishOp_link (s : State) (n st : Nat) (body : Bytes): (finishOp s n st body).link = s.link := finishOp_keeps (π := State.link) (fun _ _ _ _ _ _ _ => rfl) s _ _ _
@[simp] theorem finishOp_ckp (s : State) (n st : Nat) (body : Bytes): (finishOp s n st body).ckp = s.ckp := finishOp_keeps (π := State.ckp) (fun _ _ _ _ _ _ _ => rfl) s _ _ _
@[simp] theorem finishOp_stor (s : State) (n st : Nat) (body : Bytes): (finishOp s n st body).stor = s.stor := finishOp_keeps (π := State.stor) (fun _ _ _ _ _ _ _ => rfl) s _ _ _
@[simp] theorem finishOp_pkt (s : State) (n st : Nat) (body : Bytes): (finishOp s n st body).pkt = s.pkt := finishOp_keeps (π := State.pkt) (fun _ _ _ _ _ _ _ => rfl) s _ _ _
@[simp] theorem finishOp_sec (s : State) (n st : Nat) (body : Bytes): (finishOp s n st body).sec = s.sec := finishOp_keeps (π := State.sec) (fun _ _ _ _ _ _ _ => rfl) s _ _ _
@[simp] theorem finishOp_mon (s : State) (n st : Nat) (body : Bytes): (finishOp s n st body).mon = s.mon := finishOp_keeps (π := State.mon) (fun _ _ _ _ _ _ _ => rfl) s _ _ _
@[simp] theorem finishOp_jtag (s : State) (n st : Nat) (body : Bytes): (finishOp s n st body).jtag = s.jtag := finishOp_keeps (π := State.jtag) (fun _ _ _ _ _ _ _ => rfl) s _ _ _
@[simp] theorem finishOp_mgmt (s : State) (n st : Nat) (body : Bytes): (finishOp s n st body).mgmt = s.mgmt := finishOp_keeps (π := State.mgmt) (fun _ _ _ _ _ _ _ => rfl) s _ _ _
@[simp] theorem finishOp_free (s : State) (n st : Nat) (body : Bytes): (finishOp s n st body).free = s.free := finishOp_keeps (π := State.free) (fun _ _ _ _ _ _ _ => rfl) s _ _ _
@[simp] theorem finishOp_time (s : State) (n st : Nat) (body : Bytes): (finishOp s n st body).time = s.time := finishOp_keeps (π := State.time) (fun _ _ _ _ _ _ _ => rfl) s _ _ _
@[simp] theorem finishOp_pending (s : State) (n st : Nat) (body : Bytes): (finishOp s n st body).pending = s.pending := finishOp_keeps (π := State.pending) (fun _ _ _ _ _ _ _ => rfl) s _ _ _

@[simp] theorem finishOps_clk (s : State) (st : Nat) (p : LongOp → Bool): (finishOps s st p).clk = s.clk := finishOps_keeps (π := State.clk) (fun _ _ _ _ _ _ _ => rfl) s _ _
@[simp] theorem finishOps_power (s : State) (st : Nat) (p : LongOp → Bool): (finishOps s st p).power = s.power := finishOps_keeps (π := State.power) (fun _ _ _ _ _ _ _ => rfl) s _ _
@[simp] theorem finishOps_fuses (s : State) (st : Nat) (p : LongOp → Bool): (finishOps s st p).fuses = s.fuses := finishOps_keeps (π := State.fuses) (fun _ _ _ _ _ _ _ => rfl) s _ _
@[simp] theorem finishOps_boot (s : State) (st : Nat) (p : LongOp → Bool): (finishOps s st p).boot = s.boot := finishOps_keeps (π := State.boot) (fun _ _ _ _ _ _ _ => rfl) s _ _
@[simp] theorem finishOps_units (s : State) (st : Nat) (p : LongOp → Bool): (finishOps s st p).units = s.units := finishOps_keeps (π := State.units) (fun _ _ _ _ _ _ _ => rfl) s _ _
@[simp] theorem finishOps_tracker (s : State) (st : Nat) (p : LongOp → Bool): (finishOps s st p).tracker = s.tracker := finishOps_keeps (π := State.tracker) (fun _ _ _ _ _ _ _ => rfl) s _ _
@[simp] theorem finishOps_vio (s : State) (st : Nat) (p : LongOp → Bool): (finishOps s st p).vio = s.vio := finishOps_keeps (π := State.vio) (fun _ _ _ _ _ _ _ => rfl) s _ _
@[simp] theorem finishOps_parts (s : State) (st : Nat) (p : LongOp → Bool): (finishOps s st p).parts = s.parts := finishOps_keeps (π := State.parts) (fun _ _ _ _ _ _ _ => rfl) s _ _
@[simp] theorem finishOps_excRates (s : State) (st : Nat) (p : LongOp → Bool): (finishOps s st p).excRates = s.excRates := finishOps_keeps (π := State.excRates) (fun _ _ _ _ _ _ _ => rfl) s _ _
@[simp] theorem finishOps_decode (s : State) (st : Nat) (p : LongOp → Bool): (finishOps s st p).decode = s.decode := finishOps_keeps (π := State.decode) (fun _ _ _ _ _ _ _ => rfl) s _ _
@[simp] theorem finishOps_opResident (s : State) (st : Nat) (p : LongOp → Bool): (finishOps s st p).opResident = s.opResident := finishOps_keeps (π := State.opResident) (fun _ _ _ _ _ _ _ => rfl) s _ _
@[simp] theorem finishOps_launch (s : State) (st : Nat) (p : LongOp → Bool): (finishOps s st p).launch = s.launch := finishOps_keeps (π := State.launch) (fun _ _ _ _ _ _ _ => rfl) s _ _
@[simp] theorem finishOps_crossings (s : State) (st : Nat) (p : LongOp → Bool): (finishOps s st p).crossings = s.crossings := finishOps_keeps (π := State.crossings) (fun _ _ _ _ _ _ _ => rfl) s _ _
@[simp] theorem finishOps_ctxs (s : State) (st : Nat) (p : LongOp → Bool): (finishOps s st p).ctxs = s.ctxs := finishOps_keeps (π := State.ctxs) (fun _ _ _ _ _ _ _ => rfl) s _ _
@[simp] theorem finishOps_fw (s : State) (st : Nat) (p : LongOp → Bool): (finishOps s st p).fw = s.fw := finishOps_keeps (π := State.fw) (fun _ _ _ _ _ _ _ => rfl) s _ _
@[simp] theorem finishOps_faultLog (s : State) (st : Nat) (p : LongOp → Bool): (finishOps s st p).faultLog = s.faultLog := finishOps_keeps (π := State.faultLog) (fun _ _ _ _ _ _ _ => rfl) s _ _
@[simp] theorem finishOps_tiles (s : State) (st : Nat) (p : LongOp → Bool): (finishOps s st p).tiles = s.tiles := finishOps_keeps (π := State.tiles) (fun _ _ _ _ _ _ _ => rfl) s _ _
@[simp] theorem finishOps_groups (s : State) (st : Nat) (p : LongOp → Bool): (finishOps s st p).groups = s.groups := finishOps_keeps (π := State.groups) (fun _ _ _ _ _ _ _ => rfl) s _ _
@[simp] theorem finishOps_mesh (s : State) (st : Nat) (p : LongOp → Bool): (finishOps s st p).mesh = s.mesh := finishOps_keeps (π := State.mesh) (fun _ _ _ _ _ _ _ => rfl) s _ _
@[simp] theorem finishOps_models (s : State) (st : Nat) (p : LongOp → Bool): (finishOps s st p).models = s.models := finishOps_keeps (π := State.models) (fun _ _ _ _ _ _ _ => rfl) s _ _
@[simp] theorem finishOps_sessions (s : State) (st : Nat) (p : LongOp → Bool): (finishOps s st p).sessions = s.sessions := finishOps_keeps (π := State.sessions) (fun _ _ _ _ _ _ _ => rfl) s _ _
@[simp] theorem finishOps_cores (s : State) (st : Nat) (p : LongOp → Bool): (finishOps s st p).cores = s.cores := finishOps_keeps (π := State.cores) (fun _ _ _ _ _ _ _ => rfl) s _ _
@[simp] theorem finishOps_reserve (s : State) (st : Nat) (p : LongOp → Bool): (finishOps s st p).reserve = s.reserve := finishOps_keeps (π := State.reserve) (fun _ _ _ _ _ _ _ => rfl) s _ _
@[simp] theorem finishOps_dram (s : State) (st : Nat) (p : LongOp → Bool): (finishOps s st p).dram = s.dram := finishOps_keeps (π := State.dram) (fun _ _ _ _ _ _ _ => rfl) s _ _
@[simp] theorem finishOps_link (s : State) (st : Nat) (p : LongOp → Bool): (finishOps s st p).link = s.link := finishOps_keeps (π := State.link) (fun _ _ _ _ _ _ _ => rfl) s _ _
@[simp] theorem finishOps_ckp (s : State) (st : Nat) (p : LongOp → Bool): (finishOps s st p).ckp = s.ckp := finishOps_keeps (π := State.ckp) (fun _ _ _ _ _ _ _ => rfl) s _ _
@[simp] theorem finishOps_stor (s : State) (st : Nat) (p : LongOp → Bool): (finishOps s st p).stor = s.stor := finishOps_keeps (π := State.stor) (fun _ _ _ _ _ _ _ => rfl) s _ _
@[simp] theorem finishOps_pkt (s : State) (st : Nat) (p : LongOp → Bool): (finishOps s st p).pkt = s.pkt := finishOps_keeps (π := State.pkt) (fun _ _ _ _ _ _ _ => rfl) s _ _
@[simp] theorem finishOps_sec (s : State) (st : Nat) (p : LongOp → Bool): (finishOps s st p).sec = s.sec := finishOps_keeps (π := State.sec) (fun _ _ _ _ _ _ _ => rfl) s _ _
@[simp] theorem finishOps_mon (s : State) (st : Nat) (p : LongOp → Bool): (finishOps s st p).mon = s.mon := finishOps_keeps (π := State.mon) (fun _ _ _ _ _ _ _ => rfl) s _ _
@[simp] theorem finishOps_jtag (s : State) (st : Nat) (p : LongOp → Bool): (finishOps s st p).jtag = s.jtag := finishOps_keeps (π := State.jtag) (fun _ _ _ _ _ _ _ => rfl) s _ _
@[simp] theorem finishOps_mgmt (s : State) (st : Nat) (p : LongOp → Bool): (finishOps s st p).mgmt = s.mgmt := finishOps_keeps (π := State.mgmt) (fun _ _ _ _ _ _ _ => rfl) s _ _
@[simp] theorem finishOps_free (s : State) (st : Nat) (p : LongOp → Bool): (finishOps s st p).free = s.free := finishOps_keeps (π := State.free) (fun _ _ _ _ _ _ _ => rfl) s _ _
@[simp] theorem finishOps_time (s : State) (st : Nat) (p : LongOp → Bool): (finishOps s st p).time = s.time := finishOps_keeps (π := State.time) (fun _ _ _ _ _ _ _ => rfl) s _ _
@[simp] theorem finishOps_pending (s : State) (st : Nat) (p : LongOp → Bool): (finishOps s st p).pending = s.pending := finishOps_keeps (π := State.pending) (fun _ _ _ _ _ _ _ => rfl) s _ _

@[simp] theorem startOp_clk (s : State) (q : Req) (op n st : Nat) (d : OpData): (startOp s q op n st d).clk = s.clk := startOp_keeps (π := State.clk) (fun _ _ _ _ _ _ _ => rfl) s _ _ _ _ _
@[simp] theorem startOp_power (s : State) (q : Req) (op n st : Nat) (d : OpData): (startOp s q op n st d).power = s.power := startOp_keeps (π := State.power) (fun _ _ _ _ _ _ _ => rfl) s _ _ _ _ _
@[simp] theorem startOp_fuses (s : State) (q : Req) (op n st : Nat) (d : OpData): (startOp s q op n st d).fuses = s.fuses := startOp_keeps (π := State.fuses) (fun _ _ _ _ _ _ _ => rfl) s _ _ _ _ _
@[simp] theorem startOp_boot (s : State) (q : Req) (op n st : Nat) (d : OpData): (startOp s q op n st d).boot = s.boot := startOp_keeps (π := State.boot) (fun _ _ _ _ _ _ _ => rfl) s _ _ _ _ _
@[simp] theorem startOp_units (s : State) (q : Req) (op n st : Nat) (d : OpData): (startOp s q op n st d).units = s.units := startOp_keeps (π := State.units) (fun _ _ _ _ _ _ _ => rfl) s _ _ _ _ _
@[simp] theorem startOp_tracker (s : State) (q : Req) (op n st : Nat) (d : OpData): (startOp s q op n st d).tracker = s.tracker := startOp_keeps (π := State.tracker) (fun _ _ _ _ _ _ _ => rfl) s _ _ _ _ _
@[simp] theorem startOp_vio (s : State) (q : Req) (op n st : Nat) (d : OpData): (startOp s q op n st d).vio = s.vio := startOp_keeps (π := State.vio) (fun _ _ _ _ _ _ _ => rfl) s _ _ _ _ _
@[simp] theorem startOp_parts (s : State) (q : Req) (op n st : Nat) (d : OpData): (startOp s q op n st d).parts = s.parts := startOp_keeps (π := State.parts) (fun _ _ _ _ _ _ _ => rfl) s _ _ _ _ _
@[simp] theorem startOp_excRates (s : State) (q : Req) (op n st : Nat) (d : OpData): (startOp s q op n st d).excRates = s.excRates := startOp_keeps (π := State.excRates) (fun _ _ _ _ _ _ _ => rfl) s _ _ _ _ _
@[simp] theorem startOp_decode (s : State) (q : Req) (op n st : Nat) (d : OpData): (startOp s q op n st d).decode = s.decode := startOp_keeps (π := State.decode) (fun _ _ _ _ _ _ _ => rfl) s _ _ _ _ _
@[simp] theorem startOp_opResident (s : State) (q : Req) (op n st : Nat) (d : OpData): (startOp s q op n st d).opResident = s.opResident := startOp_keeps (π := State.opResident) (fun _ _ _ _ _ _ _ => rfl) s _ _ _ _ _
@[simp] theorem startOp_launch (s : State) (q : Req) (op n st : Nat) (d : OpData): (startOp s q op n st d).launch = s.launch := startOp_keeps (π := State.launch) (fun _ _ _ _ _ _ _ => rfl) s _ _ _ _ _
@[simp] theorem startOp_crossings (s : State) (q : Req) (op n st : Nat) (d : OpData): (startOp s q op n st d).crossings = s.crossings := startOp_keeps (π := State.crossings) (fun _ _ _ _ _ _ _ => rfl) s _ _ _ _ _
@[simp] theorem startOp_ctxs (s : State) (q : Req) (op n st : Nat) (d : OpData): (startOp s q op n st d).ctxs = s.ctxs := startOp_keeps (π := State.ctxs) (fun _ _ _ _ _ _ _ => rfl) s _ _ _ _ _
@[simp] theorem startOp_fw (s : State) (q : Req) (op n st : Nat) (d : OpData): (startOp s q op n st d).fw = s.fw := startOp_keeps (π := State.fw) (fun _ _ _ _ _ _ _ => rfl) s _ _ _ _ _
@[simp] theorem startOp_faultLog (s : State) (q : Req) (op n st : Nat) (d : OpData): (startOp s q op n st d).faultLog = s.faultLog := startOp_keeps (π := State.faultLog) (fun _ _ _ _ _ _ _ => rfl) s _ _ _ _ _
@[simp] theorem startOp_tiles (s : State) (q : Req) (op n st : Nat) (d : OpData): (startOp s q op n st d).tiles = s.tiles := startOp_keeps (π := State.tiles) (fun _ _ _ _ _ _ _ => rfl) s _ _ _ _ _
@[simp] theorem startOp_groups (s : State) (q : Req) (op n st : Nat) (d : OpData): (startOp s q op n st d).groups = s.groups := startOp_keeps (π := State.groups) (fun _ _ _ _ _ _ _ => rfl) s _ _ _ _ _
@[simp] theorem startOp_mesh (s : State) (q : Req) (op n st : Nat) (d : OpData): (startOp s q op n st d).mesh = s.mesh := startOp_keeps (π := State.mesh) (fun _ _ _ _ _ _ _ => rfl) s _ _ _ _ _
@[simp] theorem startOp_models (s : State) (q : Req) (op n st : Nat) (d : OpData): (startOp s q op n st d).models = s.models := startOp_keeps (π := State.models) (fun _ _ _ _ _ _ _ => rfl) s _ _ _ _ _
@[simp] theorem startOp_sessions (s : State) (q : Req) (op n st : Nat) (d : OpData): (startOp s q op n st d).sessions = s.sessions := startOp_keeps (π := State.sessions) (fun _ _ _ _ _ _ _ => rfl) s _ _ _ _ _
@[simp] theorem startOp_cores (s : State) (q : Req) (op n st : Nat) (d : OpData): (startOp s q op n st d).cores = s.cores := startOp_keeps (π := State.cores) (fun _ _ _ _ _ _ _ => rfl) s _ _ _ _ _
@[simp] theorem startOp_reserve (s : State) (q : Req) (op n st : Nat) (d : OpData): (startOp s q op n st d).reserve = s.reserve := startOp_keeps (π := State.reserve) (fun _ _ _ _ _ _ _ => rfl) s _ _ _ _ _
@[simp] theorem startOp_dram (s : State) (q : Req) (op n st : Nat) (d : OpData): (startOp s q op n st d).dram = s.dram := startOp_keeps (π := State.dram) (fun _ _ _ _ _ _ _ => rfl) s _ _ _ _ _
@[simp] theorem startOp_link (s : State) (q : Req) (op n st : Nat) (d : OpData): (startOp s q op n st d).link = s.link := startOp_keeps (π := State.link) (fun _ _ _ _ _ _ _ => rfl) s _ _ _ _ _
@[simp] theorem startOp_ckp (s : State) (q : Req) (op n st : Nat) (d : OpData): (startOp s q op n st d).ckp = s.ckp := startOp_keeps (π := State.ckp) (fun _ _ _ _ _ _ _ => rfl) s _ _ _ _ _
@[simp] theorem startOp_stor (s : State) (q : Req) (op n st : Nat) (d : OpData): (startOp s q op n st d).stor = s.stor := startOp_keeps (π := State.stor) (fun _ _ _ _ _ _ _ => rfl) s _ _ _ _ _
@[simp] theorem startOp_pkt (s : State) (q : Req) (op n st : Nat) (d : OpData): (startOp s q op n st d).pkt = s.pkt := startOp_keeps (π := State.pkt) (fun _ _ _ _ _ _ _ => rfl) s _ _ _ _ _
@[simp] theorem startOp_sec (s : State) (q : Req) (op n st : Nat) (d : OpData): (startOp s q op n st d).sec = s.sec := startOp_keeps (π := State.sec) (fun _ _ _ _ _ _ _ => rfl) s _ _ _ _ _
@[simp] theorem startOp_mon (s : State) (q : Req) (op n st : Nat) (d : OpData): (startOp s q op n st d).mon = s.mon := startOp_keeps (π := State.mon) (fun _ _ _ _ _ _ _ => rfl) s _ _ _ _ _
@[simp] theorem startOp_jtag (s : State) (q : Req) (op n st : Nat) (d : OpData): (startOp s q op n st d).jtag = s.jtag := startOp_keeps (π := State.jtag) (fun _ _ _ _ _ _ _ => rfl) s _ _ _ _ _
@[simp] theorem startOp_mgmt (s : State) (q : Req) (op n st : Nat) (d : OpData): (startOp s q op n st d).mgmt = s.mgmt := startOp_keeps (π := State.mgmt) (fun _ _ _ _ _ _ _ => rfl) s _ _ _ _ _
@[simp] theorem startOp_free (s : State) (q : Req) (op n st : Nat) (d : OpData): (startOp s q op n st d).free = s.free := startOp_keeps (π := State.free) (fun _ _ _ _ _ _ _ => rfl) s _ _ _ _ _
@[simp] theorem startOp_time (s : State) (q : Req) (op n st : Nat) (d : OpData): (startOp s q op n st d).time = s.time := startOp_keeps (π := State.time) (fun _ _ _ _ _ _ _ => rfl) s _ _ _ _ _
@[simp] theorem startOp_pending (s : State) (q : Req) (op n st : Nat) (d : OpData): (startOp s q op n st d).pending = s.pending := startOp_keeps (π := State.pending) (fun _ _ _ _ _ _ _ => rfl) s _ _ _ _ _

@[simp] theorem bump_clk (s : State) (u e w : Nat) (o : Occ): (bump s u e w o).clk = s.clk := bump_keeps (π := State.clk) (fun _ _ _ _ _ _ => rfl) s _ _ _ _
@[simp] theorem bump_power (s : State) (u e w : Nat) (o : Occ): (bump s u e w o).power = s.power := bump_keeps (π := State.power) (fun _ _ _ _ _ _ => rfl) s _ _ _ _
@[simp] theorem bump_fuses (s : State) (u e w : Nat) (o : Occ): (bump s u e w o).fuses = s.fuses := bump_keeps (π := State.fuses) (fun _ _ _ _ _ _ => rfl) s _ _ _ _
@[simp] theorem bump_boot (s : State) (u e w : Nat) (o : Occ): (bump s u e w o).boot = s.boot := bump_keeps (π := State.boot) (fun _ _ _ _ _ _ => rfl) s _ _ _ _
@[simp] theorem bump_units (s : State) (u e w : Nat) (o : Occ): (bump s u e w o).units = s.units := bump_keeps (π := State.units) (fun _ _ _ _ _ _ => rfl) s _ _ _ _
@[simp] theorem bump_tracker (s : State) (u e w : Nat) (o : Occ): (bump s u e w o).tracker = s.tracker := bump_keeps (π := State.tracker) (fun _ _ _ _ _ _ => rfl) s _ _ _ _
@[simp] theorem bump_vio (s : State) (u e w : Nat) (o : Occ): (bump s u e w o).vio = s.vio := bump_keeps (π := State.vio) (fun _ _ _ _ _ _ => rfl) s _ _ _ _
@[simp] theorem bump_parts (s : State) (u e w : Nat) (o : Occ): (bump s u e w o).parts = s.parts := bump_keeps (π := State.parts) (fun _ _ _ _ _ _ => rfl) s _ _ _ _
@[simp] theorem bump_excRates (s : State) (u e w : Nat) (o : Occ): (bump s u e w o).excRates = s.excRates := bump_keeps (π := State.excRates) (fun _ _ _ _ _ _ => rfl) s _ _ _ _
@[simp] theorem bump_decode (s : State) (u e w : Nat) (o : Occ): (bump s u e w o).decode = s.decode := bump_keeps (π := State.decode) (fun _ _ _ _ _ _ => rfl) s _ _ _ _
@[simp] theorem bump_opResident (s : State) (u e w : Nat) (o : Occ): (bump s u e w o).opResident = s.opResident := bump_keeps (π := State.opResident) (fun _ _ _ _ _ _ => rfl) s _ _ _ _
@[simp] theorem bump_launch (s : State) (u e w : Nat) (o : Occ): (bump s u e w o).launch = s.launch := bump_keeps (π := State.launch) (fun _ _ _ _ _ _ => rfl) s _ _ _ _
@[simp] theorem bump_crossings (s : State) (u e w : Nat) (o : Occ): (bump s u e w o).crossings = s.crossings := bump_keeps (π := State.crossings) (fun _ _ _ _ _ _ => rfl) s _ _ _ _
@[simp] theorem bump_longOps (s : State) (u e w : Nat) (o : Occ): (bump s u e w o).longOps = s.longOps := bump_keeps (π := State.longOps) (fun _ _ _ _ _ _ => rfl) s _ _ _ _
@[simp] theorem bump_opNo (s : State) (u e w : Nat) (o : Occ): (bump s u e w o).opNo = s.opNo := bump_keeps (π := State.opNo) (fun _ _ _ _ _ _ => rfl) s _ _ _ _
@[simp] theorem bump_ctxs (s : State) (u e w : Nat) (o : Occ): (bump s u e w o).ctxs = s.ctxs := bump_keeps (π := State.ctxs) (fun _ _ _ _ _ _ => rfl) s _ _ _ _
@[simp] theorem bump_fw (s : State) (u e w : Nat) (o : Occ): (bump s u e w o).fw = s.fw := bump_keeps (π := State.fw) (fun _ _ _ _ _ _ => rfl) s _ _ _ _
@[simp] theorem bump_faultLog (s : State) (u e w : Nat) (o : Occ): (bump s u e w o).faultLog = s.faultLog := bump_keeps (π := State.faultLog) (fun _ _ _ _ _ _ => rfl) s _ _ _ _
@[simp] theorem bump_tiles (s : State) (u e w : Nat) (o : Occ): (bump s u e w o).tiles = s.tiles := bump_keeps (π := State.tiles) (fun _ _ _ _ _ _ => rfl) s _ _ _ _
@[simp] theorem bump_groups (s : State) (u e w : Nat) (o : Occ): (bump s u e w o).groups = s.groups := bump_keeps (π := State.groups) (fun _ _ _ _ _ _ => rfl) s _ _ _ _
@[simp] theorem bump_mesh (s : State) (u e w : Nat) (o : Occ): (bump s u e w o).mesh = s.mesh := bump_keeps (π := State.mesh) (fun _ _ _ _ _ _ => rfl) s _ _ _ _
@[simp] theorem bump_models (s : State) (u e w : Nat) (o : Occ): (bump s u e w o).models = s.models := bump_keeps (π := State.models) (fun _ _ _ _ _ _ => rfl) s _ _ _ _
@[simp] theorem bump_sessions (s : State) (u e w : Nat) (o : Occ): (bump s u e w o).sessions = s.sessions := bump_keeps (π := State.sessions) (fun _ _ _ _ _ _ => rfl) s _ _ _ _
@[simp] theorem bump_cores (s : State) (u e w : Nat) (o : Occ): (bump s u e w o).cores = s.cores := bump_keeps (π := State.cores) (fun _ _ _ _ _ _ => rfl) s _ _ _ _
@[simp] theorem bump_reserve (s : State) (u e w : Nat) (o : Occ): (bump s u e w o).reserve = s.reserve := bump_keeps (π := State.reserve) (fun _ _ _ _ _ _ => rfl) s _ _ _ _
@[simp] theorem bump_dram (s : State) (u e w : Nat) (o : Occ): (bump s u e w o).dram = s.dram := bump_keeps (π := State.dram) (fun _ _ _ _ _ _ => rfl) s _ _ _ _
@[simp] theorem bump_link (s : State) (u e w : Nat) (o : Occ): (bump s u e w o).link = s.link := bump_keeps (π := State.link) (fun _ _ _ _ _ _ => rfl) s _ _ _ _
@[simp] theorem bump_ckp (s : State) (u e w : Nat) (o : Occ): (bump s u e w o).ckp = s.ckp := bump_keeps (π := State.ckp) (fun _ _ _ _ _ _ => rfl) s _ _ _ _
@[simp] theorem bump_stor (s : State) (u e w : Nat) (o : Occ): (bump s u e w o).stor = s.stor := bump_keeps (π := State.stor) (fun _ _ _ _ _ _ => rfl) s _ _ _ _
@[simp] theorem bump_pkt (s : State) (u e w : Nat) (o : Occ): (bump s u e w o).pkt = s.pkt := bump_keeps (π := State.pkt) (fun _ _ _ _ _ _ => rfl) s _ _ _ _
@[simp] theorem bump_sec (s : State) (u e w : Nat) (o : Occ): (bump s u e w o).sec = s.sec := bump_keeps (π := State.sec) (fun _ _ _ _ _ _ => rfl) s _ _ _ _
@[simp] theorem bump_jtag (s : State) (u e w : Nat) (o : Occ): (bump s u e w o).jtag = s.jtag := bump_keeps (π := State.jtag) (fun _ _ _ _ _ _ => rfl) s _ _ _ _
@[simp] theorem bump_mgmt (s : State) (u e w : Nat) (o : Occ): (bump s u e w o).mgmt = s.mgmt := bump_keeps (π := State.mgmt) (fun _ _ _ _ _ _ => rfl) s _ _ _ _
@[simp] theorem bump_free (s : State) (u e w : Nat) (o : Occ): (bump s u e w o).free = s.free := bump_keeps (π := State.free) (fun _ _ _ _ _ _ => rfl) s _ _ _ _
@[simp] theorem bump_time (s : State) (u e w : Nat) (o : Occ): (bump s u e w o).time = s.time := bump_keeps (π := State.time) (fun _ _ _ _ _ _ => rfl) s _ _ _ _
@[simp] theorem bump_pending (s : State) (u e w : Nat) (o : Occ): (bump s u e w o).pending = s.pending := bump_keeps (π := State.pending) (fun _ _ _ _ _ _ => rfl) s _ _ _ _

@[simp] theorem logError_clk (s : State) (u c k o st a : Nat): (logError s u c k o st a).clk = s.clk := logError_keeps (π := State.clk) (fun _ _ _ _ _ _ => rfl) s _ _ _ _ _ _
@[simp] theorem logError_power (s : State) (u c k o st a : Nat): (logError s u c k o st a).power = s.power := logError_keeps (π := State.power) (fun _ _ _ _ _ _ => rfl) s _ _ _ _ _ _
@[simp] theorem logError_fuses (s : State) (u c k o st a : Nat): (logError s u c k o st a).fuses = s.fuses := logError_keeps (π := State.fuses) (fun _ _ _ _ _ _ => rfl) s _ _ _ _ _ _
@[simp] theorem logError_boot (s : State) (u c k o st a : Nat): (logError s u c k o st a).boot = s.boot := logError_keeps (π := State.boot) (fun _ _ _ _ _ _ => rfl) s _ _ _ _ _ _
@[simp] theorem logError_units (s : State) (u c k o st a : Nat): (logError s u c k o st a).units = s.units := logError_keeps (π := State.units) (fun _ _ _ _ _ _ => rfl) s _ _ _ _ _ _
@[simp] theorem logError_tracker (s : State) (u c k o st a : Nat): (logError s u c k o st a).tracker = s.tracker := logError_keeps (π := State.tracker) (fun _ _ _ _ _ _ => rfl) s _ _ _ _ _ _
@[simp] theorem logError_vio (s : State) (u c k o st a : Nat): (logError s u c k o st a).vio = s.vio := logError_keeps (π := State.vio) (fun _ _ _ _ _ _ => rfl) s _ _ _ _ _ _
@[simp] theorem logError_parts (s : State) (u c k o st a : Nat): (logError s u c k o st a).parts = s.parts := logError_keeps (π := State.parts) (fun _ _ _ _ _ _ => rfl) s _ _ _ _ _ _
@[simp] theorem logError_excRates (s : State) (u c k o st a : Nat): (logError s u c k o st a).excRates = s.excRates := logError_keeps (π := State.excRates) (fun _ _ _ _ _ _ => rfl) s _ _ _ _ _ _
@[simp] theorem logError_decode (s : State) (u c k o st a : Nat): (logError s u c k o st a).decode = s.decode := logError_keeps (π := State.decode) (fun _ _ _ _ _ _ => rfl) s _ _ _ _ _ _
@[simp] theorem logError_opResident (s : State) (u c k o st a : Nat): (logError s u c k o st a).opResident = s.opResident := logError_keeps (π := State.opResident) (fun _ _ _ _ _ _ => rfl) s _ _ _ _ _ _
@[simp] theorem logError_launch (s : State) (u c k o st a : Nat): (logError s u c k o st a).launch = s.launch := logError_keeps (π := State.launch) (fun _ _ _ _ _ _ => rfl) s _ _ _ _ _ _
@[simp] theorem logError_crossings (s : State) (u c k o st a : Nat): (logError s u c k o st a).crossings = s.crossings := logError_keeps (π := State.crossings) (fun _ _ _ _ _ _ => rfl) s _ _ _ _ _ _
@[simp] theorem logError_longOps (s : State) (u c k o st a : Nat): (logError s u c k o st a).longOps = s.longOps := logError_keeps (π := State.longOps) (fun _ _ _ _ _ _ => rfl) s _ _ _ _ _ _
@[simp] theorem logError_opNo (s : State) (u c k o st a : Nat): (logError s u c k o st a).opNo = s.opNo := logError_keeps (π := State.opNo) (fun _ _ _ _ _ _ => rfl) s _ _ _ _ _ _
@[simp] theorem logError_ctxs (s : State) (u c k o st a : Nat): (logError s u c k o st a).ctxs = s.ctxs := logError_keeps (π := State.ctxs) (fun _ _ _ _ _ _ => rfl) s _ _ _ _ _ _
@[simp] theorem logError_fw (s : State) (u c k o st a : Nat): (logError s u c k o st a).fw = s.fw := logError_keeps (π := State.fw) (fun _ _ _ _ _ _ => rfl) s _ _ _ _ _ _
@[simp] theorem logError_faultLog (s : State) (u c k o st a : Nat): (logError s u c k o st a).faultLog = s.faultLog := logError_keeps (π := State.faultLog) (fun _ _ _ _ _ _ => rfl) s _ _ _ _ _ _
@[simp] theorem logError_tiles (s : State) (u c k o st a : Nat): (logError s u c k o st a).tiles = s.tiles := logError_keeps (π := State.tiles) (fun _ _ _ _ _ _ => rfl) s _ _ _ _ _ _
@[simp] theorem logError_groups (s : State) (u c k o st a : Nat): (logError s u c k o st a).groups = s.groups := logError_keeps (π := State.groups) (fun _ _ _ _ _ _ => rfl) s _ _ _ _ _ _
@[simp] theorem logError_mesh (s : State) (u c k o st a : Nat): (logError s u c k o st a).mesh = s.mesh := logError_keeps (π := State.mesh) (fun _ _ _ _ _ _ => rfl) s _ _ _ _ _ _
@[simp] theorem logError_models (s : State) (u c k o st a : Nat): (logError s u c k o st a).models = s.models := logError_keeps (π := State.models) (fun _ _ _ _ _ _ => rfl) s _ _ _ _ _ _
@[simp] theorem logError_sessions (s : State) (u c k o st a : Nat): (logError s u c k o st a).sessions = s.sessions := logError_keeps (π := State.sessions) (fun _ _ _ _ _ _ => rfl) s _ _ _ _ _ _
@[simp] theorem logError_cores (s : State) (u c k o st a : Nat): (logError s u c k o st a).cores = s.cores := logError_keeps (π := State.cores) (fun _ _ _ _ _ _ => rfl) s _ _ _ _ _ _
@[simp] theorem logError_reserve (s : State) (u c k o st a : Nat): (logError s u c k o st a).reserve = s.reserve := logError_keeps (π := State.reserve) (fun _ _ _ _ _ _ => rfl) s _ _ _ _ _ _
@[simp] theorem logError_dram (s : State) (u c k o st a : Nat): (logError s u c k o st a).dram = s.dram := logError_keeps (π := State.dram) (fun _ _ _ _ _ _ => rfl) s _ _ _ _ _ _
@[simp] theorem logError_link (s : State) (u c k o st a : Nat): (logError s u c k o st a).link = s.link := logError_keeps (π := State.link) (fun _ _ _ _ _ _ => rfl) s _ _ _ _ _ _
@[simp] theorem logError_ckp (s : State) (u c k o st a : Nat): (logError s u c k o st a).ckp = s.ckp := logError_keeps (π := State.ckp) (fun _ _ _ _ _ _ => rfl) s _ _ _ _ _ _
@[simp] theorem logError_stor (s : State) (u c k o st a : Nat): (logError s u c k o st a).stor = s.stor := logError_keeps (π := State.stor) (fun _ _ _ _ _ _ => rfl) s _ _ _ _ _ _
@[simp] theorem logError_pkt (s : State) (u c k o st a : Nat): (logError s u c k o st a).pkt = s.pkt := logError_keeps (π := State.pkt) (fun _ _ _ _ _ _ => rfl) s _ _ _ _ _ _
@[simp] theorem logError_sec (s : State) (u c k o st a : Nat): (logError s u c k o st a).sec = s.sec := logError_keeps (π := State.sec) (fun _ _ _ _ _ _ => rfl) s _ _ _ _ _ _
@[simp] theorem logError_jtag (s : State) (u c k o st a : Nat): (logError s u c k o st a).jtag = s.jtag := logError_keeps (π := State.jtag) (fun _ _ _ _ _ _ => rfl) s _ _ _ _ _ _
@[simp] theorem logError_mgmt (s : State) (u c k o st a : Nat): (logError s u c k o st a).mgmt = s.mgmt := logError_keeps (π := State.mgmt) (fun _ _ _ _ _ _ => rfl) s _ _ _ _ _ _
@[simp] theorem logError_free (s : State) (u c k o st a : Nat): (logError s u c k o st a).free = s.free := logError_keeps (π := State.free) (fun _ _ _ _ _ _ => rfl) s _ _ _ _ _ _
@[simp] theorem logError_time (s : State) (u c k o st a : Nat): (logError s u c k o st a).time = s.time := logError_keeps (π := State.time) (fun _ _ _ _ _ _ => rfl) s _ _ _ _ _ _
@[simp] theorem logError_pending (s : State) (u c k o st a : Nat): (logError s u c k o st a).pending = s.pending := logError_keeps (π := State.pending) (fun _ _ _ _ _ _ => rfl) s _ _ _ _ _ _

@[simp] theorem teleSample_clk (s : State) (r : TeleRecord): (teleSample s r).clk = s.clk := teleSample_keeps (π := State.clk) (fun _ _ _ _ _ _ => rfl) s _
@[simp] theorem teleSample_power (s : State) (r : TeleRecord): (teleSample s r).power = s.power := teleSample_keeps (π := State.power) (fun _ _ _ _ _ _ => rfl) s _
@[simp] theorem teleSample_fuses (s : State) (r : TeleRecord): (teleSample s r).fuses = s.fuses := teleSample_keeps (π := State.fuses) (fun _ _ _ _ _ _ => rfl) s _
@[simp] theorem teleSample_boot (s : State) (r : TeleRecord): (teleSample s r).boot = s.boot := teleSample_keeps (π := State.boot) (fun _ _ _ _ _ _ => rfl) s _
@[simp] theorem teleSample_units (s : State) (r : TeleRecord): (teleSample s r).units = s.units := teleSample_keeps (π := State.units) (fun _ _ _ _ _ _ => rfl) s _
@[simp] theorem teleSample_tracker (s : State) (r : TeleRecord): (teleSample s r).tracker = s.tracker := teleSample_keeps (π := State.tracker) (fun _ _ _ _ _ _ => rfl) s _
@[simp] theorem teleSample_vio (s : State) (r : TeleRecord): (teleSample s r).vio = s.vio := teleSample_keeps (π := State.vio) (fun _ _ _ _ _ _ => rfl) s _
@[simp] theorem teleSample_parts (s : State) (r : TeleRecord): (teleSample s r).parts = s.parts := teleSample_keeps (π := State.parts) (fun _ _ _ _ _ _ => rfl) s _
@[simp] theorem teleSample_excRates (s : State) (r : TeleRecord): (teleSample s r).excRates = s.excRates := teleSample_keeps (π := State.excRates) (fun _ _ _ _ _ _ => rfl) s _
@[simp] theorem teleSample_decode (s : State) (r : TeleRecord): (teleSample s r).decode = s.decode := teleSample_keeps (π := State.decode) (fun _ _ _ _ _ _ => rfl) s _
@[simp] theorem teleSample_opResident (s : State) (r : TeleRecord): (teleSample s r).opResident = s.opResident := teleSample_keeps (π := State.opResident) (fun _ _ _ _ _ _ => rfl) s _
@[simp] theorem teleSample_launch (s : State) (r : TeleRecord): (teleSample s r).launch = s.launch := teleSample_keeps (π := State.launch) (fun _ _ _ _ _ _ => rfl) s _
@[simp] theorem teleSample_crossings (s : State) (r : TeleRecord): (teleSample s r).crossings = s.crossings := teleSample_keeps (π := State.crossings) (fun _ _ _ _ _ _ => rfl) s _
@[simp] theorem teleSample_longOps (s : State) (r : TeleRecord): (teleSample s r).longOps = s.longOps := teleSample_keeps (π := State.longOps) (fun _ _ _ _ _ _ => rfl) s _
@[simp] theorem teleSample_opNo (s : State) (r : TeleRecord): (teleSample s r).opNo = s.opNo := teleSample_keeps (π := State.opNo) (fun _ _ _ _ _ _ => rfl) s _
@[simp] theorem teleSample_ctxs (s : State) (r : TeleRecord): (teleSample s r).ctxs = s.ctxs := teleSample_keeps (π := State.ctxs) (fun _ _ _ _ _ _ => rfl) s _
@[simp] theorem teleSample_fw (s : State) (r : TeleRecord): (teleSample s r).fw = s.fw := teleSample_keeps (π := State.fw) (fun _ _ _ _ _ _ => rfl) s _
@[simp] theorem teleSample_faultLog (s : State) (r : TeleRecord): (teleSample s r).faultLog = s.faultLog := teleSample_keeps (π := State.faultLog) (fun _ _ _ _ _ _ => rfl) s _
@[simp] theorem teleSample_tiles (s : State) (r : TeleRecord): (teleSample s r).tiles = s.tiles := teleSample_keeps (π := State.tiles) (fun _ _ _ _ _ _ => rfl) s _
@[simp] theorem teleSample_groups (s : State) (r : TeleRecord): (teleSample s r).groups = s.groups := teleSample_keeps (π := State.groups) (fun _ _ _ _ _ _ => rfl) s _
@[simp] theorem teleSample_mesh (s : State) (r : TeleRecord): (teleSample s r).mesh = s.mesh := teleSample_keeps (π := State.mesh) (fun _ _ _ _ _ _ => rfl) s _
@[simp] theorem teleSample_models (s : State) (r : TeleRecord): (teleSample s r).models = s.models := teleSample_keeps (π := State.models) (fun _ _ _ _ _ _ => rfl) s _
@[simp] theorem teleSample_sessions (s : State) (r : TeleRecord): (teleSample s r).sessions = s.sessions := teleSample_keeps (π := State.sessions) (fun _ _ _ _ _ _ => rfl) s _
@[simp] theorem teleSample_cores (s : State) (r : TeleRecord): (teleSample s r).cores = s.cores := teleSample_keeps (π := State.cores) (fun _ _ _ _ _ _ => rfl) s _
@[simp] theorem teleSample_reserve (s : State) (r : TeleRecord): (teleSample s r).reserve = s.reserve := teleSample_keeps (π := State.reserve) (fun _ _ _ _ _ _ => rfl) s _
@[simp] theorem teleSample_dram (s : State) (r : TeleRecord): (teleSample s r).dram = s.dram := teleSample_keeps (π := State.dram) (fun _ _ _ _ _ _ => rfl) s _
@[simp] theorem teleSample_link (s : State) (r : TeleRecord): (teleSample s r).link = s.link := teleSample_keeps (π := State.link) (fun _ _ _ _ _ _ => rfl) s _
@[simp] theorem teleSample_ckp (s : State) (r : TeleRecord): (teleSample s r).ckp = s.ckp := teleSample_keeps (π := State.ckp) (fun _ _ _ _ _ _ => rfl) s _
@[simp] theorem teleSample_stor (s : State) (r : TeleRecord): (teleSample s r).stor = s.stor := teleSample_keeps (π := State.stor) (fun _ _ _ _ _ _ => rfl) s _
@[simp] theorem teleSample_pkt (s : State) (r : TeleRecord): (teleSample s r).pkt = s.pkt := teleSample_keeps (π := State.pkt) (fun _ _ _ _ _ _ => rfl) s _
@[simp] theorem teleSample_sec (s : State) (r : TeleRecord): (teleSample s r).sec = s.sec := teleSample_keeps (π := State.sec) (fun _ _ _ _ _ _ => rfl) s _
@[simp] theorem teleSample_jtag (s : State) (r : TeleRecord): (teleSample s r).jtag = s.jtag := teleSample_keeps (π := State.jtag) (fun _ _ _ _ _ _ => rfl) s _
@[simp] theorem teleSample_mgmt (s : State) (r : TeleRecord): (teleSample s r).mgmt = s.mgmt := teleSample_keeps (π := State.mgmt) (fun _ _ _ _ _ _ => rfl) s _
@[simp] theorem teleSample_free (s : State) (r : TeleRecord): (teleSample s r).free = s.free := teleSample_keeps (π := State.free) (fun _ _ _ _ _ _ => rfl) s _
@[simp] theorem teleSample_time (s : State) (r : TeleRecord): (teleSample s r).time = s.time := teleSample_keeps (π := State.time) (fun _ _ _ _ _ _ => rfl) s _
@[simp] theorem teleSample_pending (s : State) (r : TeleRecord): (teleSample s r).pending = s.pending := teleSample_keeps (π := State.pending) (fun _ _ _ _ _ _ => rfl) s _

@[simp] theorem teleEvent_clk (s : State) (r : TeleRecord): (teleEvent s r).clk = s.clk := teleEvent_keeps (π := State.clk) (fun _ _ _ _ _ _ => rfl) s _
@[simp] theorem teleEvent_power (s : State) (r : TeleRecord): (teleEvent s r).power = s.power := teleEvent_keeps (π := State.power) (fun _ _ _ _ _ _ => rfl) s _
@[simp] theorem teleEvent_fuses (s : State) (r : TeleRecord): (teleEvent s r).fuses = s.fuses := teleEvent_keeps (π := State.fuses) (fun _ _ _ _ _ _ => rfl) s _
@[simp] theorem teleEvent_boot (s : State) (r : TeleRecord): (teleEvent s r).boot = s.boot := teleEvent_keeps (π := State.boot) (fun _ _ _ _ _ _ => rfl) s _
@[simp] theorem teleEvent_units (s : State) (r : TeleRecord): (teleEvent s r).units = s.units := teleEvent_keeps (π := State.units) (fun _ _ _ _ _ _ => rfl) s _
@[simp] theorem teleEvent_tracker (s : State) (r : TeleRecord): (teleEvent s r).tracker = s.tracker := teleEvent_keeps (π := State.tracker) (fun _ _ _ _ _ _ => rfl) s _
@[simp] theorem teleEvent_vio (s : State) (r : TeleRecord): (teleEvent s r).vio = s.vio := teleEvent_keeps (π := State.vio) (fun _ _ _ _ _ _ => rfl) s _
@[simp] theorem teleEvent_parts (s : State) (r : TeleRecord): (teleEvent s r).parts = s.parts := teleEvent_keeps (π := State.parts) (fun _ _ _ _ _ _ => rfl) s _
@[simp] theorem teleEvent_excRates (s : State) (r : TeleRecord): (teleEvent s r).excRates = s.excRates := teleEvent_keeps (π := State.excRates) (fun _ _ _ _ _ _ => rfl) s _
@[simp] theorem teleEvent_decode (s : State) (r : TeleRecord): (teleEvent s r).decode = s.decode := teleEvent_keeps (π := State.decode) (fun _ _ _ _ _ _ => rfl) s _
@[simp] theorem teleEvent_opResident (s : State) (r : TeleRecord): (teleEvent s r).opResident = s.opResident := teleEvent_keeps (π := State.opResident) (fun _ _ _ _ _ _ => rfl) s _
@[simp] theorem teleEvent_launch (s : State) (r : TeleRecord): (teleEvent s r).launch = s.launch := teleEvent_keeps (π := State.launch) (fun _ _ _ _ _ _ => rfl) s _
@[simp] theorem teleEvent_crossings (s : State) (r : TeleRecord): (teleEvent s r).crossings = s.crossings := teleEvent_keeps (π := State.crossings) (fun _ _ _ _ _ _ => rfl) s _
@[simp] theorem teleEvent_longOps (s : State) (r : TeleRecord): (teleEvent s r).longOps = s.longOps := teleEvent_keeps (π := State.longOps) (fun _ _ _ _ _ _ => rfl) s _
@[simp] theorem teleEvent_opNo (s : State) (r : TeleRecord): (teleEvent s r).opNo = s.opNo := teleEvent_keeps (π := State.opNo) (fun _ _ _ _ _ _ => rfl) s _
@[simp] theorem teleEvent_ctxs (s : State) (r : TeleRecord): (teleEvent s r).ctxs = s.ctxs := teleEvent_keeps (π := State.ctxs) (fun _ _ _ _ _ _ => rfl) s _
@[simp] theorem teleEvent_fw (s : State) (r : TeleRecord): (teleEvent s r).fw = s.fw := teleEvent_keeps (π := State.fw) (fun _ _ _ _ _ _ => rfl) s _
@[simp] theorem teleEvent_faultLog (s : State) (r : TeleRecord): (teleEvent s r).faultLog = s.faultLog := teleEvent_keeps (π := State.faultLog) (fun _ _ _ _ _ _ => rfl) s _
@[simp] theorem teleEvent_tiles (s : State) (r : TeleRecord): (teleEvent s r).tiles = s.tiles := teleEvent_keeps (π := State.tiles) (fun _ _ _ _ _ _ => rfl) s _
@[simp] theorem teleEvent_groups (s : State) (r : TeleRecord): (teleEvent s r).groups = s.groups := teleEvent_keeps (π := State.groups) (fun _ _ _ _ _ _ => rfl) s _
@[simp] theorem teleEvent_mesh (s : State) (r : TeleRecord): (teleEvent s r).mesh = s.mesh := teleEvent_keeps (π := State.mesh) (fun _ _ _ _ _ _ => rfl) s _
@[simp] theorem teleEvent_models (s : State) (r : TeleRecord): (teleEvent s r).models = s.models := teleEvent_keeps (π := State.models) (fun _ _ _ _ _ _ => rfl) s _
@[simp] theorem teleEvent_sessions (s : State) (r : TeleRecord): (teleEvent s r).sessions = s.sessions := teleEvent_keeps (π := State.sessions) (fun _ _ _ _ _ _ => rfl) s _
@[simp] theorem teleEvent_cores (s : State) (r : TeleRecord): (teleEvent s r).cores = s.cores := teleEvent_keeps (π := State.cores) (fun _ _ _ _ _ _ => rfl) s _
@[simp] theorem teleEvent_reserve (s : State) (r : TeleRecord): (teleEvent s r).reserve = s.reserve := teleEvent_keeps (π := State.reserve) (fun _ _ _ _ _ _ => rfl) s _
@[simp] theorem teleEvent_dram (s : State) (r : TeleRecord): (teleEvent s r).dram = s.dram := teleEvent_keeps (π := State.dram) (fun _ _ _ _ _ _ => rfl) s _
@[simp] theorem teleEvent_link (s : State) (r : TeleRecord): (teleEvent s r).link = s.link := teleEvent_keeps (π := State.link) (fun _ _ _ _ _ _ => rfl) s _
@[simp] theorem teleEvent_ckp (s : State) (r : TeleRecord): (teleEvent s r).ckp = s.ckp := teleEvent_keeps (π := State.ckp) (fun _ _ _ _ _ _ => rfl) s _
@[simp] theorem teleEvent_stor (s : State) (r : TeleRecord): (teleEvent s r).stor = s.stor := teleEvent_keeps (π := State.stor) (fun _ _ _ _ _ _ => rfl) s _
@[simp] theorem teleEvent_pkt (s : State) (r : TeleRecord): (teleEvent s r).pkt = s.pkt := teleEvent_keeps (π := State.pkt) (fun _ _ _ _ _ _ => rfl) s _
@[simp] theorem teleEvent_sec (s : State) (r : TeleRecord): (teleEvent s r).sec = s.sec := teleEvent_keeps (π := State.sec) (fun _ _ _ _ _ _ => rfl) s _
@[simp] theorem teleEvent_jtag (s : State) (r : TeleRecord): (teleEvent s r).jtag = s.jtag := teleEvent_keeps (π := State.jtag) (fun _ _ _ _ _ _ => rfl) s _
@[simp] theorem teleEvent_mgmt (s : State) (r : TeleRecord): (teleEvent s r).mgmt = s.mgmt := teleEvent_keeps (π := State.mgmt) (fun _ _ _ _ _ _ => rfl) s _
@[simp] theorem teleEvent_free (s : State) (r : TeleRecord): (teleEvent s r).free = s.free := teleEvent_keeps (π := State.free) (fun _ _ _ _ _ _ => rfl) s _
@[simp] theorem teleEvent_time (s : State) (r : TeleRecord): (teleEvent s r).time = s.time := teleEvent_keeps (π := State.time) (fun _ _ _ _ _ _ => rfl) s _
@[simp] theorem teleEvent_pending (s : State) (r : TeleRecord): (teleEvent s r).pending = s.pending := teleEvent_keeps (π := State.pending) (fun _ _ _ _ _ _ => rfl) s _

@[simp] theorem operatorReport_clk (s : State) (op t d src hd c de : Nat): (operatorReport s op t d src hd c de).clk = s.clk := operatorReport_keeps (π := State.clk) (fun _ _ _ _ _ _ => rfl) s _ _ _ _ _ _ _
@[simp] theorem operatorReport_power (s : State) (op t d src hd c de : Nat): (operatorReport s op t d src hd c de).power = s.power := operatorReport_keeps (π := State.power) (fun _ _ _ _ _ _ => rfl) s _ _ _ _ _ _ _
@[simp] theorem operatorReport_fuses (s : State) (op t d src hd c de : Nat): (operatorReport s op t d src hd c de).fuses = s.fuses := operatorReport_keeps (π := State.fuses) (fun _ _ _ _ _ _ => rfl) s _ _ _ _ _ _ _
@[simp] theorem operatorReport_boot (s : State) (op t d src hd c de : Nat): (operatorReport s op t d src hd c de).boot = s.boot := operatorReport_keeps (π := State.boot) (fun _ _ _ _ _ _ => rfl) s _ _ _ _ _ _ _
@[simp] theorem operatorReport_units (s : State) (op t d src hd c de : Nat): (operatorReport s op t d src hd c de).units = s.units := operatorReport_keeps (π := State.units) (fun _ _ _ _ _ _ => rfl) s _ _ _ _ _ _ _
@[simp] theorem operatorReport_tracker (s : State) (op t d src hd c de : Nat): (operatorReport s op t d src hd c de).tracker = s.tracker := operatorReport_keeps (π := State.tracker) (fun _ _ _ _ _ _ => rfl) s _ _ _ _ _ _ _
@[simp] theorem operatorReport_vio (s : State) (op t d src hd c de : Nat): (operatorReport s op t d src hd c de).vio = s.vio := operatorReport_keeps (π := State.vio) (fun _ _ _ _ _ _ => rfl) s _ _ _ _ _ _ _
@[simp] theorem operatorReport_parts (s : State) (op t d src hd c de : Nat): (operatorReport s op t d src hd c de).parts = s.parts := operatorReport_keeps (π := State.parts) (fun _ _ _ _ _ _ => rfl) s _ _ _ _ _ _ _
@[simp] theorem operatorReport_excRates (s : State) (op t d src hd c de : Nat): (operatorReport s op t d src hd c de).excRates = s.excRates := operatorReport_keeps (π := State.excRates) (fun _ _ _ _ _ _ => rfl) s _ _ _ _ _ _ _
@[simp] theorem operatorReport_decode (s : State) (op t d src hd c de : Nat): (operatorReport s op t d src hd c de).decode = s.decode := operatorReport_keeps (π := State.decode) (fun _ _ _ _ _ _ => rfl) s _ _ _ _ _ _ _
@[simp] theorem operatorReport_opResident (s : State) (op t d src hd c de : Nat): (operatorReport s op t d src hd c de).opResident = s.opResident := operatorReport_keeps (π := State.opResident) (fun _ _ _ _ _ _ => rfl) s _ _ _ _ _ _ _
@[simp] theorem operatorReport_launch (s : State) (op t d src hd c de : Nat): (operatorReport s op t d src hd c de).launch = s.launch := operatorReport_keeps (π := State.launch) (fun _ _ _ _ _ _ => rfl) s _ _ _ _ _ _ _
@[simp] theorem operatorReport_crossings (s : State) (op t d src hd c de : Nat): (operatorReport s op t d src hd c de).crossings = s.crossings := operatorReport_keeps (π := State.crossings) (fun _ _ _ _ _ _ => rfl) s _ _ _ _ _ _ _
@[simp] theorem operatorReport_longOps (s : State) (op t d src hd c de : Nat): (operatorReport s op t d src hd c de).longOps = s.longOps := operatorReport_keeps (π := State.longOps) (fun _ _ _ _ _ _ => rfl) s _ _ _ _ _ _ _
@[simp] theorem operatorReport_opNo (s : State) (op t d src hd c de : Nat): (operatorReport s op t d src hd c de).opNo = s.opNo := operatorReport_keeps (π := State.opNo) (fun _ _ _ _ _ _ => rfl) s _ _ _ _ _ _ _
@[simp] theorem operatorReport_ctxs (s : State) (op t d src hd c de : Nat): (operatorReport s op t d src hd c de).ctxs = s.ctxs := operatorReport_keeps (π := State.ctxs) (fun _ _ _ _ _ _ => rfl) s _ _ _ _ _ _ _
@[simp] theorem operatorReport_fw (s : State) (op t d src hd c de : Nat): (operatorReport s op t d src hd c de).fw = s.fw := operatorReport_keeps (π := State.fw) (fun _ _ _ _ _ _ => rfl) s _ _ _ _ _ _ _
@[simp] theorem operatorReport_faultLog (s : State) (op t d src hd c de : Nat): (operatorReport s op t d src hd c de).faultLog = s.faultLog := operatorReport_keeps (π := State.faultLog) (fun _ _ _ _ _ _ => rfl) s _ _ _ _ _ _ _
@[simp] theorem operatorReport_tiles (s : State) (op t d src hd c de : Nat): (operatorReport s op t d src hd c de).tiles = s.tiles := operatorReport_keeps (π := State.tiles) (fun _ _ _ _ _ _ => rfl) s _ _ _ _ _ _ _
@[simp] theorem operatorReport_groups (s : State) (op t d src hd c de : Nat): (operatorReport s op t d src hd c de).groups = s.groups := operatorReport_keeps (π := State.groups) (fun _ _ _ _ _ _ => rfl) s _ _ _ _ _ _ _
@[simp] theorem operatorReport_mesh (s : State) (op t d src hd c de : Nat): (operatorReport s op t d src hd c de).mesh = s.mesh := operatorReport_keeps (π := State.mesh) (fun _ _ _ _ _ _ => rfl) s _ _ _ _ _ _ _
@[simp] theorem operatorReport_models (s : State) (op t d src hd c de : Nat): (operatorReport s op t d src hd c de).models = s.models := operatorReport_keeps (π := State.models) (fun _ _ _ _ _ _ => rfl) s _ _ _ _ _ _ _
@[simp] theorem operatorReport_sessions (s : State) (op t d src hd c de : Nat): (operatorReport s op t d src hd c de).sessions = s.sessions := operatorReport_keeps (π := State.sessions) (fun _ _ _ _ _ _ => rfl) s _ _ _ _ _ _ _
@[simp] theorem operatorReport_cores (s : State) (op t d src hd c de : Nat): (operatorReport s op t d src hd c de).cores = s.cores := operatorReport_keeps (π := State.cores) (fun _ _ _ _ _ _ => rfl) s _ _ _ _ _ _ _
@[simp] theorem operatorReport_reserve (s : State) (op t d src hd c de : Nat): (operatorReport s op t d src hd c de).reserve = s.reserve := operatorReport_keeps (π := State.reserve) (fun _ _ _ _ _ _ => rfl) s _ _ _ _ _ _ _
@[simp] theorem operatorReport_dram (s : State) (op t d src hd c de : Nat): (operatorReport s op t d src hd c de).dram = s.dram := operatorReport_keeps (π := State.dram) (fun _ _ _ _ _ _ => rfl) s _ _ _ _ _ _ _
@[simp] theorem operatorReport_link (s : State) (op t d src hd c de : Nat): (operatorReport s op t d src hd c de).link = s.link := operatorReport_keeps (π := State.link) (fun _ _ _ _ _ _ => rfl) s _ _ _ _ _ _ _
@[simp] theorem operatorReport_ckp (s : State) (op t d src hd c de : Nat): (operatorReport s op t d src hd c de).ckp = s.ckp := operatorReport_keeps (π := State.ckp) (fun _ _ _ _ _ _ => rfl) s _ _ _ _ _ _ _
@[simp] theorem operatorReport_stor (s : State) (op t d src hd c de : Nat): (operatorReport s op t d src hd c de).stor = s.stor := operatorReport_keeps (π := State.stor) (fun _ _ _ _ _ _ => rfl) s _ _ _ _ _ _ _
@[simp] theorem operatorReport_pkt (s : State) (op t d src hd c de : Nat): (operatorReport s op t d src hd c de).pkt = s.pkt := operatorReport_keeps (π := State.pkt) (fun _ _ _ _ _ _ => rfl) s _ _ _ _ _ _ _
@[simp] theorem operatorReport_sec (s : State) (op t d src hd c de : Nat): (operatorReport s op t d src hd c de).sec = s.sec := operatorReport_keeps (π := State.sec) (fun _ _ _ _ _ _ => rfl) s _ _ _ _ _ _ _
@[simp] theorem operatorReport_jtag (s : State) (op t d src hd c de : Nat): (operatorReport s op t d src hd c de).jtag = s.jtag := operatorReport_keeps (π := State.jtag) (fun _ _ _ _ _ _ => rfl) s _ _ _ _ _ _ _
@[simp] theorem operatorReport_mgmt (s : State) (op t d src hd c de : Nat): (operatorReport s op t d src hd c de).mgmt = s.mgmt := operatorReport_keeps (π := State.mgmt) (fun _ _ _ _ _ _ => rfl) s _ _ _ _ _ _ _
@[simp] theorem operatorReport_free (s : State) (op t d src hd c de : Nat): (operatorReport s op t d src hd c de).free = s.free := operatorReport_keeps (π := State.free) (fun _ _ _ _ _ _ => rfl) s _ _ _ _ _ _ _
@[simp] theorem operatorReport_time (s : State) (op t d src hd c de : Nat): (operatorReport s op t d src hd c de).time = s.time := operatorReport_keeps (π := State.time) (fun _ _ _ _ _ _ => rfl) s _ _ _ _ _ _ _
@[simp] theorem operatorReport_pending (s : State) (op t d src hd c de : Nat): (operatorReport s op t d src hd c de).pending = s.pending := operatorReport_keeps (π := State.pending) (fun _ _ _ _ _ _ => rfl) s _ _ _ _ _ _ _

@[simp] theorem unitFault_clk (s : State) (u d c k : Nat): (unitFault s u d c k).clk = s.clk := unitFault_keeps (π := State.clk) (fun _ _ _ _ _ _ => rfl) s _ _ _ _
@[simp] theorem unitFault_power (s : State) (u d c k : Nat): (unitFault s u d c k).power = s.power := unitFault_keeps (π := State.power) (fun _ _ _ _ _ _ => rfl) s _ _ _ _
@[simp] theorem unitFault_fuses (s : State) (u d c k : Nat): (unitFault s u d c k).fuses = s.fuses := unitFault_keeps (π := State.fuses) (fun _ _ _ _ _ _ => rfl) s _ _ _ _
@[simp] theorem unitFault_boot (s : State) (u d c k : Nat): (unitFault s u d c k).boot = s.boot := unitFault_keeps (π := State.boot) (fun _ _ _ _ _ _ => rfl) s _ _ _ _
@[simp] theorem unitFault_units (s : State) (u d c k : Nat): (unitFault s u d c k).units = s.units := unitFault_keeps (π := State.units) (fun _ _ _ _ _ _ => rfl) s _ _ _ _
@[simp] theorem unitFault_tracker (s : State) (u d c k : Nat): (unitFault s u d c k).tracker = s.tracker := unitFault_keeps (π := State.tracker) (fun _ _ _ _ _ _ => rfl) s _ _ _ _
@[simp] theorem unitFault_vio (s : State) (u d c k : Nat): (unitFault s u d c k).vio = s.vio := unitFault_keeps (π := State.vio) (fun _ _ _ _ _ _ => rfl) s _ _ _ _
@[simp] theorem unitFault_parts (s : State) (u d c k : Nat): (unitFault s u d c k).parts = s.parts := unitFault_keeps (π := State.parts) (fun _ _ _ _ _ _ => rfl) s _ _ _ _
@[simp] theorem unitFault_excRates (s : State) (u d c k : Nat): (unitFault s u d c k).excRates = s.excRates := unitFault_keeps (π := State.excRates) (fun _ _ _ _ _ _ => rfl) s _ _ _ _
@[simp] theorem unitFault_decode (s : State) (u d c k : Nat): (unitFault s u d c k).decode = s.decode := unitFault_keeps (π := State.decode) (fun _ _ _ _ _ _ => rfl) s _ _ _ _
@[simp] theorem unitFault_opResident (s : State) (u d c k : Nat): (unitFault s u d c k).opResident = s.opResident := unitFault_keeps (π := State.opResident) (fun _ _ _ _ _ _ => rfl) s _ _ _ _
@[simp] theorem unitFault_launch (s : State) (u d c k : Nat): (unitFault s u d c k).launch = s.launch := unitFault_keeps (π := State.launch) (fun _ _ _ _ _ _ => rfl) s _ _ _ _
@[simp] theorem unitFault_crossings (s : State) (u d c k : Nat): (unitFault s u d c k).crossings = s.crossings := unitFault_keeps (π := State.crossings) (fun _ _ _ _ _ _ => rfl) s _ _ _ _
@[simp] theorem unitFault_longOps (s : State) (u d c k : Nat): (unitFault s u d c k).longOps = s.longOps := unitFault_keeps (π := State.longOps) (fun _ _ _ _ _ _ => rfl) s _ _ _ _
@[simp] theorem unitFault_opNo (s : State) (u d c k : Nat): (unitFault s u d c k).opNo = s.opNo := unitFault_keeps (π := State.opNo) (fun _ _ _ _ _ _ => rfl) s _ _ _ _
@[simp] theorem unitFault_ctxs (s : State) (u d c k : Nat): (unitFault s u d c k).ctxs = s.ctxs := unitFault_keeps (π := State.ctxs) (fun _ _ _ _ _ _ => rfl) s _ _ _ _
@[simp] theorem unitFault_fw (s : State) (u d c k : Nat): (unitFault s u d c k).fw = s.fw := unitFault_keeps (π := State.fw) (fun _ _ _ _ _ _ => rfl) s _ _ _ _
@[simp] theorem unitFault_faultLog (s : State) (u d c k : Nat): (unitFault s u d c k).faultLog = s.faultLog := unitFault_keeps (π := State.faultLog) (fun _ _ _ _ _ _ => rfl) s _ _ _ _
@[simp] theorem unitFault_tiles (s : State) (u d c k : Nat): (unitFault s u d c k).tiles = s.tiles := unitFault_keeps (π := State.tiles) (fun _ _ _ _ _ _ => rfl) s _ _ _ _
@[simp] theorem unitFault_groups (s : State) (u d c k : Nat): (unitFault s u d c k).groups = s.groups := unitFault_keeps (π := State.groups) (fun _ _ _ _ _ _ => rfl) s _ _ _ _
@[simp] theorem unitFault_mesh (s : State) (u d c k : Nat): (unitFault s u d c k).mesh = s.mesh := unitFault_keeps (π := State.mesh) (fun _ _ _ _ _ _ => rfl) s _ _ _ _
@[simp] theorem unitFault_models (s : State) (u d c k : Nat): (unitFault s u d c k).models = s.models := unitFault_keeps (π := State.models) (fun _ _ _ _ _ _ => rfl) s _ _ _ _
@[simp] theorem unitFault_sessions (s : State) (u d c k : Nat): (unitFault s u d c k).sessions = s.sessions := unitFault_keeps (π := State.sessions) (fun _ _ _ _ _ _ => rfl) s _ _ _ _
@[simp] theorem unitFault_cores (s : State) (u d c k : Nat): (unitFault s u d c k).cores = s.cores := unitFault_keeps (π := State.cores) (fun _ _ _ _ _ _ => rfl) s _ _ _ _
@[simp] theorem unitFault_reserve (s : State) (u d c k : Nat): (unitFault s u d c k).reserve = s.reserve := unitFault_keeps (π := State.reserve) (fun _ _ _ _ _ _ => rfl) s _ _ _ _
@[simp] theorem unitFault_dram (s : State) (u d c k : Nat): (unitFault s u d c k).dram = s.dram := unitFault_keeps (π := State.dram) (fun _ _ _ _ _ _ => rfl) s _ _ _ _
@[simp] theorem unitFault_link (s : State) (u d c k : Nat): (unitFault s u d c k).link = s.link := unitFault_keeps (π := State.link) (fun _ _ _ _ _ _ => rfl) s _ _ _ _
@[simp] theorem unitFault_ckp (s : State) (u d c k : Nat): (unitFault s u d c k).ckp = s.ckp := unitFault_keeps (π := State.ckp) (fun _ _ _ _ _ _ => rfl) s _ _ _ _
@[simp] theorem unitFault_stor (s : State) (u d c k : Nat): (unitFault s u d c k).stor = s.stor := unitFault_keeps (π := State.stor) (fun _ _ _ _ _ _ => rfl) s _ _ _ _
@[simp] theorem unitFault_pkt (s : State) (u d c k : Nat): (unitFault s u d c k).pkt = s.pkt := unitFault_keeps (π := State.pkt) (fun _ _ _ _ _ _ => rfl) s _ _ _ _
@[simp] theorem unitFault_sec (s : State) (u d c k : Nat): (unitFault s u d c k).sec = s.sec := unitFault_keeps (π := State.sec) (fun _ _ _ _ _ _ => rfl) s _ _ _ _
@[simp] theorem unitFault_jtag (s : State) (u d c k : Nat): (unitFault s u d c k).jtag = s.jtag := unitFault_keeps (π := State.jtag) (fun _ _ _ _ _ _ => rfl) s _ _ _ _
@[simp] theorem unitFault_mgmt (s : State) (u d c k : Nat): (unitFault s u d c k).mgmt = s.mgmt := unitFault_keeps (π := State.mgmt) (fun _ _ _ _ _ _ => rfl) s _ _ _ _
@[simp] theorem unitFault_free (s : State) (u d c k : Nat): (unitFault s u d c k).free = s.free := unitFault_keeps (π := State.free) (fun _ _ _ _ _ _ => rfl) s _ _ _ _
@[simp] theorem unitFault_time (s : State) (u d c k : Nat): (unitFault s u d c k).time = s.time := unitFault_keeps (π := State.time) (fun _ _ _ _ _ _ => rfl) s _ _ _ _
@[simp] theorem unitFault_pending (s : State) (u d c k : Nat): (unitFault s u d c k).pending = s.pending := unitFault_keeps (π := State.pending) (fun _ _ _ _ _ _ => rfl) s _ _ _ _

@[simp] theorem emergencyEvent_clk (s : State) (d k : Nat) (v : Int): (emergencyEvent s d k v).clk = s.clk := emergencyEvent_keeps (π := State.clk) (fun _ _ _ _ _ _ => rfl) s _ _ _
@[simp] theorem emergencyEvent_power (s : State) (d k : Nat) (v : Int): (emergencyEvent s d k v).power = s.power := emergencyEvent_keeps (π := State.power) (fun _ _ _ _ _ _ => rfl) s _ _ _
@[simp] theorem emergencyEvent_fuses (s : State) (d k : Nat) (v : Int): (emergencyEvent s d k v).fuses = s.fuses := emergencyEvent_keeps (π := State.fuses) (fun _ _ _ _ _ _ => rfl) s _ _ _
@[simp] theorem emergencyEvent_boot (s : State) (d k : Nat) (v : Int): (emergencyEvent s d k v).boot = s.boot := emergencyEvent_keeps (π := State.boot) (fun _ _ _ _ _ _ => rfl) s _ _ _
@[simp] theorem emergencyEvent_units (s : State) (d k : Nat) (v : Int): (emergencyEvent s d k v).units = s.units := emergencyEvent_keeps (π := State.units) (fun _ _ _ _ _ _ => rfl) s _ _ _
@[simp] theorem emergencyEvent_tracker (s : State) (d k : Nat) (v : Int): (emergencyEvent s d k v).tracker = s.tracker := emergencyEvent_keeps (π := State.tracker) (fun _ _ _ _ _ _ => rfl) s _ _ _
@[simp] theorem emergencyEvent_vio (s : State) (d k : Nat) (v : Int): (emergencyEvent s d k v).vio = s.vio := emergencyEvent_keeps (π := State.vio) (fun _ _ _ _ _ _ => rfl) s _ _ _
@[simp] theorem emergencyEvent_parts (s : State) (d k : Nat) (v : Int): (emergencyEvent s d k v).parts = s.parts := emergencyEvent_keeps (π := State.parts) (fun _ _ _ _ _ _ => rfl) s _ _ _
@[simp] theorem emergencyEvent_excRates (s : State) (d k : Nat) (v : Int): (emergencyEvent s d k v).excRates = s.excRates := emergencyEvent_keeps (π := State.excRates) (fun _ _ _ _ _ _ => rfl) s _ _ _
@[simp] theorem emergencyEvent_decode (s : State) (d k : Nat) (v : Int): (emergencyEvent s d k v).decode = s.decode := emergencyEvent_keeps (π := State.decode) (fun _ _ _ _ _ _ => rfl) s _ _ _
@[simp] theorem emergencyEvent_opResident (s : State) (d k : Nat) (v : Int): (emergencyEvent s d k v).opResident = s.opResident := emergencyEvent_keeps (π := State.opResident) (fun _ _ _ _ _ _ => rfl) s _ _ _
@[simp] theorem emergencyEvent_launch (s : State) (d k : Nat) (v : Int): (emergencyEvent s d k v).launch = s.launch := emergencyEvent_keeps (π := State.launch) (fun _ _ _ _ _ _ => rfl) s _ _ _
@[simp] theorem emergencyEvent_crossings (s : State) (d k : Nat) (v : Int): (emergencyEvent s d k v).crossings = s.crossings := emergencyEvent_keeps (π := State.crossings) (fun _ _ _ _ _ _ => rfl) s _ _ _
@[simp] theorem emergencyEvent_longOps (s : State) (d k : Nat) (v : Int): (emergencyEvent s d k v).longOps = s.longOps := emergencyEvent_keeps (π := State.longOps) (fun _ _ _ _ _ _ => rfl) s _ _ _
@[simp] theorem emergencyEvent_opNo (s : State) (d k : Nat) (v : Int): (emergencyEvent s d k v).opNo = s.opNo := emergencyEvent_keeps (π := State.opNo) (fun _ _ _ _ _ _ => rfl) s _ _ _
@[simp] theorem emergencyEvent_ctxs (s : State) (d k : Nat) (v : Int): (emergencyEvent s d k v).ctxs = s.ctxs := emergencyEvent_keeps (π := State.ctxs) (fun _ _ _ _ _ _ => rfl) s _ _ _
@[simp] theorem emergencyEvent_fw (s : State) (d k : Nat) (v : Int): (emergencyEvent s d k v).fw = s.fw := emergencyEvent_keeps (π := State.fw) (fun _ _ _ _ _ _ => rfl) s _ _ _
@[simp] theorem emergencyEvent_faultLog (s : State) (d k : Nat) (v : Int): (emergencyEvent s d k v).faultLog = s.faultLog := emergencyEvent_keeps (π := State.faultLog) (fun _ _ _ _ _ _ => rfl) s _ _ _
@[simp] theorem emergencyEvent_tiles (s : State) (d k : Nat) (v : Int): (emergencyEvent s d k v).tiles = s.tiles := emergencyEvent_keeps (π := State.tiles) (fun _ _ _ _ _ _ => rfl) s _ _ _
@[simp] theorem emergencyEvent_groups (s : State) (d k : Nat) (v : Int): (emergencyEvent s d k v).groups = s.groups := emergencyEvent_keeps (π := State.groups) (fun _ _ _ _ _ _ => rfl) s _ _ _
@[simp] theorem emergencyEvent_mesh (s : State) (d k : Nat) (v : Int): (emergencyEvent s d k v).mesh = s.mesh := emergencyEvent_keeps (π := State.mesh) (fun _ _ _ _ _ _ => rfl) s _ _ _
@[simp] theorem emergencyEvent_models (s : State) (d k : Nat) (v : Int): (emergencyEvent s d k v).models = s.models := emergencyEvent_keeps (π := State.models) (fun _ _ _ _ _ _ => rfl) s _ _ _
@[simp] theorem emergencyEvent_sessions (s : State) (d k : Nat) (v : Int): (emergencyEvent s d k v).sessions = s.sessions := emergencyEvent_keeps (π := State.sessions) (fun _ _ _ _ _ _ => rfl) s _ _ _
@[simp] theorem emergencyEvent_cores (s : State) (d k : Nat) (v : Int): (emergencyEvent s d k v).cores = s.cores := emergencyEvent_keeps (π := State.cores) (fun _ _ _ _ _ _ => rfl) s _ _ _
@[simp] theorem emergencyEvent_reserve (s : State) (d k : Nat) (v : Int): (emergencyEvent s d k v).reserve = s.reserve := emergencyEvent_keeps (π := State.reserve) (fun _ _ _ _ _ _ => rfl) s _ _ _
@[simp] theorem emergencyEvent_dram (s : State) (d k : Nat) (v : Int): (emergencyEvent s d k v).dram = s.dram := emergencyEvent_keeps (π := State.dram) (fun _ _ _ _ _ _ => rfl) s _ _ _
@[simp] theorem emergencyEvent_link (s : State) (d k : Nat) (v : Int): (emergencyEvent s d k v).link = s.link := emergencyEvent_keeps (π := State.link) (fun _ _ _ _ _ _ => rfl) s _ _ _
@[simp] theorem emergencyEvent_ckp (s : State) (d k : Nat) (v : Int): (emergencyEvent s d k v).ckp = s.ckp := emergencyEvent_keeps (π := State.ckp) (fun _ _ _ _ _ _ => rfl) s _ _ _
@[simp] theorem emergencyEvent_stor (s : State) (d k : Nat) (v : Int): (emergencyEvent s d k v).stor = s.stor := emergencyEvent_keeps (π := State.stor) (fun _ _ _ _ _ _ => rfl) s _ _ _
@[simp] theorem emergencyEvent_pkt (s : State) (d k : Nat) (v : Int): (emergencyEvent s d k v).pkt = s.pkt := emergencyEvent_keeps (π := State.pkt) (fun _ _ _ _ _ _ => rfl) s _ _ _
@[simp] theorem emergencyEvent_sec (s : State) (d k : Nat) (v : Int): (emergencyEvent s d k v).sec = s.sec := emergencyEvent_keeps (π := State.sec) (fun _ _ _ _ _ _ => rfl) s _ _ _
@[simp] theorem emergencyEvent_jtag (s : State) (d k : Nat) (v : Int): (emergencyEvent s d k v).jtag = s.jtag := emergencyEvent_keeps (π := State.jtag) (fun _ _ _ _ _ _ => rfl) s _ _ _
@[simp] theorem emergencyEvent_mgmt (s : State) (d k : Nat) (v : Int): (emergencyEvent s d k v).mgmt = s.mgmt := emergencyEvent_keeps (π := State.mgmt) (fun _ _ _ _ _ _ => rfl) s _ _ _
@[simp] theorem emergencyEvent_free (s : State) (d k : Nat) (v : Int): (emergencyEvent s d k v).free = s.free := emergencyEvent_keeps (π := State.free) (fun _ _ _ _ _ _ => rfl) s _ _ _
@[simp] theorem emergencyEvent_time (s : State) (d k : Nat) (v : Int): (emergencyEvent s d k v).time = s.time := emergencyEvent_keeps (π := State.time) (fun _ _ _ _ _ _ => rfl) s _ _ _
@[simp] theorem emergencyEvent_pending (s : State) (d k : Nat) (v : Int): (emergencyEvent s d k v).pending = s.pending := emergencyEvent_keeps (π := State.pending) (fun _ _ _ _ _ _ => rfl) s _ _ _

end Sys2Proof.Machine
end

