-- ==== Sys2Proof/Laws/Memory.lean ====
section
/-! SUPPORT. Sparse tables and byte memory: reads after writes, and the canonical form that every operation keeps. -/

namespace Sys2Proof.Machine

/-! ### Tables -/

section
variable {α : Type} {t : Tbl α}

theorem Rising.cons_iff {j : Nat} {a : α} : Rising ((j, a) :: t) ↔ (∀ e ∈ t, j < e.1) ∧ Rising t := by
  simp [Rising]

theorem Rising.nodup (h : Rising t) : (t.map Prod.fst).Nodup := h.imp Nat.ne_of_lt

theorem Rising.nil : Rising ([] : Tbl α) := List.Pairwise.nil

theorem Tbl.mem_set {k : Nat} {a : α} {e : Nat × α} (h : e ∈ t.set k a) : e = (k, a) ∨ e ∈ t := by
  induction t with
  | nil => simpa [Tbl.set] using h
  | cons c t ih =>
    simp only [Tbl.set] at h
    split at h
    · simpa using h
    · split at h
      · rcases List.mem_cons.1 h with h | h
        · exact .inl h
        · exact .inr (List.mem_cons_of_mem _ h)
      · rcases List.mem_cons.1 h with h | h
        · exact .inr (h ▸ List.mem_cons_self ..)
        · exact (ih h).imp id (List.mem_cons_of_mem _)

theorem Rising.set (h : Rising t) (k : Nat) (a : α) : Rising (t.set k a) := by
  induction t with
  | nil => simp [Tbl.set, Rising]
  | cons c t ih =>
    obtain ⟨hc, ht⟩ := Rising.cons_iff.1 h
    simp only [Tbl.set]
    split
    · rename_i hk
      refine Rising.cons_iff.2 ⟨fun e he => ?_, h⟩
      rcases List.mem_cons.1 he with rfl | he
      · exact hk
      · exact Nat.lt_trans hk (hc e he)
    · split
      · rename_i _ hk
        subst hk
        exact Rising.cons_iff.2 ⟨hc, ht⟩
      · refine Rising.cons_iff.2 ⟨fun e he => ?_, ih ht⟩
        rcases Tbl.mem_set he with rfl | he
        · simp only; omega
        · exact hc e he

theorem Rising.filter (h : Rising t) (p : Nat × α → Bool) : Rising (List.filter p t) :=
  h.sublist ((List.filter_sublist (p := p)).map _)
theorem Rising.keep (h : Rising t) (p : Nat → α → Bool) : Rising (t.keep p) := h.filter _

theorem Tbl.erase_eq_filter (t : Tbl α) (k : Nat) : t.erase k = List.filter (fun e => decide (e.1 ≠ k)) t := by
  induction t with
  | nil => rfl
  | cons c t ih =>
    obtain ⟨j, b⟩ := c
    by_cases h : j = k <;> simp [Tbl.erase, h, ih]
theorem Rising.erase (h : Rising t) (k : Nat) : Rising (t.erase k) := Tbl.erase_eq_filter t k ▸ h.filter _

theorem Rising.modify (h : Rising t) (k : Nat) (f : α → α) : Rising (t.modify k f) := by
  unfold Tbl.modify; split
  · exact h.set _ _
  · exact h
theorem Rising.mapV (h : Rising t) (f : Nat → α → α) : Rising (t.mapV f) := by
  simpa [Rising, Tbl.mapV, Function.comp_def] using h

@[simp] theorem Tbl.get?_nil (k : Nat) : Tbl.get? ([] : Tbl α) k = none := rfl

@[simp] theorem Tbl.get?_erase_self (t : Tbl α) (k : Nat) : (t.erase k).get? k = none := by
  induction t with
  | nil => rfl
  | cons c t ih =>
    obtain ⟨j, b⟩ := c
    by_cases h : j = k <;> simp [Tbl.erase, Tbl.get?, h, ih]
theorem Tbl.get?_erase_ne (t : Tbl α) {j k : Nat} (h : j ≠ k) : (t.erase k).get? j = t.get? j := by
  induction t with
  | nil => rfl
  | cons c t ih =>
    obtain ⟨i, b⟩ := c
    by_cases hi : i = k
    · subst hi; simp [Tbl.erase, Tbl.get?, ih, h.symm]
    · simp [Tbl.erase, Tbl.get?, hi, ih]

@[simp] theorem Tbl.get?_mapV (t : Tbl α) (f : Nat → α → α) (k : Nat) : (t.mapV f).get? k = (t.get? k).map (f k) := by
  induction t with
  | nil => rfl
  | cons c t ih =>
    obtain ⟨j, b⟩ := c
    have ih' : Tbl.get? (List.map (fun p => (p.1, f p.1 p.2)) t) k = (Tbl.get? t k).map (f k) := ih
    by_cases h : j = k
    · subst h; simp [Tbl.mapV, Tbl.get?]
    · simp [Tbl.mapV, Tbl.get?, h, ih']

@[simp] theorem Tbl.get?_modify_self (t : Tbl α) (k : Nat) (f : α → α) : (t.modify k f).get? k = (t.get? k).map f := by
  unfold Tbl.modify
  cases h : t.get? k <;> simp [h]
theorem Tbl.get?_modify_ne (t : Tbl α) {j k : Nat} (h : j ≠ k) (f : α → α) : (t.modify k f).get? j = t.get? j := by
  unfold Tbl.modify
  cases t.get? k <;> simp [Tbl.get?_set_ne _ h]

theorem Tbl.mem_of_get? {k : Nat} {a : α} (h : t.get? k = some a) : (k, a) ∈ t := by
  induction t with
  | nil => simp at h
  | cons c t ih =>
    obtain ⟨j, b⟩ := c
    by_cases hj : j = k
    · subst hj; simp [Tbl.get?] at h; simp [h]
    · simp [Tbl.get?, hj] at h; exact List.mem_cons_of_mem _ (ih h)
theorem Rising.get?_of_mem (h : Rising t) {k : Nat} {a : α} (hm : (k, a) ∈ t) : t.get? k = some a := by
  induction t with
  | nil => simp at hm
  | cons c t ih =>
    obtain ⟨j, b⟩ := c
    obtain ⟨hc, ht⟩ := Rising.cons_iff.1 h
    rcases List.mem_cons.1 hm with he | he
    · cases he; simp [Tbl.get?]
    · have : j ≠ k := by have := hc _ he; simp only at this; omega
      simp [Tbl.get?, this, ih ht he]

@[simp] theorem Tbl.set_set (t : Tbl α) (k : Nat) (a b : α) : (t.set k a).set k b = t.set k b := by
  induction t with
  | nil => simp [Tbl.set]
  | cons c t ih =>
    obtain ⟨j, d⟩ := c
    by_cases h1 : k < j
    · simp [Tbl.set, h1]
    · by_cases h2 : k = j
      · simp [Tbl.set, h2]
      · simp [Tbl.set, h1, h2, ih]
end

/-! ### Byte memory -/

theorem Mem.wfFrom_cons {j : Nat} {b : Byte} {m : Mem} {lo : Nat} :
    Mem.wfFrom lo ((j, b) :: m) = true ↔ lo ≤ j ∧ b ≠ 0 ∧ Mem.wfFrom (j + 1) m = true := by
  simp only [Mem.wfFrom, Bool.and_eq_true, decide_eq_true_eq, and_assoc]

theorem Mem.wfFrom_mono {m : Mem} {lo lo' : Nat} (h : lo ≤ lo') (hm : Mem.wfFrom lo' m = true) : Mem.wfFrom lo m = true := by
  cases m with
  | nil => rfl
  | cons c t =>
    obtain ⟨j, b⟩ := c
    simp only [Mem.wfFrom, Bool.and_eq_true, decide_eq_true_eq] at hm ⊢
    exact ⟨⟨by omega, hm.1.2⟩, hm.2⟩

theorem Mem.wfFrom_write {m : Mem} {lo k : Nat} (b : Byte) (hk : lo ≤ k) (hm : Mem.wfFrom lo m = true) :
    Mem.wfFrom lo (m.write k b) = true := by
  induction m generalizing lo with
  | nil =>
    simp only [Mem.write]; split
    · rfl
    · exact Mem.wfFrom_cons.2 ⟨hk, by assumption, rfl⟩
  | cons c t ih =>
    obtain ⟨j, d⟩ := c
    simp only [Mem.wfFrom, Bool.and_eq_true, decide_eq_true_eq] at hm
    obtain ⟨⟨hj, hd⟩, ht⟩ := hm
    simp only [Mem.write]
    split
    · rename_i hkj
      split
      · exact Mem.wfFrom_cons.2 ⟨hj, hd, ht⟩
      · rename_i hb
        exact Mem.wfFrom_cons.2 ⟨hk, hb, Mem.wfFrom_cons.2 ⟨hkj, hd, ht⟩⟩
    · split
      · rename_i _ hkj
        subst hkj
        split
        · exact Mem.wfFrom_mono (Nat.le_succ_of_le hk) ht
        · rename_i hb
          exact Mem.wfFrom_cons.2 ⟨hk, hb, ht⟩
      · rename_i h1 h2
        exact Mem.wfFrom_cons.2 ⟨hj, hd, ih (lo := j + 1) (by omega) ht⟩

theorem Mem.wf_write {m : Mem} (k : Nat) (b : Byte) (h : Mem.wf m = true) : Mem.wf (m.write k b) = true :=
  Mem.wfFrom_write b (Nat.zero_le k) h
theorem Mem.wf_writeN {m : Mem} (a : Nat) (bs : Bytes) (h : Mem.wf m = true) : Mem.wf (m.writeN a bs) = true := by
  induction bs generalizing m a with
  | nil => exact h
  | cons b bs ih => exact ih _ (Mem.wf_write _ _ h)
theorem Mem.wf_foldl_write {β : Type} {m : Mem} (l : List β) (k : β → Nat) (v : β → Byte) (h : Mem.wf m = true) :
    Mem.wf (l.foldl (fun m c => m.write (k c) (v c)) m) = true := by
  induction l generalizing m with
  | nil => exact h
  | cons c l ih => exact ih (Mem.wf_write _ _ h)

theorem Mem.wfFrom_filter {m : Mem} {lo : Nat} (p : Host.Cell → Bool) (h : Mem.wfFrom lo m = true) :
    Mem.wfFrom lo (List.filter p m) = true := by
  induction m generalizing lo with
  | nil => rfl
  | cons c t ih =>
    obtain ⟨j, b⟩ := c
    simp only [Mem.wfFrom, Bool.and_eq_true, decide_eq_true_eq] at h
    obtain ⟨⟨hj, hb⟩, ht⟩ := h
    simp only [List.filter]
    split
    · exact Mem.wfFrom_cons.2 ⟨hj, hb, ih ht⟩
    · exact ih (Mem.wfFrom_mono (by omega) ht)
theorem Mem.wf_filter {m : Mem} (p : Host.Cell → Bool) (h : Mem.wf m = true) : Mem.wf (List.filter p m) = true :=
  Mem.wfFrom_filter p h
theorem Mem.wf_zeroRange {m : Mem} (lo n : Nat) (h : Mem.wf m = true) : Mem.wf (m.zeroRange lo n) = true := Mem.wf_filter _ h
theorem Mem.wf_nil : Mem.wf [] = true := rfl
theorem Mem.wf_reset : Mem.wf State.reset.dram.bytes = true := rfl

/-- Below every listed address memory reads zero. -/
theorem Mem.read_below {m : Mem} {lo k : Nat} (h : Mem.wfFrom lo m = true) (hk : k < lo) : m.read k = 0 := by
  induction m generalizing lo with
  | nil => rfl
  | cons c t ih =>
    obtain ⟨j, b⟩ := c
    simp only [Mem.wfFrom, Bool.and_eq_true, decide_eq_true_eq] at h
    have : j ≠ k := by omega
    simp only [Mem.read, if_neg this]
    exact ih h.2 (by omega)

/-- A write leaves every other byte alone, in canonical form or not. -/
theorem Mem.read_write_ne (m : Mem) {k x : Nat} (b : Byte) (h : x ≠ k) : (m.write k b).read x = m.read x := by
  induction m with
  | nil => simp only [Mem.write]; split <;> simp [Mem.read, h.symm]
  | cons c t ih =>
    obtain ⟨j, d⟩ := c
    simp only [Mem.write]
    split
    · split
      · rfl
      · simp [Mem.read, h.symm]
    · split
      · rename_i _ hk
        subst hk
        split <;> simp [Mem.read, h.symm]
      · simp only [Mem.read, ih]

theorem Mem.read_write_self {m : Mem} {lo k : Nat} (b : Byte) (hk : lo ≤ k) (h : Mem.wfFrom lo m = true) :
    (m.write k b).read k = b := by
  induction m generalizing lo with
  | nil => simp only [Mem.write]; split <;> simp_all [Mem.read]
  | cons c t ih =>
    obtain ⟨j, d⟩ := c
    simp only [Mem.wfFrom, Bool.and_eq_true, decide_eq_true_eq] at h
    simp only [Mem.write]
    split
    · rename_i hkj
      split
      · rename_i hb
        rw [hb]
        have : j ≠ k := by omega
        simp only [Mem.read, if_neg this]
        exact Mem.read_below h.2 (by omega)
      · simp [Mem.read]
    · split
      · rename_i _ hkj
        subst hkj
        split
        · rename_i hb
          rw [hb]
          exact Mem.read_below h.2 (by omega)
        · simp [Mem.read]
      · rename_i h1 h2
        have : j ≠ k := by omega
        simp only [Mem.read, if_neg this]
        exact ih (by omega) h.2

/-- A read after a write to the same place gives the value written. -/
theorem Mem.read_write {m : Mem} (k x : Nat) (b : Byte) (h : Mem.wf m = true) :
    (m.write k b).read x = if x = k then b else m.read x := by
  split
  · rename_i hx; subst hx; exact Mem.read_write_self b (Nat.zero_le _) h
  · rename_i hx; exact Mem.read_write_ne m b hx

theorem Mem.read_writeN_outside (m : Mem) {a x : Nat} (bs : Bytes) (h : x < a ∨ a + bs.length ≤ x) :
    (m.writeN a bs).read x = m.read x := by
  induction bs generalizing m a with
  | nil => rfl
  | cons b bs ih =>
    simp only [List.length_cons] at h
    simp only [Mem.writeN]
    rw [ih _ (by omega), Mem.read_write_ne _ _ (by omega)]

theorem Mem.readN_eq_ofFn (m : Mem) (a n : Nat) : m.readN a n = (List.range n).map fun k => m.read (a + k) := by
  induction n generalizing a with
  | zero => rfl
  | succ n ih =>
    simp only [Mem.readN, ih, List.range_succ_eq_map, List.map_cons, List.map_map, Nat.add_zero]
    refine congrArg _ (List.map_congr_left fun k _ => ?_)
    simp only [Function.comp_apply]
    congr 1; omega

@[simp] theorem Mem.length_readN (m : Mem) (a n : Nat) : (m.readN a n).length = n := by
  simp [Mem.readN_eq_ofFn]

theorem Mem.read_writeN_inside {m : Mem} {a k : Nat} (bs : Bytes) (hm : Mem.wf m = true) (h : k < bs.length) :
    (m.writeN a bs).read (a + k) = bs[k] := by
  induction bs generalizing m a k with
  | nil => simp at h
  | cons b bs ih =>
    simp only [Mem.writeN]
    cases k with
    | zero =>
      rw [Nat.add_zero, Mem.read_writeN_outside _ _ (by omega)]
      simpa using Mem.read_write_self b (Nat.zero_le a) hm
    | succ k =>
      have := ih (m := m.write a b) (a := a + 1) (k := k) (Mem.wf_write _ _ hm) (by simpa using h)
      rw [show a + (k + 1) = a + 1 + k by omega, this]
      simp

theorem Mem.readN_writeN {m : Mem} (a : Nat) (bs : Bytes) (h : Mem.wf m = true) : (m.writeN a bs).readN a bs.length = bs := by
  rw [Mem.readN_eq_ofFn]
  refine List.ext_getElem (by simp) fun k h1 h2 => ?_
  simp [Mem.read_writeN_inside bs h h2]

theorem Mem.readN_congr {m m' : Mem} {a n : Nat} (h : ∀ k, k < n → m'.read (a + k) = m.read (a + k)) : m'.readN a n = m.readN a n := by
  rw [Mem.readN_eq_ofFn, Mem.readN_eq_ofFn]
  exact List.map_congr_left fun k hk => h k (List.mem_range.1 hk)

theorem Mem.read_filter_of (m : Mem) (p : Host.Cell → Bool) {x : Nat} (h : ∀ b, p (x, b) = true) :
    Mem.read (List.filter p m) x = m.read x := by
  induction m with
  | nil => rfl
  | cons c t ih =>
    obtain ⟨j, b⟩ := c
    by_cases hj : j = x
    · subst hj; simp [List.filter, h, Mem.read]
    · simp only [List.filter]
      split <;> simp [Mem.read, hj, ih]
theorem Mem.read_filter_out (m : Mem) (p : Host.Cell → Bool) {x : Nat} (h : ∀ b, p (x, b) = false) :
    Mem.read (List.filter p m) x = 0 := by
  induction m with
  | nil => rfl
  | cons c t ih =>
    obtain ⟨j, b⟩ := c
    by_cases hj : j = x
    · subst hj; simp [List.filter, h, ih]
    · simp only [List.filter]
      split <;> simp [Mem.read, hj, ih]
/-- A zeroed range reads zero, the rest as before. -/
theorem Mem.read_zeroRange (m : Mem) (lo n x : Nat) :
    (m.zeroRange lo n).read x = if lo ≤ x ∧ x < lo + n then 0 else m.read x := by
  unfold Mem.zeroRange
  split
  · exact Mem.read_filter_out m _ fun b => by simp; omega
  · exact Mem.read_filter_of m _ fun b => by simp; omega

/-- Canonical memories that read alike are equal data. -/
theorem Mem.wfFrom_ext {m m' : Mem} {lo : Nat} (h : Mem.wfFrom lo m = true) (h' : Mem.wfFrom lo m' = true)
    (hr : ∀ k, m.read k = m'.read k) : m = m' := by
  induction m generalizing m' lo with
  | nil =>
    cases m' with
    | nil => rfl
    | cons c t =>
      obtain ⟨j, b⟩ := c
      simp only [Mem.wfFrom, Bool.and_eq_true, decide_eq_true_eq] at h'
      have := hr j
      simp only [Mem.read, if_true] at this
      exact absurd this.symm h'.1.2
  | cons c t ih =>
    obtain ⟨j, b⟩ := c
    simp only [Mem.wfFrom, Bool.and_eq_true, decide_eq_true_eq] at h
    cases m' with
    | nil =>
      have := hr j
      simp only [Mem.read, if_true] at this
      exact absurd this h.1.2
    | cons c' t' =>
      obtain ⟨j', b'⟩ := c'
      simp only [Mem.wfFrom, Bool.and_eq_true, decide_eq_true_eq] at h'
      have hj : j = j' := by
        rcases Nat.lt_trichotomy j j' with hlt | heq | hgt
        · have := hr j
          have hne : j' ≠ j := by omega
          simp only [Mem.read, if_true, if_neg hne] at this
          rw [Mem.read_below h'.2 (by omega)] at this
          exact absurd this h.1.2
        · exact heq
        · have := hr j'
          have hne : j ≠ j' := by omega
          simp only [Mem.read, if_true, if_neg hne] at this
          rw [Mem.read_below h.2 (by omega)] at this
          exact absurd this.symm h'.1.2
      subst hj
      have hb := hr j
      simp only [Mem.read, if_true] at hb
      subst hb
      refine congrArg _ (ih h.2 h'.2 fun k => ?_)
      by_cases hk : k = j
      · subst hk
        rw [Mem.read_below h.2 (by omega), Mem.read_below h'.2 (by omega)]
      · have := hr k
        simpa [Mem.read, Ne.symm hk] using this
theorem Mem.wf_ext {m m' : Mem} (h : Mem.wf m = true) (h' : Mem.wf m' = true) (hr : ∀ k, m.read k = m'.read k) : m = m' :=
  Mem.wfFrom_ext h h' hr

end Sys2Proof.Machine
end

