-- ==== Sys2Proof/Laws/Power.lean ====
section
/-! SUPPORT. The fields that the operations over power leave. -/

namespace Sys2Proof.Machine

@[simp] theorem announce_clk (s : State) (old : State) : (announce old s).clk = s.clk := rfl
@[simp] theorem announce_fuses (s : State) (old : State) : (announce old s).fuses = s.fuses := rfl
@[simp] theorem announce_boot (s : State) (old : State) : (announce old s).boot = s.boot := rfl
@[simp] theorem announce_units (s : State) (old : State) : (announce old s).units = s.units := rfl
@[simp] theorem announce_tracker (s : State) (old : State) : (announce old s).tracker = s.tracker := rfl
@[simp] theorem announce_vio (s : State) (old : State) : (announce old s).vio = s.vio := rfl
@[simp] theorem announce_parts (s : State) (old : State) : (announce old s).parts = s.parts := rfl
@[simp] theorem announce_excRates (s : State) (old : State) : (announce old s).excRates = s.excRates := rfl
@[simp] theorem announce_decode (s : State) (old : State) : (announce old s).decode = s.decode := rfl
@[simp] theorem announce_opResident (s : State) (old : State) : (announce old s).opResident = s.opResident := rfl
@[simp] theorem announce_launch (s : State) (old : State) : (announce old s).launch = s.launch := rfl
@[simp] theorem announce_crossings (s : State) (old : State) : (announce old s).crossings = s.crossings := rfl
@[simp] theorem announce_ports (s : State) (old : State) : (announce old s).ports = s.ports := rfl
@[simp] theorem announce_insts (s : State) (old : State) : (announce old s).insts = s.insts := rfl
@[simp] theorem announce_mbxs (s : State) (old : State) : (announce old s).mbxs = s.mbxs := rfl
@[simp] theorem announce_longOps (s : State) (old : State) : (announce old s).longOps = s.longOps := rfl
@[simp] theorem announce_opNo (s : State) (old : State) : (announce old s).opNo = s.opNo := rfl
@[simp] theorem announce_ctxs (s : State) (old : State) : (announce old s).ctxs = s.ctxs := rfl
@[simp] theorem announce_fw (s : State) (old : State) : (announce old s).fw = s.fw := rfl
@[simp] theorem announce_faultLog (s : State) (old : State) : (announce old s).faultLog = s.faultLog := rfl
@[simp] theorem announce_tiles (s : State) (old : State) : (announce old s).tiles = s.tiles := rfl
@[simp] theorem announce_groups (s : State) (old : State) : (announce old s).groups = s.groups := rfl
@[simp] theorem announce_mesh (s : State) (old : State) : (announce old s).mesh = s.mesh := rfl
@[simp] theorem announce_models (s : State) (old : State) : (announce old s).models = s.models := rfl
@[simp] theorem announce_sessions (s : State) (old : State) : (announce old s).sessions = s.sessions := rfl
@[simp] theorem announce_cores (s : State) (old : State) : (announce old s).cores = s.cores := rfl
@[simp] theorem announce_reserve (s : State) (old : State) : (announce old s).reserve = s.reserve := rfl
@[simp] theorem announce_dram (s : State) (old : State) : (announce old s).dram = s.dram := rfl
@[simp] theorem announce_link (s : State) (old : State) : (announce old s).link = s.link := rfl
@[simp] theorem announce_ckp (s : State) (old : State) : (announce old s).ckp = s.ckp := rfl
@[simp] theorem announce_stor (s : State) (old : State) : (announce old s).stor = s.stor := rfl
@[simp] theorem announce_pkt (s : State) (old : State) : (announce old s).pkt = s.pkt := rfl
@[simp] theorem announce_sec (s : State) (old : State) : (announce old s).sec = s.sec := rfl
@[simp] theorem announce_mon (s : State) (old : State) : (announce old s).mon = s.mon := rfl
@[simp] theorem announce_jtag (s : State) (old : State) : (announce old s).jtag = s.jtag := rfl
@[simp] theorem announce_mgmt (s : State) (old : State) : (announce old s).mgmt = s.mgmt := rfl
@[simp] theorem announce_emitted (s : State) (old : State) : (announce old s).emitted = s.emitted := rfl
@[simp] theorem announce_free (s : State) (old : State) : (announce old s).free = s.free := rfl
@[simp] theorem announce_time (s : State) (old : State) : (announce old s).time = s.time := rfl
@[simp] theorem announce_pending (s : State) (old : State) : (announce old s).pending = s.pending := rfl

@[simp] theorem setDiv_fuses (s : State) (d : Nat) : (setDiv s d).fuses = s.fuses := rfl
@[simp] theorem setDiv_boot (s : State) (d : Nat) : (setDiv s d).boot = s.boot := rfl
@[simp] theorem setDiv_units (s : State) (d : Nat) : (setDiv s d).units = s.units := rfl
@[simp] theorem setDiv_tracker (s : State) (d : Nat) : (setDiv s d).tracker = s.tracker := rfl
@[simp] theorem setDiv_vio (s : State) (d : Nat) : (setDiv s d).vio = s.vio := rfl
@[simp] theorem setDiv_parts (s : State) (d : Nat) : (setDiv s d).parts = s.parts := rfl
@[simp] theorem setDiv_excRates (s : State) (d : Nat) : (setDiv s d).excRates = s.excRates := rfl
@[simp] theorem setDiv_decode (s : State) (d : Nat) : (setDiv s d).decode = s.decode := rfl
@[simp] theorem setDiv_opResident (s : State) (d : Nat) : (setDiv s d).opResident = s.opResident := rfl
@[simp] theorem setDiv_launch (s : State) (d : Nat) : (setDiv s d).launch = s.launch := rfl
@[simp] theorem setDiv_crossings (s : State) (d : Nat) : (setDiv s d).crossings = s.crossings := rfl
@[simp] theorem setDiv_ports (s : State) (d : Nat) : (setDiv s d).ports = s.ports := rfl
@[simp] theorem setDiv_insts (s : State) (d : Nat) : (setDiv s d).insts = s.insts := rfl
@[simp] theorem setDiv_mbxs (s : State) (d : Nat) : (setDiv s d).mbxs = s.mbxs := rfl
@[simp] theorem setDiv_longOps (s : State) (d : Nat) : (setDiv s d).longOps = s.longOps := rfl
@[simp] theorem setDiv_opNo (s : State) (d : Nat) : (setDiv s d).opNo = s.opNo := rfl
@[simp] theorem setDiv_ctxs (s : State) (d : Nat) : (setDiv s d).ctxs = s.ctxs := rfl
@[simp] theorem setDiv_fw (s : State) (d : Nat) : (setDiv s d).fw = s.fw := rfl
@[simp] theorem setDiv_faultLog (s : State) (d : Nat) : (setDiv s d).faultLog = s.faultLog := rfl
@[simp] theorem setDiv_tiles (s : State) (d : Nat) : (setDiv s d).tiles = s.tiles := rfl
@[simp] theorem setDiv_groups (s : State) (d : Nat) : (setDiv s d).groups = s.groups := rfl
@[simp] theorem setDiv_mesh (s : State) (d : Nat) : (setDiv s d).mesh = s.mesh := rfl
@[simp] theorem setDiv_models (s : State) (d : Nat) : (setDiv s d).models = s.models := rfl
@[simp] theorem setDiv_sessions (s : State) (d : Nat) : (setDiv s d).sessions = s.sessions := rfl
@[simp] theorem setDiv_cores (s : State) (d : Nat) : (setDiv s d).cores = s.cores := rfl
@[simp] theorem setDiv_reserve (s : State) (d : Nat) : (setDiv s d).reserve = s.reserve := rfl
@[simp] theorem setDiv_dram (s : State) (d : Nat) : (setDiv s d).dram = s.dram := rfl
@[simp] theorem setDiv_link (s : State) (d : Nat) : (setDiv s d).link = s.link := rfl
@[simp] theorem setDiv_ckp (s : State) (d : Nat) : (setDiv s d).ckp = s.ckp := rfl
@[simp] theorem setDiv_stor (s : State) (d : Nat) : (setDiv s d).stor = s.stor := rfl
@[simp] theorem setDiv_pkt (s : State) (d : Nat) : (setDiv s d).pkt = s.pkt := rfl
@[simp] theorem setDiv_sec (s : State) (d : Nat) : (setDiv s d).sec = s.sec := rfl
@[simp] theorem setDiv_mon (s : State) (d : Nat) : (setDiv s d).mon = s.mon := rfl
@[simp] theorem setDiv_jtag (s : State) (d : Nat) : (setDiv s d).jtag = s.jtag := rfl
@[simp] theorem setDiv_mgmt (s : State) (d : Nat) : (setDiv s d).mgmt = s.mgmt := rfl
@[simp] theorem setDiv_emitted (s : State) (d : Nat) : (setDiv s d).emitted = s.emitted := rfl
@[simp] theorem setDiv_free (s : State) (d : Nat) : (setDiv s d).free = s.free := rfl
@[simp] theorem setDiv_time (s : State) (d : Nat) : (setDiv s d).time = s.time := rfl
@[simp] theorem setDiv_pending (s : State) (d : Nat) : (setDiv s d).pending = s.pending := rfl

@[simp] theorem inputTimers_clk (s : State) : (inputTimers s).clk = s.clk := rfl
@[simp] theorem inputTimers_fuses (s : State) : (inputTimers s).fuses = s.fuses := rfl
@[simp] theorem inputTimers_boot (s : State) : (inputTimers s).boot = s.boot := rfl
@[simp] theorem inputTimers_units (s : State) : (inputTimers s).units = s.units := rfl
@[simp] theorem inputTimers_tracker (s : State) : (inputTimers s).tracker = s.tracker := rfl
@[simp] theorem inputTimers_vio (s : State) : (inputTimers s).vio = s.vio := rfl
@[simp] theorem inputTimers_parts (s : State) : (inputTimers s).parts = s.parts := rfl
@[simp] theorem inputTimers_excRates (s : State) : (inputTimers s).excRates = s.excRates := rfl
@[simp] theorem inputTimers_decode (s : State) : (inputTimers s).decode = s.decode := rfl
@[simp] theorem inputTimers_opResident (s : State) : (inputTimers s).opResident = s.opResident := rfl
@[simp] theorem inputTimers_launch (s : State) : (inputTimers s).launch = s.launch := rfl
@[simp] theorem inputTimers_crossings (s : State) : (inputTimers s).crossings = s.crossings := rfl
@[simp] theorem inputTimers_ports (s : State) : (inputTimers s).ports = s.ports := rfl
@[simp] theorem inputTimers_insts (s : State) : (inputTimers s).insts = s.insts := rfl
@[simp] theorem inputTimers_mbxs (s : State) : (inputTimers s).mbxs = s.mbxs := rfl
@[simp] theorem inputTimers_longOps (s : State) : (inputTimers s).longOps = s.longOps := rfl
@[simp] theorem inputTimers_opNo (s : State) : (inputTimers s).opNo = s.opNo := rfl
@[simp] theorem inputTimers_ctxs (s : State) : (inputTimers s).ctxs = s.ctxs := rfl
@[simp] theorem inputTimers_fw (s : State) : (inputTimers s).fw = s.fw := rfl
@[simp] theorem inputTimers_faultLog (s : State) : (inputTimers s).faultLog = s.faultLog := rfl
@[simp] theorem inputTimers_tiles (s : State) : (inputTimers s).tiles = s.tiles := rfl
@[simp] theorem inputTimers_groups (s : State) : (inputTimers s).groups = s.groups := rfl
@[simp] theorem inputTimers_mesh (s : State) : (inputTimers s).mesh = s.mesh := rfl
@[simp] theorem inputTimers_models (s : State) : (inputTimers s).models = s.models := rfl
@[simp] theorem inputTimers_sessions (s : State) : (inputTimers s).sessions = s.sessions := rfl
@[simp] theorem inputTimers_cores (s : State) : (inputTimers s).cores = s.cores := rfl
@[simp] theorem inputTimers_reserve (s : State) : (inputTimers s).reserve = s.reserve := rfl
@[simp] theorem inputTimers_dram (s : State) : (inputTimers s).dram = s.dram := rfl
@[simp] theorem inputTimers_link (s : State) : (inputTimers s).link = s.link := rfl
@[simp] theorem inputTimers_ckp (s : State) : (inputTimers s).ckp = s.ckp := rfl
@[simp] theorem inputTimers_stor (s : State) : (inputTimers s).stor = s.stor := rfl
@[simp] theorem inputTimers_pkt (s : State) : (inputTimers s).pkt = s.pkt := rfl
@[simp] theorem inputTimers_sec (s : State) : (inputTimers s).sec = s.sec := rfl
@[simp] theorem inputTimers_mon (s : State) : (inputTimers s).mon = s.mon := rfl
@[simp] theorem inputTimers_jtag (s : State) : (inputTimers s).jtag = s.jtag := rfl
@[simp] theorem inputTimers_mgmt (s : State) : (inputTimers s).mgmt = s.mgmt := rfl
@[simp] theorem inputTimers_emitted (s : State) : (inputTimers s).emitted = s.emitted := rfl
@[simp] theorem inputTimers_free (s : State) : (inputTimers s).free = s.free := rfl
@[simp] theorem inputTimers_time (s : State) : (inputTimers s).time = s.time := rfl
@[simp] theorem inputTimers_pending (s : State) : (inputTimers s).pending = s.pending := rfl

end Sys2Proof.Machine
end

