-- ==== Sys2Proof/WellFormed.lean ====
section
/-! DEFINITION. When a command is well formed: every field fits its width (00 R4, 11 R356). -/

namespace Sys2Proof

/-- The fields of a request header, each with its width in bytes. -/
def Req.fields (q : Req) : List (Nat × Nat) :=
  [(q.mbx, 2), (q.level, 1), (q.index, 4), (q.len, 2), (q.cookie, 4)]

/-- The fields of a buffer reference (R357). -/
def BufRef.fields (b : BufRef) : List (Nat × Nat) := [(b.addr, 8), (b.len, 4), (b.space, 1)]

/-- The fields of a ZAL message header (R266). -/
def ZalReq.fields (m : ZalReq) : List (Nat × Nat) :=
  [(m.status, 1), (m.tag, 2), (m.aux, 2), (m.addr, 8), (m.cells, 1)]

/-- The common fields of an NVMe command. -/
def NvmeCmd.fields (c : NvmeCmd) : List (Nat × Nat) :=
  [(c.inst, 2), (c.sq, 2), (c.cid, 2), (c.nsid, 4)]

/-- The fields of a bulk command (R408). -/
def BulkCmd.fields (c : BulkCmd) : List (Nat × Nat) :=
  [(c.flags, 1), (c.space, 1), (c.nsid, 4), (c.slba, 8), (c.nlb, 4), (c.tag, 4), (c.addr, 8), (c.operand, 8), (c.len, 8)]

/-- The fields of a checkpoint group body (R381). -/
def CkpGroupBody.fields (g : CkpGroupBody) : List (Nat × Nat) :=
  [(g.part, 1), (g.member, 1), (g.n, 1), (g.port, 1), (g.captureTimeout, 4), (g.groupId, 8), (g.shardMax, 8),
   (g.phaseTimeout, 4), (g.ownerEntry, 2), (g.egressQueue, 2), (g.own0, 8), (g.own1, 8)]
  ++ g.peers.fields ++ g.partMax.fields

/-- The fields of a boot image (R389). -/
def BootImage.fields (b : BootImage) : List (Nat × Nat) :=
  [(b.fwVersion, 4), (b.securityVersion, 8), (b.levelMax, 1), (b.keyIndex, 1)]

/-- The fields of an issue. -/
def Issue.fields (i : Issue) : List (Nat × Nat) := [(i.cycle, 8)]

/-- The fields of a Bramble target. -/
def BrTarget.fields : BrTarget → List (Nat × Nat)
  | .dram _ dpa => [(dpa, 8)]
  | .sram _ addr => [(addr, 4)]
  | .keySlot slot => [(slot, 2)]
  | .registers _ offset => [(offset, 4)]
  | .queue ring => [(ring, 2)]
  | .zalEgress _ => []
  | .hostEgress _ mbx addr => [(mbx, 2), (addr, 8)]

/-- Every numeric field of a command with its width in bytes. -/
def Instr.fields : Instr → List (Nat × Nat)
  | .modulePowerGood => []
  | .senseContactsMate => []
  | .senseContactsLost => []
  | .moduleEnDeassert => []
  | .coldReset => []
  | .bootRom staged bank0 bank1 _ => (staged.map BootImage.fields).getD [] ++ (bank0.map BootImage.fields).getD [] ++ (bank1.map BootImage.fields).getD []
  | .quicksetReached _ => []
  | .fullReached _ => []
  | .inputSample mv ma => [(mv, 4), (ma, 4)]
  | .powerEmergencyEnd => []
  | .inputUndervoltageTimeout => []
  | .capLimitRaise => []
  | .capUnmet => []
  | .tjSample _ _ _ _ => []
  | .throttleStep => []
  | .throttleClear => []
  | .thermalEmergencyEnd _ => []
  | .plannedStepTimeout => []
  | .tclkDividerChange => []
  | .clockLost _ => []
  | .clockRestored _ => []
  | .crossingRearm crossing => [(crossing, 2)]
  | .launchChangeover kind unit slot => [(kind, 1), (unit, 1), (slot, 1)]
  | .drainTimeout unit => [(unit, 2)]
  | .drainComplete unit => [(unit, 2)]
  | .unitFailure unit code => [(unit, 2), (code, 4)]
  | .brambleTransaction _ _ target len _ accessor => target.fields ++ [(len, 4), (accessor, 2)]
  | .tilePredictedFailure _ => []
  | .spareCopyComplete _ => []
  | .spareCopyTimeout _ => []
  | .tileSuddenFailure _ => []
  | .spareLoadComplete _ => []
  | .meshStopFault _ => []
  | .placementLoadComplete session => [(session, 4)]
  | .groupZeroingComplete _ => []
  | .sramScrubRead _ badSymbols => [(badSymbols, 1)]
  | .meshArrival _ => []
  | .epochStart session => [(session, 4)]
  | .yewStep _ => []
  | .epochEnd session => [(session, 4)]
  | .sessionScheduleFault session => [(session, 4)]
  | .sample session => [(session, 4)]
  | .drawComplete session => [(session, 4)]
  | .drbgReseed session => [(session, 4)]
  | .drbgRequestLimit session => [(session, 4)]
  | .draft session => [(session, 4)]
  | .verdictTimeout session => [(session, 4)]
  | .pendingRecordWrite session consumed => [(session, 4), (consumed, 8)]
  | .nop i => i.fields
  | .b i _ _ => i.fields
  | .jal i _ => i.fields
  | .jr i _ => i.fields
  | .jalr i _ => i.fields
  | .rpt i _ => i.fields
  | .rptr i => i.fields
  | .imx i _ _ => i.fields
  | .add i _ _ _ _ => i.fields
  | .sub i _ _ _ _ => i.fields
  | .knAnd i _ _ _ _ => i.fields
  | .knOr i _ _ _ _ => i.fields
  | .xor i _ _ _ _ => i.fields
  | .andn i _ _ _ _ => i.fields
  | .sll i _ _ _ _ => i.fields
  | .srl i _ _ _ _ => i.fields
  | .sra i _ _ _ _ => i.fields
  | .rol i _ _ _ _ => i.fields
  | .ror i _ _ _ _ => i.fields
  | .knMin i _ _ _ _ => i.fields
  | .knMax i _ _ _ _ => i.fields
  | .minu i _ _ _ _ => i.fields
  | .maxu i _ _ _ _ => i.fields
  | .neg i _ _ _ => i.fields
  | .clz i _ _ _ => i.fields
  | .popc i _ _ _ => i.fields
  | .bswap i _ _ _ => i.fields
  | .adc i _ _ _ _ => i.fields
  | .sbc i _ _ _ _ => i.fields
  | .addw i _ _ _ _ => i.fields
  | .subw i _ _ _ _ => i.fields
  | .andw i _ _ _ _ => i.fields
  | .orw i _ _ _ _ => i.fields
  | .xorw i _ _ _ _ => i.fields
  | .andnw i _ _ _ _ => i.fields
  | .sllw i _ _ _ _ => i.fields
  | .srlw i _ _ _ _ => i.fields
  | .sraw i _ _ _ _ => i.fields
  | .rolw i _ _ _ _ => i.fields
  | .rorw i _ _ _ _ => i.fields
  | .minw i _ _ _ _ => i.fields
  | .maxw i _ _ _ _ => i.fields
  | .minuw i _ _ _ _ => i.fields
  | .maxuw i _ _ _ _ => i.fields
  | .negw i _ _ _ => i.fields
  | .clzw i _ _ _ => i.fields
  | .popcw i _ _ _ => i.fields
  | .bswapw i _ _ _ => i.fields
  | .adcw i _ _ _ _ => i.fields
  | .sbcw i _ _ _ _ => i.fields
  | .mul i _ _ _ _ => i.fields
  | .mulhs i _ _ _ _ => i.fields
  | .mulhu i _ _ _ _ => i.fields
  | .mulw i _ _ _ _ => i.fields
  | .div i _ _ _ _ => i.fields
  | .divu i _ _ _ _ => i.fields
  | .rem i _ _ _ _ => i.fields
  | .remu i _ _ _ _ => i.fields
  | .divw i _ _ _ _ => i.fields
  | .divuw i _ _ _ _ => i.fields
  | .remw i _ _ _ _ => i.fields
  | .remuw i _ _ _ _ => i.fields
  | .addi i _ _ _ _ => i.fields
  | .andi i _ _ _ _ => i.fields
  | .ori i _ _ _ _ => i.fields
  | .xori i _ _ _ _ => i.fields
  | .slli i _ _ _ _ => i.fields
  | .srli i _ _ _ _ => i.fields
  | .srai i _ _ _ _ => i.fields
  | .rori i _ _ _ _ => i.fields
  | .movi i _ _ _ => i.fields
  | .csel i _ _ _ _ _ => i.fields
  | .mfs i _ _ _ => i.fields
  | .mts i _ _ => i.fields
  | .ldb i _ _ _ => i.fields
  | .ldbu i _ _ _ => i.fields
  | .ldh i _ _ _ => i.fields
  | .ldhu i _ _ _ => i.fields
  | .ldw i _ _ _ => i.fields
  | .ldwu i _ _ _ => i.fields
  | .ldd i _ _ _ => i.fields
  | .stb i _ _ _ => i.fields
  | .sth i _ _ _ => i.fields
  | .stw i _ _ _ => i.fields
  | .std i _ _ _ => i.fields
  | .custom i _ _ _ _ _ _ => i.fields
  | .done i _ => i.fields
  | .hx i _ _ _ => i.fields
  | .probe i _ _ _ => i.fields
  | .probeComplete _ _ _ => []
  | .pres i _ _ => i.fields
  | .emit i _ _ => i.fields
  | .parseLimit _ => []
  | .lwait i _ => i.fields
  | .lwaits i _ => i.fields
  | .endStep i => i.fields
  | .tiss i _ _ _ => i.fields
  | .mma _ start => [(start, 8)]
  | .mmak _ start => [(start, 8)]
  | .aclr _ start => [(start, 8)]
  | .vadd _ start => [(start, 8)]
  | .vsub _ start => [(start, 8)]
  | .vmul _ start => [(start, 8)]
  | .vfma _ start => [(start, 8)]
  | .vmin _ start => [(start, 8)]
  | .vmax _ start => [(start, 8)]
  | .viadd _ start => [(start, 8)]
  | .visub _ start => [(start, 8)]
  | .vimul _ start => [(start, 8)]
  | .vand _ start => [(start, 8)]
  | .vor _ start => [(start, 8)]
  | .vxor _ start => [(start, 8)]
  | .vsll _ start => [(start, 8)]
  | .vsrl _ start => [(start, 8)]
  | .vsra _ start => [(start, 8)]
  | .vidiv _ start => [(start, 8)]
  | .virem _ start => [(start, 8)]
  | .vineg _ start => [(start, 8)]
  | .vld _ start => [(start, 8)]
  | .vst _ start => [(start, 8)]
  | .vacc _ start => [(start, 8)]
  | .vcvti _ start => [(start, 8)]
  | .vcvtf _ start => [(start, 8)]
  | .vquant _ start => [(start, 8)]
  | .exp2 _ start => [(start, 8)]
  | .vlog2 _ start => [(start, 8)]
  | .rcp _ start => [(start, 8)]
  | .rsqrt _ start => [(start, 8)]
  | .sqrt _ start => [(start, 8)]
  | .tanh _ start => [(start, 8)]
  | .sigmoid _ start => [(start, 8)]
  | .vrsum _ start => [(start, 8)]
  | .vrmax _ start => [(start, 8)]
  | .send _ start => [(start, 8)]
  | .gatewayRead _ start => [(start, 8)]
  | .gatewayWrite _ start => [(start, 8)]
  | .gatewayGather _ start => [(start, 8)]
  | .fill _ addr len pattern => [(addr, 8), (len, 8), (pattern, 8)]
  | .copy _ dst src len => [(dst, 8), (src, 8), (len, 8)]
  | .fillComplete op => [(op, 4)]
  | .stackScrubRead _ access _ => (access.map fun g => (g, 4)).toList
  | .repairMoveComplete _ row _ => [(row, 4)]
  | .refreshBurst _ _ ns => [(ns, 2)]
  | .stackFailed _ => []
  | .reservedRebuildComplete _ => []
  | .plotZeroingComplete _ => []
  | .stackMoveComplete _ => []
  | .zalTrainingAttempt _ => []
  | .init _ _ version req rsp blk tok limit _ => [(version, 1), (req, 2), (rsp, 2), (blk, 2), (tok, 2), (limit, 2)]
  | .laneMap _ _ _ _ => []
  | .mapSwitch _ _ _ => []
  | .flitReceive _ _ _ _ => []
  | .lookup _ _ _ => []
  | .replayTimeout _ => []
  | .zalRetrain _ _ _ _ => []
  | .lanePredictedFailed _ _ => []
  | .laneTestPass _ _ => []
  | .read _ m => m.fields
  | .write _ m => m.fields
  | .translate _ m => m.fields
  | .dfSubmit _ m => m.fields
  | .abort _ m => m.fields
  | .abortAnswer _ m => m.fields
  | .flushAck _ m => m.fields
  | .verdict _ m => m.fields
  | .zalRequestTimeout _ tag => [(tag, 2)]
  | .apertureStagedRefresh _ => []
  | .dfDescriptorFetch stream _ => [(stream, 2)]
  | .dfScatter op => [(op, 2)]
  | .burst _ _ => []
  | .ckpTrigger q step at_ => q.fields ++ [(step, 8), (at_, 8)]
  | .snapshot _ => []
  | .warningWindowCheck => []
  | .ckpWarn _ code => [(code, 2)]
  | .begin generation step reason => [(generation, 8), (step, 8), (reason, 1)]
  | .snapshotPoint => []
  | .captureTimeout => []
  | .shardWrite _ m => m.fields
  | .shardEnd _ m => m.fields
  | .parityContribution _ chunk _ crc => [(chunk, 4), (crc, 8)]
  | .buddyChunk _ chunk _ crc => [(chunk, 4), (crc, 8)]
  | .phaseDone phase => [(phase, 1)]
  | .commit generation => [(generation, 8)]
  | .phaseTimeout => []
  | .memberFailure _ => []
  | .coordinatorFailover _ => []
  | .restoreRead _ m => m.fields
  | .jobResume => []
  | .configRequest _ _ offset _ value => [(offset, 2), (value, 4)]
  | .perstAssert _ => []
  | .perstDeassert _ width speed => [(width, 1), (speed, 1)]
  | .flr _ => []
  | .hepHeartbeat _ value => [(value, 4)]
  | .heartbeatTimeout _ => []
  | .driverReturn _ => []
  | .lcNow _ offset size => [(offset, 1), (size, 1)]
  | .instLcNow _ inst offset size => [(inst, 2), (offset, 1), (size, 1)]
  | .lcClockStatus _ value => [(value, 4)]
  | .pmcOvf _ unit value => [(unit, 2), (value, 4)]
  | .tenantCounterSlotRead _ inst _ => [(inst, 2)]
  | .reqDoorbell _ mbx posted => [(mbx, 2), (posted, 4)]
  | .mbxCtrl _ mbx value => [(mbx, 2), (value, 4)]
  | .instControlReset _ inst value => [(inst, 2), (value, 4)]
  | .instanceResetComplete inst => [(inst, 2)]
  | .freezeTimeout inst => [(inst, 2)]
  | .registerWrite _ bar offset size value => [(bar, 1), (offset, 4), (size, 1), (value, 8)]
  | .bar4Access _ _ offset len _ => [(offset, 8), (len, 4)]
  | .hostCompletion _ tag _ bytes => [(tag, 2), (bytes, 4)]
  | .completionTimeout _ tag => [(tag, 2)]
  | .tagQuarantineExpiry _ tag => [(tag, 2)]
  | .responseWrite mbx consumed => [(mbx, 2), (consumed, 4)]
  | .contextSwap ctx _ => [(ctx, 4)]
  | .exceptionDelivery _ consumed => [(consumed, 8)]
  | .fwSwitchComplete => []
  | .fwSwitchTimeout => []
  | .activateWhenClearStart => []
  | .hello q hostLevel driverVersion _ => q.fields ++ [(hostLevel, 1), (driverVersion, 4)]
  | .goodbye q => q.fields
  | .deviceInfo q => q.fields
  | .readyQuery q => q.fields
  | .operatorTransfer q port => q.fields ++ [(port, 1)]
  | .violationRead q scope flags => q.fields ++ [(scope, 1), (flags, 1)]
  | .faultLogRead q first count out => q.fields ++ [(first, 4), (count, 4)] ++ out.fields
  | .faultLogRemove q entry => q.fields ++ [(entry, 4)]
  | .eventConfig q count _ => q.fields ++ [(count, 1)]
  | .ialdoAbort q token => q.fields ++ [(token, 4)]
  | .mailboxQuery q mailbox => q.fields ++ [(mailbox, 2)]
  | .hepCountsClear q port mask => q.fields ++ [(port, 1), (mask, 1)]
  | .launchArm q changeover kind unit slot table _ => q.fields ++ [(changeover, 8), (kind, 1), (unit, 1), (slot, 1)] ++ table.fields
  | .launchCounts q kind unit slot flags => q.fields ++ [(kind, 1), (unit, 1), (slot, 1), (flags, 1)]
  | .partitionCreate q part policy tracker resident rate keySlots pageEntries => q.fields ++ [(part, 1), (policy, 1), (tracker, 4), (resident, 2), (rate, 4), (keySlots, 4), (pageEntries, 4)]
  | .partitionDelete q part => q.fields ++ [(part, 1)]
  | .partitionQuery q part => q.fields ++ [(part, 1)]
  | .quotaSet q part kind value => q.fields ++ [(part, 1), (kind, 1), (value, 4)]
  | .partitionReset q part => q.fields ++ [(part, 1)]
  | .exceptionRateSet q owner rate => q.fields ++ [(owner, 1), (rate, 4)]
  | .decodeTableLoad q owner table _ => q.fields ++ [(owner, 1)] ++ table.fields
  | .instanceCreate q inst part port pasid vectorBase vectorCount => q.fields ++ [(inst, 2), (part, 1), (port, 1), (pasid, 4), (vectorBase, 2), (vectorCount, 1)]
  | .instanceDestroy q inst => q.fields ++ [(inst, 2)]
  | .instanceReset q inst => q.fields ++ [(inst, 2)]
  | .instanceQuery q inst rings => q.fields ++ [(inst, 2)] ++ rings.fields
  | .instanceFreeze q inst => q.fields ++ [(inst, 2)]
  | .instanceSave q inst out => q.fields ++ [(inst, 2)] ++ out.fields
  | .instanceRestore q inst part port pasid vectorBase vectorCount blob _ => q.fields ++ [(inst, 2), (part, 1), (port, 1), (pasid, 4), (vectorBase, 2), (vectorCount, 1)] ++ blob.fields
  | .instanceThaw q inst => q.fields ++ [(inst, 2)]
  | .windowWrite q port entry barOffset length target owner perm => q.fields ++ [(port, 1), (entry, 2), (barOffset, 8), (length, 8), (target, 8), (owner, 1), (perm, 1)]
  | .windowCommit q port => q.fields ++ [(port, 1)]
  | .dirtyLogStart q inst count ranges _ => q.fields ++ [(inst, 2), (count, 1)] ++ ranges.fields
  | .dirtyLogRead q inst range out => q.fields ++ [(inst, 2), (range, 1)] ++ out.fields
  | .dirtyLogStop q inst => q.fields ++ [(inst, 2)]
  | .plotAssign q owner mode die count firstSlot list _ => q.fields ++ [(owner, 1), (mode, 1), (die, 1), (count, 4), (firstSlot, 2)] ++ list.fields
  | .plotRelease q owner slot count => q.fields ++ [(owner, 1), (slot, 2), (count, 2)]
  | .plotQuery q owner firstSlot count out => q.fields ++ [(owner, 1), (firstSlot, 2), (count, 2)] ++ out.fields
  | .memFill q owner flags addr len pattern => q.fields ++ [(owner, 1), (flags, 1), (addr, 8), (len, 8), (pattern, 8)]
  | .memCopy q owner dst src len => q.fields ++ [(owner, 1), (dst, 8), (src, 8), (len, 8)]
  | .stackRemove q stack rate => q.fields ++ [(stack, 1), (rate, 4)]
  | .stackRestore q stack rate => q.fields ++ [(stack, 1), (rate, 4)]
  | .memCountsRead q stack flags => q.fields ++ [(stack, 1), (flags, 1)]
  | .memErrorLogRead q stack count first out => q.fields ++ [(stack, 1), (count, 2), (first, 4)] ++ out.fields
  | .scrubSet q stack hours => q.fields ++ [(stack, 1), (hours, 4)]
  | .plotClearSet q slot clear => q.fields ++ [(slot, 2), (clear, 1)]
  | .plotQuotaSet q part quota => q.fields ++ [(part, 1), (quota, 4)]
  | .groupAssign q part group => q.fields ++ [(part, 1), (group, 1)]
  | .groupRelease q group => q.fields ++ [(group, 1)]
  | .groupQuery q => q.fields
  | .modelLoad q addr => q.fields ++ [(addr, 8)]
  | .modelUnload q model => q.fields ++ [(model, 4)]
  | .sessionOpen q _ => q.fields
  | .sessionFeed q session count addr => q.fields ++ [(session, 4), (count, 4), (addr, 8)]
  | .sessionClose q session => q.fields ++ [(session, 4)]
  | .sessionQuery q session => q.fields ++ [(session, 4)]
  | .slipRead q session flags out => q.fields ++ [(session, 4), (flags, 1)] ++ out.fields
  | .streamReserveSet q die reserve => q.fields ++ [(die, 1), (reserve, 4)]
  | .sessionReplace q session placement => q.fields ++ [(session, 4), (placement, 2)]
  | .zalPortBind q port owner => q.fields ++ [(port, 1), (owner, 1)]
  | .zalPortEnable q port enable => q.fields ++ [(port, 1), (enable, 1)]
  | .zalTimeoutSet q port micros => q.fields ++ [(port, 1), (micros, 4)]
  | .zalApertureAllot q port first count => q.fields ++ [(port, 1), (first, 2), (count, 2)]
  | .zalApertureWrite q port entry _ => q.fields ++ [(port, 1), (entry, 2)]
  | .zalApertureCommit q port => q.fields ++ [(port, 1)]
  | .zalPageMap q port _ => q.fields ++ [(port, 1)]
  | .zalPageUnmap q port space va => q.fields ++ [(port, 1), (space, 1), (va, 8)]
  | .zalPageQuotaSet q part entries => q.fields ++ [(part, 1), (entries, 4)]
  | .zalCountsClear q port mask => q.fields ++ [(port, 1), (mask, 1)]
  | .dfStreamOpen q submitter port inst doorbell log2 vector flags sqAddr cqAddr stagingBase stagingLength ltDie ltSlot => q.fields ++ [(submitter, 1), (port, 1), (inst, 2), (doorbell, 1), (log2, 1), (vector, 1), (flags, 1), (sqAddr, 8), (cqAddr, 8), (stagingBase, 8), (stagingLength, 8), (ltDie, 1), (ltSlot, 1)]
  | .dfStreamClose q stream => q.fields ++ [(stream, 2)]
  | .dfAbort q stream index => q.fields ++ [(stream, 2), (index, 4)]
  | .dfDoorbell _ inst _ posted => [(inst, 2), (posted, 4)]
  | .namespaceCreate q nsid owner backing port flags source target keySlot base size => q.fields ++ [(nsid, 4), (owner, 1), (backing, 1), (port, 1), (flags, 1), (source, 4), (target, 2), (keySlot, 2), (base, 8), (size, 8)]
  | .namespaceDelete q nsid => q.fields ++ [(nsid, 4)]
  | .namespaceAttach q nsid inst => q.fields ++ [(nsid, 4), (inst, 2)]
  | .namespaceDetach q nsid inst => q.fields ++ [(nsid, 4), (inst, 2)]
  | .fabricTargetAdd q port flags ownerEntry egressQueue dscp remoteIp localIp nextHopMac nqn _ => q.fields ++ [(port, 1), (flags, 1), (ownerEntry, 2), (egressQueue, 2), (dscp, 1), (remoteIp, 16), (localIp, 16), (nextHopMac, 8)] ++ nqn.fields
  | .storagePowerPolicy q pipeline deepest => q.fields ++ [(pipeline, 1), (deepest, 1)]
  | .storageQuery q kind pipeline nsid => q.fields ++ [(kind, 1), (pipeline, 1), (nsid, 4)]
  | .bulkQueueCreate q doorbell log2 vector sqAddr cqAddr => q.fields ++ [(doorbell, 1), (log2, 1), (vector, 1), (sqAddr, 8), (cqAddr, 8)]
  | .bulkQueueDelete q doorbell => q.fields ++ [(doorbell, 1)]
  | .settings q port mode flags pfcClasses maxFrame => q.fields ++ [(port, 1), (mode, 1), (flags, 1), (pfcClasses, 1), (maxFrame, 2)]
  | .ownerWrite q port entry mac vid owner flags => q.fields ++ [(port, 1), (entry, 2), (mac, 8), (vid, 2), (owner, 1), (flags, 1)]
  | .ownerClear q port entry => q.fields ++ [(port, 1), (entry, 2)]
  | .countsClear q port => q.fields ++ [(port, 1)]
  | .privetProgramLoad q program _ => q.fields ++ program.fields
  | .privetShareSet q owner clusters base size cacheLimit => q.fields ++ [(owner, 1), (clusters, 8), (base, 1), (size, 1), (cacheLimit, 4)]
  | .tableCreate q table owner kl log2 flags base seed1 seed2 => q.fields ++ [(table, 1), (owner, 1), (kl, 1), (log2, 1), (flags, 1), (base, 8), (seed1, 4), (seed2, 4)]
  | .tableUpdate q table count records _ => q.fields ++ [(table, 1), (count, 4)] ++ records.fields
  | .tableDelete q table => q.fields ++ [(table, 1)]
  | .ringCreate q kind log2 doorbell vector sqAddr cqAddr => q.fields ++ [(kind, 1), (log2, 1), (doorbell, 1), (vector, 1), (sqAddr, 8), (cqAddr, 8)]
  | .ringDelete q ring => q.fields ++ [(ring, 2)]
  | .exceptionRingSet q ring log2 addr slots => q.fields ++ [(ring, 2), (log2, 1), (addr, 8), (slots, 8)]
  | .rdmaQpCreate q port flags mtu retry entry queue localIp remoteIp mac dscp remoteQpn timeout startPsn windowBase windowLength expectedPsn => q.fields ++ [(port, 1), (flags, 1), (mtu, 1), (retry, 1), (entry, 2), (queue, 2), (localIp, 16), (remoteIp, 16), (mac, 8), (dscp, 1), (remoteQpn, 4), (timeout, 1), (startPsn, 4), (windowBase, 8), (windowLength, 8), (expectedPsn, 4)]
  | .rdmaQpDestroy q qpn => q.fields ++ [(qpn, 4)]
  | .tmQueueConfig q queue owner port cls flags weight limit => q.fields ++ [(queue, 2), (owner, 1), (port, 1), (cls, 1), (flags, 1), (weight, 2), (limit, 4)]
  | .tmPolicerSet q policer owner flags source cir pir cbs pbs yellow red => q.fields ++ [(policer, 2), (owner, 1), (flags, 1), (source, 1), (cir, 4), (pir, 4), (cbs, 4), (pbs, 4), (yellow, 8), (red, 8)]
  | .tmShaperSet q queue flags cir pir cbs pbs => q.fields ++ [(queue, 2), (flags, 1), (cir, 4), (pir, 4), (cbs, 4), (pbs, 4)]
  | .tmOverheadSet q port overhead => q.fields ++ [(port, 1), (overhead, 1)]
  | .tmCountsRead q kind index => q.fields ++ [(kind, 1), (index, 2)]
  | .gateListArm q port bank count cycleTime changeover list _ => q.fields ++ [(port, 1), (bank, 1), (count, 2), (cycleTime, 8), (changeover, 8)] ++ list.fields
  | .partitionKeyInit q part => q.fields ++ [(part, 1)]
  | .establish q slot len data _ => q.fields ++ [(slot, 2), (len, 4)] ++ data.fields
  | .wrapped q slot len data _ => q.fields ++ [(slot, 2), (len, 4)] ++ data.fields
  | .keyDestroy q slot => q.fields ++ [(slot, 2)]
  | .keySlotQuery q first count out => q.fields ++ [(first, 2), (count, 2)] ++ out.fields
  | .keySlotQuotaSet q part slots => q.fields ++ [(part, 1), (slots, 4)]
  | .attestQuote q kind part _ out => q.fields ++ [(kind, 1), (part, 1)] ++ out.fields
  | .quoteSigningComplete => []
  | .measurementRead q scope first count out => q.fields ++ [(scope, 1), (first, 4), (count, 4)] ++ out.fields
  | .ckpGroupCreate q g => q.fields ++ g.fields
  | .ckpGroupDelete q groupId => q.fields ++ [(groupId, 8)]
  | .ckpConfig q count ranges _ => q.fields ++ [(count, 2)] ++ ranges.fields
  | .ckpStatus q => q.fields
  | .ckpDigest q generation out => q.fields ++ [(generation, 8)] ++ out.fields
  | .ckpSpareAssign q member _ => q.fields ++ [(member, 1)]
  | .ckpStandby q g => q.fields ++ g.fields
  | .ckpWarningSet q memory replays fec flags holdoff => q.fields ++ [(memory, 4), (replays, 4), (fec, 4), (flags, 1), (holdoff, 4)]
  | .powerQuery q => q.fields
  | .powerLevelSet q level => q.fields ++ [(level, 1)]
  | .powerCapSet q watts => q.fields ++ [(watts, 4)]
  | .thermalQuery q => q.fields
  | .fwStage q image _ => q.fields ++ image.fields
  | .fwActivateLive q flags => q.fields ++ [(flags, 1)]
  | .fwActivateReset q flags => q.fields ++ [(flags, 1)]
  | .fwQuery q => q.fields
  | .fwDiscard q => q.fields
  | .unitOutOfService q unit => q.fields ++ [(unit, 2)]
  | .bistRun q unit kind patterns => q.fields ++ [(unit, 2), (kind, 1), (patterns, 1)]
  | .bistComplete unit misr expected failing _ => [(unit, 2), (misr, 8), (expected, 8), (failing, 2)]
  | .unitReturn q unit => q.fields ++ [(unit, 2)]
  | .testQuery q unit out => q.fields ++ [(unit, 2)] ++ out.fields
  | .counterConfig q unit counter event flags part master mask cls ctrl lo hi value slot => q.fields ++ [(unit, 2), (counter, 1), (event, 1), (flags, 1), (part, 1), (master, 2), (mask, 2), (cls, 1), (ctrl, 1), (lo, 8), (hi, 8), (value, 8), (slot, 1)]
  | .counterRead q count units out _ => q.fields ++ [(count, 2)] ++ units.fields ++ out.fields
  | .counterCapture => []
  | .tenantCounterAccess q part allow => q.fields ++ [(part, 1), (allow, 1)]
  | .telemetryRingSet q addr log2 vector => q.fields ++ [(addr, 8), (log2, 1), (vector, 1)]
  | .errorLogRead q first count out => q.fields ++ [(first, 4), (count, 2)] ++ out.fields
  | .accel _ => []
  | .accelReply _ _ => []
  | .accelTimeout _ => []
  | .sensors _ => []
  | .counters _ => []
  | .telemetryRecordWrite consumed => [(consumed, 8)]
  | .createIoSq c qid size _ _ cqid => c.fields ++ [(qid, 2), (size, 2), (cqid, 2)]
  | .deleteIoSq c qid => c.fields ++ [(qid, 2)]
  | .createIoCq c qid size _ _ vector => c.fields ++ [(qid, 2), (size, 2), (vector, 2)]
  | .deleteIoCq c qid => c.fields ++ [(qid, 2)]
  | .getLogPage c lid numd offset => c.fields ++ [(lid, 1), (numd, 4), (offset, 8)]
  | .identify c cns => c.fields ++ [(cns, 1)]
  | .nvmeAbort c sqid cid => c.fields ++ [(sqid, 2), (cid, 2)]
  | .setFeatures c fid _ dw11 _ => c.fields ++ [(fid, 1), (dw11, 4)]
  | .getFeatures c fid => c.fields ++ [(fid, 1)]
  | .asynchronousEventRequest c => c.fields
  | .nvmeFlush c => c.fields
  | .nvmeWrite c slba nlb _ => c.fields ++ [(slba, 8), (nlb, 4)]
  | .nvmeRead c slba nlb => c.fields ++ [(slba, 8), (nlb, 4)]
  | .writeZeroes c slba nlb => c.fields ++ [(slba, 8), (nlb, 4)]
  | .datasetManagement c _ count _ => c.fields ++ [(count, 2)]
  | .nvmeSqDoorbell _ inst qid tail => [(inst, 2), (qid, 2), (tail, 2)]
  | .nvmeCqDoorbell _ inst qid head => [(inst, 2), (qid, 2), (head, 2)]
  | .controllerEnable _ inst cc => [(inst, 2), (cc, 4)]
  | .controllerReset _ inst cc => [(inst, 2), (cc, 4)]
  | .shutdownNotification _ inst cc => [(inst, 2), (cc, 4)]
  | .bulkDoorbell _ inst _ posted => [(inst, 2), (posted, 4)]
  | .bulkRead inst _ c => [(inst, 2)] ++ c.fields
  | .bulkWrite inst _ c => [(inst, 2)] ++ c.fields
  | .bulkWriteZeroes inst _ c => [(inst, 2)] ++ c.fields
  | .bulkFlush inst _ c => [(inst, 2)] ++ c.fields
  | .bulkFill inst _ c => [(inst, 2)] ++ c.fields
  | .bulkCopy inst _ c => [(inst, 2)] ++ c.fields
  | .storageCompletion op result _ => [(op, 2), (result, 1)]
  | .backingWaitTimeout op => [(op, 2)]
  | .backingReconnect _ index _ speed width => [(index, 2), (speed, 1), (width, 1)]
  | .apstTransition inst => [(inst, 2)]
  | .pipelineHoldExpiry _ => []
  | .frameReceive _ _ fecCorrected fecUncorrectable => [(fecCorrected, 4), (fecUncorrectable, 4)]
  | .pfcRepeat _ _ => []
  | .pfcPauseExpiry _ _ => []
  | .frameDispatch _ cycle => [(cycle, 8)]
  | .frameRelease _ => []
  | .roceReceive _ => []
  | .roceAckTimeout qpn => [(qpn, 4)]
  | .roceRateIncrease qpn => [(qpn, 4)]
  | .packetDoorbell _ inst _ posted _ => [(inst, 2), (posted, 4)]
  | .txDescriptor ring _ _ => [(ring, 2)]
  | .frameTransmit _ => []
  | .bucketRefill => []
  | .gateEntryChange _ => []
  | .gateChangeover _ => []
  | .alarm _ => []
  | .alarmClear => []
  | .entropyTestFail _ => []
  | .entropyWaitTimeout => []
  | .maskingDrbgReseed _ => []
  | .doeDiscovery _ index => [(index, 1)]
  | .doeAttestation _ _ => []
  | .setEndpointId _ eid => [(eid, 1)]
  | .pldmRequest _ type sensor => [(type, 1), (sensor, 2)]
  | .pldmFirmwareUpdate _ _ => []
  | .bypass _ => []
  | .idcode _ => []
  | .samplePreload _ _ _ => []
  | .extest _ => []
  | .clamp _ => []
  | .highz _ => []
  | .entropySourceRestored _ => []
  | .modelLoadComplete op => [(op, 4)]
  | .sessionLoadComplete session => [(session, 4)]
  | .fwStageComplete op => [(op, 4)]
  | .closeDeliveryTimeout session => [(session, 4)]
  | .zalTagReuseExpiry _ tag => [(tag, 2)]
  | .zalLinkUp _ _ _ => []
  | .ethLinkUp _ => []
  | .storageLinkDown _ => []
  | .fabricTargetTimeout target => [(target, 2)]
  | .copyComplete op => [(op, 4)]

/-- A command is well formed: each of its fields fits its width. -/
def Instr.wellFormed (i : Instr) : Bool := i.fields.all fun f => decide (f.1 < 256 ^ f.2)

end Sys2Proof
end

