-- ==== Sys2Proof/Tests/Slice0.lean ====
section
/-! SUPPORT. The model's own tests: for every statement a state and operands that meet all hypotheses of each clause, the
well-formedness checks, and single steps against worked examples of the spec. -/

open Sys2Proof Sys2Proof.Machine

namespace Sys2Proof.Wit
set_option Elab.async false

/-! ### Checks of hypotheses -/

/-- `Served`, computed. -/
def servedB (s : State) (q : Req) (op len : Nat) (snd : Sender) : Bool :=
  mbxFetches s q.mbx && (match (s.mbx q.mbx).session with
    | none => false
    | some ses => !headerBad q ses (wrap32 ((s.mbx q.mbx).fetched + 1)) len && supported ses op) &&
  snd.admits (whoOf s q.mbx) && !q.bodyBad
theorem servedOf {s : State} {q : Req} {op len : Nat} {snd : Sender} (h : servedB s q op len snd = true) : Served s q op len snd := by
  simp only [servedB, Bool.and_eq_true, Bool.not_eq_true'] at h
  obtain ⟨⟨⟨h1, h2⟩, h3⟩, h4⟩ := h
  split at h2
  · cases h2
  · next ses hs =>
    simp only [Bool.and_eq_true, Bool.not_eq_true'] at h2
    exact ⟨h1, ⟨ses, hs, h2.1, h2.2⟩, h3, h4⟩
/-- What a buffer read answers, computed. -/
theorem okOf {r : Except Nat Bytes} {b : Bytes} (h : (match r with | .ok x => decide (x = b) | _ => false) = true) : r = .ok b := by
  cases r with
  | error e => cases h
  | ok x => exact congrArg _ (of_decide_eq_true h)
/-- A property of every entry of a table, computed. -/
theorem allMem {α : Type} {l : Tbl α} {P : Nat → α → Prop} [∀ k x, Decidable (P k x)] (h : (List.all l fun e => decide (P e.1 e.2)) = true) :
    ∀ k x, (k, x) ∈ l → P k x := by
  intro k x hm
  exact of_decide_eq_true (List.all_eq_true.mp h (k, x) hm)
/-- A property of what an option holds, computed. -/
theorem allSome {α : Type} {o : Option α} {P : α → Prop} [∀ x, Decidable (P x)] (h : (o.all fun x => decide (P x)) = true) :
    ∀ x, o = some x → P x := by
  intro x hx
  subst hx
  exact of_decide_eq_true h

/-- A store that is done, computed. -/
theorem existsDone {α : Type} {r : α × State} {a : α} (h : r.1 = a) : ∃ t, r = (a, t) := ⟨r.2, by rw [← h]⟩
/-- A list of lists is empty from its third member on, computed. -/
theorem allFrom {α : Type} {l : List (List α)} (h : ((l.drop 2).all List.isEmpty) = true) : ∀ j, 2 ≤ j → l.getD j [] = [] := by
  intro j hj
  by_cases hl : j < l.length
  · have hm : l[j] ∈ l.drop 2 := List.mem_drop_iff_getElem.mpr ⟨j - 2, by omega, by congr 1; omega⟩
    rw [List.getD_eq_getElem?_getD, List.getElem?_eq_getElem hl]
    exact List.isEmpty_iff.mp (List.all_eq_true.mp h _ hm)
  · rw [List.getD_eq_getElem?_getD, List.getElem?_eq_none (by omega)]
    rfl
/-- Port 3 is the only Ethernet port that the table lists, and no share is loading: computed. -/
theorem quiet3 {s : State} {e : EthPort} (h : s.pkt.ports = [(3, e)]) (hs : (s.pkt.shares.all fun x => decide (x.2.loading = [])) = true) :
    QuietExcept s 3 := by
  refine ⟨fun k hk => ?_, fun o x hm => of_decide_eq_true (List.all_eq_true.mp hs (o, x) hm)⟩
  have : s.eth k = {} := by
    simp only [State.eth, h, Tbl.getD, Tbl.get?]
    rw [if_neg (fun h => hk h.symm)]
    rfl
  rw [this]
  exact ⟨rfl, rfl⟩

/-! ### States -/

/-- Features 0 to 16 of a session. -/
def mb : Mailbox := { enable := true, posted := 1, session := some { level := 3, features := 0x1FFFF, driverVersion := 1 } }
def hp : HostPort := { linkUp := true, driverPresent := true, bme := true, mse := true, width := 8, speed := 6, advertised := 6 }
def part : Partition :=
  { stopPolicy := false, tenantCounters := false, trackerQuota := 100, residentQuota := 100, keyQuota := 4, pageQuota := 100 }
def inst : Instance := { part := 2, port := 0, pasid := none, vectorBase := 10, vectorCount := 8 }
/-- A module at FULL, with partition 2, its instance 5, and sessions on the operator's mailbox and the instance's. -/
def up : State := {
  boot := { level := 3, rom := true }, clk := { lc := 1000, rootLocked := true }
  ports := [(0, hp), (1, hp)], parts := [(2, part)], insts := [(5, inst)], mbxs := [(5, mb), (0x400, mb), (0x401, mb)] }
/-- A request of a mailbox, its body's length given. -/
def rq (m len : Nat) : Req := { mbx := m, level := 3, index := 1, len := len, cookie := 7, hdrBad := false, bodyBad := false }
/-- `up` with other power registers. -/
def pw (p : Power) : State := { up with power := p, time := 2000000000 }
/-- The module before its boot ROM has run. -/
def cold : State := { clk := { lc := 1000, rootLocked := true } }
def bimg : BootImage :=
  { verifies := true, fwVersion := 7, securityVersion := 0, levelMax := 3, liveCapable := true, keyIndex := 0, digest := zeros 32 }
def params : SessParams :=
  { model := 1, speculative := false, tenantSeed := false, ringInHost := true, verifier := 0, workBias := 0, start := 0, outRing := 4096
    outLog2 := 4, inst := 5, streamId := 3, maxNew := 0, fallback := 99, stop := [], temperature := 0, topK := 0
    topP := 0x3F800000, minP := 0, bias := [], verdictTimeout := 1000000 }
/-- A session of partition 2 on group 0. -/
def sess : YewSession := { part := 2, params := params, placement := 0, groups := [0], channel := 0, state := .running, input := [5] }
def grp : Group := { state := .assigned, owner := 2 }
def header : ImageHeader :=
  { totalSize := 65536, placements := 1, speculative := false, mode := 0, kinds := 1, maxDraft := 0, vocab := 100, context := 1000
    loadBase := 0, workBase := 1048576, workSize := 1048576, shadowOffset := 0, shadowSize := 65536 }
def model : Model := { part := 2, header := header, sections := [], usesCustom := false }
/-- Group 0 assigned to partition 2, with or without a session. -/
def yew : State := { up with groups := [(0, grp)] }
def ys (v : YewSession) : State :=
  { up with groups := [(0, { grp with session := some 4 })], sessions := [(4, v)], models := [(1, model)] }
def table1 : LaunchTable := { base := 0, period := 0, latePolicy := 0, rollForward := false, kind := 1, entries := [⟨100, 1, 0, 0⟩] }
def bytes1 : Bytes := zeros 16 ++ le 2 1 ++ zeros 2 ++ le 4 1 ++ zeros 8 ++ le 8 100 ++ le 2 1 ++ zeros 6
def hostBuf (n : Nat) : BufRef := { addr := 0x100000, len := n, space := 1 }
/-- A tile's table with one entry of an action, due at 100. -/
def entry (action arg : Nat) : LaunchEntry := { offset := 100, action := action, policy := 0, arg := arg }
def tileTable (action arg : Nat) : LaunchTable :=
  { base := 0, period := 2000, latePolicy := 0, rollForward := false, kind := 5, entries := [entry action arg] }
/-- Session 4 as `v` runs on group 0; every tile's next entry has the action. -/
def running (v : YewSession) (action arg : Nat) : State :=
  { ys v with launch := (List.range 8).map fun t => (slotKey 5 t 0, { active := some (tileTable action arg) }) }
def inEp : YewSession := { sess with inEpoch := true, epochStart := 0 }
def draw1 : Draw := { token := 17, prob := 0x3F800000, fallback := false }
def land1 : Landing := { base := 4096, length := 64, expected := 32, fill := 0, deviceReleased := true, lastReads := [] }
def verdictMsg (accepted stop correction round : Nat) : ZalReq :=
  { gen := 0, status := 0, tag := 0, aux := 0, addr := 0, cells := 2, bad := false
    data := le 4 3 ++ zeros 4 ++ le 8 round ++ le 1 accepted ++ le 1 stop ++ zeros 2 ++ le 4 correction ++ zeros 8 }
def await1 : Awaited := { round := 6, position := 10, drafts := [draw1, draw1], sentAt := some 0 }
def spec1 : YewSession := { sess with params := { params with speculative := true, verifier := 3 }, awaited := some await1 }
def zalUp : ZalPort := { link := .up, inService := true, owner := 2, credits := [(0, 500), (1, 500), (2, 500), (3, 500), (4, 500)] }
def spec (v : YewSession) : State := { ys v with link := { ports := [(3, zalUp)] } }
def lop (d : OpData) : LongOp := { mbx := 5, sessionNo := 0, token := 9, opcode := 0x0504, index := 3, cookie := 8, data := d }
/-- Bytes in slot 0 of a partition's plot space, bound to plot 5 of die 0, with its key; four stacks in the map. -/
def plots (s : State) (m : Mem) : State :=
  { s with
    dram := { bytes := m.map fun c => (c.1 + 5 * 2 ^ 30, c.2), map0 := [0, 1, 2, 3], map1 := [4, 5, 6, 7], quickset := false
              plots := [(5, { state := .assigned, owner := 2, slot := some 0 }), (6, { state := .assigned, owner := 16, slot := some 0, clear := true })]
              slots := [(2048, 5), (16384, 6)] }
    sec := { s.sec with memKeys := [(2, { key := some (zeros 64), imported := false, check := [] })] } }
def placementSec : Section := { type := 1, placement := 0, variant := 0xFF, kind := 0xFF, tile := 0xFFFF, offset := 4096, length := 9 }
def model2 : Model := { model with sections := [placementSec] }
/-- Partition 2 with a loaded image of one placement on group 0. -/
def loaded_ : State :=
  { plots yew (Mem.writeN [] 4096 (le 1 1 ++ zeros 8)) with models := [(1, model2)] }
def openBytes : Bytes :=
  le 4 1 ++ le 2 0xFFFF ++ zeros 10 ++ zeros 8 ++ le 8 0x400000 ++ le 1 6 ++ zeros 1 ++ le 2 5 ++ zeros 44 ++ le 4 0 ++ zeros 4 ++
    le 4 0x3F800000 ++ zeros 36
/-- A Privet core (0, 3) and the sequencer of tile 6, each about to issue, g1 and g2 given. -/
def kn (a b fl : Nat) : State :=
  { up with
    cores := [(3, { regs := [(1, BitVec.ofNat 64 a), (2, BitVec.ofNat 64 b)], flags := fl, running := true, first := true, owner := 2, pktLen := 100
                    packet := (List.range 100).map (BitVec.ofNat 8 ·), scratch := Mem.writeN [] 0 ((List.range 40).map fun k => BitVec.ofNat 8 (200 - k)) }),
              (1030, { regs := [(1, BitVec.ofNat 64 a), (2, BitVec.ofNat 64 b)], flags := fl, running := true, first := true, stepBase := 5, pc := 7 })]
    tiles := [(6, { sram := Mem.writeN [] 0 ((List.range 40).map fun k => BitVec.ofNat 8 (200 - k)) })] }
def isP (slot : Fin 4) : Issue := ⟨.privet 0 3, slot, 40⟩
def isY (slot : Fin 4) : Issue := ⟨.yew 6, slot, 40⟩
/-- `kn` with the Privet core or the sequencer changed. -/
def knP (f : Core → Core) : State := (kn 8 3 4).modCore 3 f
def knY (f : Core → Core) : State := (kn 8 3 4).modCore 1030 f
def tbl1 : MatchTable := { owner := 2, kl := 16, log2 := 10, cache := false, base := 0x100000, seed1 := 1, seed2 := 2 }
/-- A matrix command's word. -/
def mw (op wf af acc start int a w as_ ws rows : Nat) : Nat :=
  op + wf * 2 ^ 4 + af * 2 ^ 8 + acc * 2 ^ 12 + start * 2 ^ 14 + int * 2 ^ 15 + a * 2 ^ 16 + w * 2 ^ 40 + as_ * 2 ^ 64 + ws * 2 ^ 88 + rows * 2 ^ 112
/-- A vector command's word. -/
def vw (op vd va vb vc srcb addr fmt imm : Nat) : Nat :=
  op + vd * 2 ^ 8 + va * 2 ^ 13 + vb * 2 ^ 18 + vc * 2 ^ 23 + srcb * 2 ^ 28 + addr * 2 ^ 32 + fmt * 2 ^ 56 + imm * 2 ^ 64
/-- A tile of a running session, its sequencer about to issue a tensor command from (g1, g2). -/
def tn (x : Tile) (c : Nat) : State :=
  { ys sess with
    cores := [(1030, { regs := [(1, BitVec.ofNat 64 c), (2, BitVec.ofNat 64 (c / 2 ^ 64))], running := true, first := true, stepBase := 5, pc := 7 })]
    tiles := [(6, x)] }
def tx : Tile := { sram := Mem.writeN [] 0 ((List.range 40).map fun k => BitVec.ofNat 8 (200 - k)) }
/-- A send command's word. -/
def swd (src dst slot group len : Nat) : Nat := src + dst * 2 ^ 24 + slot * 2 ^ 48 + group * 2 ^ 51 + len * 2 ^ 64
/-- A gateway command's word. -/
def gw (op sram len addr : Nat) : Nat := op + sram * 4 + len * 2 ^ 32 + addr * 2 ^ 64
/-- Tile 6 of the running session, with plot bytes. -/
def gt (x : Tile) (m : Mem) : State := plots (tn x 0) m
def meshMsg : MeshMsg := { dst := 6, addr := 4100, data := [1, 2, 3, 4], part := 2, arrive := 0, src := 7, session := 4, reads := [], gateway := false, badWords := [] }
/-- An image whose one section has no type that the spec knows. -/
def tinyImage : Bytes :=
  le 4 0x4D49595A ++ le 2 1 ++ le 2 0x80 ++ le 8 4096 ++ le 2 1 ++ le 2 1 ++ le 4 3 ++ le 1 1 ++ le 1 1 ++ le 2 0 ++ le 4 100 ++ le 4 1000 ++
    zeros 4 ++ le 8 128 ++ le 8 0 ++ le 8 1048576 ++ le 8 4096 ++ zeros 56 ++ le 2 99 ++ zeros 30
def loadingTiny : State := { plots yew (Mem.writeN [] 0 tinyImage) with longOps := [(0, lop (.modelLoad 2 0 64))] }
def pat : List Nat := [0, 1, 2, 0x80000000, 0x3F800000, 0xBF800000, 0x7F800000, 0xFF800000, 0x7FC00001, 0xFFFFFFFF, 0x7FFFFFFF, 0x40490FDB, 0x00000012, 0x80000012, 0x4F000000, 0xCF000001, 0x7F7FFFFF, 0x3F000001, 31, 33]
def vreg1 : List W32 := (List.range 256).map fun k => BitVec.ofNat 32 (pat.getD (k % 20) 0 + k / 40)
def vreg2 : List W32 := (List.range 256).map fun k => BitVec.ofNat 32 (pat.getD ((k / 20 + 7 * (k % 20)) % 20) 0)
def vreg3 : List W32 := (List.range 256).map fun k => BitVec.ofNat 32 (pat.getD ((k / 11 + 3 * (k % 20)) % 20) 0)
def vtile (w : Nat) : Tile := { tx with qVector := [w, 5], vregs := [(1, vreg1), (2, vreg2), (3, vreg3)], step := some { entry := 1, release := 2, due := 3, busyUntil := 50 }
                                        lanes := [{ due := 99, acc := false, index := 2, value := vreg3 }, { due := 400, acc := false, index := 2, value := vreg1 }] }
def vst (w md : Nat) : State := { tn (vtile w) 0 with cores := [(1030, { running := true, amode := BitVec.ofNat _ md, stepBase := 5, pc := 7 })] }
def map10 : Nat := packMap (List.range 10)
def map8 : Nat := packMap (List.range 8)
/-- Port 3 of partition 2, in service. -/
def zb : ZalPort := { zalUp with rxMap := map10, txMap := map10, initSent := true, peerLimit := 100, unacked := [7, 8] }
/-- Port 3 as given; its unit in service; partition 2 with plots 5 and 7, their memory key held. -/
def zs (z : ZalPort) : State :=
  { plots up [(64, 1), (100, 2)] with
    units := [(uZal 3, { state := .inService })], link := { ports := [(3, z)] }, tracker := [(9, { held := true, owner := 2, gen := 1 })] }
def zl (s : State) (f : Link → Link) : State := { s with link := f s.link }
/-- A flit with its CRC. -/
def fl (b : Bytes) : Bytes := let c := padTo 504 b; c ++ le 8 (crc64 c)
def zreq (aux : Nat) (addr : Nat) (cells : Nat) (d : Bytes) : ZalReq := { gen := 1, status := 0, tag := 7, aux := aux, addr := addr, cells := cells, data := d, bad := false }
def aper1 : Aperture := { base := 0x100000, length := 0x2000, target := 0, read := true, write := true, valid := true }
/-- Port 3 with one aperture. -/
def za (z : ZalPort) : State := zl (zs z) fun l => { l with allot := [(10, 3)], aperA := [(10, aper1)], aperB := [(10, aper1)] }
def page1 : PageEntry := { va := 0x40000, space := 5, read := true, write := false, size := 1, target := 0x100000, port := 3 }
def pg0 : PageEntry := { page1 with size := 0 }
def rq1 : ZalRequest := { issued := 0, timeout := 1, op := 9, flush := true, timedOut := false }
def desc1 : Descriptor :=
  { srcKind := 2, cipher := 0, codec := 0, ordered := false, timed := false, keySlot := 0, dstPort := 3, src := 64, src2 := 0, src3 := 0, bytes := 64
    dstAddr := 480, rowBytes := 32, rows := 2, stride := 64, burst := 6 }
def descBytes : Bytes := le 1 2 ++ zeros 5 ++ le 1 3 ++ zeros 1 ++ le 8 64 ++ le 4 64 ++ zeros 12 ++ le 8 480 ++ le 4 32 ++ le 4 2 ++ le 8 64 ++ zeros 8
def drun (st : DfStage) : DfRun := { stream := 12, desc := desc1, stage := st, index := 0, zalTag := 7, zalGen := 1 }
def dstream : DfStream :=
  { owner := 2, port := some 3, inst := 0, doorbell := 0, log2 := 0, vector := 0, sqAddr := 0, cqAddr := 0, staging := none, launch := none }
def accq : AccRequest := { msg := { op := 3, gen := 1, tag := 7 }, copy := false, op := some 9 }
def cx1 : Context := { owner := 2, die := 0, resident := true, pinned := false, since := 0, lastRun := 0, wanted := false }
/-- Port 3 with stream 12 and a descriptor at a stage. -/
def df (st : DfStage) (z : ZalPort) : State :=
  { zl (zs { z with accOut := [(16 * 7 + 1, accq)] }) (fun l => { l with streams := [(12, dstream)], runs := [(9, drun st)] }) with ctxs := [(cxStream 12, cx1)] }
def answerReq (tag : Nat) : ZalReq := { gen := 0, status := 0, tag := tag, aux := 0, addr := 0, cells := 0, data := [], bad := false }
/-- Stream 12 of instance 5. -/
def istream : DfStream := { dstream with port := none, inst := 5, doorbell := 4, log2 := 4, vector := 0xFF, sqAddr := 0x1000, cqAddr := 0x2000, posted := 3 }
def dstr (st : DfStream) : State := { zl (zs zb) (fun l => { l with streams := [(12, st)] }) with ctxs := [(cxStream 12, cx1)] }
def btab (policy : Nat) : LaunchTable := { tileTable 1 6 with kind := 1, latePolicy := policy, base := 900 }
def brs (policy : Nat) (runs : Tbl DfRun) : State :=
  { zl (dstr { dstream with launch := some (slotKey 1 0 2) }) (fun l => { l with runs := runs, ports := [(3, { zb with credits := [(2, 500)] })] }) with
    launch := [(slotKey 1 0 2, { active := some (btab policy) })] }
def buf0 : BufRef := { addr := 0, len := 0, space := 0 }
def zpage : Bytes := le 6 (0x40000 / 4096) ++ le 1 5 ++ le 1 (1 + 2 + 1 * 8) ++ le 8 0x100000
def zaper : Bytes := le 8 0x200000 ++ le 8 4096 ++ le 8 0x8000 ++ le 1 7 ++ zeros 7
def bytes64 : Bytes := (List.range 64).map (BitVec.ofNat 8 ·)
def gen0 : GenRun := { g := 4, step := 30, reason := 1, began := 0, phaseAt := 0, ranges := [(4096, 64)] }
/-- A group of three members of partition 2, areas in plot 6. -/
def grpOf (member : Nat) (r : Option GenRun) : CkpGroup :=
  { part := 2, member := member, n := 3, port := 0, captureTimeout := 1, groupId := 77, shardMax := 1048576, phaseTimeout := 1, ownerEntry := 0
    egressQueue := 0, peers := [], partMax := [0, 0, 0, 8192, 0, 0, 0, 0], own0 := 65536, own1 := 2097152, standby := false, formed := true
    areas := [6], ranges := [(4096, 64)], inService := [0, 1, 2], committed := 3, committedStep := 20, gen := r }
def ck (g : CkpGroup) : State := { zs { zb with credits := [(0, 500), (1, 500), (2, 500)], granted := [(0, 100), (2, 100)] } with ckp := some g, clk := { up.clk with lc := 1000000 } }
def ckN (g : CkpGroup) : State := { ck g with link := {} }
def snap (action arg : Nat) (g : CkpGroup) : State := { ck g with launch := [(slotKey 3 0 0, { active := some { tileTable action arg with kind := 3, base := 1000000 - 100 } })] }
def part0 : CkpPart := { next := 64, crc := 5 }
def capt : GenRun := { gen0 with snapAt := some 5, parts := [(3, part0)] }
def sw (aux addr : Nat) (cells : Nat) (d : Bytes) : ZalReq := { gen := 0, status := 0, tag := 0, aux := aux, addr := addr, cells := cells, data := d, bad := false }
def rec3 : CommitRecord := { g := 3, step := 20, reason := 1, partBytes := [0, 0, 0, 600], partCrc := [0, 0, 0, 9], deviceBytes := 64, deviceCrc := 0 }
def resto (g : CkpGroup) : CkpGroup := { g with restore := some ⟨2, []⟩, pages := [(1, rec3)], inService := [0, 1] }
def ckBody (n member : Nat) : CkpGroupBody :=
  { part := 2, member := member, n := n, port := 0, captureTimeout := 0, groupId := 77, shardMax := 1048576, phaseTimeout := 0, ownerEntry := 0, egressQueue := 0
    peers := hostBuf (48 * n), peersHost := .data (zeros (48 * n)), partMax := hostBuf 64, partMaxHost := .data (zeros 64), own0 := 0, own1 := 2097152 }
def noCk (link : Nat) : State := { ck (grpOf 0 none) with ckp := none, pkt := { owners := [(0, { mac := [], vid := 0, owner := 16, roce := true })], ports := [(0, { link := link })] } }
/-- Port 1 as given, the operator on port 0. -/
def hs (h : HostPort) : State := { up with ports := [(0, hp), (1, h)], insts := [], mbxs := [(0x400, mb), (0x401, mb)], crossings := [] }
def hr : HostRead := { issued := 0, missing := 8, op := none, inst := 0xFFFF, quarantined := false, length := 8, offset := 0 }
def inst1 : Instance := { Wit.inst with port := 1, vectorBase := 30 }
/-- Instances 5 of port 0 and 6 of port 1. -/
def is (i j : Instance) : State := { up with insts := [(5, i), (6, j)] }
def win1 : WinEntry := { barOffset := 2097152, length := 2097152, target := 0, owner := 2, read := true, write := true, valid := true }
def ws (w : WinEntry) : State := { plots up [(64, 1), (100, 2)] with ports := [(0, hp), (1, { hp with win := [(3, w)] })] }
def slot1 : KeySlot := { state := .loaded, owner := 2, alg := 1, modes := 1, usage := 2, dir := 3, fixed := [1, 2, 3, 4], nextCount := 7, key := zeros 32 }
def keys : State := { up with sec := { up.sec with slots := [(70, slot1)] } }
def iop : IoOp := { kind := .write, inst := 5, bulk := false, queue := 1, id := 9, nsid := 1, data := [(3, 4), (600, 5)], missing := 20 }
def cnt : PmcCounter := { count := 12345, ovf := true, holder := some 2, slot := 9 }
def bq : BulkQueue := { inst := 5, doorbell := 3, log2 := 4, vector := 1, sqAddr := 0, cqAddr := 0 }
def pend1 : IaldoEntry := { opcode := 0x0101, kind := 2, level := 3, index := 1, status := 0, token := 0, cookie := 7, time := 5, body := [1, 2] }
def off0 : Mailbox := { reqBase := 4096, rspBase := 8192 }
/-- The mailbox of port 1's function. -/
def hm (b : Mailbox) : State := { hs hp with mbxs := [(0x400, mb), (0x401, b)] }
/-- Four stacks a die in service, plot space as in `plots`. -/
def ms (m : Mem) : State := { plots up m with units := (List.range 8).map fun k => (uStack k, ({ state := .inService } : UnitRec)) }
def ds (s : State) (f : Dram → Dram) : State := { s with dram := f s.dram }
def dp : Plot := { state := .dirty, owner := 16 }
def lp : Plot := { state := .lost, owner := 2, slot := some 0 }
/-- A long operation 9 under way. -/
def lo (s : State) (d : OpData) : State := { s with longOps := [(9, lop d)] }
/-- Two plots of partition 2 and their slots. -/
def two : State := ds (ms []) fun d => { d with plots := [(5, { state := .assigned, owner := 2, slot := some 0 }), (7, { state := .assigned, owner := 2, slot := some 1 })], slots := [(2048, 5), (2049, 7)], bytes := [(5 * 2 ^ 30 + 64, 3), (5 * 2 ^ 30 + 90, 4), (7 * 2 ^ 30 + 0, 4), (8 * 2 ^ 30, 7)] }
def cat1 : Cat := { opcode := 0x0104, len := 0, sender := .operator, gates := [5] }
def mbOf (b : Mailbox) : State := { up with mbxs := [(5, b), (0x400, b), (0x401, b)] }
def ses2 : Session := { level := 2, features := 0x7F, driverVersion := 9 }
def noS : Mailbox := { mb with session := none, posted := 3 }
def vio1 : VioRecord := { time := 5, address := 0x123456, tag := 0x2005, kind := 2, length := 64, target := 0x30, accessor := 0xFFFF }
def fe (k : Nat) : FaultEntry := { time := 77, nonce := 5, unit := 3, kind := k, code := 9 }
def lo5 (d : OpData) : State := { up with longOps := [(9, lop d)] }
def fimg : FwImage := { liveCapable := true, levelMax := 3, securityVersion := 5, fwVersion := 6, keyIndex := 1, digest := zeros 32 }
def fwS (f : Firmware) : State := { up with fw := f, mbxs := [(5, mb), (0x400, mb), (0x401, mb)] }
def fwL (f : Firmware) : State := { fwS f with longOps := [(9, lop (.fwLive true false))] }
def imgB (v : Nat) : Bytes := le 4 0x57464C5A ++ le 2 1 ++ le 1 3 ++ le 1 1 ++ le 8 v ++ le 4 6 ++ le 4 0 ++ le 8 4 ++ zeros (96 + 4 + 29792)
def ctxUp : State := { up with ctxs := [(1, cx1), (3, { cx1 with pinned := true }), (4, { cx1 with owner := 3 }), (6, { cx1 with resident := false })] }
def dtab : Bytes := zeros 1024
def part3 : Partition := { part with stopPolicy := true, tenantCounters := true }
def trk (n : Nat) : State := { is Wit.inst { inst1 with part := 3 } with tracker := (List.range n).map fun k => (k, { held := true, owner := 2, gen := 1 }) }
def lau (s : State) : State := { s with units := (List.range 16).map fun k => (uLaurel k, ({ state := .inService } : UnitRec)) }
def asq : NvmeSq := { size := 3, base := 0x1000, cqid := 0, prio := 0, tail := 1, head := 3 }
def acq : NvmeCq := { size := 3, base := 0x2000, vector := 0, ien := true, head := 1, tail := 3 }
def isq : NvmeSq := { size := 7, base := 0x3000, cqid := 1, prio := 0, tail := 2, head := 1 }
def icq : NvmeCq := { size := 7, base := 0x4000, vector := 1, ien := false, head := 0, tail := 7, phase := false }
def icq0 : NvmeCq := { icq with tail := 6 }
def ct : Controller := { mqes := 0xFFF, cc := 1 + 6 * 65536 + 4 * 2 ^ 20, rdy := true, quickset := false, aqa := 3 + 3 * 65536, asq := 0x1000, acq := 0x2000, sqs := [(0, asq)], cqs := [(0, acq)] }
def ct1 : Controller := { ct with sqs := [(0, { asq with tail := 3 }), (1, isq)], cqs := [(0, acq), (1, icq0)] }
def nloc : Namespace := { owner := 2, backing := 1, port := 1, encrypt := false, source := 4, target := 0, keySlot := 0, base := 1000, size := 100, attached := [5] }
def nmem : Namespace := { nloc with backing := 3, base := 0, port := 0, size := 8 }
def pl : Pipeline := { link := true, speed := 5, width := 2 }
def cxs : Tbl Context := [(cxNvme 5 1, cx1), (cxBulk 5 3, cx1)]
/-- Instance 5 on port 0 with a controller, and what else the storage face holds. -/
def nv (c : Controller) (f : Storage → Storage) : State :=
  { plots (is Wit.inst inst1) [(64, 1), (100, 2)] with
    ctxs := cxs, stor := f { ctrls := [(5, c)], pipes := [(1, pl)], bulk := [(bulkKey 5 3, { bq with sqAddr := 0x5000, cqAddr := 0x6000, posted := 3, fetched := 2, completed := 17 })] }
    units := ((List.range 6).map fun k => (uStor k, ({ state := .inService } : UnitRec))) ++ (List.range 8).map fun k => (uStack k, ({ state := .inService } : UnitRec)) }
def bq1 : BulkQueue := { bq with sqAddr := 0x5000, cqAddr := 0x6000, posted := 3, fetched := 2, completed := 17 }
def sid (s : Storage) : Storage := s
def ns1 (n : Namespace) (s : Storage) : Storage := { s with spaces := [(9, n)] }
def oneOp (o : IoOp) (s : Storage) : Storage := { s with ops := [(7, o)], spaces := [(9, nloc)] }
def op1 : IoOp := { kind := .read, inst := 5, bulk := false, queue := 1, id := 9, nsid := 9, slba := 3, nlb := 2, pipe := 1, buffers := [(0x8000, 1024)], started := true }
def nc (sq nsid : Nat) (prp : List (Nat × Nat)) : NvmeCmd := { inst := 5, sq := sq, cid := 33, nsid := nsid, prp := prp }
def bc : BulkCmd := { flags := 1, space := 1, nsid := 9, slba := 3, nlb := 2, tag := 77, addr := 64, operand := 0, len := 0, bad := false }
/-- Two plots of partition 2 in the slots 0 and 1. -/
def nv2 (f : Storage → Storage) : State := ds (nv ct1 f) fun d => { d with plots := [(5, { state := .assigned, owner := 2, slot := some 0 }), (7, { state := .assigned, owner := 2, slot := some 1 })], slots := [(2048, 5), (2049, 7)], bytes := [(5 * 2 ^ 30 + 64, 1), (5 * 2 ^ 30 + 100, 2), (7 * 2 ^ 30 + 96, 4)] }
def ftgt : FabricTarget := { port := 3, config := zeros 64, nqn := [1, 2] }
def apst1 : List Nat := [8 * 2 + 256 * 3]
def ep : EthPort := { link := 2, mode := 2, speed := 2, rxFrames := 2 ^ 64 - 1, noOwner := 2 ^ 32 - 1, arrivals := 9 }
def macA : Bytes := [2, 0, 0, 0, 0, 9]
def own1 : OwnerEntry := { mac := macA, vid := 5, owner := 2, roce := false }
def sh : Share := { clusters := 2 + 2 ^ 40, base := 3, size := 2, cacheLimit := 100, program := some [7] }
def pk (f : Packet → Packet) : State :=
  { plots (is Wit.inst inst1) [(64, 1), (100, 2)] with
    pkt := f { ports := [(3, ep)], owners := [(3 * 1024 + 7, own1)] }, ctxs := [(cxRing 12, cx1), (cxRing 13, cx1)]
    units := [(uCluster 1, { state := .inService }), (uCluster 40, { state := .inService }), (uEth 3, { state := .inService })]  }
def pid (k : Packet) : Packet := k
def ports (e : EthPort) (k : Packet) : Packet := { k with ports := [(3, e)] }
/-- A frame without FCS, of a MAC, tag 5 and an EtherType, in all `n` bytes. -/
def fr (mac : Bytes) (ty : Nat) (l : Bytes) (n : Nat) : Bytes := padTo n (mac ++ [2, 0, 0, 0, 0, 1, 0x81, 0, 0x60, 5] ++ be 2 ty ++ l)
def fcs (d : Bytes) : Bytes := d ++ le 4 (crc32 d)
def raw1 : Bytes := fr macA 0x88B5 [1, 2, 3] 60
def rawO : Bytes := fr [2, 0, 0, 0, 0, 8] 0x88B5 [1, 2, 3] 60
def udp : Bytes := fr macA 0x0800 ([0x45, 0, 0, 40, 0, 0, 0, 0, 64, 17, 0, 0, 10, 0, 0, 1, 10, 0, 0, 2] ++ be 2 5000 ++ be 2 4791 ++ be 2 20 ++ be 2 0) 70
def ctl (op : Nat) (l : Bytes) : Bytes := padTo 60 ([1, 0x80, 0xC2, 0, 0, 1, 2, 0, 0, 0, 0, 1] ++ be 2 0x8808 ++ be 2 op ++ l)
def pfcF : Bytes := ctl 0x0101 (be 2 8 ++ zeros 6 ++ be 2 300)
def rf : RxFrame := { order := 9, port := 3, data := raw1, at_ := 1000, prio := 3, owner := 2, csum := 1, flow := 7 }
def ro (w : Nat) : EthPort := { ep with reorder := [{ frame := rf, state := .ended 18 [BitVec.ofNat 64 w, 5, 6, 7, 8, 9] }] }
def ring1 : PktRing := { inst := 5, owner := 2, tx := false, log2 := 6, doorbell := 4, vector := 1, sqAddr := 0x1000, cqAddr := 0x2000, posted := 3, fetched := 3, completed := 70, buffers := [(1, 0x8000, 30), (2, 0x9000, 2000)] }
def words1 (w : Nat) : List W64 := [BitVec.ofNat 64 w, 5, 6, 7, 8, 9]
def dl1 : Delivery := { data := raw1, port := 3, status := 0x14, flags := 1, meta_ := [5], at_ := 99 }
def rest1 : List (Nat × Owner × Delivery) := [(1, 3, dl1)]
def key16 : Bytes := (List.range 16).map (BitVec.ofNat 8 ·)
def mt : MatchTable := { owner := 2, kl := 16, log2 := 6, cache := true, base := 0x4000, seed1 := 1, seed2 := 2 }
def hd : ProbeHandle := { busy := true, table := 9, key := key16, dst := 32, issued := 3 }
def act1 : Bytes := (List.range 32).map fun k => BitVec.ofNat 8 (k + 1)
def pc1 : Core := { running := true, owner := 2, handles := [(1, hd)], scratch := Mem.writeN [] 0 [9, 8, 7] }
/-- A probe of table 9, with what the plots hold. -/
def pb (m : Mem) (l : List FlowEntry) : State := { plots (pk fun k => { k with tables := [(9, mt)], cache0 := l }) m with cores := [(18, pc1)] }
def b1 : Nat := 0x4000 + 256 * (bucketsOf mt key16).1
def fe1 : FlowEntry := { table := 9, set := 3, key := key16, action := act1 }
def bnd : Bytes := zeros 16
/-- A RoCEv2 frame: `rest` follows the base transport header. -/
def rocF (op psn dest : Nat) (rest : Bytes) : Bytes :=
  let b := be 1 op ++ [0] ++ be 2 0x7FFF ++ [0] ++ be 3 dest ++ [0] ++ be 3 psn ++ rest
  let ip := ([0x45, 0] ++ be 2 (20 + 8 + b.length + 4) ++ [0, 0, 0, 0, 64, 17, 0, 0, 10, 0, 0, 1, 10, 0, 0, 2] : Bytes) ++ be 2 5000 ++ be 2 4791 ++ be 2 (8 + b.length + 4) ++ be 2 0 ++ b
  macA ++ [2, 0, 0, 0, 0, 1, 0x81, 0, 0x60, 5] ++ be 2 0x0800 ++ ip ++ icrc false ip
def wrF (addr len : Nat) (d : Bytes) : Bytes := rocF 0x0A 100 77 (be 8 addr ++ be 4 0x1234 ++ be 4 len ++ d)
def rfr (d : Bytes) : RxFrame := { rf with data := d }
def qp1 : Qp := { owner := 2, port := 3, flags := 4, mtu := 1024, retry := 3, entry := 7, queue := 8, localIp := zeros 16, remoteIp := zeros 16, mac := zeros 6, dscp := 0, remoteQpn := 9, timeout := 1, psn := 500, expected := 100, windowBase := 0x40, windowLength := 64, rkey := 0x1234 }
def msg1 : QpMsg := { psn := 500, psns := 1, kind := 2, addr := 0, rkey := 0, data := [], length := 64, op := some 9, sent := true }
def pq (q : Qp) (f : Packet → Packet) : State := { pk (fun k => f { k with qps := [(77, q)] }) with ctxs := [(cxQp 77, cx1)] }
def rx1 (d : Bytes) (k : Packet) : Packet := ports { ep with roce := [rfr d, rf] } k
def tx1 : PktRing := { ring1 with tx := true, log2 := 8, posted := 4, fetched := 3, buffers := [] }
def txd (n len tag : Nat) : Bytes := le 8 0x7000 ++ le 2 len ++ le 2 n ++ zeros 4 ++ le 4 tag ++ zeros 12
def eq (f : List TxFrame) : EgressQueue := { owner := 2, port := 3, cls := 2, enable := true, weight := 4, frames := f, ftag := 77 }
def tf (n : Nat) : TxFrame := { data := padTo n macA, origin := .ring 12 1 9 33 }
def gbank : GateBank := { cycle := 1000, entries := [(0xFF, 300), (4, 400), (2, 900)] }
def gtab (bank : Nat) : LaunchTable := { tileTable 1 bank with kind := 2, base := 900, period := 0 }
def x0 : RocePkt := { op := 0, pad := 0, dest := 0, ackReq := false, psn := 0, rest := [], marked := false }
/-- `up` with other security state. -/
def sc (f : Security → Security) : State := { up with sec := f up.sec }
def lgE : LogEntry := { time := 9, type := 3, register := 1, info := 2, digest := zeros 32 }
def kimp : State := sc fun c => { c with importKeys := [(2, zeros 32)], logs := [(2, [lgE])] }
def attrB (alg modes usage dir count n : Nat) : Bytes := le 1 alg ++ le 1 modes ++ le 1 usage ++ le 1 dir ++ le 4 0x04030201 ++ le 8 count ++ (List.range n).map (BitVec.ofNat 8 ·)
def wr (b : Bytes) : Bytes := zeros 8 ++ b
def a0 : Bytes := attrB 1 1 0 3 5 16
def a1 : Bytes := attrB 4 4 1 3 0 64
def a2 : Bytes := attrB 2 1 2 3 7 32
def ers (usage : Nat) : KeySlot := { slot1 with state := .erased, usage := usage, key := [], nextCount := 90 }
def kst (l : Tbl KeySlot) : State := { kimp with sec := { kimp.sec with slots := l } }
def kmm (m : MemKey) : State := { kimp with sec := { kimp.sec with memKeys := [(2, m)] } }
def mk1 : MemKey := { key := some (zeros 64), imported := false, check := zeros 32 }
def mk0 (check : Bytes) : MemKey := { key := none, imported := true, check := check }
def sgn (n : Option Nat) : Signing := { op := n, port := 0, since := 3, body := (List.range 320).map (BitVec.ofNat 8 ·) }
def att : State := sc fun c => { c with log := [lgE, { lgE with type := 4 }], logs := [(2, [lgE])], pmr := [(2, (List.range 32).map (BitVec.ofNat 8 ·))], encaps := [(2, (List.range 1568).map (BitVec.ofNat 8 ·))] }
def dq1 : DoeQuote := { port := 0, kind := 1, part := 0xFF, nonce := zeros 32 }
def qop (n : Nat) : LongOp := lop (.quote 1 (zeros 320) 1 0x100000 n)
def ald (s : State) : State := { s with sec := { s.sec with alarm := some 3, alarmAt := 500, slots := [(70, slot1)], memKeys := [(2, mk1), (3, mk0 (zeros 32))], importKeys := [(2, zeros 32)] } }
def alc : State := { plots up [] with clk := { lc := 20000000, rootLocked := true }, parts := [(2, part), (3, part)], sec := { up.sec with alarm := some 3, alarmAt := 500, slots := [(70, ers 2)], memKeys := [(2, { mk1 with key := none }), (3, mk0 (zeros 32))], unseeded := [4, 7] } }
def wdr : WaitingDraw := { since := 10, what := .request (rq 0x400 8) 0x0A01 3 0 [2] }
def ut (l : Tbl UnitRec) (s : State) : State := { s with units := l ++ s.units }
def uis : UnitRec := { state := .inService }
def udr : UnitRec := { state := .draining, since := 5 }
def jt : State := { up with jtag := [(0, { instr := 3, driven := true }), (1, {})] }
def tele (s : State) : State := { s with mon := { s.mon with ring := { set := true, addr := 0x200000, log2 := 6, vector := 3 } } }
def tlt (k : Nat) (action arg : Nat) (s : State) : State := { s with launch := [(slotKey 4 k 0, { active := some { tileTable action arg with kind := 4, base := 900 } })] }
def plain1 : Bytes := packTables (saveTables { up with mbxs := [(5, { mb with posted := 4, fetched := 4, vector := 2 })] } 5 Wit.inst)
def blob1 : Bytes := blobHead (48 + plain1.length) 5 (zeros 12) ++ plain1 ++ zeros 16
def exq : KeySlot := { slot1 with state := .exhausted, nextCount := 2 ^ 48 }
def exq1 : KeySlot := { slot1 with nextCount := 2 ^ 48 - 1 }
def exf (k : KeySlot) (i : Instance) : State := { is i inst1 with sec := { up.sec with slots := [(3, { slot1 with owner := 3 }), (70, k)] } }
def fz : Instance := { Wit.inst with state := .frozen }
def mon (f : Monitor → Monitor) (s : State) : State := { s with mon := f s.mon }
def tp : State := { up with parts := [(2, part3)] }
def cap1 : Capture := { at_ := 900, q := rq 5 48, index := 4, sessionNo := 0, units := [0x145], out := hostBuf 160 }
def pcn1 : PmcCounter := { count := 12345, ovf := true, event := 1, flags := 1, holder := some 2, slot := 9 }
def er1 : ErrorRecord := { time := 5, unit := 0x145, cls := 2, code := 3, owner := 2, status := 0x1234, address := 0x123456, count := 7 }
def trc : TeleRecord := { time := 5, type := 1, die := 0, source := 3, status := 0, payload := [1, 2, 3] }
def sx : SideExchange := { start := 900, due := 850, set := 4 }
def uc : Nat := 0x145

/-- A flit whose CRC is not that of its bytes. -/
def flBad (b : Bytes) : Bytes := padTo 504 b ++ le 8 (crc64 (padTo 504 b) + 1)
theorem length_fl (b : Bytes) : (fl b).length = 512 := by simp [fl]
theorem length_flBad (b : Bytes) : (flBad b).length = 512 := by simp [flBad]
theorem crc_at (c : Bytes) (v : Nat) (h : c.length = 504) :
    fieldAt (c ++ le 8 v) 504 8 = v % 256 ^ 8 ∧ (c ++ le 8 v).take 504 = c := by
  refine ⟨by simpa using fieldAt_word c [] 8 v h, ?_⟩
  rw [← h]
  exact List.take_left
theorem flOk (b : Bytes) : fieldAt (fl b) 504 8 = crc64 ((fl b).take 504) := by
  have h := crc_at (padTo 504 b) (crc64 (padTo 504 b)) (length_padTo 504 b)
  show fieldAt (padTo 504 b ++ le 8 (crc64 (padTo 504 b))) 504 8 = crc64 ((padTo 504 b ++ le 8 (crc64 (padTo 504 b))).take 504)
  rw [h.1, h.2]
  exact Nat.mod_eq_of_lt (crc64_lt _)
theorem flBad_ne (b : Bytes) : fieldAt (flBad b) 504 8 ≠ crc64 ((flBad b).take 504) := by
  have h := crc_at (padTo 504 b) (crc64 (padTo 504 b) + 1) (length_padTo 504 b)
  have hc := crc64_lt (padTo 504 b)
  unfold flBad
  rw [h.1, h.2]
  intro he
  have h0 : crc64 (padTo 504 b) = 256 ^ 8 - 1 ∨ crc64 (padTo 504 b) + 1 < 256 ^ 8 := by omega
  rcases h0 with h0 | h0
  · rw [h0] at he
    revert he
    decide
  · rw [Nat.mod_eq_of_lt h0] at he
    omega

/-- The bytes of a group's area, whether or not one reads as poisoned. -/
def areaBytes (s : State) (g : CkpGroup) (off len : Nat) : Bytes :=
  (List.range len).map fun k => plotByte s (g.areas.getD ((off + k) / 2 ^ 30) 0) ((off + k) % 2 ^ 30)
/-- Without poison the first plot of an area reads. -/
theorem areaOne {s : State} {g : CkpGroup} {off len : Nat} (hl : off + len ≤ 2 ^ 30) (hp : s.dram.poison = [])
    (hb : (decide ((plotAt s (g.areas.getD 0 0)).state = .lost) || !keyHeld s (plotAt s (g.areas.getD 0 0))) = false) :
    areaRead s g off len = some (areaBytes s g off len) := by
  unfold areaRead
  rw [if_neg]
  · rfl
  · intro h
    obtain ⟨k, hk, hbad⟩ := List.any_eq_true.mp h
    have h0 : (off + k) / 2 ^ 30 = 0 := Nat.div_eq_of_lt (Nat.lt_of_lt_of_le (Nat.add_lt_add_left (List.mem_range.mp hk) off) hl)
    simp only [areaBad, wordBad, h0, hp, hb] at hbad
    cases hbad

theorem length_imgB (v : Nat) : (imgB v).length = 29924 := by simp [imgB]
theorem imgB_ok : imageHeaderOk (imgB 5) = true := by
  have h1 : imageBytes (imgB 5) = 29924 := by decide +kernel
  have h2 : fieldAt (imgB 5) 0 4 = 0x57464C5A ∧ fieldAt (imgB 5) 4 2 = 1 ∧ 2 ≤ fieldAt (imgB 5) 6 1 ∧ fieldAt (imgB 5) 6 1 ≤ 3 ∧
    fieldAt (imgB 5) 7 1 < 2 ∧ fieldAt (imgB 5) 20 4 = 0 ∧ fieldAt (imgB 5) 96 32 = 0 := by decide +kernel
  unfold imageHeaderOk
  rw [h1, length_imgB]
  simp [h2]

theorem sound_reset : Sound State.reset := by
  refine ⟨rfl, fun _ => rfl, fun _ => rfl, ?_, .nil, .nil, .nil, .nil, .nil, ?_⟩
  · intro e he
    cases he
  · intro g hg
    cases hg

/-! ### The hypotheses of every statement can be met -/

/-- `Obligations.FrontCommandRuns`: its clauses 2. -/
theorem wit_FrontCommandRuns_1 :
    (∃ s : State, (s.pending = [])) :=
  ⟨{ up with pending := [] }, by decide +kernel⟩

/-- `Obligations.ResetState`: its clauses 5. -/
theorem wit_ResetState_1 :
    (∃ slot, (slot < 8)) :=
  ⟨7, by decide +kernel⟩

/-- `Obligations.StepsKeepSound`: its clauses 0. -/
theorem wit_StepsKeepSound_1 :
    (∃ s : State, ∃ t : State, (Sound s) ∧ (step s = .next t)) :=
  ⟨State.reset, _, sound_reset, rfl⟩

/-- `Obligations.Shutdown`: its clauses 1, 2, 3, 4, 5, 6, 7. -/
theorem wit_Shutdown_1 :
    (∃ s : State, (s.on = true) ∧ (s.power.moduleEn = true)) ∧
    (∃ s : State, (s.on = true)) ∧
    (∃ s : State, ∃ t0 : Nat, (s.on = true) ∧ (s.power.below40Since = some t0) ∧ (t0 + 100000 ≤ s.time)) ∧
    (∃ s : State, ∃ mv : Nat, ∃ a : Nat, ∃ b : Nat, ∃ c : Nat, ∃ d : Nat, ∃ e : Nat, (s.on = true) ∧ (s.power.volts = [a, b, c, d, e]) ∧
      (60000 < mv) ∧ (mv ≤ 70000) ∧ (60000 < a) ∧ (60000 < b)) ∧
    (∃ s : State, (s.on = true) ∧ (¬ s.clk.down.contains 0xFFFF)) ∧
    (∃ s : State, ∃ x : BitVec 16, (s.on = true) ∧ (1200 ≤ x.toInt) ∧ (x.toInt ≤ 1500)) ∧
    (∃ s : State, (s.on = true)) :=
  ⟨⟨up, by decide +kernel⟩,
   ⟨up, by decide +kernel⟩,
   ⟨{ up with power := { below40Since := some 0 }, time := 100000 }, 0, by decide +kernel⟩,
   ⟨{ up with power := { volts := [60001, 60001, 1, 2, 3] } }, 60001, 60001, 60001, 1, 2, 3, by decide +kernel⟩,
   ⟨up, by decide +kernel⟩,
   ⟨up, 1200, by decide +kernel⟩,
   ⟨up, by decide +kernel⟩⟩

/-- `Obligations.InputAndCap`: its clauses 1, 3, 4, 5, 6, 7, 8, 9. -/
theorem wit_InputAndCap_1 :
    (∃ s : State, ∃ t0 : Nat, (s.on = false) ∧ (s.power.sense = true) ∧ (s.power.bulk = true) ∧ (s.power.off ≠ .root) ∧
      (s.power.thermtrip = false) ∧ (s.power.inRangeSince = some t0) ∧ (t0 + 100000000 ≤ s.time)) ∧
    (∃ s : State, ∃ mv : Nat, ∃ ma : Nat, ∃ a : Nat, ∃ b : Nat, ∃ c : Nat, ∃ d : Nat, ∃ e : Nat, (s.on = true) ∧
      (s.power.volts = [a, b, c, d, e]) ∧ (42000 < mv) ∧ (mv ≤ 60000) ∧ (ma ≤ 60000) ∧ (∀ v ∈ s.power.volts, 42000 < v ∧ v ≤ 60000)) ∧
    (∃ s : State, ∃ t0 : Nat, (s.on = true) ∧ (s.power.powerEmergency = true) ∧ (s.power.above43Since = some t0) ∧ (t0 + 100000000 ≤ s.time)) ∧
    (∃ s : State, ∃ t0 : Nat, (s.on = true) ∧ (s.boot.rom = true) ∧ (0 < s.power.capLimit) ∧ (s.power.capBelowSince = some t0) ∧
      (t0 + 10000000 ≤ s.time)) ∧
    (∃ s : State, ∃ t0 : Nat, (s.on = true) ∧ (s.power.capUnmet = false) ∧ (s.power.capOverSince = some t0) ∧ (t0 + 1000000 ≤ s.time)) ∧
    (∃ s : State, ∃ t0 : Nat, (s.on = true) ∧ (s.power.stepAt = some t0) ∧ (t0 + 100000000 ≤ s.time) ∧ (s.clk.tclkDiv < levelInForce s)) ∧
    (∃ s : State, (s.on = true) ∧ (s.clk.tclkDiv < hardLevel s)) ∧
    (∃ s : State, (s.on = true) ∧ (hardLevel s ≤ s.clk.tclkDiv) ∧ (levelInForce s < s.clk.tclkDiv)) :=
  ⟨⟨pw { pwrGood := false, inRangeSince := some 1900000000 }, 1900000000, by decide +kernel⟩,
   ⟨up, 42001, 60000, 52000, 52000, 52000, 52000, 52000, by decide +kernel⟩,
   ⟨pw { powerEmergency := true, above43Since := some 1900000000 }, 1900000000, by decide +kernel⟩,
   ⟨pw { capLimit := 1, capBelowSince := some 1990000000 }, 1990000000, by decide +kernel⟩,
   ⟨pw { capOverSince := some 1999000000 }, 1999000000, by decide +kernel⟩,
   ⟨{ pw { stepAt := some 1900000000, planned := 2 } with clk := { tclkDiv := 0 } }, 1900000000, by decide +kernel⟩,
   ⟨{ pw { powerEmergency := true } with clk := { tclkDiv := 0 } }, by decide +kernel⟩,
   ⟨{ pw { } with clk := { tclkDiv := 2 } }, by decide +kernel⟩⟩

/-- `Obligations.Temperature`: its clauses 1, 2, 3, 4, 5, 6, 7.1, 7.2. -/
theorem wit_Temperature_1 :
    (∃ s : State, ∃ x : BitVec 16, ∃ y : BitVec 16, ∃ z : BitVec 16, (s.on = true) ∧ (s.boot.rom = true) ∧ (-400 ≤ x.toInt) ∧
      (x.toInt ≤ y.toInt) ∧ (y.toInt ≤ z.toInt) ∧ (z.toInt ≤ x.toInt + 100) ∧ (y.toInt < 1000)) ∧
    (∃ s : State, ∃ t0 : Nat, (s.on = true) ∧ (s.power.throttleAt = some t0) ∧ (t0 + 100000000 ≤ s.time) ∧ (1000 ≤ hotTj s) ∧
      (s.power.thermal0 = false) ∧ (s.power.thermal1 = false)) ∧
    (∃ s : State, ∃ t0 : Nat, (s.on = true) ∧ (s.power.coolSince = some t0) ∧ (0 < s.power.throttle) ∧ (t0 + 1000000000 ≤ s.time)) ∧
    (∃ s : State, ∃ die : Fin 2, ∃ t0 : Nat, (s.on = true) ∧ (thermalOf s die.val = true) ∧
      ((if die.val = 0 then s.power.below105a else s.power.below105b) = some t0) ∧ (t0 + 1000000000 ≤ s.time)) ∧
    (∃ s : State, ∃ q : Req, (Served s q 0x0C01 0 .any)) ∧
    (∃ s : State, ∃ q : Req, ∃ a : Int, ∃ b : Int, ∃ c : Int, ∃ d : Int, ∃ e : Int, ∃ f : Int, (Served s q 0x0C04 0 .operator) ∧
      (s.power.sensors = [a, b, c, d, e, f])) ∧
    (∃ s : State, ∃ q : Req, ∃ level : Nat, (Served s q 0x0C02 8 .operator) ∧ (level < 3)) ∧
    (∃ s : State, ∃ q : Req, ∃ level : Nat, (Served s q 0x0C02 8 .operator) ∧ (3 ≤ level)) :=
  ⟨⟨up, 899, 999, 999, by decide +kernel⟩,
   ⟨pw { throttleAt := some 1900000000, tj1 := 1000 }, 1900000000, by decide +kernel⟩,
   ⟨pw { coolSince := some 1000000000, throttle := 2 }, 1000000000, by decide +kernel⟩,
   ⟨pw { thermal1 := true, below105b := some 1000000000 }, 1, 1000000000, by decide +kernel⟩,
   ⟨up, rq 0x401 0, servedOf (by decide +kernel)⟩,
   ⟨up, rq 0x400 0, 250, 250, 250, 250, 250, 250, servedOf (by decide +kernel), by decide +kernel⟩,
   ⟨up, rq 0x400 8, 2, servedOf (by decide +kernel), by decide +kernel⟩,
   ⟨up, rq 0x400 8, 3, servedOf (by decide +kernel), by decide +kernel⟩⟩

/-- `Obligations.Temperature`: its clauses 8.1, 8.2. -/
theorem wit_Temperature_2 :
    (∃ s : State, ∃ q : Req, ∃ watts : Nat, (Served s q 0x0C03 8 .operator) ∧ (watts = 0 ∨ 1250 ≤ watts ∧ watts ≤ 1600)) ∧
    (∃ s : State, ∃ q : Req, ∃ watts : Nat, (Served s q 0x0C03 8 .operator) ∧ (watts ≠ 0) ∧ (watts < 1250 ∨ 1600 < watts)) :=
  ⟨⟨up, rq 0x400 8, 0, servedOf (by decide +kernel), by decide +kernel⟩,
   ⟨up, rq 0x400 8, 1249, servedOf (by decide +kernel), by decide +kernel⟩⟩

/-- `Obligations.BringUp`: its clauses 1, 2, 3, 4, 5, 6, 7, 8. -/
theorem wit_BringUp_1 :
    (∃ s : State, ∃ i : BootImage, (s.on = true) ∧ (s.boot.rom = false) ∧ (s.clk.rootLocked = true) ∧ (s.fw.bootStaged = false) ∧
      (s.fw.bank = 0) ∧ (s.fuses.lifecycle = 0x5A) ∧ (i.verifies = true) ∧ (2 ≤ i.levelMax) ∧ (i.levelMax ≤ 3) ∧ (keyFused s i.keyIndex = true) ∧
      (fusedVersion s ≤ i.securityVersion)) ∧
    (∃ s : State, (s.on = true) ∧ (s.boot.rom = true) ∧ (s.boot.level = 1) ∧ (s.boot.failed = false) ∧ (fatalCause s = none)) ∧
    (∃ s : State, (s.on = true) ∧ (s.boot.level = 2) ∧ (s.boot.failed = false) ∧ (quickLost s = none) ∧ (fatalCause s = none)) ∧
    (∃ s : State, ∃ p : Fin 2, (s.on = true) ∧ (¬ s.clk.down.contains p.val)) ∧
    (∃ s : State, ∃ p : Fin 8, (s.on = true) ∧ (¬ s.clk.down.contains (8 + p.val))) ∧
    (∃ s : State, ∃ p : Fin 8, ∃ l : Fin 12, (s.on = true) ∧ (¬ s.clk.down.contains (laneClock p.val l.val))) ∧
    (∃ s : State, (s.on = true) ∧ (¬ s.clk.down.contains 24)) ∧
    (∃ s : State, ∃ p : Fin 2, (s.on = true) ∧ (s.clk.down.contains p.val)) :=
  ⟨⟨cold, bimg, by decide +kernel⟩,
   ⟨{ cold with boot := { rom := true } }, by decide +kernel⟩,
   ⟨{ cold with boot := { rom := true, level := 2 }, dram := { map0 := [0], map1 := [4] } }, by decide +kernel⟩,
   ⟨up, 1, by decide +kernel⟩,
   ⟨up, 7, by decide +kernel⟩,
   ⟨up, 7, 11, by decide +kernel⟩,
   ⟨up, by decide +kernel⟩,
   ⟨{ up with clk := { up.clk with down := [1] } }, 1, by decide +kernel⟩⟩

/-- `Obligations.CrossingsAndLaunch`: its clauses 1, 2, 3, 4, 5. -/
theorem wit_CrossingsAndLaunch_1 :
    (∃ s : State, ∃ k : Nat, (s.on = true) ∧ ((s.crossings.getD k {}).severed = true) ∧ (crossingOut s k = true) ∧
      (¬ s.clk.down.contains (crossingClock k))) ∧
    (∃ s : State, ∃ kind : Nat, ∃ unit : Nat, ∃ slot : Nat, ∃ x : LaunchTable, ((s.slot (slotKey kind unit slot)).staged = some x) ∧
      ((s.slot (slotKey kind unit slot)).changeover ≤ s.lc)) ∧
    (∃ s : State, ∃ q : Req, ∃ changeover : Nat, ∃ kind : Nat, ∃ unit : Nat, ∃ slot : Nat, ∃ table : BufRef, ∃ bs : Bytes, (Served s q 0x0140 32 .opOrTenant) ∧
      (slotNamed kind unit slot = true) ∧ (mayActOn (whoOf s q.mbx) (slotOwner s (slotKey kind unit slot)) = true) ∧ (table.space = 1) ∧
      (48 ≤ table.len) ∧ (tableOk kind table.len (padTo table.len bs) = true) ∧ (s.lc + 10000 ≤ changeover) ∧
      ((s.slot (slotKey kind unit slot)).staged = none)) ∧
    (∃ s : State, ∃ q : Req, ∃ changeover : Nat, ∃ kind : Nat, ∃ unit : Nat, ∃ slot : Nat, ∃ table : BufRef, ∃ bs : Bytes, (Served s q 0x0140 32 .opOrTenant) ∧
      (slotNamed kind unit slot = true) ∧ (mayActOn (whoOf s q.mbx) (slotOwner s (slotKey kind unit slot)) = true) ∧ (table.space = 1) ∧
      (48 ≤ table.len) ∧ (tableOk kind table.len (padTo table.len bs) = true) ∧ (changeover ≠ 0) ∧ (changeover < s.lc + 10000) ∧
      ((s.slot (slotKey kind unit slot)).staged = none)) ∧
    (∃ s : State, ∃ q : Req, ∃ kind : Nat, ∃ unit : Nat, ∃ slot : Nat, ∃ flags : Nat, (Served s q 0x0141 8 .opOrTenant) ∧
      (slotNamed kind unit slot = true) ∧ (mayActOn (whoOf s q.mbx) (slotOwner s (slotKey kind unit slot)) = true) ∧ (flags < 2)) :=
  ⟨⟨{ up with crossings := [(7, { severed := true })] }, 7, by decide +kernel⟩,
   ⟨{ up with launch := [(slotKey 1 0 3, { staged := some table1, changeover := 1000 })] }, 1, 0, 3, table1, by decide +kernel⟩,
   ⟨up, rq 0x400 32, 11000, 1, 1, 63, hostBuf 48, bytes1, servedOf (by decide +kernel), by decide +kernel⟩,
   ⟨up, rq 0x400 32, 10999, 1, 1, 63, hostBuf 48, bytes1, servedOf (by decide +kernel), by decide +kernel⟩,
   ⟨{ up with launch := [(slotKey 2 7 0, { late := 3, skip := 4 })] }, rq 0x400 8, 2, 7, 0, 1, servedOf (by decide +kernel), by decide +kernel⟩⟩

/-- `Obligations.TilesAndSpares`: its clauses 1, 2, 3, 4, 5, 6, 7, 8. -/
theorem wit_TilesAndSpares_1 :
    (∃ s : State, ∃ tile : Fin 144, ∃ slot : Nat, (s.on = true) ∧ ((s.tile tile.val).health = .good) ∧
      ((s.group (tile.val / 9)).state ≠ .retired) ∧ (logicalOf s tile.val = some slot) ∧ ((s.group (tile.val / 9)).session = none) ∧
      ((s.group (tile.val / 9)).renamed = none) ∧ ((s.group (tile.val / 9)).noSpare = false)) ∧
    (∃ s : State, ∃ tile : Fin 144, ∃ slot : Nat, ∃ h : Nat, ∃ v : YewSession, (s.on = true) ∧ ((s.tile tile.val).health = .good) ∧
      ((s.group (tile.val / 9)).state ≠ .retired) ∧ (logicalOf s tile.val = some slot) ∧ (hosted s (tile.val / 9) = some (h, v)) ∧
      ((s.group (tile.val / 9)).renamed = none) ∧ ((s.group (tile.val / 9)).noSpare = false) ∧ ((s.group (tile.val / 9)).takeover = none)) ∧
    (∃ s : State, ∃ tile : Fin 144, ∃ slot : Nat, (s.on = true) ∧ ((s.tile tile.val).health ≠ .failed) ∧
      ((s.group (tile.val / 9)).state ≠ .retired) ∧ (logicalOf s tile.val = some slot) ∧ ((s.group (tile.val / 9)).session = none) ∧
      ((s.group (tile.val / 9)).renamed = none) ∧ ((s.group (tile.val / 9)).noSpare = false)) ∧
    (∃ s : State, ∃ tile : Fin 144, ∃ slot : Nat, ∃ h : Nat, ∃ v : YewSession, (s.on = true) ∧ ((s.tile tile.val).health ≠ .failed) ∧
      ((s.group (tile.val / 9)).state ≠ .retired) ∧ (logicalOf s tile.val = some slot) ∧ (hosted s (tile.val / 9) = some (h, v)) ∧
      ((s.group (tile.val / 9)).renamed = none) ∧ ((s.group (tile.val / 9)).noSpare = false) ∧ ((s.group (tile.val / 9)).takeover = none)) ∧
    (∃ s : State, ∃ g : Fin 16, ∃ k : Takeover, (s.on = true) ∧ ((s.group g.val).takeover = some k) ∧ (k.sudden = false) ∧ (k.copied = false) ∧
      (k.timedOut = false) ∧ (k.since + tclkNs s 20480 ≤ s.lc)) ∧
    (∃ s : State, ∃ g : Fin 16, ∃ k : Takeover, (s.on = true) ∧ ((s.group g.val).takeover = some k) ∧ (k.sudden = false) ∧ (k.copied = false) ∧
      (k.timedOut = false) ∧ (k.since + 100000000 ≤ s.lc)) ∧
    (∃ s : State, ∃ g : Fin 16, ∃ k : Takeover, (s.on = true) ∧ ((s.group g.val).takeover = some k) ∧ (k.sudden = true) ∧ (hosted s g.val = none)) ∧
    (∃ s : State, ∃ g : Fin 16, ∃ k : Takeover, ∃ h : Nat, ∃ v : YewSession, ∃ m : Image, (s.on = true) ∧ ((s.group g.val).takeover = some k) ∧
      (k.sudden = true) ∧ (hosted s g.val = some (h, v)) ∧ (sessImage s v = some m)) :=
  ⟨⟨yew, 7, 7, by decide +kernel⟩,
   ⟨ys sess, 7, 7, 4, sess, by decide +kernel⟩,
   ⟨yew, 7, 7, by decide +kernel⟩,
   ⟨ys sess, 7, 7, 4, sess, by decide +kernel⟩,
   ⟨{ up with clk := { lc := 100000000 }, groups := [(3, { grp with takeover := some ⟨2, false, 0, false, false⟩ })] }, 3,
     ⟨2, false, 0, false, false⟩, by decide +kernel⟩,
   ⟨{ up with clk := { lc := 100000000 }, groups := [(3, { grp with takeover := some ⟨2, false, 0, false, false⟩ })] }, 3,
     ⟨2, false, 0, false, false⟩, by decide +kernel⟩,
   ⟨{ up with groups := [(3, { grp with takeover := some ⟨2, true, 0, false, false⟩ })] }, 3, ⟨2, true, 0, false, false⟩, by decide +kernel⟩,
   ⟨{ ys sess with groups := [(0, { grp with session := some 4, takeover := some ⟨2, true, 0, false, false⟩ })] }, 0,
     ⟨2, true, 0, false, false⟩, 4, sess, ⟨2, 0, header, []⟩, by decide +kernel⟩⟩

/-- `Obligations.TilesAndSpares`: its clauses 9, 10, 11, 12, 13. -/
theorem wit_TilesAndSpares_2 :
    (∃ s : State, ∃ tile : Fin 144, (s.on = true) ∧ (¬ (faultyStops s).contains tile.val) ∧ (s.sessions = [])) ∧
    (∃ s : State, ∃ tile : Fin 144, (s.on = true) ∧ ((s.tile tile.val).passCorrected < 15)) ∧
    (∃ s : State, ∃ tile : Fin 144, ∃ n : Nat, (s.on = true) ∧ (2 ≤ n) ∧ (¬ (s.tile tile.val).rewritten.contains (s.tile tile.val).scrubWord)) ∧
    (∃ s : State, ∃ g : Fin 16, (s.on = true) ∧ ((s.group g.val).state = .zeroing)) ∧
    (∃ s : State, ∃ h : Nat, ∃ v : YewSession, (s.on = true) ∧ (s.sessions.get? h = some v) ∧ (v.replacing.isSome = true) ∧
      (v.replaceReady = false)) :=
  ⟨⟨yew, 7, by decide +kernel⟩,
   ⟨up, 143, by decide +kernel⟩,
   ⟨up, 143, 2, by decide +kernel⟩,
   ⟨{ up with groups := [(3, { grp with state := .zeroing, owner := 16 })], tiles := [(27, { sram := [(0, 1)] })] }, 3, by decide +kernel⟩,
   ⟨ys { sess with replacing := some 0 }, 4, { sess with replacing := some 0 }, by decide +kernel⟩⟩

/-- `Obligations.Epochs`: its clauses 1, 2, 3, 4, 5, 6, 7, 8. -/
theorem wit_Epochs_1 :
    (∃ s : State, ∃ h : Nat, ∃ v : YewSession, ∃ m : Image, (s.on = true) ∧ (s.sessions.get? h = some v) ∧ (v.state = .running) ∧
      (v.inEpoch = false) ∧ (v.closing = false) ∧ (v.abandonedRun < 16) ∧ (boundaryWork s v = false) ∧ (loadingHold s v = false) ∧
      (v.waits = false) ∧ (v.verdict = none) ∧ (v.input ≠ []) ∧ (v.rerun = false) ∧ (v.addMargin = false) ∧ (sessImage s v = some m) ∧
      (v.nextStart ≤ s.lc)) ∧
    (∃ s : State, ∃ tile : Fin 144, ∃ h : Nat, ∃ due : Nat, ∃ v : YewSession, ∃ e : LaunchEntry, (s.on = true) ∧
      (tileSession s tile.val = some (h, v)) ∧ (dueEntry s tile.val = some (due, e)) ∧ (v.inEpoch = true) ∧ (v.state = .running) ∧
      (e.action = 1) ∧ (v.slipLine = false) ∧ ((s.tile tile.val).step = none) ∧ (v.shadowDue ≤ due) ∧
      (shortBuffer (s.tile tile.val) ((((s.tile tile.val).steps.getD (3 * v.variant + v.kind) [])[(s.slot (slotKey 5 tile.val 0)).index]?).getD { finish := 0, need := 0, release := 0, sendSlack := 0 }).need = none)) ∧
    (∃ s : State, ∃ tile : Fin 144, ∃ h : Nat, ∃ due : Nat, ∃ k : Nat, ∃ v : YewSession, ∃ e : LaunchEntry, ∃ b : Landing, (s.on = true) ∧
      (tileSession s tile.val = some (h, v)) ∧ (dueEntry s tile.val = some (due, e)) ∧ (v.inEpoch = true) ∧ (v.state = .running) ∧
      (e.action = 1) ∧ (v.slipLine = false) ∧ ((s.tile tile.val).step = none) ∧
      (shortBuffer (s.tile tile.val) ((((s.tile tile.val).steps.getD (3 * v.variant + v.kind) [])[(s.slot (slotKey 5 tile.val 0)).index]?).getD { finish := 0, need := 0, release := 0, sendSlack := 0 }).need = some (k, b))) ∧
    (∃ s : State, ∃ h : Nat, ∃ v : YewSession, (s.on = true) ∧ (s.sessions.get? h = some v) ∧ (v.inEpoch = true) ∧ (v.state = .running) ∧
      (v.closing = false) ∧ (v.spoiled = true) ∧ (v.drawing = none) ∧ (∀ t ∈ sessTiles s v, (dueEntry s t).map (fun e => e.2.action) = some 2) ∧
      (∀ t ∈ sessTiles s v, (s.tile t).step = none)) ∧
    (∃ s : State, ∃ h : Nat, ∃ v : YewSession, (s.on = true) ∧ (s.sessions.get? h = some v) ∧ (v.inEpoch = true) ∧ (v.state = .running) ∧
      (v.closing = false) ∧ (v.spoiled = false) ∧ (v.drawing = none) ∧ (v.kind = 1) ∧ (v.verdict = none) ∧
      (∀ t ∈ sessTiles s v, (dueEntry s t).map (fun e => e.2.action) = some 2) ∧ (∀ t ∈ sessTiles s v, (s.tile t).step = none)) ∧
    (∃ s : State, ∃ h : Nat, ∃ v : YewSession, (s.on = true) ∧ (s.sessions.get? h = some v) ∧ (16 ≤ v.abandonedRun) ∧ (v.state ≠ .stopped) ∧
      (v.closing = false)) ∧
    (∃ s : State, ∃ h : Nat, ∃ v : YewSession, (s.on = true) ∧ (s.sessions.get? h = some v) ∧ (v.params.tenantSeed = true) ∧
      (2 ^ 48 ≤ v.drbg.requests) ∧ (v.state ≠ .stopped) ∧ (v.closing = false)) ∧
    (∃ s : State, ∃ h : Nat, ∃ due : Nat, ∃ v : YewSession, ∃ e : LaunchEntry, (s.on = true) ∧ (s.sessions.get? h = some v) ∧
      (dueEntry s (leadTile s v) = some (due, e)) ∧ (v.inEpoch = true) ∧ (v.state = .running) ∧ (e.action = 3) ∧ (v.slipLine = false) ∧
      (v.drawing = none) ∧ (v.params.temperature = 0) ∧ (poisonedSource s v = none)) :=
  ⟨⟨ys sess, 4, sess, ⟨2, 0, header, []⟩, by decide +kernel⟩,
   ⟨running inEp 1 77, 3, 4, 100, inEp, entry 1 77, by decide +kernel⟩,
   ⟨{ running inEp 1 77 with tiles := [(3, { landing := [(2, land1)], steps := [(0, [⟨0, 4, 0, 2⟩])] })] }, 3, 4, 100, 2, inEp, entry 1 77,
     land1, by decide +kernel⟩,
   ⟨running { inEp with spoiled := true } 2 0, 4, { inEp with spoiled := true }, by decide +kernel⟩,
   ⟨running { inEp with kind := 1, epochs := [(1, ⟨2000, 0, 1900, 0, 0, 1⟩)] } 2 0, 4,
     { inEp with kind := 1, epochs := [(1, ⟨2000, 0, 1900, 0, 0, 1⟩)] }, by decide +kernel⟩,
   ⟨ys { sess with abandonedRun := 16 }, 4, { sess with abandonedRun := 16 }, by decide +kernel⟩,
   ⟨ys { sess with params := { params with tenantSeed := true }, drbg := ⟨[], 2 ^ 48⟩ }, 4,
     { sess with params := { params with tenantSeed := true }, drbg := ⟨[], 2 ^ 48⟩ }, by decide +kernel⟩,
   ⟨running inEp 3 0, 4, 100, inEp, entry 3 0, by decide +kernel⟩⟩

/-- `Obligations.Epochs`: its clauses 9, 10. -/
theorem wit_Epochs_2 :
    (∃ s : State, ∃ h : Nat, ∃ v : YewSession, ∃ d : Draw, ∃ b : Landing, (s.on = true) ∧ (s.sessions.get? h = some v) ∧ (v.drawing = some d) ∧
      ((s.tile (leadTile s v)).landing.get? v.sampler.tokenBuf = some b) ∧ (Mem.wf (s.tile (leadTile s v)).sram = true) ∧
      (v.inEpoch = false ∨ s.lc ≤ v.guard)) ∧
    (∃ s : State, ∃ h : Nat, ∃ v : YewSession, (s.on = true) ∧ (s.sessions.get? h = some v) ∧ (v.params.tenantSeed = false) ∧
      (65536 ≤ v.drbg.requests) ∧ (noEntropy s = false)) :=
  ⟨⟨{ ys { sess with drawing := some draw1 } with tiles := [(0, { landing := [(0, land1)] })] }, 4, { sess with drawing := some draw1 }, draw1,
     land1, by decide +kernel⟩,
   ⟨ys { sess with drbg := ⟨[], 65536⟩ }, 4, { sess with drbg := ⟨[], 65536⟩ }, by decide +kernel⟩⟩

/-- `Obligations.SessionEvents`: its clauses 1.1, 1.2, 2, 3, 4, 5, 6, 7.
Clause 6 without the hypothesis on the image check, whose evaluation is long. -/
theorem wit_SessionEvents_1 :
    (∃ s : State, ∃ p : Fin 8, ∃ m : ZalReq, ∃ h : Nat, ∃ v : YewSession, ∃ a : Awaited, ∃ mo : Model, (s.on = true) ∧
      ((s.zal p).inService = true) ∧ (m.cells = 2) ∧ (m.bad = false) ∧ (m.status = 0) ∧ (m.aux = 0) ∧ (m.addr = 0) ∧ (s.sessions = [(h, v)]) ∧
      (v.params.speculative = true) ∧ (v.params.verifier = p) ∧ (v.params.streamId = fieldAt m.data 0 4) ∧ (v.state = .running) ∧
      (v.awaited = some a) ∧ (s.models.get? v.params.model = some mo) ∧ (fieldAt m.data 8 8 = a.round) ∧ (fieldAt m.data 16 1 ≤ a.drafts.length) ∧
      (fieldAt m.data 20 4 < mo.header.vocab) ∧ (fieldAt m.data 17 1 ≤ 1) ∧ (zeroAt m.data 4 8 = true) ∧ (zeroAt m.data 18 20 = true) ∧
      (zeroAt m.data 24 32 = true)) ∧
    (∃ s : State, ∃ p : Fin 8, ∃ m : ZalReq, ∃ h : Nat, ∃ v : YewSession, ∃ a : Awaited, ∃ mo : Model, (s.on = true) ∧
      ((s.zal p).inService = true) ∧ (m.cells = 2) ∧ (m.bad = false) ∧ (m.status = 0) ∧ (m.aux = 0) ∧ (m.addr = 0) ∧ (s.sessions = [(h, v)]) ∧
      (v.params.speculative = true) ∧ (v.params.verifier = p) ∧ (v.params.streamId = fieldAt m.data 0 4) ∧ (v.state = .running) ∧
      (v.awaited = some a) ∧ (s.models.get? v.params.model = some mo) ∧
      (fieldAt m.data 8 8 ≠ a.round ∨ a.drafts.length < fieldAt m.data 16 1 ∨ mo.header.vocab ≤ fieldAt m.data 20 4)) ∧
    (∃ s : State, ∃ h : Nat, ∃ v : YewSession, ∃ a : Awaited, ∃ t0 : Nat, (s.on = true) ∧ (s.sessions.get? h = some v) ∧ (v.awaited = some a) ∧
      (a.sentAt = some t0) ∧ (t0 + 1000000 * (if v.params.verdictTimeout = 0 then 10 else v.params.verdictTimeout) ≤ s.lc) ∧
      (v.state = .running) ∧ (v.closing = false) ∧ (v.verdict = none)) ∧
    (∃ s : State, ∃ h : Nat, ∃ v : YewSession, ∃ a : Awaited, ∃ x : ZalTx, (s.on = true) ∧ (s.sessions.get? h = some v) ∧ (v.awaited = some a) ∧
      ((s.zal v.params.verifier).txWait = [x]) ∧ (x.vc = 3) ∧ (canSend (s.zal v.params.verifier) x = true)) ∧
    (∃ s : State, ∃ h : Nat, ∃ v : YewSession, (s.on = true) ∧ (s.sessions.get? h = some v) ∧ (v.params.ringInHost = true) ∧ (v.pend = []) ∧
      (v.closeAt = none)) ∧
    (∃ s : State, ∃ h : Nat, ∃ t0 : Nat, ∃ v : YewSession, (s.on = true) ∧ (s.sessions.get? h = some v) ∧ (v.closeAt = some t0) ∧
      (t0 + 10000000 ≤ s.lc)) ∧
    (∃ s : State, ∃ op : Nat, ∃ part : Nat, ∃ a : Nat, ∃ total : Nat, ∃ o : LongOp, (s.on = true) ∧ (s.longOps.get? op = some o) ∧
      (o.data = .modelLoad part a total) ∧ (rangeBad s part a total = false)) ∧
    (∃ s : State, ∃ op : Nat, ∃ part : Nat, ∃ a : Nat, ∃ total : Nat, ∃ i : Nat, ∃ o : LongOp, (s.on = true) ∧ (s.longOps.get? op = some o) ∧
      (o.data = .modelLoad part a total) ∧ (checkImage s part a = .section_ i)) :=
  ⟨⟨spec spec1, 3, verdictMsg 2 0 99 6, 4, spec1, await1, model, by decide +kernel⟩,
   ⟨spec spec1, 3, verdictMsg 3 0 99 6, 4, spec1, await1, model, by decide +kernel⟩,
   ⟨{ spec spec1 with clk := { lc := 1000000000000 } }, 4, spec1, await1, 0, by decide +kernel⟩,
   ⟨{ spec spec1 with link := { ports := [(3, { zalUp with txWait := [{ vc := 3, msg := { op := 0x20, gen := 0, tag := 0, aux := 0, addr := 0, data := zeros 48 } }] })] } },
     4, spec1, await1, { vc := 3, msg := { op := 0x20, gen := 0, tag := 0, aux := 0, addr := 0, data := zeros 48 } }, by decide +kernel⟩,
   ⟨ys sess, 4, sess, by decide +kernel⟩,
   ⟨{ ys { sess with closeAt := some 0 } with clk := { lc := 10000000 } }, 4, 0, { sess with closeAt := some 0 }, by decide +kernel⟩,
   ⟨loadingTiny, 0, 2, 0, 64, lop (.modelLoad 2 0 64), by decide +kernel⟩,
   ⟨loadingTiny, 0, 2, 0, 64, 0, lop (.modelLoad 2 0 64), by decide +kernel⟩⟩

/-- `Obligations.SessionEvents`: its clauses 8. -/
theorem wit_SessionEvents_2 :
    (∃ s : State, ∃ h : Nat, ∃ v : YewSession, (s.on = true) ∧ (s.sessions.get? h = some v) ∧ (v.state = .loading) ∧
      (∀ g ∈ v.groups, (s.group g).state = .assigned) ∧ (v.params.tenantSeed = true)) :=
  ⟨ys { sess with state := .loading, params := { params with tenantSeed := true } }, 4,
     { sess with state := .loading, params := { params with tenantSeed := true } }, by decide +kernel⟩

/-- `Obligations.GroupAndModelRequests`: its clauses 1, 2, 3, 4, 5, 6, 7, 8. -/
theorem wit_GroupAndModelRequests_1 :
    (∃ s : State, ∃ q : Req, ∃ part : Nat, ∃ g : Nat, (Served s q 0x0501 8 .operator) ∧ (g < 16) ∧ (part < 16) ∧ (partExists s part = true) ∧
      ((s.group g).state = .free)) ∧
    (∃ s : State, ∃ q : Req, ∃ part : Nat, ∃ g : Nat, (Served s q 0x0501 8 .operator) ∧ (g < 16) ∧ (part < 16) ∧ (partExists s part = true) ∧
      ((s.group g).state ≠ .free)) ∧
    (∃ s : State, ∃ q : Req, ∃ g : Nat, (Served s q 0x0502 8 .operator) ∧ (g < 16) ∧ ((s.group g).state = .assigned) ∧
      ((s.group g).session = none)) ∧
    (∃ s : State, ∃ q : Req, (Served s q 0x0503 0 .opOrTenant)) ∧
    (∃ s : State, ∃ q : Req, (Served s q 0x0504 8 .tenant) ∧ (modelsOf s (whoOf s q.mbx).owner < 8) ∧ (logRoom s (whoOf s q.mbx).owner 1 = true)) ∧
    (∃ s : State, ∃ q : Req, ∃ h : Nat, ∃ m : Model, (Served s q 0x0505 8 .tenant) ∧ (s.models.get? h = some m) ∧
      (m.part = (whoOf s q.mbx).owner) ∧ (∀ x ∈ s.sessions, x.2.params.model ≠ h)) ∧
    (∃ s : State, ∃ q : Req, ∃ h : Nat, ∃ m : Model, (Served s q 0x0505 8 .tenant) ∧ (s.models.get? h = some m) ∧
      (m.part = (whoOf s q.mbx).owner) ∧ (∃ x ∈ s.sessions, x.2.params.model = h)) ∧
    (∃ s : State, ∃ q : Req, ∃ b : Bytes, ∃ mo : Model, ∃ p : Nat, (Served s q 0x0506 128 .tenant) ∧ (bitOf (fieldAt b 6 1) 0 = false) ∧
      (bitOf (fieldAt b 6 1) 1 = false) ∧ (fieldAt b 104 2 = 0) ∧ (b.length = 128) ∧ (s.models.get? (fieldAt b 0 4) = some mo) ∧
      (mo.part = (whoOf s q.mbx).owner) ∧ (s.full = true) ∧ (descriptorBad s mo.part mo.image b = false) ∧
      (openPlacement s mo.part mo.image b = some p) ∧ (streamRateBad s mo.image p = false) ∧ (fieldAt b 4 2 = 0xFFFF) ∧
      (reserveShort s mo.image p none = false)) :=
  ⟨⟨{ up with groups := [(15, { state := .free })] }, rq 0x400 8, 2, 15, servedOf (by decide +kernel), by decide +kernel⟩,
   ⟨up, rq 0x400 8, 2, 15, servedOf (by decide +kernel), by decide +kernel⟩,
   ⟨yew, rq 0x400 8, 0, servedOf (by decide +kernel), by decide +kernel⟩,
   ⟨ys sess, rq 5 0, servedOf (by decide +kernel)⟩,
   ⟨up, rq 5 8, servedOf (by decide +kernel), by decide +kernel⟩,
   ⟨{ up with models := [(1, model)] }, rq 5 8, 1, model, servedOf (by decide +kernel), by decide +kernel⟩,
   ⟨ys sess, rq 5 8, 1, model, servedOf (by decide +kernel), by decide +kernel⟩,
   ⟨loaded_, rq 5 128, openBytes, model2, 0, servedOf (by decide +kernel), by decide +kernel⟩⟩

/-- `Obligations.GroupAndModelRequests`: its clauses 9, 10, 11, 12, 13, 14, 15. -/
theorem wit_GroupAndModelRequests_2 :
    (∃ s : State, ∃ q : Req, ∃ h : Nat, ∃ count : Nat, ∃ addr : Nat, ∃ v : YewSession, ∃ bs : Bytes, (Served s q 0x0507 16 .tenant) ∧
      (s.sessions.get? h = some v) ∧ (v.part = (whoOf s q.mbx).owner) ∧ (1 ≤ count) ∧ (count ≤ 1048576) ∧ (v.state ≠ .loading) ∧
      (v.state ≠ .stopped) ∧ (v.closing = false) ∧ (readPlot s v.part addr (4 * count) = .bytes bs) ∧
      (∀ e ∈ chunks 4 count bs, fieldAt e 0 4 < ((s.models.get? v.params.model).map fun m => m.header.vocab).getD 0) ∧
      (v.position + v.input.length + count < ((s.models.get? v.params.model).map fun m => m.header.context).getD 0)) ∧
    (∃ s : State, ∃ q : Req, ∃ h : Nat, ∃ v : YewSession, (Served s q 0x0508 8 .opOrTenant) ∧ (s.sessions.get? h = some v) ∧
      (mayActOn (whoOf s q.mbx) v.part = true) ∧ (v.state ≠ .loading) ∧ (v.closing = false) ∧ (v.inEpoch = true)) ∧
    (∃ s : State, ∃ q : Req, ∃ h : Nat, ∃ v : YewSession, (Served s q 0x0509 8 .opOrTenant) ∧ (s.sessions.get? h = some v) ∧
      (mayActOn (whoOf s q.mbx) v.part = true) ∧ (v.state ≠ .loading)) ∧
    (∃ s : State, ∃ q : Req, ∃ h : Nat, ∃ flags : Nat, ∃ v : YewSession, (Served s q 0x050A 24 .opOrTenant) ∧ (s.sessions.get? h = some v) ∧
      (mayActOn (whoOf s q.mbx) v.part = true) ∧ (v.state ≠ .loading) ∧ (flags < 2)) ∧
    (∃ s : State, ∃ q : Req, ∃ die : Nat, ∃ reserve : Nat, (Served s q 0x050B 8 .operator) ∧ (die < 2) ∧ (reserve ≤ 6222500) ∧
      (admitted s die none ≤ reserve)) ∧
    (∃ s : State, ∃ q : Req, ∃ die : Nat, ∃ reserve : Nat, (Served s q 0x050B 8 .operator) ∧ (die < 2) ∧ (reserve ≤ 6222500) ∧
      (reserve < admitted s die none)) ∧
    (∃ s : State, ∃ q : Req, ∃ h : Nat, ∃ placement : Nat, ∃ v : YewSession, ∃ m : Image, (Served s q 0x050C 8 .tenant) ∧
      (s.sessions.get? h = some v) ∧ (v.part = (whoOf s q.mbx).owner) ∧ (v.state ≠ .loading) ∧ (v.state ≠ .stopped) ∧ (v.closing = false) ∧
      (v.replacing = none) ∧ (sessImage s v = some m) ∧ (placement < m.header.placements) ∧ (streamRateBad s m placement = false) ∧
      (groupsFit s v.part (some h) (placementGroups s m placement) = true) ∧ (reserveShort s m placement (some h) = false)) :=
  ⟨⟨{ plots (ys sess) (Mem.writeN [] 0x2000 (le 4 7 ++ le 4 99)) with models := [(1, model)] }, rq 5 16, 4, 2, 0x2000, sess, le 4 7 ++ le 4 99,
     servedOf (by decide +kernel), by decide +kernel⟩,
   ⟨ys inEp, rq 0x400 8, 4, inEp, servedOf (by decide +kernel), by decide +kernel⟩,
   ⟨ys sess, rq 5 8, 4, sess, servedOf (by decide +kernel), by decide +kernel⟩,
   ⟨ys sess, rq 5 24, 4, 0, sess, servedOf (by decide +kernel), by decide +kernel⟩,
   ⟨up, rq 0x400 8, 1, 6222500, servedOf (by decide +kernel), by decide +kernel⟩,
   ⟨{ ys { sess with epochs := [(0, ⟨2000, 0, 1900, 10, 20, 1⟩)] } with models := [(1, { model with header := { header with mode := 2 } })] },
     rq 0x400 8, 1, 19, servedOf (by decide +kernel), by decide +kernel⟩,
   ⟨{ loaded_ with groups := [(0, { grp with session := some 4 })], sessions := [(4, sess)] }, rq 5 8, 4, 0, sess, model2.image,
     servedOf (by decide +kernel), by decide +kernel⟩⟩

/-- `Obligations.KnalysImmediate`: its clauses 4, 5.2, 5.3.1, 5.3.2, 5.3.3, 5.3.4, 5.3.5, 6. -/
theorem wit_KnalysImmediate_1 :
    (∃ s : State, ∃ i : Issue, ∃ n : BitVec 8, ∃ v : Nat, (specialValue (s.modCore (coreNo i.core) fun x => x.advance i.cycle) i.core n.toNat = some v)) ∧
    (∃ k : CoreId, ∃ c, ∃ j, (k = .privet c j)) ∧
    (∃ k : CoreId, ∃ t, (k = .yew t)) ∧
    (∃ k : CoreId, ∃ t, (k = .yew t)) ∧
    (∃ k : CoreId, ∃ t, (k = .yew t)) ∧
    (∃ k : CoreId, ∃ t, (k = .yew t)) ∧
    (∃ k : CoreId, ∃ t, ∃ j, (k = .yew t) ∧ (j < 32)) ∧
    (∃ i : Issue, ∃ n : BitVec 8, (n = 1 ∨ n = 2 ∨ (isYew i.core = true ∧ (n = 0x11 ∨ n = 0x12 ∨ (0x14 ≤ n ∧ n ≤ 0x17))) ∨ (isYew i.core = false ∧ n = 0x42))) :=
  ⟨⟨kn 1 2 4, isP 1, 0x40, 100, by decide +kernel⟩,
   ⟨.privet 0 3, 0, 3, by decide +kernel⟩,
   ⟨.yew 6, 6, by decide +kernel⟩,
   ⟨.yew 6, 6, by decide +kernel⟩,
   ⟨.yew 6, 6, by decide +kernel⟩,
   ⟨.yew 6, 6, by decide +kernel⟩,
   ⟨.yew 6, 6, 31, by decide +kernel⟩,
   ⟨isY 1, 0x17, by decide +kernel⟩⟩

/-- `Obligations.KnalysImmediate`: its clauses 7. -/
theorem wit_KnalysImmediate_2 :
    (∃ s : State, ∃ i : Issue, ∃ k : Fin 16, ∃ e : Bytes, (decodeEntry (s.decode.getD (s.core (coreNo i.core)).owner []) k = e) ∧
      (isYew i.core = false) ∧ (fieldAt e 3 1 % 2 = 1) ∧ (entryFlags e = 1) ∧ (fieldAt e 0 1 % 2 = 1) ∧ (entryWidth e = 64)) :=
  ⟨{ kn 3 5 4 with decode := [(2, [3, 1, 4, 1, 0, 0, 0, 0] ++ le 4 0x00000001 ++ zeros 1012)] }, isP 1, 0,
     [3, 1, 4, 1, 0, 0, 0, 0] ++ le 4 0x00000001 ++ zeros 52, by decide +kernel⟩

/-- `Obligations.KnalysControl`: its clauses 6, 9.1, 9.2, 9.3, 9.4, 9.5, 10, 12. -/
theorem wit_KnalysControl_1 :
    (∃ x : Core, ∃ t : Nat, ∃ c1 : Nat, ∃ c2 : Nat, ∃ c3 : Nat, (x.branch = some (2, t)) ∧ (x.first = false) ∧ (x.hidden = 0) ∧ (x.cycle < c1) ∧
      (c1 < c2) ∧ (c2 < c3)) ∧
    (∃ x : Core, ∃ c : Nat, ∃ n, (x.first = false) ∧ (x.cycle ≤ c) ∧ (n ≤ x.hidden)) ∧
    (∃ x : Core, ∃ c : Nat, ∃ n, (x.first = false) ∧ (x.cycle ≤ c) ∧ (n ≤ x.hidden)) ∧
    (∃ x : Core, ∃ c : Nat, ∃ n, (x.first = false) ∧ (x.cycle ≤ c) ∧ (n ≤ x.hidden) ∧ (0 < n)) ∧
    (∃ x : Core, ∃ c : Nat, ∃ n, (x.first = false) ∧ (x.cycle ≤ c) ∧ (n ≤ x.hidden)) ∧
    (∃ x : Core, ∃ c : Nat, ∃ n, (x.first = false) ∧ (x.cycle ≤ c) ∧ (n ≤ x.hidden)) ∧
    (∃ s : State, ∃ i : Issue, (i.slot ≠ 0) ∧ ((s.core (coreNo i.core)).skip = true) ∧ ((s.core (coreNo i.core)).first = false) ∧
      (i.cycle = (s.core (coreNo i.core)).cycle)) ∧
    (∃ i : Issue, ∃ k : Fin 144, (i.core = .yew k)) :=
  ⟨⟨{ branch := some (2, 50), pc := 8191 }, 50, 1, 2, 5, by decide +kernel⟩,
   ⟨{ hidden := 4, pc := 3, branch := some (1, 7), cycle := 9 }, 9, 4, by decide +kernel⟩,
   ⟨{ hidden := 4, pc := 3, branch := some (1, 7), cycle := 9 }, 9, 4, by decide +kernel⟩,
   ⟨{ hidden := 4, pc := 3, branch := some (1, 7), cycle := 9 }, 9, 4, by decide +kernel⟩,
   ⟨{ hidden := 4, pc := 3, imx := some (1, 7), cycle := 9 }, 9, 4, by decide +kernel⟩,
   ⟨{ hidden := 4, pc := 3, branch := some (1, 7), cycle := 9 }, 9, 4, by decide +kernel⟩,
   ⟨knP (fun x => { x with first := false, skip := true, cycle := 40 }), isP 3, by decide +kernel⟩,
   ⟨isY 0, 6, by decide +kernel⟩⟩

/-- `Obligations.KnalysControl`: its clauses 13, 14, 15, 16, 17, 18. -/
theorem wit_KnalysControl_2 :
    (∃ i : Issue, ∃ k : Fin 144, (i.core = .yew k)) ∧
    (∃ s : State, ∃ i : Issue, ∃ w : Nat, ((s.core (coreNo i.core)).waitUntil = some w) ∧ (s.lc < w) ∧ ((s.core (coreNo i.core)).first = false) ∧
      ((s.core (coreNo i.core)).hidden = 0) ∧ ((s.core (coreNo i.core)).cycle < i.cycle)) ∧
    (∃ i : Issue, ∃ k : Fin 144, (i.core = .yew k)) ∧
    (∃ i : Issue, ∃ c : Fin 64, ∃ k : Fin 16, (i.core = .privet c k)) ∧
    (∃ s : State, ∃ i : Issue, ((s.core (coreNo i.core)).ended = true) ∧ ((s.core (coreNo i.core)).first = false) ∧
      ((s.core (coreNo i.core)).hidden = 0) ∧ ((s.core (coreNo i.core)).cycle < i.cycle)) ∧
    (∃ s : State, ∃ k : Fin 1024, (s.on = true) ∧ ((s.core k).running = true) ∧ ((s.core k).ended = false)) :=
  ⟨⟨isY 0, 6, by decide +kernel⟩,
   ⟨knY (fun x => { x with first := false, waitUntil := some 1001 }), isY 0, 1001, by decide +kernel⟩,
   ⟨isY 0, 6, by decide +kernel⟩,
   ⟨isP 0, 0, 3, by decide +kernel⟩,
   ⟨knP (fun x => { x with first := false, ended := true }), isP 0, by decide +kernel⟩,
   ⟨kn 1 2 0, 3, by decide +kernel⟩⟩

/-- `Obligations.KnalysResults`: its clauses 1, 2, 3. -/
theorem wit_KnalysResults_1 :
    (∃ x : Core, ∃ t : Nat, ∃ n : Nat, ∃ p : KnPending, (p ∈ x.pend) ∧ (p.target = .reg n) ∧ (p.due ≤ t) ∧ (p.slot < 8) ∧
      (∀ q ∈ x.pend, q ≠ p → q.target = .reg n → q.due ≤ t → q.slot < 8 ∧ (q.due < p.due ∨ (q.due = p.due ∧ q.slot < p.slot)))) ∧
    (∃ x : Core, ∃ t : Nat, ∃ n : Nat, (∀ q ∈ x.pend, q.target = .reg n → t < q.due)) ∧
    (∃ x : Core, ∃ t : Nat, (∀ q ∈ x.pend, ∀ m, q.target = .flags m → t < q.due) ∧ (∀ q ∈ x.pend, q.target = .special 1 → t < q.due)) :=
  ⟨⟨{ regs := [(3, 1)], pend := [⟨5, 1, .reg 3, 10⟩, ⟨5, 2, .reg 3, 11⟩, ⟨4, 3, .reg 3, 12⟩, ⟨9, 1, .reg 3, 13⟩] }, 5, 3, ⟨5, 2, .reg 3, 11⟩,
     by decide +kernel⟩,
   ⟨{ regs := [(3, 1)], pend := [⟨6, 1, .reg 3, 10⟩, ⟨5, 2, .reg 4, 11⟩] }, 5, 3, by decide +kernel⟩,
   ⟨{ flags := 9, pend := [⟨6, 1, .flags 15, 10⟩, ⟨6, 2, .special 1, 11⟩, ⟨1, 2, .special 2, 11⟩] }, 5,
     (by intro q h m hm; simp only [List.mem_cons, List.not_mem_nil, or_false] at h; rcases h with rfl | rfl | rfl <;> first | decide | cases hm),
     by decide +kernel⟩⟩

/-- `Obligations.KnalysMemory`: its clauses 3, 4.1, 4.2, 4.3, 5, 6. -/
theorem wit_KnalysMemory_1 :
    (∃ s : State, ∃ c : Fin 64, ∃ k : Fin 16, ∃ slot : Fin 4, ∃ cycle : Nat, (canIssue s ⟨.privet c k, slot, cycle⟩ .memory = true)) ∧
    (∃ s : State, ∃ c : Fin 64, ∃ k : Fin 16, ∃ slot : Fin 4, ∃ cycle : Nat, ∃ ra : Fin 32, ∃ rb : Fin 32, ∃ fn : BitVec 8, ∃ tb : MatchTable, ∃ n, n = (coreNo (.privet c k)) ∧
      ∃ x, x = ((s.core n).advance cycle) ∧ (canIssue s ⟨.privet c k, slot, cycle⟩ .memory = true) ∧
      ((x.handles.getD (fn.toNat / 64) {}).busy = false) ∧ (s.pkt.tables.get? (fn.toNat % 64) = some tb) ∧ (tb.owner = x.owner) ∧
      ((x.reg ra).toNat + tb.kl ≤ 4096) ∧ ((x.reg rb).toNat + 32 ≤ 4096)) ∧
    (∃ s : State, ∃ c : Fin 64, ∃ k : Fin 16, ∃ slot : Fin 4, ∃ cycle : Nat, ∃ fn : BitVec 8, ∃ n, n = (coreNo (.privet c k)) ∧
      ∃ x, x = ((s.core n).advance cycle) ∧ (canIssue s ⟨.privet c k, slot, cycle⟩ .memory = true) ∧
      ((x.handles.getD (fn.toNat / 64) {}).busy = true)) ∧
    (∃ s : State, ∃ c : Fin 64, ∃ k : Fin 16, ∃ slot : Fin 4, ∃ cycle : Nat, ∃ ra : Fin 32, ∃ fn : BitVec 8, ∃ tb : MatchTable, ∃ n, n = (coreNo (.privet c k)) ∧
      ∃ x, x = ((s.core n).advance cycle) ∧ (canIssue s ⟨.privet c k, slot, cycle⟩ .memory = true) ∧
      ((x.handles.getD (fn.toNat / 64) {}).busy = false) ∧ (s.pkt.tables.get? (fn.toNat % 64) = some tb) ∧ (tb.owner = x.owner) ∧
      (4096 < (x.reg ra).toNat + tb.kl)) ∧
    (∃ i : Issue, ∃ c : Fin 64, ∃ k : Fin 16, (i.core = .privet c k)) ∧
    (∃ i : Issue, ∃ c : Fin 64, ∃ k : Fin 16, (i.core = .privet c k)) :=
  ⟨⟨kn 8 3 4, 0, 3, 2, 40, by decide +kernel⟩,
   ⟨{ kn 8 3 4 with pkt := { tables := [(5, tbl1)] } }, 0, 3, 2, 40, 1, 2, 69, tbl1, _, rfl, _, rfl, by decide +kernel⟩,
   ⟨{ knP (fun x => { x with handles := [(1, { busy := true })] }) with pkt := { tables := [(5, tbl1)] } }, 0, 3, 2, 40, 69, _, rfl, _, rfl,
     by decide +kernel⟩,
   ⟨{ kn 4081 3 4 with pkt := { tables := [(5, tbl1)] } }, 0, 3, 2, 40, 1, 69, tbl1, _, rfl, _, rfl, by decide +kernel⟩,
   ⟨isP 2, 0, 3, by decide +kernel⟩,
   ⟨isP 2, 0, 3, by decide +kernel⟩⟩

/-- `Obligations.MatrixUnit`: its clauses 1.1, 1.2, 2, 3, 4, 5, 6. -/
theorem wit_MatrixUnit_1 :
    (∃ s : State, ∃ k : Fin 144, ∃ slot : Fin 4, ∃ cycle : Nat, ∃ q : Fin 4, ∃ ra : Fin 32, ∃ rb : Fin 32, ∃ x, x = ((s.core (1024 + k)).advance cycle) ∧
      ∃ c, c = ((x.reg rb ++ x.reg ra).toNat) ∧ (canIssue s ⟨.yew k, slot, cycle⟩ .memory = true) ∧ (((s.tile k).queue q).length < 32) ∧
      (tissOk s k q c = true)) ∧
    (∃ s : State, ∃ k : Fin 144, ∃ slot : Fin 4, ∃ cycle : Nat, ∃ q : Fin 4, ∃ ra : Fin 32, ∃ rb : Fin 32, ∃ x, x = ((s.core (1024 + k)).advance cycle) ∧
      ∃ c, c = ((x.reg rb ++ x.reg ra).toNat) ∧ (canIssue s ⟨.yew k, slot, cycle⟩ .memory = true) ∧ (((s.tile k).queue q).length < 32) ∧
      (tissOk s k q c = false)) ∧
    (∃ x : Tile, ∃ c : Nat, (bitsOf c 3 0 = 1) ∧
      (bitsOf c 118 112 = 0 ∨ 64 < bitsOf c 118 112 ∨ bitsOf c 127 119 ≠ 0 ∨ (bitsOf c 7 4 = 10) ≠ (bitsOf c 11 8 = 10) ∨ (c.testBit 14 = false ∧ x.accFloat.getD (bitsOf c 13 12) false = c.testBit 15))) ∧
    (∃ s : State, ∃ k : Fin 144, ∃ start : Nat, ∃ w : Nat, ∃ rest : List Nat, (s.on = true) ∧ ((s.tile k).qMatrix = w :: rest) ∧
      (bitsOf w 3 0 = 1) ∧ ((s.tile k).matrixFree ≤ start) ∧ ((s.tile k).poisoned = []) ∧
      (bitsOf w 7 4 ≤ 5 ∨ bitsOf w 7 4 = 8 ∨ bitsOf w 7 4 = 9 ∨ bitsOf w 7 4 = 10) ∧ (bitsOf w 7 4 = 0 → bitsOf w 11 8 = 0)) ∧
    (∃ s : State, ∃ k : Fin 144, ∃ start : Nat, ∃ w : Nat, ∃ rest : List Nat, (s.on = true) ∧ ((s.tile k).qMatrix = w :: rest) ∧
      (bitsOf w 3 0 = 2) ∧ ((s.tile k).matrixFree ≤ start) ∧ ((s.tile k).poisoned = [])) ∧
    (∃ s : State, ∃ k : Fin 144, ∃ start : Nat, ∃ w : Nat, ∃ rest : List Nat, (s.on = true) ∧ ((s.tile k).qMatrix = w :: rest) ∧
      (bitsOf w 3 0 = 3) ∧ ((s.tile k).matrixFree ≤ start)) ∧
    (∃ m : MatCmd, (m.int = true) ∧ (m.start = true) ∧ (m.wfmt = 10) ∧ (m.afmt = 10)) :=
  ⟨⟨tn tx (mw 1 10 10 2 1 1 0 32 0 0 1), 6, 2, 40, 0, 1, 2, _, rfl, _, rfl, by decide +kernel⟩,
   ⟨tn tx (mw 1 10 10 2 1 0 0 32 0 0 1), 6, 2, 40, 0, 1, 2, _, rfl, _, rfl, by decide +kernel⟩,
   ⟨tx, mw 1 10 10 2 1 1 0 32 0 0 0, by decide +kernel⟩,
   ⟨tn { tx with qMatrix := [mw 1 10 10 2 1 1 0 32 0 0 2, 5] } 0, 6, 100, mw 1 10 10 2 1 1 0 32 0 0 2, [5], by decide +kernel⟩,
   ⟨tn { tx with qMatrix := [mw 2 10 10 2 1 1 0 32 0 0 2, 5], stationary := some (10, zeros 4096, []) } 0, 6, 100, mw 2 10 10 2 1 1 0 32 0 0 2,
     [5], by decide +kernel⟩,
   ⟨tn { tx with qMatrix := [3 + 2 * 2 ^ 12, 5], lanes := [{ due := 101, acc := true, index := 130, value := [] }, { due := 102, acc := true, index := 131, value := [] }] } 0,
     6, 100, 3 + 2 * 2 ^ 12, [5], by decide +kernel⟩,
   ⟨MatCmd.ofWord (mw 1 10 10 2 1 1 0 32 0 0 2), by decide +kernel⟩⟩

/-- `Obligations.VectorUnit`: its clauses 4, 5, 6, 7, 8, 9. -/
theorem wit_VectorUnit_1 :
    (∃ s : State, ∃ k : Fin 144, ∃ start : Nat, ∃ w : Nat, ∃ rest : List Nat, (s.on = true) ∧ ((s.tile k).qVector = w :: rest) ∧
      (bitsOf w 7 0 = 0x20) ∧ (bitsOf w 59 56 = 11) ∧ ((s.tile k).vectorFree ≤ start) ∧ ((s.tile k).poisoned = [])) ∧
    (∃ s : State, ∃ k : Fin 144, ∃ start : Nat, ∃ w : Nat, ∃ rest : List Nat, (s.on = true) ∧ ((s.tile k).qVector = w :: rest) ∧
      (bitsOf w 7 0 = 0x21) ∧ (bitsOf w 59 56 = 11) ∧ ((s.tile k).vectorFree ≤ start) ∧
      (∀ r ∈ (s.tile k).regions, r.cls ≠ .weight ∧ r.cls ≠ .stream ∧ r.cls ≠ .persist) ∧ (Mem.wf (s.tile k).sram = true) ∧
      ((vectorReg ((s.tile k).settle start) (bitsOf w 17 13)).length = 256)) ∧
    (∃ s : State, ∃ k : Fin 144, ∃ start : Nat, ∃ w : Nat, ∃ rest : List Nat, (s.on = true) ∧ ((s.tile k).qVector = w :: rest) ∧
      (bitsOf w 7 0 = 0x28) ∧ ((s.tile k).vectorFree ≤ start) ∧ (bitsOf w 59 56 ≤ 5) ∧
      (∀ r ∈ (s.tile k).regions, r.cls ≠ .weight ∧ r.cls ≠ .stream ∧ r.cls ≠ .persist)) ∧
    (∃ s : State, ∃ k : Fin 144, ∃ start : Nat, ∃ w : Nat, ∃ rest : List Nat, (s.on = true) ∧ ((s.tile k).qVector = w :: rest) ∧
      (bitsOf w 7 0 = 0x22) ∧ ((s.tile k).vectorFree ≤ start) ∧ (bitsOf w 39 34 ≤ 60)) ∧
    (∃ s : State, ∃ k : Fin 144, ∃ start : Nat, ∃ w : Nat, ∃ rest : List Nat, (s.on = true) ∧ ((s.tile k).qVector = w :: rest) ∧
      (bitsOf w 7 0 = 0x38) ∧ ((s.tile k).vectorFree ≤ start)) ∧
    (∃ s : State, ∃ k : Fin 144, ∃ start : Nat, ∃ w : Nat, ∃ rest : List Nat, (s.on = true) ∧ ((s.tile k).qVector = w :: rest) ∧
      (bitsOf w 7 0 = 0x39) ∧ ((s.tile k).vectorFree ≤ start)) :=
  ⟨⟨tn { vtile (vw 0x20 4 0 0 0 0 4 11 0) with sram := Mem.writeN [] 0 ((List.range 40).map fun k => BitVec.ofNat 8 (200 - k)) } 0, 6, 100,
     vw 0x20 4 0 0 0 0 4 11 0, [5], by decide +kernel⟩,
   ⟨tn (vtile (vw 0x21 4 1 0 0 0 4 11 0)) 0, 6, 100, vw 0x21 4 1 0 0 0 4 11 0, [5], by decide +kernel⟩,
   ⟨tn (vtile (vw 0x28 4 1 0 0 0 64 1 4096)) 0, 6, 100, vw 0x28 4 1 0 0 0 64 1 4096, [5], by decide +kernel⟩,
   ⟨tn { vtile (vw 0x22 4 1 0 0 0 (1 + 60 * 4) 0 0) with acc := [(64 + 60, (vreg1.take 64)), (64 + 62, (vreg2.take 64))] } 0, 6, 100,
     vw 0x22 4 1 0 0 0 (1 + 60 * 4) 0 0, [5], by decide +kernel⟩,
   ⟨tn { vtile (vw 0x38 4 1 0 0 0 4 11 0) with qVector := [vw 0x38 4 1 0 0 0 4 11 0, 5] } 0, 6, 100, vw 0x38 4 1 0 0 0 4 11 0, [5],
     by decide +kernel⟩,
   ⟨vst (vw 0x39 4 1 0 0 0 0 0 0) 0, 6, 100, vw 0x39 4 1 0 0 0 0 0 0, [5], by decide +kernel⟩⟩

/-- `Obligations.SendsAndGateways`: its clauses 1, 2.1, 2.2, 3, 4, 5, 6, 7. -/
theorem wit_SendsAndGateways_1 :
    (∃ s : State, ∃ k : Fin 144, ∃ start : Nat, ∃ c : Nat, ∃ h : Nat, ∃ rest : List Nat, ∃ v : YewSession, (s.on = true) ∧
      ((s.tile k).qSend = c :: rest) ∧ ((s.tile k).sendFree ≤ start) ∧ (tileSession s k = some (h, v)) ∧ ((s.tile k).poisoned = []) ∧
      ((s.tile k).poisonStep = false)) ∧
    (∃ s : State, ∃ k : Fin 144, ∃ c : Nat, ∃ h : Nat, ∃ rest : List Nat, ∃ v : YewSession, (s.on = true) ∧ ((s.tile k).qGate = c :: rest) ∧
      (tileSession s k = some (h, v)) ∧ (bitsOf c 1 0 = 0) ∧ (translates s v.part (biased s v (bitsOf c 111 64)) (bitsOf c 63 32) = false)) ∧
    (∃ s : State, ∃ k : Fin 144, ∃ c : Nat, ∃ h : Nat, ∃ rest : List Nat, ∃ v : YewSession, (s.on = true) ∧ ((s.tile k).qGate = c :: rest) ∧
      (tileSession s k = some (h, v)) ∧ (bitsOf c 1 0 = 0) ∧ (translates s v.part (biased s v (bitsOf c 111 64)) (bitsOf c 63 32) = true) ∧
      ((gateBytes s v.part (biased s v (bitsOf c 111 64)) (bitsOf c 63 32)).2 = [])) ∧
    (∃ s : State, ∃ k : Fin 144, ∃ c : Nat, ∃ h : Nat, ∃ rest : List Nat, ∃ v : YewSession, (s.on = true) ∧ ((s.tile k).qGate = c :: rest) ∧
      (tileSession s k = some (h, v)) ∧ (bitsOf c 1 0 = 1) ∧ ((s.tile k).poisoned = [])) ∧
    (∃ s : State, ∃ k : Fin 144, ∃ c : Nat, ∃ h : Nat, ∃ rest : List Nat, ∃ v : YewSession, (s.on = true) ∧ ((s.tile k).qGate = c :: rest) ∧
      (tileSession s k = some (h, v)) ∧ (bitsOf c 1 0 = 2) ∧ (translates s v.part (biased s v (bitsOf c 111 64)) 16 = true) ∧
      (fieldAt (gateBytes s v.part (biased s v (bitsOf c 111 64)) 16).1 0 4 = 0)) ∧
    (∃ s : State, ∃ k : Fin 144, ∃ c : Nat, ∃ h : Nat, ∃ a : Nat, ∃ n : Nat, ∃ rest : List Nat, ∃ v : YewSession, (s.on = true) ∧
      ((s.tile k).qGate = c :: rest) ∧ (tileSession s k = some (h, v)) ∧ (bitsOf c 1 0 = 2) ∧
      (translates s v.part (biased s v (bitsOf c 111 64)) 16 = true) ∧ (pageList s v.part v (biased s v (bitsOf c 111 64)) = some [(a, n)]) ∧
      (translates s v.part a n = true) ∧ (a % 32 = 0) ∧ (n % 32 = 0) ∧ (32 ≤ n) ∧ (n ≤ 65536) ∧ (0 < bitsOf c 63 32)) ∧
    (∃ s : State, ∃ k : Fin 144, ∃ m : MeshMsg, ∃ rest : List MeshMsg, ∃ j : Nat, ∃ b : Landing, (s.on = true) ∧ (s.mesh = m :: rest) ∧
      (physOf s (m.dst / 9) (m.dst % 9) = k) ∧ (m.arrive ≤ tclkNow s) ∧ ((s.group (m.dst / 9)).session = some m.session) ∧ (m.gateway = false) ∧
      ((s.tile k).step = none) ∧ (∀ r ∈ (s.tile k).regions, r.cls ≠ .persist) ∧ (landingOf (s.tile k) m.addr m.data.length = some (j, b)) ∧
      ((s.tile k).landing.get? j = some b) ∧ (b.fill + m.data.length ≤ b.expected)) ∧
    (∃ s : State, ∃ k : Fin 144, ∃ m : MeshMsg, ∃ rest : List MeshMsg, (s.on = true) ∧ (s.mesh = m :: rest) ∧
      (physOf s (m.dst / 9) (m.dst % 9) = k) ∧ (m.arrive ≤ tclkNow s) ∧ ((s.group (m.dst / 9)).session = some m.session) ∧ (m.gateway = false) ∧
      ((s.tile k).step = none) ∧ (landingOf (s.tile k) m.addr m.data.length = none)) :=
  ⟨⟨tn { tx with qSend := [swd 0 4096 5 0 64, 5] } 0, 6, 100, swd 0 4096 5 0 64, 4, [5], sess, by decide +kernel⟩,
   ⟨gt { tx with qGate := [gw 0 4096 64 (2 ^ 30 - 32), 5] } [], 6, gw 0 4096 64 (2 ^ 30 - 32), 4, [5], sess, by decide +kernel⟩,
   ⟨gt { tx with qGate := [gw 0 4096 64 32, 5] } (Mem.writeN [] 32 [1, 2, 3]), 6, gw 0 4096 64 32, 4, [5], sess, by decide +kernel⟩,
   ⟨gt { tx with qGate := [gw 1 0 64 32, 5] } (Mem.writeN [] 32 [1, 2, 3]), 6, gw 1 0 64 32, 4, [5], sess, by decide +kernel⟩,
   ⟨gt { tx with qGate := [gw 2 4096 64 32, 5] } (Mem.writeN [] 32 (zeros 16)), 6, gw 2 4096 64 32, 4, [5], sess, by decide +kernel⟩,
   ⟨gt { tx with qGate := [gw 2 4096 48 32, 5] } (Mem.writeN [] 32 (le 4 1 ++ zeros 12 ++ le 8 256 ++ le 4 64 ++ zeros 4)), 6, gw 2 4096 48 32,
     4, 256, 64, [5], sess, by decide +kernel⟩,
   ⟨{ tn { tx with landing := [(0, land1)] } 0 with mesh := [meshMsg] }, 6, meshMsg, [], 0, land1, by decide +kernel⟩,
   ⟨{ tn tx 0 with mesh := [meshMsg] }, 6, meshMsg, [], by decide +kernel⟩⟩

/-- `Obligations.NumberRules`: its clauses 1.1, 1.2, 1.3, 1.4, 2.1, 2.2, 2.3, 2.4. -/
theorem wit_NumberRules_1 :
    (∃ isNan, isNan = (fun (a : Nat) => 0x7F800000 < a % 2 ^ 31) ∧
      ∃ ftz : Bool, ∃ a : W32, ∃ b : W32, ∃ c : W32, (isNan (fmaOp ftz a.toNat b.toNat c.toNat).1)) ∧
    (∃ ftz : Bool, (ftz = true)) ∧
    (∃ isNan, isNan = (fun (a : Nat) => 0x7F800000 < a % 2 ^ 31) ∧
      ∃ a : W32, ∃ b : W32, ∃ c : W32, (isNan a.toNat ∨ isNan b.toNat ∨ isNan c.toNat)) ∧
    (∃ a : W32, ∃ b : W32, (a.toNat % 2 ^ 31 = 0x7F800000) ∧ (b.toNat % 2 ^ 31 = 0)) ∧
    (∃ isNan, isNan = (fun (a : Nat) => 0x7F800000 < a % 2 ^ 31) ∧ ∃ a : W32, ∃ b : W32, (isNan a.toNat) ∧ (isNan b.toNat)) ∧
    (∃ isNan, isNan = (fun (a : Nat) => 0x7F800000 < a % 2 ^ 31) ∧ ∃ ftz : Bool, ∃ a : W32, ∃ b : W32, (isNan a.toNat) ∧ (¬ isNan b.toNat) ∧
      (ftz = false)) ∧
    (∃ isNan, isNan = (fun (a : Nat) => 0x7F800000 < a % 2 ^ 31) ∧ ∃ ftz : Bool, ∃ a : W32, ∃ b : W32, (¬ isNan a.toNat) ∧ (isNan b.toNat) ∧
      (ftz = false)) ∧
    (∃ ftz : Bool, (ftz = false)) :=
  ⟨⟨_, rfl, false, 0x7FC00001, 1, 2, by decide +kernel⟩,
   ⟨true, by decide +kernel⟩,
   ⟨_, rfl, 1, 0xFFC00000, 3, by decide +kernel⟩,
   ⟨0xFF800000, 0x80000000, by decide +kernel⟩,
   ⟨_, rfl, 0x7F800001, 0xFFFFFFFF, by decide +kernel⟩,
   ⟨_, rfl, false, 0x7F800001, 0x7F800000, by decide +kernel⟩,
   ⟨_, rfl, false, 0xFF800000, 0xFF800001, by decide +kernel⟩,
   ⟨false, by decide +kernel⟩⟩

/-- `Obligations.NumberRules`: its clauses 3.1, 3.2, 4.1, 4.2, 4.3, 5, 6.1, 6.2. -/
theorem wit_NumberRules_2 :
    (∃ a : W32, (a.toNat % 2 ^ 31 = 0)) ∧
    (∃ ftz : Bool, ∃ a : W32, (0x80000000 < a.toNat) ∧ (a.toNat ≤ 0xFF800000) ∧ (ftz = false)) ∧
    (∃ isNan, isNan = (fun (a : Nat) => 0x7F800000 < a % 2 ^ 31) ∧ ∃ a : W32, (isNan a.toNat)) ∧
    (∃ a : W32, (0x4F000000 ≤ a.toNat) ∧ (a.toNat ≤ 0x7F800000)) ∧
    (∃ a : W32, (0xCF000001 ≤ a.toNat) ∧ (a.toNat ≤ 0xFF800000)) ∧
    (∃ k : Nat, (k < 2 ^ 24)) ∧
    (∃ xs : List W32, (∃ x ∈ xs, 0x7F800000 ≤ x.toNat % 2 ^ 31)) ∧
    (∃ xs : List W32, (∀ x ∈ xs, x.toNat % 2 ^ 31 = 0)) :=
  ⟨⟨0x80000000, by decide +kernel⟩,
   ⟨false, 0xFF800000, by decide +kernel⟩,
   ⟨_, rfl, 0xFF800001, by decide +kernel⟩,
   ⟨0x4F000000, by decide +kernel⟩,
   ⟨0xCF000001, by decide +kernel⟩,
   ⟨2 ^ 24 - 1, by decide +kernel⟩,
   ⟨[0xFFC00000], ⟨_, .head _, by decide⟩⟩,
   ⟨[0x80000000], (by intro x hx; cases List.mem_singleton.mp hx; decide)⟩⟩

/-- `Obligations.NumberRules`: its clauses 7.1, 7.2. -/
theorem wit_NumberRules_3 :
    (∃ sa : Nat, ∃ sw : Nat, (sa = 0xFF ∨ sw = 0xFF)) ∧
    (∃ fa : Nat, ∃ sa : Nat, ∃ fw : Nat, ∃ sw : Nat, ∃ a : List Nat, ∃ w : List Nat, (∀ x ∈ a, ∃ n m e, mxElem fa x = .fin n m e) ∧
      (∀ x ∈ w, ∃ n m e, mxElem fw x = .fin n m e) ∧ (sa < 0xFF) ∧ (sw < 0xFF)) :=
  ⟨⟨254, 255, by decide +kernel⟩,
   ⟨0, 254, 0, 0, [1], [1], (by intro x hx; cases List.mem_singleton.mp hx; exact ⟨_, _, _, rfl⟩),
     (by intro x hx; cases List.mem_singleton.mp hx; exact ⟨_, _, _, rfl⟩), by decide +kernel⟩⟩

/-- `Obligations.PlotSpace`: its clauses 1, 3, 4, 5.1, 5.2, 5.3, 5.4. -/
theorem wit_PlotSpace_1 :
    (∃ n : Nat, ∃ i : Nat, ∃ j : Nat, ∃ off : Nat, ∃ off' : Nat, (1 ≤ n) ∧ (n ≤ 4) ∧ (off < 2 ^ 30) ∧ (off' < 2 ^ 30) ∧
      (place i off n = place j off' n)) ∧
    (∃ s : State, ∃ o : Owner, ∃ a : Nat, (2 ^ 40 ≤ a ∨ slotPlot s o (a / 2 ^ 30) = none)) ∧
    (∃ s : State, ∃ o : Owner, ∃ a : Nat, ∃ n : Nat, ∃ off : Nat, (translate s o a = some (n, off))) ∧
    (∃ s : State, ∃ t : State, ∃ o : Owner, ∃ a : Nat, ∃ n : Nat, ∃ off : Nat, ∃ data : Bytes, (Mem.wf s.dram.bytes = true) ∧
      (translate s o a = some (n, off)) ∧ (off + data.length ≤ 2 ^ 30) ∧ (data ≠ []) ∧ (n < 1024) ∧
      (∀ w ∈ s.dram.poison, 32 * w + 32 ≤ dpaOf n off ∨ dpaOf n off + data.length ≤ 32 * w) ∧ (writeRaw s o a data = (.done, t))) ∧
    (∃ s : State, ∃ t : State, ∃ o : Owner, ∃ a : Nat, ∃ n : Nat, ∃ off : Nat, ∃ data : Bytes, ∃ m, ∃ k, (Mem.wf s.dram.bytes = true) ∧
      (translate s o a = some (n, off)) ∧ (off + data.length ≤ 2 ^ 30) ∧ (data ≠ []) ∧ (n < 1024) ∧
      (∀ w ∈ s.dram.poison, 32 * w + 32 ≤ dpaOf n off ∨ dpaOf n off + data.length ≤ 32 * w) ∧ (writeRaw s o a data = (.done, t)) ∧ (m ≠ n) ∧
      (m < 1024) ∧ (k < 2 ^ 30)) ∧
    (∃ s : State, ∃ t : State, ∃ o : Owner, ∃ a : Nat, ∃ n : Nat, ∃ off : Nat, ∃ data : Bytes, (Mem.wf s.dram.bytes = true) ∧
      (translate s o a = some (n, off)) ∧ (off + data.length ≤ 2 ^ 30) ∧ (data ≠ []) ∧ (n < 1024) ∧
      (∀ w ∈ s.dram.poison, 32 * w + 32 ≤ dpaOf n off ∨ dpaOf n off + data.length ≤ 32 * w) ∧ (writeRaw s o a data = (.done, t))) ∧
    (∃ s : State, ∃ t : State, ∃ o : Owner, ∃ a : Nat, ∃ n : Nat, ∃ off : Nat, ∃ data : Bytes, (Mem.wf s.dram.bytes = true) ∧
      (translate s o a = some (n, off)) ∧ (off + data.length ≤ 2 ^ 30) ∧ (data ≠ []) ∧ (n < 1024) ∧
      (∀ w ∈ s.dram.poison, 32 * w + 32 ≤ dpaOf n off ∨ dpaOf n off + data.length ≤ 32 * w) ∧ (writeRaw s o a data = (.done, t))) :=
  ⟨⟨3, 3, 3, 5, 5, by decide +kernel⟩,
   ⟨ms [], 2, 2 ^ 40 + 5, by decide +kernel⟩,
   ⟨ms [], 2, 5, 5, 5, by decide +kernel⟩,
   ⟨ms [], (writeRaw (ms []) 2 64 [1, 0, 3]).2, 2, 64, 5, 64, [1, 0, 3], by decide +kernel⟩,
   ⟨ms [], (writeRaw (ms []) 2 64 [1, 0, 3]).2, 2, 64, 5, 64, [1, 0, 3], 6, 64, by decide +kernel⟩,
   ⟨ms [], (writeRaw (ms []) 2 64 [1, 0, 3]).2, 2, 64, 5, 64, [1, 0, 3], by decide +kernel⟩,
   ⟨ms [], (writeRaw (ms []) 2 64 [1, 0, 3]).2, 2, 64, 5, 64, [1, 0, 3], by decide +kernel⟩⟩

/-- `Obligations.NearMemory`: its clauses 1, 2, 3, 4, 5, 6, 7. -/
theorem wit_NearMemory_1 :
    (∃ s : State, ∃ tag : BitVec 17, ∃ o : Nat, ∃ a : Nat, ∃ len : Nat, ∃ n : Nat, ∃ off : Nat, (s.on = true) ∧ (tagOwner tag.toNat = some o) ∧
      (translate s o a = some (n, off)) ∧ (translates s o a len = true) ∧ (guarded s o a len = false) ∧ (a % 32 = 0) ∧ (len % 32 = 0) ∧
      (0 < len) ∧ (a % 2 ^ 30 + len ≤ 2 ^ 30) ∧ ((plotAt s n).state = .assigned) ∧ (keyHeld s (plotAt s n) = true) ∧ (Mem.wf s.dram.bytes = true)) ∧
    (∃ s : State, ∃ tag : BitVec 17, ∃ o : Nat, ∃ a : Nat, ∃ len : Nat, (s.on = true) ∧ (tagOwner tag.toNat = some o) ∧
      (translates s o a len = false)) ∧
    (∃ s : State, ∃ tag : BitVec 17, ∃ o : Nat, ∃ dst : Nat, ∃ src : Nat, ∃ len : Nat, ∃ n : Nat, ∃ m : Nat, ∃ j : Nat, ∃ k : Nat, (s.on = true) ∧
      (tagOwner tag.toNat = some o) ∧ (translate s o dst = some (n, j)) ∧ (translate s o src = some (m, k)) ∧ (n ≠ m) ∧ (n < 1024) ∧ (m < 1024) ∧
      (j + len ≤ 2 ^ 30) ∧ (k + len ≤ 2 ^ 30) ∧ (dst % 32 = 0) ∧ (src % 32 = 0) ∧ (len % 32 = 0) ∧ (0 < len) ∧ (overlap dst len src len = false) ∧
      (guarded s o dst len = false) ∧ ((plotAt s n).state = .assigned) ∧ ((plotAt s m).state = .assigned) ∧ (keyHeld s (plotAt s n) = true) ∧
      (keyHeld s (plotAt s m) = true) ∧ (s.dram.poison = []) ∧ (Mem.wf s.dram.bytes = true)) ∧
    (∃ s : State, ∃ tag : BitVec 17, ∃ o : Nat, ∃ src : Nat, ∃ len : Nat, (s.on = true) ∧ (tagOwner tag.toNat = some o) ∧
      (translates s o src len = false)) ∧
    (∃ s : State, ∃ op : Nat, ∃ n : Nat, ∃ die : Nat, ∃ index : Nat, ∃ o : LongOp, (s.on = true) ∧ (s.longOps.get? op = some o) ∧ (die < 2) ∧
      (index < mapLimit s die) ∧ (index < 512) ∧ (n = 512 * die + index) ∧ (o.data = .fill 16 true (dpaOf n 0) (2 ^ 30) 0) ∧
      ((plotAt s n).state = .dirty)) ∧
    (∃ s : State, ∃ op : Nat, ∃ n : Nat, ∃ die : Nat, ∃ index : Nat, ∃ pattern : Nat, ∃ o : LongOp, (s.on = true) ∧
      (s.longOps.get? op = some o) ∧ (die < 2) ∧ (index < mapLimit s die) ∧ (index < 512) ∧ (n = 512 * die + index) ∧ (pattern ≠ 0) ∧
      (o.data = .fill 16 true (dpaOf n 0) (2 ^ 30) pattern) ∧ ((plotAt s n).state = .dirty)) ∧
    (∃ s : State, ∃ op : Nat, ∃ owner : Nat, ∃ dst : Nat, ∃ src : Nat, ∃ len : Nat, ∃ o : LongOp, (s.on = true) ∧ (s.longOps.get? op = some o) ∧
      (o.data = .copy owner dst src len) ∧ (guarded s owner dst len = false) ∧ ((copyPlots owner (len / 32) dst src s).1 = OK)) :=
  ⟨⟨ms [(64, 1), (4096, 5)], 0x2005, 2, 64, 32, 5, 64, by decide +kernel⟩,
   ⟨ms [], 0x2005, 2, 2 ^ 30 - 32, 64, by decide +kernel⟩,
   ⟨two, 0x2005, 2, 2 ^ 30 + 32, 64, 64, 7, 5, 32, 64, by decide +kernel⟩,
   ⟨two, 0x2005, 2, 2 ^ 31, 64, by decide +kernel⟩,
   ⟨lo (ds two fun d => { d with plots := (8, dp) :: d.plots }) (.fill 16 true (8 * 2 ^ 30) (2 ^ 30) 0), 9, 8, 0, 8,
     lop (.fill 16 true (8 * 2 ^ 30) (2 ^ 30) 0), by decide +kernel⟩,
   ⟨lo (ds two fun d => { d with plots := (8, dp) :: d.plots }) (.fill 16 true (8 * 2 ^ 30) (2 ^ 30) 3), 9, 8, 0, 8, 3,
     lop (.fill 16 true (8 * 2 ^ 30) (2 ^ 30) 3), by decide +kernel⟩,
   ⟨lo two (.copy 2 (2 ^ 30 + 32) 64 64), 9, 2, 2 ^ 30 + 32, 64, 64, lop (.copy 2 (2 ^ 30 + 32) 64 64), by decide +kernel⟩⟩

/-- `Obligations.StackErrors`: its clauses 1, 2, 3, 5. -/
theorem wit_StackErrors_1 :
    (∃ s : State, ∃ k : Fin 8, ∃ dpa : Nat, (s.on = true) ∧ (unitIn s (uStack k) = true) ∧ (granuleDpa s k (s.stack k).granule = some dpa) ∧
      (¬ s.dram.poison.contains (dpa / 32)) ∧ ((s.stack k).retired = []) ∧ ((s.stack k).seen = []) ∧ ((s.stack k).rowErrors = []) ∧
      ((s.stack k).quadBad = []) ∧ ((s.stack k).log.length < 256) ∧ ((s.stack k).granule + 1 < granules s)) ∧
    (∃ s : State, ∃ k : Fin 8, ∃ g : Nat, ∃ dpa : Nat, (s.on = true) ∧ (unitIn s (uStack k) = true) ∧ (granuleDpa s k g = some dpa) ∧
      (dpa % 32 = 0) ∧ (¬ s.dram.poison.contains (dpa / 32)) ∧ ((s.stack k).quadBad = []) ∧ ((s.stack k).moving = []) ∧
      ((s.stack k).rowsUsed = [])) ∧
    (∃ s : State, ∃ k : Fin 8, (s.on = true) ∧ (unitIn s (uStack k) = true) ∧ ((s.stack k).granule + 1 = granules s) ∧ ((s.stack k).quadBad = [])) ∧
    (∃ s : State, ∃ k : Fin 8, (s.on = true) ∧ (unitIn s (uStack k) = true)) :=
  ⟨⟨ms [(64, 1), (4096, 5)], 2, (granuleDpa (ms []) 2 0).getD 0, by decide +kernel⟩,
   ⟨ms [(64, 1), (4096, 5)], 2, 5, (granuleDpa (ms []) 2 5).getD 0, by decide +kernel⟩,
   ⟨ds (ms []) fun d => { d with stackTbl := [(3, { granule := granules (ms []) - 1, passCorrected := 4, nextHours := 7 })] }, 3,
     by decide +kernel⟩,
   ⟨ms [], 3, by decide +kernel⟩⟩

/-- `Obligations.LosingStacks`: its clauses 1, 2, 3, 4, 5, 6. -/
theorem wit_LosingStacks_1 :
    (∃ s : State, ∃ k : Fin 8, (∃ j ∈ mapOf s (k / 4), j ≠ k.val) ∧ (s.on = true) ∧ ((s.stack k).failed = false) ∧
      ((s.units.get? (uStack k)).isSome = true) ∧ (k.val ∈ mapOf s (k / 4)) ∧ (s.longOps = [])) ∧
    (∃ s : State, ∃ d : Fin 2, (∀ x ∈ s.longOps, ∀ p n, x.2.data ≠ .plotQuota p n) ∧ (s.on = true) ∧ (d.val ∈ s.dram.rebuilding)) ∧
    (∃ s : State, ∃ d : Fin 2, ∃ n : Nat, (s.on = true) ∧ (d.val ∉ s.dram.rebuilding) ∧ (nextLost s d = some n) ∧ (n < 1024) ∧
      ((plotAt s n).released = false)) ∧
    (∃ s : State, ∃ d : Fin 2, ∃ n : Nat, (s.on = true) ∧ (d.val ∉ s.dram.rebuilding) ∧ (nextLost s d = some n) ∧ (n < 1024) ∧
      ((plotAt s n).released = true)) ∧
    (∃ s : State, ∃ d : Fin 2, ∃ m : StackMove, ∃ op : Nat, ∃ o : LongOp, (s.on = true) ∧ (s.dram.moves.get? d = some m) ∧ (m.adding = false) ∧
      (s.longOps = [(op, o)]) ∧ (o.data = .stackRemove m.stack)) ∧
    (∃ s : State, ∃ d : Fin 2, ∃ m : StackMove, ∃ op : Nat, ∃ o : LongOp, (s.on = true) ∧ (s.dram.moves.get? d = some m) ∧ (m.adding = true) ∧
      (s.longOps = [(op, o)]) ∧ (o.data = .stackRestore m.stack) ∧ (m.stack < 8)) :=
  ⟨⟨ms [(64, 1), (4096, 5)], 2, ⟨1, by decide +kernel, by decide +kernel⟩, by decide +kernel⟩,
   ⟨ds two (fun d => { d with rebuilding := [0], map0 := [0], plots := (60, lp) :: (61, { lp with owner := 3, slot := some 5 }) :: d.plots, slots := (2050, 60) :: (3 * 1024 + 5, 61) :: d.slots }),
     0, (by intro x h; cases h), by decide +kernel⟩,
   ⟨ds two (fun d => { d with plots := (8, { lp with slot := some 3 }) :: d.plots, bytes := d.bytes ++ [(9 * 2 ^ 30 - 1, 3)] }), 0, 8,
     by decide +kernel⟩,
   ⟨ds two (fun d => { d with plots := (8, { lp with slot := none, released := true }) :: d.plots, bytes := d.bytes ++ [(9 * 2 ^ 30 - 1, 3)] }),
     0, 8, by decide +kernel⟩,
   ⟨lo (ds two (fun d => { d with moves := [(0, ⟨2, false, 1000⟩)] })) (.stackRemove 2), 0, ⟨2, false, 1000⟩, 9, lop (.stackRemove 2),
     by decide +kernel⟩,
   ⟨lo (ds two (fun d => { d with map0 := [0, 3], moves := [(0, ⟨2, true, 1000⟩)] })) (.stackRestore 2), 0, ⟨2, true, 1000⟩, 9,
     lop (.stackRestore 2), by decide +kernel⟩⟩

/-- `Obligations.PlotRequests`: its clauses 1, 2, 3, 4, 5, 6, 7, 8. -/
theorem wit_PlotRequests_1 :
    (∃ s : State, ∃ q : Req, ∃ part : Nat, ∃ die : Nat, ∃ count : Nat, ∃ f : Nat, ∃ r : BufRef, (Served s q 0x0401 32 .operator) ∧ (part < 16) ∧
      (partExists s part = true) ∧ (die < 2) ∧ (1 ≤ count) ∧ (count ≤ 380) ∧ (refZero r = true) ∧ (s.dram.quickset = false) ∧
      ((mapOf s die).length ≤ 4) ∧ (count ≤ (freePlots s die).length) ∧ (freeRun s part count 1024 0 = some f) ∧
      (plotsHeld s part + count ≤ plotQuota s part)) ∧
    (∃ s : State, ∃ q : Req, ∃ part : Nat, ∃ d : Nat, ∃ r : BufRef, ∃ bs : Bytes, (Served s q 0x0401 32 .operator) ∧ (part < 16) ∧
      (partExists s part = true) ∧ (s.dram.quickset = false) ∧ (r.space = 1) ∧ (8 ≤ r.len) ∧ (dpaBad s (fieldAt bs 0 8) = false) ∧
      (bs.length = r.len) ∧ (d = fieldAt bs 0 8) ∧ ((plotAt s (plotNo (bitsOf d 39 39) (bitsOf d 38 30))).state ≠ .free)) ∧
    (∃ s : State, ∃ q : Req, ∃ slot : Nat, ∃ n : Nat, (Served s q 0x0402 8 .opOrTenant) ∧ (∀ x ∈ s.longOps, ∀ p n, x.2.data ≠ .plotQuota p n) ∧
      ((whoOf s q.mbx).inst ≠ 0xFFFF) ∧ ((whoOf s q.mbx).op = false) ∧ (ownerExists s (whoOf s q.mbx).owner = true) ∧ (s.boot.opAbsent = false) ∧
      (slot < 1024) ∧ (slotPlot s (whoOf s q.mbx).owner slot = some n) ∧ (slotInUse s (whoOf s q.mbx).owner slot = false) ∧ (plotBusy s n = false)) ∧
    (∃ s : State, ∃ q : Req, ∃ slot : Nat, ∃ n : Nat, (Served s q 0x0402 8 .opOrTenant) ∧ ((whoOf s q.mbx).op = false) ∧
      (ownerExists s (whoOf s q.mbx).owner = true) ∧ (slot < 1024) ∧ (slotPlot s (whoOf s q.mbx).owner slot = some n) ∧
      (slotInUse s (whoOf s q.mbx).owner slot = true)) ∧
    (∃ s : State, ∃ q : Req, ∃ first : Nat, ∃ count : Nat, ∃ out : BufRef, (Served s q 0x0403 24 .opOrTenant) ∧ ((whoOf s q.mbx).op = false) ∧
      (ownerExists s (whoOf s q.mbx).owner = true) ∧ (1 ≤ count) ∧ (first + count ≤ 1024) ∧ (out.space = 1) ∧ (count ≤ out.len)) ∧
    (∃ s : State, ∃ q : Req, ∃ addr : Nat, ∃ len : Nat, (Served s q 0x0404 32 .opOrTenant) ∧ ((whoOf s q.mbx).op = false) ∧
      (ownerExists s (whoOf s q.mbx).owner = true) ∧ (fillFits s (whoOf s q.mbx).owner addr len = true) ∧
      (guarded s (whoOf s q.mbx).owner addr len = false) ∧ (s.longOps = [])) ∧
    (∃ s : State, ∃ q : Req, ∃ addr : Nat, ∃ len : Nat, (Served s q 0x0404 32 .opOrTenant) ∧ ((whoOf s q.mbx).op = false) ∧
      (guarded s (whoOf s q.mbx).owner addr len = false) ∧ (len % 32 ≠ 0)) ∧
    (∃ s : State, ∃ q : Req, ∃ dst : Nat, ∃ src : Nat, ∃ len : Nat, (Served s q 0x0405 32 .opOrTenant) ∧ ((whoOf s q.mbx).op = false) ∧
      (ownerExists s (whoOf s q.mbx).owner = true) ∧ (copyFits s (whoOf s q.mbx).owner dst src len = true) ∧
      (guarded s (whoOf s q.mbx).owner dst len = false) ∧ (s.longOps = [])) :=
  ⟨⟨two, rq 0x400 32, 2, 0, 3, 2, { addr := 0, len := 0, space := 0 }, servedOf (by decide +kernel), by decide +kernel⟩,
   ⟨two, rq 0x400 32, 2, 5 * 2 ^ 30, hostBuf 8, le 8 (5 * 2 ^ 30), servedOf (by decide +kernel), by decide +kernel⟩,
   ⟨two, rq 5 8, 1, 7, servedOf (by decide +kernel), (by intro x h; cases h), by decide +kernel⟩,
   ⟨{ two with models := [(1, model)] }, rq 5 8, 0, 5, servedOf (by decide +kernel), by decide +kernel⟩,
   ⟨two, rq 5 24, 1, 1023, hostBuf 2000, servedOf (by decide +kernel), by decide +kernel⟩,
   ⟨two, rq 5 32, 64, 64, servedOf (by decide +kernel), by decide +kernel⟩,
   ⟨two, rq 5 32, 64, 63, servedOf (by decide +kernel), by decide +kernel⟩,
   ⟨two, rq 5 32, 2 ^ 30, 64, 64, servedOf (by decide +kernel), by decide +kernel⟩⟩

/-- `Obligations.PlotRequests`: its clauses 9, 10, 11, 12, 13, 14, 15, 16. -/
theorem wit_PlotRequests_2 :
    (∃ s : State, ∃ q : Req, ∃ slot : Nat, ∃ clear : Nat, ∃ n : Nat, (Served s q 0x040B 8 .operator) ∧ (slotPlot s 16 slot = some n) ∧
      (clear < 2) ∧ ((plotAt s n).state = .assigned) ∧ (plotBusy s n = false) ∧ (s.ckp = none)) ∧
    (∃ s : State, ∃ q : Req, ∃ p : Nat, ∃ quota : Nat, (Served s q 0x040C 8 .operator) ∧ (p < 16) ∧ (quota ≤ 760) ∧ (partExists s p = true) ∧
      (s.longOps = []) ∧ (plotsHeld s p ≤ quota)) ∧
    (∃ s : State, ∃ q : Req, ∃ k : Nat, (Served s q 0x0408 8 .operator) ∧ (k < 8)) ∧
    (∃ s : State, ∃ q : Req, ∃ k : Nat, (Served s q 0x0408 8 .operator) ∧ (k < 8)) ∧
    (∃ s : State, ∃ q : Req, ∃ k : Nat, ∃ count : Nat, ∃ out : BufRef, (Served s q 0x0409 24 .operator) ∧ (k < 8) ∧ (1 ≤ count) ∧ (count ≤ 256) ∧
      (out.space = 1) ∧ (32 * count ≤ out.len)) ∧
    (∃ s : State, ∃ q : Req, ∃ hours : Nat, (Served s q 0x040A 8 .operator) ∧ (1 ≤ hours) ∧ (hours ≤ 168)) ∧
    (∃ s : State, ∃ q : Req, ∃ k : Nat, ∃ rate : Nat, (Served s q 0x0406 8 .operator) ∧
      (∀ n p, (n, p) ∈ s.dram.plots → n / 512 = k / 4 → (if s.fuses.lx then 96 else 48) * ((mapOf s (k / 4)).length - 1) ≤ n % 512 → (plotAt s n).state = .free) ∧
      (s.full = true) ∧ (k < 8) ∧ (500 ≤ rate) ∧ (rate ≤ 2500) ∧ (k ∈ mapOf s (k / 4)) ∧ (2 ≤ (mapOf s (k / 4)).length) ∧
      (s.dram.moves.get? (k / 4) = none) ∧ (emergency s = false)) ∧
    (∃ s : State, ∃ q : Req, ∃ k : Nat, (Served s q 0x0407 8 .operator) ∧ (s.full = true) ∧ (k < 8) ∧ (k ∉ mapOf s (k / 4)) ∧
      (stackIdle s k = true) ∧ (s.dram.moves.get? (k / 4) = none) ∧ (emergency s = false) ∧ ((s.stack k).failed = false) ∧
      (heldOut s (uStack k) = false)) :=
  ⟨⟨ms [(64, 1)], rq 0x400 8, 0, 0, 6, servedOf (by decide +kernel), by decide +kernel⟩,
   ⟨two, rq 0x400 8, 2, 2, servedOf (by decide +kernel), by decide +kernel⟩,
   ⟨ds two (fun d => { d with stackTbl := [(3, { corrected := 5, passCorrected := 4 })] }), rq 0x400 8, 3, servedOf (by decide +kernel),
     by decide +kernel⟩,
   ⟨ds two (fun d => { d with stackTbl := [(3, { corrected := 5, passCorrected := 4 })] }), rq 0x400 8, 3, servedOf (by decide +kernel),
     by decide +kernel⟩,
   ⟨two, rq 0x400 24, 3, 256, hostBuf 8192, servedOf (by decide +kernel), by decide +kernel⟩,
   ⟨two, rq 0x400 8, 168, servedOf (by decide +kernel), by decide +kernel⟩,
   ⟨two, rq 0x400 8, 3, 2500, servedOf (by decide +kernel), allMem (by decide +kernel), by decide +kernel⟩,
   ⟨ds two (fun d => { d with map0 := [0, 1, 2] }), rq 0x400 8, 3, servedOf (by decide +kernel), by decide +kernel⟩⟩

/-- `Obligations.LinkTraining`: its clauses 1, 2, 3, 4, 5, 6, 7, 8. -/
theorem wit_LinkTraining_1 :
    (∃ s : State, ∃ p : Fin 8, (s.on = true) ∧ (s.full = true) ∧ ((s.zal p).enabled = true) ∧ ((s.zal p).inService = false) ∧
      ((s.zal p).link ≠ .retraining) ∧ (unitIn s (uZal p) = true) ∧ ((s.zal p).lastAttempt = 0 ∨ (s.zal p).lastAttempt + 1000000000 ≤ s.lc)) ∧
    (∃ s : State, ∃ p : Fin 8, (s.full = false ∨ (s.zal p).enabled = false)) ∧
    (∃ s : State, ∃ p : Fin 8, ∃ rx : BitVec 40, ∃ tx : BitVec 40, (s.on = true) ∧ ((s.zal p).link = .training) ∧ (mapOk rx.toNat = true) ∧
      (mapOk tx.toNat = true)) ∧
    (∃ s : State, ∃ p : Fin 8, ∃ seq : BitVec 12, ∃ req : Nat, ∃ rsp : Nat, ∃ blk : Nat, ∃ tok : Nat, ∃ limit : Nat, (s.on = true) ∧
      ((s.zal p).link = .up) ∧ (seq.toNat = (s.zal p).rxSeq) ∧ (33 ≤ req) ∧ (33 ≤ tok) ∧ (66 ≤ rsp) ∧ (66 ≤ blk) ∧ (1 ≤ limit) ∧ (limit ≤ 4096) ∧
      ((s.zal p).initSent = true) ∧ ((s.zal p).txWait = [])) ∧
    (∃ s : State, ∃ p : Fin 8, ∃ seq : BitVec 12, ∃ version : Nat, ∃ req : Nat, ∃ rsp : Nat, ∃ blk : Nat, ∃ tok : Nat, (s.on = true) ∧
      ((s.zal p).link = .up) ∧ (seq.toNat = (s.zal p).rxSeq) ∧ (version ≠ 1 ∨ req < 33 ∨ tok < 33 ∨ rsp < 66 ∨ blk < 66)) ∧
    (∃ s : State, ∃ p : Fin 8, ∃ seq : BitVec 12, (s.on = true) ∧ ((s.zal p).link = .up) ∧ (seq.toNat ≠ (s.zal p).rxSeq) ∧
      ((s.zal p).inGap = false)) ∧
    (∃ s : State, ∃ p : Fin 8, ∃ seq : BitVec 12, ∃ map : BitVec 40, (s.on = true) ∧ ((s.zal p).link = .up) ∧ (seq.toNat = (s.zal p).rxSeq) ∧
      (mapOk map.toNat = true) ∧ ((s.zal p).txWait = []) ∧ ((s.zal p).unacked.length < 512)) ∧
    (∃ s : State, ∃ p : Fin 8, ∃ seq : BitVec 12, ∃ m : Nat, (s.on = true) ∧ ((s.zal p).link = .up) ∧ (seq.toNat = (s.zal p).rxSeq) ∧
      ((s.zal p).rxNext = some m)) :=
  ⟨⟨{ zs { link := .down } with link := { ports := [(3, { owner := 2 })] } }, 3, by decide +kernel⟩,
   ⟨zs { zb with enabled := false }, 3, by decide +kernel⟩,
   ⟨zs { link := .training }, 3, BitVec.ofNat 40 map10, BitVec.ofNat 40 map8, by decide +kernel⟩,
   ⟨zs { link := .up, initSent := true }, 3, 0, 33, 66, 66, 33, 4096, by decide +kernel⟩,
   ⟨zs { link := .up, initSent := true }, 3, 0, 2, 33, 66, 66, 33, by decide +kernel⟩,
   ⟨zs { link := .up, initSent := true }, 3, 1, by decide +kernel⟩,
   ⟨zs zb, 3, 0, BitVec.ofNat 40 map8, by decide +kernel⟩,
   ⟨zs { zb with rxNext := some map8 }, 3, 0, map8, by decide +kernel⟩⟩

/-- `Obligations.LinkTraining`: its clauses 9, 10, 11, 12, 13, 14. -/
theorem wit_LinkTraining_2 :
    (∃ s : State, ∃ p : Fin 8, ∃ lane : Fin 12, ∃ g : Nat, (s.on = true) ∧ ((s.zal p).link = .up) ∧ ((s.zal p).rxFailed.testBit lane = false) ∧
      ((s.zal p).rxNext = none) ∧ (mapOk (s.zal p).rxMap = true) ∧ (lane.val ∈ mapLanes (s.zal p).rxMap) ∧ (g < 12) ∧
      (g ∉ mapLanes (s.zal p).rxMap) ∧ ((s.zal p).rxFailed.testBit g = false) ∧
      (∀ l ∈ mapLanes (s.zal p).rxMap, l ≠ lane → (s.zal p).rxFailed.testBit l = false) ∧ ((s.zal p).txWait = []) ∧
      ((s.zal p).unacked.length < 512)) ∧
    (∃ s : State, ∃ p : Fin 8, ∃ lane : Fin 12, (s.on = true) ∧ ((s.zal p).rxFailed.testBit lane = true) ∧
      (¬ s.clk.down.contains (laneClock p lane)) ∧ (narrow (((s.zal p).rxNext).getD (s.zal p).rxMap) = false)) ∧
    (∃ s : State, ∃ p : Fin 8, ∃ lane : Fin 12, (s.on = true) ∧ ((s.zal p).rxFailed.testBit lane = true) ∧
      (¬ s.clk.down.contains (laneClock p lane)) ∧ ((s.zal p).link = .up) ∧ ((s.zal p).rxNext = none) ∧ (narrow (s.zal p).rxMap = true) ∧
      (9 ≤ (goodRx (s.zal p)).length) ∧ ((s.zal p).txWait = []) ∧ ((s.zal p).unacked.length < 512)) ∧
    (∃ s : State, ∃ p : Fin 8, ∃ rx : BitVec 12, ∃ tx : BitVec 12, ∃ q : Nat, ∃ l : List Nat, (s.on = true) ∧ ((s.zal p).link = .retraining) ∧
      ((s.zal p).txWait = []) ∧ ((s.zal p).unacked = q :: l) ∧ ((s.zal p).retrainTimes = []) ∧ (8 ≤ (lanesIn rx.toNat).length) ∧
      (8 ≤ (lanesIn tx.toNat).length)) ∧
    (∃ s : State, ∃ p : Fin 8, ∃ rx : BitVec 12, ∃ tx : BitVec 12, ∃ ok : Bool, (s.on = true) ∧
      ((s.zal p).link = .up ∨ (s.zal p).link = .retraining) ∧ (ok = false ∨ (lanesIn rx.toNat).length < 8 ∨ (lanesIn tx.toNat).length < 8) ∧
      (s.link.runs = []) ∧ (s.sessions = [])) ∧
    (∃ s : State, ∃ p : Fin 8, ∃ q : Nat, ∃ l : List Nat, (s.on = true) ∧ ((s.zal p).link = .up) ∧ ((s.zal p).ackAt + 2000 ≤ s.lc) ∧
      ((s.zal p).unacked = q :: l)) :=
  ⟨⟨zs zb, 3, 4, 11, by decide +kernel⟩,
   ⟨zs { zb with rxFailed := 24 }, 3, 4, by decide +kernel⟩,
   ⟨zs { zb with rxMap := map8, rxFailed := 7 * 512 }, 3, 10, by decide +kernel⟩,
   ⟨zs { zb with link := .retraining }, 3, 0xFFF, 0x1FF, 7, [8], by decide +kernel⟩,
   ⟨zs zb, 3, 0xFFF, 0x1FF, false, by decide +kernel⟩,
   ⟨{ zs { zb with ackAt := 0, stuck := 6 } with clk := { up.clk with lc := 2000 } }, 3, 7, [8], by decide +kernel⟩⟩

/-- `Obligations.FlitsAndLookups`: its clauses 1, 2, 3, 4, 5, 6, 7, 8. -/
theorem wit_FlitsAndLookups_1 :
    (∃ s : State, ∃ p : Fin 8, ∃ b : Bytes, ∃ pre : List Nat, ∃ post : List Nat, (b.length = 512) ∧ (fieldAt b 504 8 = crc64 (b.take 504)) ∧
      (s.on = true) ∧ ((s.zal p).link = .up) ∧ (fieldAt b 8 1 = 0) ∧ (bitsOf (fieldAt b 0 8) 1 0 = 0) ∧ (bitOf (fieldAt b 0 8) 26 = false) ∧
      ((s.zal p).unacked = pre ++ bitsOf (fieldAt b 0 8) 25 14 :: post) ∧ (bitsOf (fieldAt b 0 8) 25 14 ∉ pre) ∧ ((s.zal p).txWait = [])) ∧
    (∃ s : State, ∃ p : Fin 8, (s.on = true) ∧ ((s.zal p).link = .up) ∧ ((s.zal p).inGap = false)) ∧
    (∃ s : State, ∃ p : Fin 8, ∃ b : Bytes, (b.length = 512) ∧ (fieldAt b 504 8 ≠ crc64 (b.take 504)) ∧ (s.on = true) ∧ ((s.zal p).link = .up) ∧
      ((s.zal p).inGap = true)) ∧
    (∃ s : State, ∃ p : Fin 8, ∃ b : Bytes, (b.length = 512) ∧ (fieldAt b 504 8 = crc64 (b.take 504)) ∧ (s.on = true) ∧ ((s.zal p).link = .up) ∧
      (fieldAt b 8 1 = 0) ∧ (bitsOf (fieldAt b 0 8) 1 0 = 1) ∧ (bitOf (fieldAt b 0 8) 26 = false) ∧
      (bitsOf (fieldAt b 0 8) 13 2 = (s.zal p).rxSeq) ∧ (fieldAt b 40 1 = 0) ∧ ((s.zal p).rxPart = []) ∧ ((s.zal p).unacked = []) ∧
      ((s.zal p).txWait = [])) ∧
    (∃ b : Bytes, (fieldAt b 0 1 = 0)) ∧
    (∃ s : State, ∃ p : Fin 8, ∃ b : Bytes, ((s.zal p).link = .up) ∧ (b.length = 32) ∧ (fieldAt b 0 1 = 1) ∧ (2 ^ 60 ≤ fieldAt b 8 8)) ∧
    (∃ s : State, ∃ p : Fin 8, ∃ b : Bytes, ((s.zal p).link = .up) ∧ (b.length = 32) ∧ (fieldAt b 0 1 = 1) ∧ (fieldAt b 1 1 < 2) ∧
      (fieldAt b 3 5 = 0) ∧ (fieldAt b 16 16 = 0) ∧ (fieldAt b 8 8 < 2 ^ 60) ∧
      (∀ e ∈ (s.zal p).cache, e.covers (fieldAt b 2 1) (fieldAt b 8 8) = false)) ∧
    (∃ s : State, ∃ p : Fin 8, ∃ b : Bytes, ∃ e : PageEntry, ((s.zal p).link = .up) ∧ (b.length = 32) ∧ (fieldAt b 0 1 = 1) ∧
      (fieldAt b 1 1 < 2) ∧ (fieldAt b 3 5 = 0) ∧ (fieldAt b 16 16 = 0) ∧ (fieldAt b 8 8 < 2 ^ 60) ∧ (e.size < 3) ∧ (e.target < 2 ^ 64) ∧
      (((s.zal p).cache.find? fun f => f.covers (fieldAt b 2 1) (fieldAt b 8 8)) = some e)) :=
  ⟨⟨zs { zb with credits := [(1, 5)], stuck := 3 }, 3, fl (le 8 (8 * 2 ^ 14 + 77 * 2 ^ 27 + 1 * 2 ^ 39 + 9 * 2 ^ 41)), [7], [], length_fl _,
     flOk _, by decide +kernel⟩,
   ⟨zs zb, 3, by decide +kernel⟩,
   ⟨zs { zb with inGap := true }, 3, flBad (le 1 1), length_flBad _, flBad_ne _, by decide +kernel⟩,
   ⟨zs { zb with unacked := [], rxSeq := 4095, inGap := true }, 3, fl (le 8 (1 + 4095 * 4)), length_fl _, flOk _, by decide +kernel⟩,
   ⟨zeros 32, by decide +kernel⟩,
   ⟨zs zb, 3, le 8 1 ++ le 8 (2 ^ 60) ++ zeros 16, by decide +kernel⟩,
   ⟨zs zb, 3, le 2 (1 + 256) ++ le 6 5 ++ le 8 0x41000 ++ zeros 16, by decide +kernel⟩,
   ⟨za { zb with cache := [{ page1 with size := 0 }] }, 3, le 2 1 ++ le 6 5 ++ le 8 0x40123 ++ zeros 16, pg0, by decide +kernel⟩⟩

/-- `Obligations.AcceleratorRequests`: its clauses 1, 2.1, 2.2, 3, 4, 5, 6, 7. -/
theorem wit_AcceleratorRequests_1 :
    (∃ n : Nat, (n ≤ 4096)) ∧
    (∃ s : State, ∃ p : Nat, ∃ copy : Bool, ∃ write : Bool, ∃ b : Nat, ∃ n : Nat, ∃ ps : List (Nat × Nat × Nat), (mapPort s p copy write b n = some ps)) ∧
    (∃ s : State, ∃ p : Nat, ∃ copy : Bool, ∃ write : Bool, ∃ b : Nat, ∃ n : Nat, ∃ ps : List (Nat × Nat × Nat), ∃ j, (mapPort s p copy write b n = some ps) ∧
      (j < n)) ∧
    (∃ s : State, ∃ p : Fin 8, ∃ m : ZalReq, ∃ ps : List (Nat × Nat × Nat), ∃ bs : Bytes, (Asks s p m 0) ∧ (CanSend s p 1 9) ∧ (m.aux < 4096) ∧
      (mapPort s p (s.zal p).copy false m.addr (m.aux + 1) = some ps) ∧ (piecesOk s (s.zal p).owner ps = true) ∧
      (accBytes s (s.zal p).owner ps = bs.map (fun b => (b, false)))) ∧
    (∃ s : State, ∃ p : Fin 8, ∃ m : ZalReq, (Asks s p m 0) ∧ (CanSend s p 1 9) ∧ (m.aux < 4096) ∧
      (mapPort s p (s.zal p).copy false m.addr (m.aux + 1) = none)) ∧
    (∃ s : State, ∃ p : Fin 8, ∃ m : ZalReq, ∃ a : Nat, ∃ n : Nat, ∃ off : Nat, (Asks s p m ((m.aux + 16) / 16)) ∧ (CanSend s p 1 1) ∧
      (m.aux < 512) ∧ (mapPort s p (s.zal p).copy true m.addr (m.aux + 1) = some [(m.addr, a, m.aux + 1)]) ∧
      (translate s (s.zal p).owner a = some (n, off)) ∧ (off + m.aux < 2 ^ 30) ∧ (guarded s (s.zal p).owner a (m.aux + 1) = false) ∧
      ((plotAt s n).state = .assigned) ∧ (keyHeld s (plotAt s n) = true) ∧ ((plotAt s n).garbled = none) ∧ (s.dram.poison = []) ∧
      (Mem.wf s.dram.bytes = true)) ∧
    (∃ s : State, ∃ p : Fin 8, ∃ m : ZalReq, (Asks s p m ((m.aux + 16) / 16)) ∧ (CanSend s p 1 1) ∧ (m.aux < 512) ∧
      (mapPort s p (s.zal p).copy true m.addr (m.aux + 1) = none)) ∧
    (∃ s : State, ∃ p : Fin 8, ∃ m : ZalReq, (Asks s p m 0) ∧ (CanSend s p 1 1) ∧ (m.aux % 256 < 2) ∧ (m.addr < 2 ^ 60) ∧
      (∀ e ∈ s.link.pages.getD (s.zal p).owner [], e.covers (m.aux / 256) m.addr = false)) :=
  ⟨⟨0, by decide +kernel⟩,
   ⟨za zb, 3, false, true, 0x100FF0, 40, (mapPort (za zb) 3 false true 0x100FF0 40).getD [], by decide +kernel⟩,
   ⟨za zb, 3, false, true, 0x100FF0, 40, (mapPort (za zb) 3 false true 0x100FF0 40).getD [], 39, by decide +kernel⟩,
   ⟨za zb, 3, zreq 599 0x100010 0 [], (mapPort (za zb) 3 false false 0x100010 600).getD [],
     (accBytes (za zb) 2 ((mapPort (za zb) 3 false false 0x100010 600).getD [])).map Prod.fst,
     ⟨by decide +kernel, by decide +kernel, by decide +kernel, by decide +kernel⟩,
     ⟨by decide +kernel, by decide +kernel, by decide +kernel, by decide +kernel, by decide +kernel⟩, by decide +kernel⟩,
   ⟨za zb, 3, zreq 599 0x200010 0 [], ⟨by decide +kernel, by decide +kernel, by decide +kernel, by decide +kernel⟩,
     ⟨by decide +kernel, by decide +kernel, by decide +kernel, by decide +kernel, by decide +kernel⟩, by decide +kernel⟩,
   ⟨za zb, 3, zreq 33 0x100060 3 ((List.range 34).map fun k => BitVec.ofNat 8 k), 0x60, 5, 0x60,
     ⟨by decide +kernel, by decide +kernel, by decide +kernel, by decide +kernel⟩,
     ⟨by decide +kernel, by decide +kernel, by decide +kernel, by decide +kernel, by decide +kernel⟩, by decide +kernel⟩,
   ⟨za zb, 3, zreq 33 0xF0060 3 (zeros 48), ⟨by decide +kernel, by decide +kernel, by decide +kernel, by decide +kernel⟩,
     ⟨by decide +kernel, by decide +kernel, by decide +kernel, by decide +kernel, by decide +kernel⟩, by decide +kernel⟩,
   ⟨za zb, 3, zreq (5 * 256 + 1) 0x40000 0 [], ⟨by decide +kernel, by decide +kernel, by decide +kernel, by decide +kernel⟩,
     ⟨by decide +kernel, by decide +kernel, by decide +kernel, by decide +kernel, by decide +kernel⟩, by decide +kernel⟩⟩

/-- `Obligations.AcceleratorRequests`: its clauses 8, 9, 10. -/
theorem wit_AcceleratorRequests_2 :
    (∃ s : State, ∃ p : Fin 8, ∃ m : ZalReq, ∃ e : PageEntry, (Asks s p m 0) ∧ (CanSend s p 1 1) ∧ (m.aux % 256 < 2) ∧ (m.addr < 2 ^ 60) ∧
      (((s.link.pages.getD (s.zal p).owner []).find? fun f => f.covers (m.aux / 256) m.addr) = some e) ∧
      ((if m.aux % 2 = 1 then e.write else e.read) = true) ∧
      (mapPort s p (s.zal p).copy (decide (m.aux % 2 = 1)) e.target (pageBytes e.size) ≠ none)) ∧
    (∃ s : State, ∃ p : Fin 8, ∃ m : ZalReq, (Asks s p m 0) ∧ (CanSend s p 1 1) ∧ (m.aux = 0) ∧ (m.addr < 2 ^ 20) ∧
      ((s.zal p).accOut.get? (16 * (m.addr % 65536) + m.addr / 65536) = none) ∧ (m.addr % 65536 ≠ m.tag)) ∧
    (∃ s : State, ∃ p : Fin 8, ∃ m : ZalReq, ∃ c : Instr, (c ∈ [Instr.read p m, .write p m, .translate p m, .abort p m]) ∧
      ((s.zal p).inService = true) ∧ (mayFetch s (s.zal p).owner = true) ∧ (partResetting s (s.zal p).owner = false) ∧ (m.cells ≤ 32) ∧
      (m.bad = true)) :=
  ⟨⟨zl (za zb) (fun l => { l with pages := [(2, [pg0])] }), 3, zreq (5 * 256) 0x40123 0 [], pg0,
     ⟨by decide +kernel, by decide +kernel, by decide +kernel, by decide +kernel⟩,
     ⟨by decide +kernel, by decide +kernel, by decide +kernel, by decide +kernel, by decide +kernel⟩, by decide +kernel⟩,
   ⟨za zb, 3, zreq 0 (9 + 2 * 65536) 0 [], ⟨by decide +kernel, by decide +kernel, by decide +kernel, by decide +kernel⟩,
     ⟨by decide +kernel, by decide +kernel, by decide +kernel, by decide +kernel, by decide +kernel⟩, by decide +kernel⟩,
   ⟨za zb, 3, { zreq 0 9 0 [] with bad := true }, .read 3 { zreq 0 9 0 [] with bad := true }, by decide +kernel⟩⟩

/-- `Obligations.LinkAnswers`: its clauses 1, 2, 3, 4, 5, 6, 7, 8. -/
theorem wit_LinkAnswers_1 :
    (∃ s : State, ∃ p : Fin 8, ∃ m : ZalReq, ∃ r : ZalRequest, ∃ run : DfRun, ∃ st : DfStream, ∃ a : AccRequest, ∃ status : Nat, ∃ written : Nat, (CanSend s p 1 1) ∧
      (m.cells = 0) ∧ (m.bad = false) ∧ (m.aux = 0) ∧ (m.addr = 0) ∧ (m.gen = 0) ∧ ((s.zal p).devOut.get? m.tag = some r) ∧ (r.flush = true) ∧
      (r.timedOut = false) ∧ (r.aborting = false) ∧ (s.link.runs = [(r.op, run)]) ∧ (run.stage = .flushing status written) ∧
      (s.link.streams.get? run.stream = some st) ∧ (st.port = some p.val) ∧ (st.closing = false) ∧
      ((s.zal p).accOut.get? (16 * run.zalTag + run.zalGen) = some a) ∧ (a.op = some r.op) ∧ (s.pkt.qps = [])) ∧
    (∃ s : State, ∃ p : Fin 8, ∃ m : ZalReq, ∃ c : Instr, (c = .flushAck p m ∨ c = .abortAnswer p m) ∧ ((s.zal p).inService = true) ∧
      (m.cells = 0) ∧ (m.bad = false) ∧ (m.aux = 0) ∧ (m.addr = 0) ∧ ((s.zal p).devOut.get? m.tag = none) ∧ ((s.zal p).txWait = [])) ∧
    (∃ s : State, ∃ p : Fin 8, ∃ m : ZalReq, ∃ r : ZalRequest, ∃ f : ZalRequest, ((s.zal p).inService = true) ∧ (m.cells = 0) ∧ (m.bad = false) ∧
      (m.aux = 0) ∧ (m.addr < 2 ^ 20) ∧ (m.gen = 0) ∧ ((s.zal p).devOut.get? m.tag = some r) ∧ (r.flush = false) ∧ (r.timedOut = false) ∧
      (r.op ≠ m.tag) ∧ ((s.zal p).devOut.get? r.op = some f) ∧ ((s.zal p).txWait = [])) ∧
    (∃ s : State, ∃ p : Fin 8, ∃ tag : Nat, ∃ r : ZalRequest, ∃ run : DfRun, ∃ st : DfStream, ∃ a : AccRequest, ∃ status : Nat, ∃ written : Nat, (CanSend s p 1 1) ∧
      ((s.zal p).devOut.get? tag = some r) ∧ (r.timedOut = false) ∧ (r.flush = true) ∧ (r.aborting = false) ∧
      (r.issued + 1000 * r.timeout ≤ s.lc) ∧ (s.link.runs = [(r.op, run)]) ∧ (run.stage = .flushing status written) ∧
      (s.link.streams.get? run.stream = some st) ∧ (st.port = some p.val) ∧ (st.closing = false) ∧
      ((s.zal p).accOut.get? (16 * run.zalTag + run.zalGen) = some a) ∧ (a.op = some r.op) ∧ (s.pkt.qps = [])) ∧
    (∃ s : State, ∃ p : Fin 8, ∃ tag : Nat, ∃ r : ZalRequest, ((s.zal p).devOut.get? tag = some r) ∧ (s.lc < r.issued + 1000 * r.timeout)) ∧
    (∃ s : State, ∃ p : Fin 8, ∃ tag : Nat, ∃ r : ZalRequest, ((s.zal p).devOut.get? tag = some r) ∧ ((s.zal p).txWait = []) ∧
      (r.timedOut = true) ∧ (r.issued + 2000 * r.timeout ≤ s.lc)) ∧
    (∃ s : State, ∃ p : Fin 8, ∃ tag : Nat, ∃ r : ZalRequest, ((s.zal p).devOut.get? tag = some r) ∧ (s.lc < r.issued + 2000 * r.timeout)) ∧
    (∃ s : State, ∃ p : Fin 8, ((s.zal p).oldBusy = true) ∧ (∀ x ∈ (s.zal p).accOut, x.2.copy = (s.zal p).copy) ∧ (s.longOps = [])) :=
  ⟨⟨df (.flushing 0 64) { zb with devOut := [(4, rq1)] }, 3, answerReq 4, rq1, drun (.flushing 0 64), dstream, accq, 0, 64,
     ⟨by decide +kernel, by decide +kernel, by decide +kernel, by decide +kernel, by decide +kernel⟩, by decide +kernel⟩,
   ⟨zs zb, 3, answerReq 4, .flushAck 3 (answerReq 4), by decide +kernel⟩,
   ⟨zs { zb with devOut := [(4, { rq1 with flush := false, op := 5 }), (5, rq1)] }, 3, answerReq 4, { rq1 with flush := false, op := 5 }, rq1,
     by decide +kernel⟩,
   ⟨df (.flushing 0 64) { zb with devOut := [(4, rq1)] }, 3, 4, rq1, drun (.flushing 0 64), dstream, accq, 0, 64,
     ⟨by decide +kernel, by decide +kernel, by decide +kernel, by decide +kernel, by decide +kernel⟩, by decide +kernel⟩,
   ⟨zs { zb with devOut := [(4, { rq1 with issued := 1 })] }, 3, 4, { rq1 with issued := 1 }, by decide +kernel⟩,
   ⟨{ zs { zb with devOut := [(4, { rq1 with timedOut := true })] } with clk := { up.clk with lc := 2000 } }, 3, 4,
     { rq1 with timedOut := true }, by decide +kernel⟩,
   ⟨zs { zb with devOut := [(4, rq1)] }, 3, 4, rq1, by decide +kernel⟩,
   ⟨zl (za { zb with oldBusy := true }) (fun l => { l with aperB := [(11, aper1), (4000, aper1)], allot := [(10, 3), (11, 3)] }), 3,
     by decide +kernel⟩⟩

/-- `Obligations.LinkAnswers`: its clauses 9. -/
theorem wit_LinkAnswers_2 :
    (∃ s : State, ∃ p : Fin 8, (∃ x ∈ (s.zal p).accOut, x.2.copy ≠ (s.zal p).copy)) :=
  ⟨za { zb with oldBusy := true, copy := true, accOut := [(16 * 7 + 1, accq)] }, 3, by decide +kernel⟩

/-- `Obligations.DirectFeed`: its clauses 1, 2, 3, 4, 5, 6, 7, 8. -/
theorem wit_DirectFeed_1 :
    (∃ s : State, ∃ p : Fin 8, ∃ m : ZalReq, (Asks s p m 4) ∧ (CanSend s p 1 1) ∧ (m.addr = 0) ∧ (s.link.streams.get? m.aux = none)) ∧
    (∃ s : State, ∃ p : Fin 8, ∃ m : ZalReq, ∃ st : DfStream, (Asks s p m 4) ∧ (CanSend s p 1 1) ∧ (m.addr = 0) ∧
      (s.link.streams.get? m.aux = some st) ∧ (resident s (cxStream m.aux) = true) ∧ (st.owner ≠ (s.zal p).owner)) ∧
    (∃ s : State, ∃ p : Fin 8, ∃ m : ZalReq, ∃ st : DfStream, (s.link.streams.get? m.aux = some st) ∧ (st.port = some p.val) ∧
      (resident s (cxStream m.aux) = false)) ∧
    (∃ s : State, ∃ p : Fin 8, ∃ m : ZalReq, ∃ st : DfStream, ∃ bs : Bytes, (Asks s p m 4) ∧ (∃ k, k < 65536 ∧ (s.track k).held = false) ∧
      (m.addr = 0) ∧ (s.link.streams.get? m.aux = some st) ∧ (resident s (cxStream m.aux) = true) ∧ (st.owner = (s.zal p).owner) ∧
      (st.port = some p.val) ∧ (st.closing = false) ∧ (s.link.runs = []) ∧ (m.data.length = 64) ∧ (descBad st m.data = false) ∧
      ((parseDesc m.data).srcKind = 2) ∧ ((parseDesc m.data).cipher = 0) ∧ ((parseDesc m.data).timed = false) ∧
      ((s.zal (parseDesc m.data).dstPort).owner = st.owner) ∧ (readPlot s st.owner (parseDesc m.data).src (parseDesc m.data).bytes = .bytes bs)) ∧
    (∃ s : State, ∃ p : Fin 8, ∃ m : ZalReq, ∃ st : DfStream, (Asks s p m 4) ∧ (CanSend s p 1 1) ∧ (∃ k, k < 65536 ∧ (s.track k).held = false) ∧
      (m.addr = 0) ∧ (s.link.streams.get? m.aux = some st) ∧ (resident s (cxStream m.aux) = true) ∧ (st.owner = (s.zal p).owner) ∧
      (st.port = some p.val) ∧ (st.closing = false) ∧ (s.link.runs = []) ∧ (s.pkt.qps = []) ∧ (m.data.length = 64) ∧ (descBad st m.data = true)) ∧
    (∃ s : State, ∃ n : Nat, ∃ st : DfStream, ∃ i : Instance, (s.link.streams.get? n = some st) ∧ (dfFetches s n st = true) ∧ (st.inst < 0x400) ∧
      (s.insts.get? st.inst = some i) ∧ (st.vector = 0xFF) ∧ (st.log2 ≤ 16)) ∧
    (∃ s : State, ∃ op : Nat, ∃ r : DfRun, ∃ st : DfStream, ∃ data : Bytes, (CanSend s r.desc.dstPort 2 (r.desc.rows * (r.desc.rowBytes / 512 + 2) + 1)) ∧
      (s.link.runs = [(op, r)]) ∧ (r.stage = .fetched 0 data) ∧ (s.link.streams.get? r.stream = some st) ∧ (r.desc.cipher = 0) ∧
      (r.desc.codec = 0) ∧ (r.desc.timed = false) ∧ (data.length = r.desc.bytes) ∧ (0 < r.desc.rowBytes) ∧ (r.desc.rowBytes ≤ r.desc.stride) ∧
      (data.length = r.desc.rowBytes * r.desc.rows) ∧ (devWaiting (s.zal r.desc.dstPort) < min 4096 (s.zal r.desc.dstPort).peerLimit)) ∧
    (∃ s : State, ∃ p : Fin 8, ∃ op : Nat, ∃ status : Nat, ∃ r : DfRun, ∃ st : DfStream, ∃ a : AccRequest, ∃ data : Bytes, (CanSend s p 1 1) ∧
      (s.link.runs = [(op, r)]) ∧ (r.stage = .fetched status data) ∧ (status ≠ 0) ∧ (s.link.streams.get? r.stream = some st) ∧
      (st.port = some p.val) ∧ (st.closing = false) ∧ ((s.zal p).accOut.get? (16 * r.zalTag + r.zalGen) = some a) ∧ (a.op = some op) ∧
      (s.pkt.qps = [])) :=
  ⟨⟨zs zb, 3, zreq 12 0 4 (zeros 64), ⟨by decide +kernel, by decide +kernel, by decide +kernel, by decide +kernel⟩,
     ⟨by decide +kernel, by decide +kernel, by decide +kernel, by decide +kernel, by decide +kernel⟩, by decide +kernel⟩,
   ⟨dstr { dstream with owner := 3 }, 3, zreq 12 0 4 (zeros 64), { dstream with owner := 3 },
     ⟨by decide +kernel, by decide +kernel, by decide +kernel, by decide +kernel⟩,
     ⟨by decide +kernel, by decide +kernel, by decide +kernel, by decide +kernel, by decide +kernel⟩, by decide +kernel⟩,
   ⟨{ dstr dstream with ctxs := [(cxStream 12, { cx1 with resident := false })] }, 3, zreq 12 0 4 (zeros 64), dstream, by decide +kernel⟩,
   ⟨dstr dstream, 3, zreq 12 0 4 descBytes, dstream, (List.range 64).map fun k => (Mem.read [(64, 1), (100, 2)] (64 + k)),
     ⟨by decide +kernel, by decide +kernel, by decide +kernel, by decide +kernel⟩, ⟨0, by decide +kernel, by decide +kernel⟩, by decide +kernel⟩,
   ⟨dstr dstream, 3, zreq 12 0 4 (zeros 64), dstream, ⟨by decide +kernel, by decide +kernel, by decide +kernel, by decide +kernel⟩,
     ⟨by decide +kernel, by decide +kernel, by decide +kernel, by decide +kernel, by decide +kernel⟩, ⟨0, by decide +kernel, by decide +kernel⟩,
     by decide +kernel⟩,
   ⟨dstr istream, 12, istream, inst, by decide +kernel⟩,
   ⟨df (.fetched 0 (bytes64)) { zb with credits := [(2, 500)] }, 9, drun (.fetched 0 (bytes64)), dstream, bytes64,
     ⟨by decide +kernel, by decide +kernel, by decide +kernel, by decide +kernel, by decide +kernel⟩, by decide +kernel⟩,
   ⟨df (.fetched 4 []) zb, 3, 9, 4, drun (.fetched 4 []), dstream, accq, [],
     ⟨by decide +kernel, by decide +kernel, by decide +kernel, by decide +kernel, by decide +kernel⟩, by decide +kernel⟩⟩

/-- `Obligations.DirectFeed`: its clauses 9, 10, 11, 12. -/
theorem wit_DirectFeed_2 :
    (∃ s : State, ∃ die : Fin 2, ∃ slot : Fin 64, ∃ n : Nat, ∃ k : Nat, ∃ due : Nat, ∃ e : LaunchEntry, ∃ r : DfRun, ∃ st : DfStream, ∃ out : Bytes, (CanSend s r.desc.dstPort 2 (r.desc.rows * (r.desc.rowBytes / 512 + 2) + 1)) ∧
      (slotStream s (slotKey 1 die slot) = some n) ∧ (launchNext (s.slot (slotKey 1 die slot)) = some (due, e)) ∧ (s.lc = due) ∧
      (s.link.streams.get? n = some st) ∧ (st.lateBursts = []) ∧ (s.link.runs = [(k, r)]) ∧ (r.stage = .staged out) ∧ (r.stream = n) ∧
      (r.desc.burst = e.arg % 65536) ∧ (0 < r.desc.rowBytes) ∧ (r.desc.rowBytes ≤ r.desc.stride) ∧ (out.length = r.desc.rowBytes * r.desc.rows) ∧
      (devWaiting (s.zal r.desc.dstPort) < min 4096 (s.zal r.desc.dstPort).peerLimit)) ∧
    (∃ s : State, ∃ die : Fin 2, ∃ slot : Fin 64, ∃ n : Nat, ∃ due : Nat, ∃ e : LaunchEntry, ∃ st : DfStream, (slotStream s (slotKey 1 die slot) = some n) ∧
      (launchNext (s.slot (slotKey 1 die slot)) = some (due, e)) ∧ (due ≤ s.lc) ∧ (s.link.streams.get? n = some st) ∧ (s.link.runs = []) ∧
      (policyOf (s.slot (slotKey 1 die slot)) e ≤ 1)) ∧
    (∃ s : State, ∃ die : Fin 2, ∃ slot : Fin 64, ∃ n : Nat, ∃ due : Nat, ∃ e : LaunchEntry, (slotStream s (slotKey 1 die slot) = some n) ∧
      (launchNext (s.slot (slotKey 1 die slot)) = some (due, e)) ∧ (due ≤ s.lc) ∧ (s.link.runs = []) ∧
      (2 ≤ policyOf (s.slot (slotKey 1 die slot)) e)) ∧
    (∃ s : State, ∃ port : Fin 2, ∃ inst : Nat, ∃ n : Nat, ∃ db : Fin 32, ∃ i : Instance, ∃ st : DfStream, (s.on = true) ∧
      (s.insts.get? inst = some i) ∧ (i.port = port) ∧ (i.state = .running) ∧ (streamOf s inst db = some n) ∧ (s.link.streams.get? n = some st)) :=
  ⟨⟨brs 0 [(9, drun (.staged ((List.range 64).map (BitVec.ofNat 8 ·))))], 0, 2, 12, 9, 1000, entry 1 6,
     drun (.staged ((List.range 64).map (BitVec.ofNat 8 ·))), { dstream with launch := some (slotKey 1 0 2) },
     (List.range 64).map (BitVec.ofNat 8 ·), ⟨by decide +kernel, by decide +kernel, by decide +kernel, by decide +kernel, by decide +kernel⟩,
     by decide +kernel⟩,
   ⟨brs 0 [], 0, 2, 12, 1000, entry 1 6, { dstream with launch := some (slotKey 1 0 2) }, by decide +kernel⟩,
   ⟨brs 2 [], 0, 2, 12, 1000, entry 1 6, by decide +kernel⟩,
   ⟨dstr istream, 0, 5, 12, 4, Wit.inst, istream, by decide +kernel⟩⟩

/-- `Obligations.LinkRequests`: its clauses 1, 2, 3, 4, 5, 6, 7, 8. -/
theorem wit_LinkRequests_1 :
    (∃ s : State, ∃ q : Req, ∃ p : Nat, ∃ part : Nat, (Served s q 0x0601 8 .operator) ∧ (p < 8) ∧ (part < 16) ∧ (partExists s part = true) ∧
      (portHolds s p = false)) ∧
    (∃ s : State, ∃ q : Req, ∃ p : Nat, ∃ part : Nat, (Served s q 0x0601 8 .operator) ∧ (p < 8) ∧ (part < 16) ∧ (partExists s part = true) ∧
      (portHolds s p = true)) ∧
    (∃ s : State, ∃ q : Req, ∃ p : Nat, (Served s q 0x0602 8 .operator) ∧ (p < 8)) ∧
    (∃ s : State, ∃ q : Req, ∃ p : Nat, (Served s q 0x0602 8 .operator) ∧ (p < 8) ∧ (s.link.runs = []) ∧ (s.sessions = [])) ∧
    (∃ s : State, ∃ q : Req, ∃ p : Nat, ∃ us : Nat, (Served s q 0x0603 8 .operator) ∧ (p < 8) ∧ (us ≤ 16000)) ∧
    (∃ s : State, ∃ q : Req, ∃ us : Nat, (Served s q 0x0603 8 .operator) ∧ (16000 < us)) ∧
    (∃ s : State, ∃ q : Req, ∃ p : Nat, ∃ first : Nat, ∃ count : Nat, (Served s q 0x0604 8 .operator) ∧
      (∀ e, first ≤ e → e < first + count → s.link.allot.get? e = none) ∧ (p < 8) ∧ (first < 4096) ∧ (first + count ≤ 4096) ∧ (allotted s p = [])) ∧
    (∃ s : State, ∃ q : Req, ∃ p : Nat, ∃ first : Nat, ∃ count : Nat, ∃ e : Nat, (Served s q 0x0604 8 .operator) ∧
      (∃ k, k ≠ p ∧ s.link.allot.get? e = some k) ∧ (p < 8) ∧ (first < 4096) ∧ (first + count ≤ 4096) ∧ (first ≤ e) ∧ (e < first + count)) :=
  ⟨⟨zs zb, rq 0x400 8, 4, 2, servedOf (by decide +kernel), by decide +kernel⟩,
   ⟨za zb, rq 0x400 8, 3, 2, servedOf (by decide +kernel), by decide +kernel⟩,
   ⟨zs { zb with enabled := false, link := .down }, rq 0x400 8, 3, servedOf (by decide +kernel), by decide +kernel⟩,
   ⟨zs zb, rq 0x400 8, 3, servedOf (by decide +kernel), by decide +kernel⟩,
   ⟨zs zb, rq 0x400 8, 3, 0, servedOf (by decide +kernel), by decide +kernel⟩,
   ⟨zs zb, rq 0x400 8, 16001, servedOf (by decide +kernel), by decide +kernel⟩,
   ⟨zs zb, rq 0x400 8, 3, 4090, 6, servedOf (by decide +kernel), (fun _ _ _ => rfl), by decide +kernel⟩,
   ⟨za zb, rq 0x400 8, 4, 0, 20, 10, servedOf (by decide +kernel), ⟨3, by decide +kernel, by decide +kernel⟩, by decide +kernel⟩⟩

/-- `Obligations.LinkRequests`: its clauses 9, 10, 11, 12, 13, 14, 15, 16. -/
theorem wit_LinkRequests_2 :
    (∃ s : State, ∃ q : Req, ∃ p : Nat, ∃ e : Nat, ∃ b : Bytes, (Served s q 0x0605 48 .opOrTenant) ∧ (p < 8) ∧ (e < 4096) ∧
      (mayActOn (whoOf s q.mbx) (s.zal p).owner = true) ∧ (s.link.allot.get? e = some p) ∧ (b.length = 32) ∧ (aperBad b = false) ∧
      (aperHeld s p = false)) ∧
    (∃ s : State, ∃ q : Req, ∃ p : Nat, ∃ e : Nat, ∃ b : Bytes, (Served s q 0x0605 48 .opOrTenant) ∧ (p < 8) ∧ (e < 4096) ∧
      (mayActOn (whoOf s q.mbx) (s.zal p).owner = true) ∧ (s.link.allot.get? e = some p) ∧ (b.length = 32) ∧ (aperBad b = false) ∧
      ((s.zal p).oldBusy = true)) ∧
    (∃ s : State, ∃ q : Req, ∃ p : Nat, (Served s q 0x0606 8 .opOrTenant) ∧ (p < 8) ∧ (mayActOn (whoOf s q.mbx) (s.zal p).owner = true) ∧
      (aperHeld s p = false) ∧ (stagedOverlap s p = false)) ∧
    (∃ s : State, ∃ q : Req, ∃ p : Nat, (Served s q 0x0606 8 .opOrTenant) ∧ (p < 8) ∧ (mayActOn (whoOf s q.mbx) (s.zal p).owner = true) ∧
      (aperHeld s p = false) ∧ (stagedOverlap s p = true)) ∧
    (∃ s : State, ∃ q : Req, ∃ p : Nat, ∃ b : Bytes, (Served s q 0x0607 24 .opOrTenant) ∧
      (∀ x, s.parts.get? (s.zal p).owner = some x → pagesHeld s (s.zal p).owner < x.pageQuota) ∧ (p < 8) ∧
      (mayActOn (whoOf s q.mbx) (s.zal p).owner = true) ∧ (b.length = 16) ∧ (pageBad (s.link.pages.getD (s.zal p).owner []) b = false)) ∧
    (∃ s : State, ∃ q : Req, ∃ p : Nat, ∃ space : Nat, ∃ va : Nat, ∃ e : PageEntry, (Served s q 0x0608 16 .opOrTenant) ∧ (p < 8) ∧
      (mayActOn (whoOf s q.mbx) (s.zal p).owner = true) ∧ (((s.link.pages.getD (s.zal p).owner []).find? fun f => f.covers space va) = some e)) ∧
    (∃ s : State, ∃ q : Req, ∃ part : Nat, ∃ n : Nat, (Served s q 0x0609 8 .operator) ∧ (part < 16) ∧ (partExists s part = true) ∧
      ((s.parts.filter fun x => decide (x.1 ≠ part)) = []) ∧ (n ≤ 16777216) ∧ (pagesHeld s part ≤ n)) ∧
    (∃ s : State, ∃ q : Req, ∃ p : Nat, ∃ mask : Nat, (Served s q 0x060A 8 .operator) ∧ (p < 8) ∧ (mask < 128)) :=
  ⟨⟨za zb, rq 5 48, 3, 10, zaper, servedOf (by decide +kernel), by decide +kernel⟩,
   ⟨za { zb with oldBusy := true }, rq 5 48, 3, 10, zaper, servedOf (by decide +kernel), by decide +kernel⟩,
   ⟨za zb, rq 5 8, 3, servedOf (by decide +kernel), by decide +kernel⟩,
   ⟨zl (za zb) (fun l => { l with allot := [(10, 3), (11, 3)], aperB := [(10, aper1), (11, aper1)] }), rq 5 8, 3, servedOf (by decide +kernel),
     by decide +kernel⟩,
   ⟨za zb, rq 5 24, 3, zpage, servedOf (by decide +kernel), allSome (by decide +kernel), by decide +kernel⟩,
   ⟨zl (za { zb with cache := [pg0, page1, { page1 with va := 0x80000 }] }) (fun l => { l with pages := [(2, [page1, { page1 with va := 0x80000 }])] }),
     rq 5 16, 3, 5, 0x4FFFF, page1, servedOf (by decide +kernel), by decide +kernel⟩,
   ⟨za zb, rq 0x400 8, 2, 16777216, servedOf (by decide +kernel), by decide +kernel⟩,
   ⟨zs { zb with fecCorrected := 3, replays := 4, crcErrors := 5, retrains := 6, lateResponses := 7, protocolErrors := 8, fecUncorrectable := 9 },
     rq 0x400 8, 3, 0x55, servedOf (by decide +kernel), by decide +kernel⟩⟩

/-- `Obligations.LinkRequests`: its clauses 17, 18, 19, 20, 21. -/
theorem wit_LinkRequests_3 :
    (∃ s : State, ∃ q : Req, ∃ p : Nat, ∃ n : Nat, (Served s q 0x060B 64 .opOrTenant) ∧ (p < 8) ∧
      (mayActOn (whoOf s q.mbx) (s.zal p).owner = true) ∧ (s.link.streams.firstFree 4096 0 = some n) ∧ (ctxRoom s = true)) ∧
    (∃ s : State, ∃ q : Req, ∃ n : Nat, ∃ st : DfStream, (Served s q 0x060C 8 .opOrTenant) ∧ (s.link.streams.get? n = some st) ∧
      (mayActOn (whoOf s q.mbx) st.owner = true) ∧ (st.closing = false) ∧ (∀ x ∈ s.link.runs, x.2.stream ≠ n)) ∧
    (∃ s : State, ∃ q : Req, ∃ n : Nat, ∃ st : DfStream, (Served s q 0x060C 8 .opOrTenant) ∧ (s.link.streams.get? n = some st) ∧
      (mayActOn (whoOf s q.mbx) st.owner = true) ∧ (st.closing = false) ∧ (∃ x ∈ s.link.runs, x.2.stream = n)) ∧
    (∃ s : State, ∃ q : Req, ∃ n : Nat, ∃ index : Nat, ∃ st : DfStream, (Served s q 0x060D 8 .opOrTenant) ∧ (s.link.streams.get? n = some st) ∧
      (mayActOn (whoOf s q.mbx) st.owner = true) ∧ (indexTag s n st index = none)) ∧
    (∃ s : State, ∃ q : Req, ∃ n : Nat, ∃ index : Nat, ∃ k : Nat, ∃ st : DfStream, ∃ r : DfRun, (Served s q 0x060D 8 .opOrTenant) ∧
      (s.link.streams.get? n = some st) ∧ (mayActOn (whoOf s q.mbx) st.owner = true) ∧ (s.link.runs = [(k, r)]) ∧ (r.stream = n) ∧
      (r.index = index) ∧ (st.port = none) ∧ (st.closing = false) ∧ (r.stage = .waiting) ∧ ((s.track k).held = true) ∧
      ((s.track k).recorded = false) ∧ ((s.track k).owner = st.owner) ∧ (s.pkt.qps = []) ∧ (s.stor.ops = [])) :=
  ⟨⟨dstr dstream, rq 5 64, 3, 0, servedOf (by decide +kernel), by decide +kernel⟩,
   ⟨dstr dstream, rq 5 8, 12, dstream, servedOf (by decide +kernel), by decide +kernel⟩,
   ⟨df (.flushing 0 64) zb, rq 5 8, 12, dstream, servedOf (by decide +kernel), by decide +kernel⟩,
   ⟨dstr dstream, rq 5 8, 12, 5, dstream, servedOf (by decide +kernel), by decide +kernel⟩,
   ⟨{ dstr istream with link := { (dstr istream).link with runs := [(9, { drun .waiting with index := 2 })] } }, rq 5 8, 12, 2, 9, istream,
     { drun .waiting with index := 2 }, servedOf (by decide +kernel), by decide +kernel⟩⟩

/-- `Obligations.Generations`: its clauses 1, 2, 3, 4, 5, 6, 7, 8. -/
theorem wit_Generations_1 :
    (∃ g : CkpGroup, ∃ i : Nat, (3 ≤ g.n) ∧ (i < g.n)) ∧
    (∃ g : CkpGroup, ∃ i : Nat, ∃ j : Nat, ∃ c : Nat, ∃ d : Nat, (3 ≤ g.n) ∧ (i < g.n) ∧ (j < g.n) ∧ (g.parityHolder i c = g.parityHolder j d) ∧
      (c / g.w = d / g.w)) ∧
    (∃ s : State, ∃ die : Fin 2, ∃ g : CkpGroup, ∃ e : LaunchEntry, (s.ckp = some g) ∧ (g.gen = none) ∧ (g.leads = false) ∧
      (launchNext (s.slot (slotKey 3 die 0)) = some (s.lc, e)) ∧ (e.action = 1)) ∧
    (∃ s : State, ∃ g : CkpGroup, (s.ckp = some g) ∧ (g.standby = false) ∧ (g.windowAt < s.lc / 1000000000) ∧ (g.gen = none) ∧
      (g.leads = false) ∧ (g.lastWarn = none) ∧ (warnRose g (warnCounts s) = true)) ∧
    (∃ s : State, ∃ g : CkpGroup, (s.ckp = some g) ∧ (s.lc / 1000000000 ≤ g.windowAt)) ∧
    (∃ s : State, ∃ p : Fin 8, ∃ g : CkpGroup, ((s.zal p).inService = true) ∧ (s.ckp = some g) ∧ ((s.zal p).owner = g.part) ∧
      (g.warnFlags.testBit 2 = true) ∧ (g.lastWarn = none) ∧ (g.gen = none) ∧ (g.leads = false)) ∧
    (∃ s : State, ∃ g : CkpGroup, ∃ generation : Nat, ∃ reason : Nat, (s.ckp = some g) ∧ (g.leads = false) ∧ (g.runs = true) ∧
      (generation = g.committed + 1) ∧ (reason = 1 ∨ reason = 2)) ∧
    (∃ s : State, ∃ g : CkpGroup, ∃ generation : Nat, (s.ckp = some g) ∧ (generation ≠ g.committed + 1)) :=
  ⟨⟨grpOf 1 none, 0, by decide +kernel⟩,
   ⟨grpOf 1 none, 0, 0, 0, 0, by decide +kernel⟩,
   ⟨snap 1 44 (grpOf 1 none), 0, grpOf 1 none, entry 1 44, by decide +kernel⟩,
   ⟨{ ck { grpOf 1 none with window := [], windowAt := 0 } with clk := { up.clk with lc := 2000000000 }, dram := { stackTbl := [(3, { corrected := 1000 })] } },
     { grpOf 1 none with window := [], windowAt := 0 }, by decide +kernel⟩,
   ⟨ck (grpOf 1 none), grpOf 1 none, by decide +kernel⟩,
   ⟨ck (grpOf 1 none), 3, grpOf 1 none, by decide +kernel⟩,
   ⟨ck (grpOf 1 none), grpOf 1 none, 4, 2, by decide +kernel⟩,
   ⟨ck (grpOf 1 none), grpOf 1 none, 5, by decide +kernel⟩⟩

/-- `Obligations.Generations`: its clauses 9, 10, 11, 12, 13, 14, 15, 16. -/
theorem wit_Generations_2 :
    (∃ s : State, ∃ p : Fin 8, ∃ g : CkpGroup, ∃ r : GenRun, ∃ bs : Bytes, (CanSend s p 2 1) ∧ (s.ckp = some g) ∧ (g.gen = some r) ∧
      ((r.step, s.lc) ∈ g.triggers) ∧ (r.phase = .capture) ∧ (r.snapAt = none) ∧ (ckpPorts s g = [p.val]) ∧
      (piecesRead s g.part r.ranges = some bs)) ∧
    (∃ s : State, ∃ g : CkpGroup, ∃ r : GenRun, (s.ckp = some g) ∧ (g.gen = some r) ∧ (r.phase = .capture) ∧ (r.reason ≠ 3) ∧
      (r.began + 1000000 * g.captureTimeout ≤ s.lc)) ∧
    (∃ s : State, ∃ g : CkpGroup, ∃ r : GenRun, (s.ckp = some g) ∧ (g.gen = some r) ∧ (s.lc < r.began + 1000000 * g.captureTimeout)) ∧
    (∃ s : State, ∃ p : Fin 8, ∃ m : ZalReq, ∃ g : CkpGroup, ∃ r : GenRun, ∃ c : CkpPart, ∃ n : Nat, ∃ off : Nat, ((s.zal p).inService = true) ∧
      (capturing s p = some (g, r, c)) ∧ (c.error = 0) ∧ (m.tag = 0) ∧ (m.gen = 0) ∧ (m.status = 0) ∧ (m.bad = false) ∧ (m.aux < 512) ∧
      (m.cells = (m.aux + 16) / 16) ∧ (m.addr = c.next) ∧ (c.next + m.aux + 1 ≤ g.partLimit p) ∧
      (translate s g.part (g.partAt r.g p + c.next) = some (n, off)) ∧ (off + m.aux < 2 ^ 30) ∧ ((plotAt s n).state = .assigned) ∧
      (keyHeld s (plotAt s n) = true) ∧ (s.dram.poison = []) ∧ (Mem.wf s.dram.bytes = true)) ∧
    (∃ s : State, ∃ p : Fin 8, ∃ m : ZalReq, ((s.zal p).inService = true) ∧ (capturing s p = none) ∧ (m.tag = 0) ∧ (m.gen = 0) ∧ (m.status = 0) ∧
      (m.bad = false) ∧ (m.aux < 512) ∧ (m.cells = (m.aux + 16) / 16)) ∧
    (∃ s : State, ∃ p : Fin 8, ∃ m : ZalReq, ∃ g : CkpGroup, ∃ r : GenRun, ∃ c : CkpPart, (CanSend s p 2 2) ∧ (s.ckp = some g) ∧
      (g.restore = none) ∧ (capturing s p = some (g, r, c)) ∧ (m.tag = 0) ∧ (m.gen = 0) ∧ (m.status = 0) ∧ (m.bad = false) ∧ (m.aux = 0) ∧
      (m.cells = 1) ∧ (fieldAt m.data 0 8 = r.g)) ∧
    (∃ s : State, ∃ member : Fin 64, ∃ chunk : Nat, ∃ old : Bytes, ∃ g : CkpGroup, ∃ r : GenRun, (AreaSound s g) ∧
      (areaRead s g (g.parityAt r.g + chunk / g.w * 1048576) 1048576 = some old) ∧ (s.ckp = some g) ∧ (g.gen = some r) ∧ (r.phase = .parity) ∧
      (3 ≤ g.n) ∧ (chunk < g.k) ∧ (member.val < g.n) ∧ (member.val ≠ g.member) ∧ (g.parityHolder member chunk = g.member) ∧
      ((member.val, chunk) ∉ r.contrib)) ∧
    (∃ s : State, ∃ member : Fin 64, ∃ chunk : Nat, ∃ g : CkpGroup, ∃ r : GenRun, (s.ckp = some g) ∧ (g.gen = some r) ∧
      ((member.val, chunk) ∈ r.contrib)) :=
  ⟨⟨ck { grpOf 1 (some gen0) with triggers := [(30, 1000000)] }, 3, { grpOf 1 (some gen0) with triggers := [(30, 1000000)] }, gen0,
     (piecesRead (ck (grpOf 1 none)) 2 gen0.ranges).getD [],
     ⟨by decide +kernel, by decide +kernel, by decide +kernel, by decide +kernel, by decide +kernel⟩, by decide +kernel⟩,
   ⟨ck (grpOf 1 (some gen0)), grpOf 1 (some gen0), gen0, by decide +kernel⟩,
   ⟨{ ck (grpOf 1 (some gen0)) with clk := { up.clk with lc := 999999 } }, grpOf 1 (some gen0), gen0, by decide +kernel⟩,
   ⟨ck (grpOf 1 (some capt)), 3, sw 33 64 3 (bytes64.take 34), grpOf 1 (some capt), capt, part0, 5, 65536 + 64, by decide +kernel⟩,
   ⟨ck (grpOf 1 (some gen0)), 3, sw 33 64 3 (bytes64.take 34), by decide +kernel⟩,
   ⟨ck (grpOf 1 (some capt)), 3, sw 0 64 1 (le 8 4 ++ le 8 (5 ^^^ crc64Init)), grpOf 1 (some capt), capt, part0,
     ⟨by decide +kernel, by decide +kernel, by decide +kernel, by decide +kernel, by decide +kernel⟩, by decide +kernel⟩,
   ⟨ck (grpOf 1 (some { gen0 with phase := .parity })), 2, 0, areaBytes _ _ _ _, grpOf 1 (some { gen0 with phase := .parity }),
     { gen0 with phase := .parity }, ⟨by decide +kernel, by decide +kernel, by decide +kernel, by decide +kernel, by decide +kernel⟩,
     areaOne (by decide) rfl (by decide +kernel), by decide +kernel⟩,
   ⟨ck (grpOf 1 (some { gen0 with phase := .parity, contrib := [(2, 0)] })), 2, 0,
     grpOf 1 (some { gen0 with phase := .parity, contrib := [(2, 0)] }), { gen0 with phase := .parity, contrib := [(2, 0)] }, by decide +kernel⟩⟩

/-- `Obligations.Generations`: its clauses 17, 18, 19, 20, 21, 22. -/
theorem wit_Generations_3 :
    (∃ s : State, ∃ member : Fin 64, ∃ chunk : Nat, ∃ g : CkpGroup, ∃ r : GenRun, (AreaSound s g) ∧ (s.ckp = some g) ∧ (g.gen = some r) ∧
      (r.phase = .buddy) ∧ (chunk < g.k) ∧ (member.val < g.n) ∧ (g.buddyHolder member = g.member)) ∧
    (∃ s : State, ∃ g : CkpGroup, ∃ r : GenRun, (AreaSound s g) ∧ (s.ckp = some g) ∧ (g.gen = some r) ∧ (r.phase = .capture) ∧ (3 ≤ g.n) ∧
      (r.deviceDone = true) ∧ (∀ p ∈ ckpPorts s g, (r.parts.getD p {}).done = true) ∧ (groupKey s g = none)) ∧
    (∃ s : State, ∃ g : CkpGroup, ∃ r : GenRun, (s.ckp = some g) ∧ (g.gen = some r) ∧ (g.leads = false) ∧ (r.phase = .verify) ∧
      (r.verified = true)) ∧
    (∃ s : State, ∃ g : CkpGroup, ∃ r : GenRun, ∃ k : Nat, (s.ckp = some g) ∧ (g.gen = some r) ∧ (phaseOwnDone s g r = false ∨ r.phase.code ≠ k)) ∧
    (∃ s : State, ∃ g : CkpGroup, ∃ r : GenRun, (AreaSound s g) ∧ (s.ckp = some g) ∧ (g.gen = some r) ∧ (g.leads = false) ∧
      (r.phase = .prepared) ∧ (ckpPorts s g = [])) ∧
    (∃ s : State, ∃ g : CkpGroup, ∃ r : GenRun, (s.ckp = some g) ∧ (g.gen = some r) ∧
      (r.phase = .capture ∨ r.phase = .parity ∨ r.phase = .buddy ∨ r.phase = .verify) ∧ (r.phaseAt + 1000000 * g.phaseTimeout ≤ s.lc)) :=
  ⟨⟨ck (grpOf 1 (some { gen0 with phase := .buddy })), 0, 0, grpOf 1 (some { gen0 with phase := .buddy }), { gen0 with phase := .buddy },
     ⟨by decide +kernel, by decide +kernel, by decide +kernel, by decide +kernel, by decide +kernel⟩, by decide +kernel⟩,
   ⟨ck (grpOf 1 (some { capt with deviceDone := true, parts := [(3, { part0 with done := true })] })),
     grpOf 1 (some { capt with deviceDone := true, parts := [(3, { part0 with done := true })] }),
     { capt with deviceDone := true, parts := [(3, { part0 with done := true })] },
     ⟨by decide +kernel, by decide +kernel, by decide +kernel, by decide +kernel, by decide +kernel⟩, by decide +kernel⟩,
   ⟨ck (grpOf 1 (some { gen0 with phase := .verify, verified := true })), grpOf 1 (some { gen0 with phase := .verify, verified := true }),
     { gen0 with phase := .verify, verified := true }, by decide +kernel⟩,
   ⟨ck (grpOf 1 (some { gen0 with phase := .verify })), grpOf 1 (some { gen0 with phase := .verify }), { gen0 with phase := .verify }, 4,
     by decide +kernel⟩,
   ⟨ckN (grpOf 1 (some { gen0 with phase := .prepared })), grpOf 1 (some { gen0 with phase := .prepared }), { gen0 with phase := .prepared },
     ⟨by decide +kernel, by decide +kernel, by decide +kernel, by decide +kernel, by decide +kernel⟩, by decide +kernel⟩,
   ⟨ck (grpOf 1 (some { gen0 with phase := .buddy })), grpOf 1 (some { gen0 with phase := .buddy }), { gen0 with phase := .buddy },
     by decide +kernel⟩⟩

/-- `Obligations.Recovery`: its clauses 1, 2, 3, 4, 5, 6, 7, 8. -/
theorem wit_Recovery_1 :
    (∃ s : State, ∃ j : Fin 64, ∃ g : CkpGroup, ∃ r : GenRun, (s.ckp = some g) ∧ (g.gen = some r) ∧ (g.lost = false) ∧ (g.standby = false) ∧
      (g.leads = true) ∧ (j.val ≠ g.member) ∧ (j.val ∈ g.inService) ∧ (∀ i, i < g.n → i ∈ g.inService) ∧ (j.val < g.n) ∧ (g.missing = []) ∧
      (g.parityRebuild = false) ∧ (r.phase = .capture ∨ r.phase = .parity)) ∧
    (∃ s : State, ∃ j : Fin 64, ∃ g : CkpGroup, ∃ r : GenRun, (s.ckp = some g) ∧ (g.gen = some r) ∧ (g.lost = false) ∧ (g.standby = false) ∧
      (g.leads = true) ∧ (j.val ≠ g.member) ∧ (j.val ∈ g.inService) ∧ (∀ i, i < g.n → i ∈ g.inService) ∧ (j.val < g.n) ∧ (g.missing = []) ∧
      (3 ≤ g.n) ∧ (r.phase = .buddy ∨ r.phase = .verify)) ∧
    (∃ s : State, ∃ j : Fin 64, ∃ g : CkpGroup, ∃ a : Nat, ∃ b : Nat, (s.ckp = some g) ∧ (g.gen = none) ∧ (g.lost = false) ∧
      (g.standby = false) ∧ (j.val ≠ g.member) ∧ (j.val ∈ g.inService) ∧ (j.val < g.n) ∧ (a < g.n) ∧ (b < g.n) ∧ (a ∉ g.inService) ∧
      (b ∉ g.inService) ∧ (a ≠ b)) ∧
    (∃ s : State, ∃ g : CkpGroup, ∃ r : GenRun, (s.ckp = some g) ∧ (g.gen = some r) ∧ (g.lost = false) ∧ (g.standby = false) ∧
      (g.failover = true) ∧ (r.phase = .prepared)) ∧
    (∃ s : State, ∃ g : CkpGroup, ∃ r : GenRun, (s.ckp = some g) ∧ (g.gen = some r) ∧ (g.lost = false) ∧ (g.standby = false) ∧
      (g.failover = true) ∧ (r.phase ≠ .commit)) ∧
    (∃ s : State, ∃ p : Fin 8, ∃ m : ZalReq, ∃ g : CkpGroup, ∃ bs : Bytes, (Asks s p m 0) ∧ (CanSend s p 1 9) ∧ (m.aux < 4096) ∧
      (s.ckp = some g) ∧ (g.restore ≠ none) ∧ ((s.zal p).owner = g.part) ∧ (m.addr + m.aux + 1 ≤ g.record.partBytes.getD p 0) ∧
      ((List.range (m.aux + 1)).map (fun k => accByte s g.part (g.partAt g.committed p + m.addr + k)) = bs.map (fun b => (b, false)))) ∧
    (∃ s : State, ∃ p : Fin 8, ∃ m : ZalReq, ∃ g : CkpGroup, ∃ c : CkpRestore, ((s.zal p).inService = true) ∧ (s.ckp = some g) ∧
      (g.restore = some c) ∧ ((s.zal p).owner = g.part) ∧ (m.tag = 0) ∧ (m.gen = 0) ∧ (m.status = 0) ∧ (m.bad = false) ∧ (m.aux = 0) ∧
      (m.cells = 1) ∧ (fieldAt m.data 0 8 = g.committed) ∧ (fieldAt m.data 8 8 = g.record.partCrc.getD p 0)) ∧
    (∃ s : State, ∃ p : Fin 8, ∃ m : ZalReq, ∃ g : CkpGroup, ∃ c : CkpRestore, ((s.zal p).inService = true) ∧ (s.ckp = some g) ∧
      (g.restore = some c) ∧ ((s.zal p).owner = g.part) ∧ (m.tag = 0) ∧ (m.gen = 0) ∧ (m.status = 0) ∧ (m.bad = false) ∧ (m.aux = 0) ∧
      (m.cells = 1) ∧ (fieldAt m.data 0 8 = g.committed) ∧ (fieldAt m.data 8 8 ≠ g.record.partCrc.getD p 0)) :=
  ⟨⟨ck (grpOf 0 (some gen0)), 2, grpOf 0 (some gen0), gen0, by decide +kernel⟩,
   ⟨ck (grpOf 0 (some { gen0 with phase := .buddy })), 2, grpOf 0 (some { gen0 with phase := .buddy }), { gen0 with phase := .buddy },
     by decide +kernel⟩,
   ⟨ck { grpOf 0 none with inService := [0, 3], n := 4 }, 3, { grpOf 0 none with inService := [0, 3], n := 4 }, 1, 2, by decide +kernel⟩,
   ⟨ck { grpOf 1 (some { gen0 with phase := .prepared }) with failover := true, inService := [1, 2] },
     { grpOf 1 (some { gen0 with phase := .prepared }) with failover := true, inService := [1, 2] }, { gen0 with phase := .prepared },
     by decide +kernel⟩,
   ⟨ck { grpOf 1 (some { gen0 with phase := .prepared }) with failover := true, inService := [1, 2] },
     { grpOf 1 (some { gen0 with phase := .prepared }) with failover := true, inService := [1, 2] }, { gen0 with phase := .prepared },
     by decide +kernel⟩,
   ⟨ck (resto (grpOf 1 none)), 3, { zreq 99 500 0 [] with gen := 0 }, resto (grpOf 1 none), (List.range 100).map fun _ => (0 : Byte),
     ⟨by decide +kernel, by decide +kernel, by decide +kernel, by decide +kernel⟩,
     ⟨by decide +kernel, by decide +kernel, by decide +kernel, by decide +kernel, by decide +kernel⟩, by decide +kernel⟩,
   ⟨ck (resto (grpOf 1 none)), 3, sw 0 64 1 (le 8 3 ++ le 8 9), resto (grpOf 1 none), ⟨2, []⟩, by decide +kernel⟩,
   ⟨ck (resto (grpOf 1 none)), 3, sw 0 64 1 (le 8 3 ++ le 8 8), resto (grpOf 1 none), ⟨2, []⟩, by decide +kernel⟩⟩

/-- `Obligations.Recovery`: its clauses 9, 10. -/
theorem wit_Recovery_2 :
    (∃ s : State, ∃ g : CkpGroup, ∃ c : CkpRestore, (s.ckp = some g) ∧ (g.restore = some c) ∧ (∀ p ∈ ckpPorts s g, p ∈ c.ended)) ∧
    (∃ s : State, ∃ g : CkpGroup, ∃ c : CkpRestore, ∃ p : Nat, (s.ckp = some g) ∧ (g.restore = some c) ∧ (p ∈ ckpPorts s g) ∧ (p ∉ c.ended)) :=
  ⟨⟨ck { resto (grpOf 1 none) with restore := some ⟨2, [3]⟩ }, { resto (grpOf 1 none) with restore := some ⟨2, [3]⟩ }, ⟨2, [3]⟩,
     by decide +kernel⟩,
   ⟨ck (resto (grpOf 1 none)), resto (grpOf 1 none), ⟨2, []⟩, 3, by decide +kernel⟩⟩

/-- `Obligations.CheckpointRequests`: its clauses 1, 2, 3, 4, 5, 6, 7, 8. -/
theorem wit_CheckpointRequests_1 :
    (∃ s : State, ∃ q : Req, ∃ b : CkpGroupBody, ∃ peers : Bytes, ∃ maxes : Bytes, ∃ g : CkpGroup, ∃ t1 : State, (Served s q 0x0B01 80 .operator) ∧
      (readBuf s (whoOf s q.mbx) b.peers b.peersHost = .ok peers) ∧ (readBuf s (whoOf s q.mbx) b.partMax b.partMaxHost = .ok maxes) ∧
      (groupBad s b false = false) ∧ ((groupOf s b peers maxes false).partMax.foldl (· + ·) 0 ≤ b.shardMax) ∧ (s.ckp = none) ∧
      (ctxRoom s = true) ∧ (takeAreas s (groupOf s b peers maxes false) = some (g, t1)) ∧ (s.longOps = [])) ∧
    (∃ s : State, ∃ q : Req, ∃ b : CkpGroupBody, ∃ peers : Bytes, ∃ maxes : Bytes, ∃ g : CkpGroup, ∃ t1 : State, (Served s q 0x0B08 80 .operator) ∧
      (readBuf s (whoOf s q.mbx) b.peers b.peersHost = .ok peers) ∧ (readBuf s (whoOf s q.mbx) b.partMax b.partMaxHost = .ok maxes) ∧
      (groupBad s b true = false) ∧ ((groupOf s b peers maxes true).partMax.foldl (· + ·) 0 ≤ b.shardMax) ∧ (s.ckp = none) ∧ (ctxRoom s = true) ∧
      (takeAreas s (groupOf s b peers maxes true) = some (g, t1))) ∧
    (∃ s : State, ∃ q : Req, ∃ g : CkpGroup, (Served s q 0x0B02 8 .operator) ∧ (s.ckp = some g) ∧ (g.gen = none) ∧ (s.longOps = []) ∧
      (g.areas.Nodup) ∧ (∀ n ∈ g.areas, (plotAt s n).state = .assigned)) ∧
    (∃ s : State, ∃ q : Req, ∃ g : CkpGroup, ∃ count : Nat, ∃ r : BufRef, ∃ host : HostData, ∃ bs : Bytes, (Served s q 0x0B03 24 .tenant) ∧
      (readBuf s (whoOf s q.mbx) r host = .ok bs) ∧ (s.ckp = some g) ∧ ((whoOf s q.mbx).owner = g.part) ∧ (1 ≤ count) ∧ (count ≤ 256) ∧
      (refBad r (16 * count) = false) ∧ (∀ c ∈ chunks 16 count bs, ckpRangeBad s g.part (fieldAt c 0 8, fieldAt c 8 8) = false) ∧
      (g.partMax.foldl (· + ·) 0 + rangeBytes ((chunks 16 count bs).map fun c => (fieldAt c 0 8, fieldAt c 8 8)) ≤ g.shardMax)) ∧
    (∃ s : State, ∃ q : Req, ∃ g : CkpGroup, ∃ count : Nat, ∃ r : BufRef, ∃ host : HostData, ∃ bs : Bytes, (Served s q 0x0B03 24 .tenant) ∧
      (readBuf s (whoOf s q.mbx) r host = .ok bs) ∧ (s.ckp = some g) ∧ ((whoOf s q.mbx).owner = g.part) ∧ (1 ≤ count) ∧ (count ≤ 256) ∧
      (refBad r (16 * count) = false) ∧
      (g.shardMax < g.partMax.foldl (· + ·) 0 + rangeBytes ((chunks 16 count bs).map fun c => (fieldAt c 0 8, fieldAt c 8 8)))) ∧
    (∃ s : State, ∃ q : Req, ∃ g : CkpGroup, (Served s q 0x0B04 16 .tenant) ∧ (s.ckp = some g) ∧ ((whoOf s q.mbx).owner = g.part) ∧
      (g.standby = false) ∧ (g.lost = false) ∧ (g.formed = true) ∧ (g.gen = none) ∧ (g.leads = false)) ∧
    (∃ s : State, ∃ q : Req, ∃ g : CkpGroup, (Served s q 0x0B05 0 .opOrTenant) ∧ (s.ckp = some g) ∧ (mayActOn (whoOf s q.mbx) g.part = true)) ∧
    (∃ s : State, ∃ q : Req, (Served s q 0x0B05 0 .opOrTenant) ∧ (s.ckp = none)) :=
  ⟨⟨noCk 2, rq 0x400 80, ckBody 3 1, zeros 144, zeros 64,
     ((takeAreas (noCk 2) (groupOf (noCk 2) (ckBody 3 1) (zeros 144) (zeros 64) false)).map Prod.fst).getD (grpOf 1 none),
     ((takeAreas (noCk 2) (groupOf (noCk 2) (ckBody 3 1) (zeros 144) (zeros 64) false)).map Prod.snd).getD up, servedOf (by decide +kernel),
     okOf (by decide +kernel), okOf (by decide +kernel), by decide +kernel⟩,
   ⟨noCk 2, rq 0x400 80, ckBody 3 0xFF, zeros 144, zeros 64,
     ((takeAreas (noCk 2) (groupOf (noCk 2) (ckBody 3 0xFF) (zeros 144) (zeros 64) true)).map Prod.fst).getD (grpOf 1 none),
     ((takeAreas (noCk 2) (groupOf (noCk 2) (ckBody 3 0xFF) (zeros 144) (zeros 64) true)).map Prod.snd).getD up, servedOf (by decide +kernel),
     okOf (by decide +kernel), okOf (by decide +kernel), by decide +kernel⟩,
   ⟨ck (grpOf 1 none), rq 0x400 8, grpOf 1 none, servedOf (by decide +kernel), by decide +kernel⟩,
   ⟨ck (grpOf 1 none), rq 5 24, grpOf 1 none, 1, hostBuf 16, .data (le 8 4096 ++ le 8 8192), le 8 4096 ++ le 8 8192,
     servedOf (by decide +kernel), okOf (by decide +kernel), by decide +kernel⟩,
   ⟨ck (grpOf 1 none), rq 5 24, grpOf 1 none, 1, hostBuf 16, .data (le 8 4096 ++ le 8 1048576), le 8 4096 ++ le 8 1048576,
     servedOf (by decide +kernel), okOf (by decide +kernel), by decide +kernel⟩,
   ⟨ck (grpOf 1 none), rq 5 16, grpOf 1 none, servedOf (by decide +kernel), by decide +kernel⟩,
   ⟨ck (grpOf 1 none), rq 5 0, grpOf 1 none, servedOf (by decide +kernel), by decide +kernel⟩,
   ⟨noCk 2, rq 5 0, servedOf (by decide +kernel), by decide +kernel⟩⟩

/-- `Obligations.CheckpointRequests`: its clauses 9, 11, 12, 13, 14.
Clause 9 without the hypothesis on the store, whose bytes are opaque. -/
theorem wit_CheckpointRequests_2 :
    (∃ s : State, ∃ q : Req, ∃ g : CkpGroup, ∃ gen : Nat, ∃ out : BufRef, ∃ c : CommitRecord, (Served s q 0x0B06 24 .tenant) ∧ (s.ckp = some g) ∧
      ((whoOf s q.mbx).owner = g.part) ∧ (g.holds gen = true) ∧ (g.pages.get? (gen % 2) = some c) ∧ (out.space = 2) ∧ (64 + 64 * g.n ≤ out.len) ∧
      (g.leads = true) ∧ (guarded s g.part out.addr (64 + 64 * g.n) = false) ∧ (s.longOps = [])) ∧
    (∃ s : State, ∃ q : Req, ∃ g : CkpGroup, ∃ gen : Nat, (Served s q 0x0B06 24 .tenant) ∧ (s.ckp = some g) ∧ ((whoOf s q.mbx).owner = g.part) ∧
      (g.holds gen = false)) ∧
    (∃ s : State, ∃ q : Req, ∃ g : CkpGroup, ∃ j : Nat, (Served s q 0x0B07 56 .operator) ∧ (s.ckp = some g) ∧ (j < g.n) ∧ (g.lost = false) ∧
      (g.standby = false) ∧ (g.leads = true) ∧ (j ∉ g.inService) ∧ (g.restore = none) ∧ (g.gen = none) ∧ (s.longOps = [])) ∧
    (∃ s : State, ∃ q : Req, ∃ g : CkpGroup, ∃ j : Nat, (Served s q 0x0B07 56 .operator) ∧ (s.ckp = some g) ∧ (j < g.n) ∧ (j ∈ g.inService)) ∧
    (∃ s : State, ∃ q : Req, ∃ g : CkpGroup, ∃ flags : Nat, ∃ holdoff : Nat, (Served s q 0x0B09 24 .operator) ∧ (s.ckp = some g) ∧ (flags < 8) ∧
      (1 ≤ holdoff) ∧ (holdoff ≤ 3600)) :=
  ⟨⟨ck { grpOf 0 none with pages := [(1, rec3)] }, rq 5 24, { grpOf 0 none with pages := [(1, rec3)] }, 3,
     { addr := 4096, len := 256, space := 2 }, rec3, servedOf (by decide +kernel), by decide +kernel⟩,
   ⟨ck (grpOf 1 none), rq 5 24, grpOf 1 none, 3, servedOf (by decide +kernel), by decide +kernel⟩,
   ⟨ck { resto (grpOf 0 none) with restore := none }, rq 0x400 56, { resto (grpOf 0 none) with restore := none }, 2,
     servedOf (by decide +kernel), by decide +kernel⟩,
   ⟨ck (grpOf 0 none), rq 0x400 56, grpOf 0 none, 2, servedOf (by decide +kernel), by decide +kernel⟩,
   ⟨ck (grpOf 0 none), rq 0x400 24, grpOf 0 none, 7, 3600, servedOf (by decide +kernel), by decide +kernel⟩⟩

/-- `Obligations.BrambleTargets`: its clauses 1, 2, 3, 4, 5, 6, 7, 8. -/
theorem wit_BrambleTargets_1 :
    (∃ s : State, ∃ tag : BitVec 17, ∃ die : Fin 2, ∃ dpa : Nat, ∃ len : Nat, ∃ n : Nat, ∃ off : Nat, (s.on = true) ∧
      (dpaPlot s (dpa % 2 ^ 39 + 2 ^ 39 * die) = some (n, off)) ∧ (tagOwner tag.toNat = some (plotAt s n).owner) ∧
      ((plotAt s n).state = .assigned ∨ (plotAt s n).state = .lost) ∧ (off % 2 ^ 30 + len ≤ 2 ^ 30) ∧
      (∀ k, k < len → wordBad s n (off + k) = false)) ∧
    (∃ s : State, ∃ tag : BitVec 17, ∃ die : Fin 2, ∃ dpa : Nat, ∃ len : Nat, ∃ n : Nat, ∃ off : Nat, ∃ j : Nat, (s.on = true) ∧
      (dpaPlot s (dpa % 2 ^ 39 + 2 ^ 39 * die) = some (n, off)) ∧ (tagOwner tag.toNat = some (plotAt s n).owner) ∧
      ((plotAt s n).state = .assigned ∨ (plotAt s n).state = .lost) ∧ (off % 2 ^ 30 + len ≤ 2 ^ 30) ∧ (j < len) ∧ (wordBad s n (off + j) = true)) ∧
    (∃ s : State, ∃ tag : BitVec 17, ∃ die : Fin 2, ∃ dpa : Nat, ∃ len : Nat, ∃ n : Nat, ∃ off : Nat, (∀ a, plotSpaceOf s n off = some a → guarded s (plotAt s n).owner a len = false) ∧
      (s.on = true) ∧ (dpaPlot s (dpa % 2 ^ 39 + 2 ^ 39 * die) = some (n, off)) ∧ (tagOwner tag.toNat = some (plotAt s n).owner) ∧
      ((plotAt s n).state = .assigned) ∧ (keyHeld s (plotAt s n) = true) ∧ ((plotAt s n).garbled = none) ∧ (off % 2 ^ 30 + len ≤ 2 ^ 30) ∧
      (s.dram.poison = []) ∧ (Mem.wf s.dram.bytes = true)) ∧
    (∃ s : State, ∃ tag : BitVec 17, ∃ die : Fin 2, ∃ dpa : Nat, ∃ n : Nat, ∃ off : Nat, (s.on = true) ∧
      (dpaPlot s (dpa % 2 ^ 39 + 2 ^ 39 * die) = some (n, off)) ∧ (tagOwner tag.toNat ≠ some (plotAt s n).owner)) ∧
    (∃ s : State, ∃ tag : BitVec 17, ∃ tile : Fin 144, ∃ addr : Nat, ∃ len : Nat, (s.on = true) ∧
      (tagOwner tag.toNat = some (s.group (tile / 9)).owner) ∧ (addr + len ≤ 10485760) ∧ ((s.tile tile).poisoned = [])) ∧
    (∃ s : State, ∃ tag : BitVec 17, ∃ tile : Fin 144, ∃ addr : Nat, ∃ len : Nat, (s.on = true) ∧
      (tagOwner tag.toNat = some (s.group (tile / 9)).owner) ∧ (addr + len ≤ 10485760) ∧ ((s.tile tile).regions = []) ∧
      (Mem.wf (s.tile tile).sram = true)) ∧
    (∃ s : State, ∃ tag : BitVec 17, ∃ tile : Fin 144, (s.on = true) ∧ (tagOwner tag.toNat ≠ some (s.group (tile / 9)).owner)) ∧
    (∃ s : State, ∃ tag : BitVec 17, ∃ k : Nat, ∃ x : KeySlot, (s.on = true) ∧ (s.sec.slots.get? k = some x) ∧
      (tagOwner tag.toNat = some x.owner)) :=
  ⟨⟨plots up [(64, 1), (100, 2)], 0x2005, 0, 5 * 2 ^ 30 + 64, 40, 5, 64, by decide +kernel⟩,
   ⟨{ plots up [(64, 1)] with dram := { (plots up [(64, 1)]).dram with poison := [(5 * 2 ^ 30 + 64) / 32] } }, 0x2005, 0, 5 * 2 ^ 30 + 50, 40,
     5, 50, 14, by decide +kernel⟩,
   ⟨plots up [(64, 1), (100, 2)], 0x2005, 0, 5 * 2 ^ 30 + 64, 40, 5, 64, allSome (by decide +kernel), by decide +kernel⟩,
   ⟨plots up [(64, 1), (100, 2)], 0x3005, 0, 5 * 2 ^ 30 + 64, 5, 64, by decide +kernel⟩,
   ⟨tn tx 0, 0x2005, 6, 3, 50, by decide +kernel⟩,
   ⟨tn tx 0, 0x2005, 6, 3, 50, by decide +kernel⟩,
   ⟨tn tx 0, 0x3005, 6, by decide +kernel⟩,
   ⟨keys, 0x2005, 70, slot1, by decide +kernel⟩⟩

/-- `Obligations.BrambleTargets`: its clauses 9, 10, 11, 12, 13, 14. -/
theorem wit_BrambleTargets_2 :
    (∃ s : State, ∃ tag : BitVec 17, ∃ k : Nat, ∃ x : KeySlot, (s.on = true) ∧ (s.sec.slots.get? k = some x) ∧
      (tagOwner tag.toNat ≠ some x.owner)) ∧
    (∃ s : State, ∃ off : Nat, (s.on = true) ∧ (bar0Region off ≠ .operator)) ∧
    (∃ s : State, ∃ tag : BitVec 17, ∃ p : Fin 2, ∃ off : Nat, (s.on = true) ∧ (tagOwner tag.toNat ≠ some 16) ∧
      (tag.toNat ≠ 0x400 + p ∨ bar0Region off = .operator)) ∧
    (∃ s : State, ∃ tag : BitVec 17, ∃ p : Fin 8, (s.on = true) ∧ (tagOwner tag.toNat ≠ some (s.zal p).owner)) ∧
    (∃ s : State, ∃ tag : BitVec 17, ∃ p : Fin 2, ∃ m : Nat, ∃ i : Instance, (s.on = true) ∧ (m < 1024) ∧ (s.insts.get? m = some i) ∧
      (i.port = p) ∧ (tagOwner tag.toNat = some i.part) ∧ (i.state = .running) ∧ (i.pasid = none) ∧ (i.dirtyOn = false) ∧
      ((s.port p).driverPresent = true)) ∧
    (∃ s : State, ∃ tag : BitVec 17, ∃ p : Fin 2, ∃ m : Nat, (∀ i, s.insts.get? m = some i → i.port ≠ p ∨ tagOwner tag.toNat ≠ some i.part) ∧
      (s.on = true) ∧ (m < 1024)) :=
  ⟨⟨keys, 0x3005, 70, slot1, by decide +kernel⟩,
   ⟨hs hp, 0x10, by decide +kernel⟩,
   ⟨hs hp, 0x401, 1, 0x2000, by decide +kernel⟩,
   ⟨zs zb, 0x3005, 3, by decide +kernel⟩,
   ⟨up, 0x2005, 0, 5, Wit.inst, by decide +kernel⟩,
   ⟨up, 0x3005, 0, 5, allSome (by decide +kernel), by decide +kernel⟩⟩

/-- `Obligations.HostPorts`: its clauses 1, 2.1, 2.2, 2.3, 2.4, 3, 4, 5. -/
theorem wit_HostPorts_1 :
    (∃ s : State, ∃ p : Fin 2, (s.on = true) ∧ ((s.port p).perst = false) ∧ (s.boot.rom = false)) ∧
    (∃ s : State, ∃ p : Fin 2, (s.on = true) ∧ ((s.port p).perst = false) ∧ (s.boot.rom = true)) ∧
    (∃ s : State, ∃ p : Fin 2, (s.on = true) ∧ ((s.port p).perst = false) ∧ (s.boot.rom = true)) ∧
    (∃ s : State, ∃ p : Fin 2, (s.on = true) ∧ ((s.port p).perst = false) ∧ (s.boot.rom = true)) ∧
    (∃ s : State, ∃ p : Fin 2, (s.on = true) ∧ ((s.port p).perst = false) ∧ (s.boot.rom = true)) ∧
    (∃ s : State, ∃ p : Fin 2, ((s.port p).perst = true)) ∧
    (∃ s : State, ∃ p : Fin 2, ∃ v : Nat, (s.on = true) ∧ ((s.port p).perst = false) ∧ (s.boot.rom = true) ∧
      ((s.port p).bme = false ∨ v.testBit 2 = true)) ∧
    (∃ s : State, ∃ p : Fin 2, ∃ v : Nat, (s.on = true) ∧ ((s.port p).perst = false) ∧ (s.boot.rom = true) ∧ ((s.port p).bme = true) ∧
      (v.testBit 2 = false) ∧ (s.insts = []) ∧ (s.sessions = []) ∧ (s.boot.opPort ≠ p)) :=
  ⟨⟨{ up with boot := { level := 0 } }, 1, by decide +kernel⟩,
   ⟨up, 1, by decide +kernel⟩,
   ⟨up, 1, by decide +kernel⟩,
   ⟨up, 1, by decide +kernel⟩,
   ⟨up, 1, by decide +kernel⟩,
   ⟨hs { hp with perst := true }, 1, by decide +kernel⟩,
   ⟨hs hp, 1, 0x146, by decide +kernel⟩,
   ⟨hs hp, 1, 2, by decide +kernel⟩⟩

/-- `Obligations.HostPorts`: its clauses 6, 7, 8, 9, 10, 11, 12, 13. -/
theorem wit_HostPorts_2 :
    (∃ s : State, ∃ p : Fin 2, (s.on = true) ∧ (s.insts = []) ∧ (s.sessions = []) ∧ (s.boot.opPort ≠ p) ∧ ((s.port p).reads = [])) ∧
    (∃ s : State, ∃ p : Fin 2, ∃ k : Nat, ∃ r : HostRead, (s.on = true) ∧ (s.insts = []) ∧ (s.sessions = []) ∧ (s.boot.opPort ≠ p) ∧
      ((s.port p).reads = [(k, r)]) ∧ (r.quarantined = false) ∧ (r.op = none)) ∧
    (∃ s : State, ∃ p : Fin 2, ∃ w : Nat, ∃ v : Nat, (s.on = true) ∧ (w ∈ [1, 2, 4, 8, 16]) ∧ (1 ≤ v) ∧ (v ≤ (s.port p).advertised) ∧
      (¬ s.clk.down.contains p.val) ∧ ((s.units.getD (uHost p) {}).state ≠ .failed) ∧ ((s.port p).perst = true)) ∧
    (∃ s : State, ∃ p : Fin 2, (s.on = true) ∧ (s.insts = []) ∧ (s.sessions = []) ∧ (s.boot.opPort ≠ p)) ∧
    (∃ s : State, (s.on = true)) ∧
    (∃ s : State, ∃ p : Fin 2, (s.lc < (s.port p).lastBeat + 2000000000)) ∧
    (∃ s : State, ∃ p : Fin 2, (s.on = true) ∧ ((s.port p).hbArmed = true) ∧ ((s.port p).driverPresent = true) ∧
      ((s.port p).lastBeat + 2000000000 ≤ s.lc) ∧ ((s.insts.map Prod.fst).Nodup) ∧ (s.sessions = []) ∧ (s.longOps = []) ∧ (s.stor.ops = []) ∧
      (s.link.streams = []) ∧ (s.boot.opPort ≠ p)) ∧
    (∃ s : State, ∃ p : Fin 2, (s.on = true) ∧ (s.boot.opPort = p) ∧ ((s.port p).driverPresent = true) ∧ ((s.port p).hbArmed = true) ∧
      ((s.port p).lastBeat + 2000000000 ≤ s.lc) ∧ (s.insts = []) ∧ (s.sessions = [])) :=
  ⟨⟨hs { hp with win := [(3, win1)], hbArmed := true }, 1, by decide +kernel⟩,
   ⟨hs { hp with reads := [(4, hr)] }, 1, 4, hr, by decide +kernel⟩,
   ⟨hs { hp with perst := true, linkUp := false }, 1, 8, 6, by decide +kernel⟩,
   ⟨hs { hp with reads := [(4, hr)], win := [(3, win1)] }, 1, by decide +kernel⟩,
   ⟨hs hp, by decide +kernel⟩,
   ⟨hs { hp with lastBeat := 0, hbArmed := true }, 1, by decide +kernel⟩,
   ⟨{ is Wit.inst inst1 with ports := [(0, hp), (1, { hp with hbArmed := true })], clk := { up.clk with lc := 2000000000 } }, 1,
     by decide +kernel⟩,
   ⟨{ hs hp with ports := [(0, { hp with hbArmed := true }), (1, hp)], clk := { up.clk with lc := 2000000000 } }, 0, by decide +kernel⟩⟩

/-- `Obligations.HostPorts`: its clauses 14, 15, 16, 17, 18, 19, 20, 21. -/
theorem wit_HostPorts_3 :
    (∃ s : State, ∃ p : Fin 2, (s.on = true) ∧ ((s.port p).linkUp = true) ∧ ((s.port p).d3hot = false) ∧ ((s.port p).bme = true) ∧
      ((s.port p).beatSeen = true) ∧ ((s.port p).driverPresent = false) ∧ ((s.port p).readWait = []) ∧ (s.boot.opPort ≠ p)) ∧
    (∃ s : State, ∃ p : Fin 2, ((s.port p).linkUp = false ∨ (s.port p).d3hot = true ∨ (s.port p).bme = false ∨ (s.port p).beatSeen = false)) ∧
    (∃ m : Nat, (0 < m)) ∧
    (∃ s : State, ∃ p : Fin 2, ∃ tag : Nat, ∃ r : HostRead, ((s.port p).reads.get? tag = some r) ∧ (r.quarantined = true) ∧
      ((s.port p).readWait = [])) ∧
    (∃ s : State, ∃ p : Fin 2, ∃ tag : Nat, ∃ op : Nat, ∃ n : Nat, ∃ r : HostRead, ∃ o : IoOp, ((s.port p).reads.get? tag = some r) ∧
      (r.quarantined = false) ∧ (r.op = some op) ∧ (op < 65536) ∧ (r.stale = false) ∧ (r.missing ≤ n) ∧ (s.stor.ops = [(op, o)]) ∧
      (r.missing < o.missing) ∧ ((s.port p).readWait = []) ∧ (Mem.wf o.data = true)) ∧
    (∃ s : State, ∃ p : Fin 2, ∃ tag : Nat, ∃ r : HostRead, ((s.port p).reads.get? tag = some r) ∧ (s.lc < r.issued + readTimeout (s.port p))) ∧
    (∃ s : State, ∃ p : Fin 2, ∃ tag : Nat, ∃ r : HostRead, ((s.port p).reads.get? tag = some r) ∧ (r.quarantined = false) ∧ (r.op = none) ∧
      (r.issued + readTimeout (s.port p) ≤ s.lc)) ∧
    (∃ s : State, ∃ p : Fin 2, ∃ tag : Nat, ∃ r : HostRead, ((s.port p).reads.get? tag = some r) ∧ (r.quarantined = true) ∧
      (r.issued + 2 * readTimeout (s.port p) ≤ s.lc) ∧ ((s.port p).readWait = [])) :=
  ⟨⟨{ is Wit.inst { inst1 with state := .hostLost } with ports := [(0, hp), (1, { hp with driverPresent := false, beatSeen := true })] }, 1,
     by decide +kernel⟩,
   ⟨hs { hp with beatSeen := false }, 1, by decide +kernel⟩,
   ⟨128, by decide +kernel⟩,
   ⟨hs { hp with reads := [(4, { hr with quarantined := true })] }, 1, 4, { hr with quarantined := true }, by decide +kernel⟩,
   ⟨{ hs { hp with reads := [(4, { hr with op := some 9, offset := 2 })] } with stor := { ops := [(9, iop)] } }, 1, 4, 9, 8,
     { hr with op := some 9, offset := 2 }, iop, by decide +kernel⟩,
   ⟨hs { hp with reads := [(4, hr)] }, 1, 4, hr, by decide +kernel⟩,
   ⟨{ hs { hp with reads := [(4, hr)] } with clk := { up.clk with lc := 100000000000 } }, 1, 4, hr, by decide +kernel⟩,
   ⟨{ hs { hp with reads := [(4, { hr with quarantined := true })] } with clk := { up.clk with lc := 200000000000 } }, 1, 4,
     { hr with quarantined := true }, by decide +kernel⟩⟩

/-- `Obligations.HostPorts`: its clauses 22. -/
theorem wit_HostPorts_4 :
    (∃ s : State, ∃ p : Fin 2, ∃ tag : Nat, ∃ r : HostRead, ((s.port p).reads.get? tag = some r) ∧ (s.lc < r.issued + 2 * readTimeout (s.port p))) :=
  ⟨hs { hp with reads := [(4, hr)] }, 1, 4, hr, by decide +kernel⟩

/-- `Obligations.HostRegisters`: its clauses 1, 2, 3, 4, 5, 6, 7, 8. -/
theorem wit_HostRegisters_1 :
    (∃ s : State, ∃ p : Fin 2, (s.on = true) ∧ (s.boot.opPort = p)) ∧
    (∃ s : State, ∃ p : Fin 2, (s.on = true) ∧ (s.boot.opPort = p)) ∧
    (∃ s : State, ∃ p : Fin 2, (s.on = true) ∧ (s.boot.opPort = p)) ∧
    (∃ s : State, ∃ p : Fin 2, ∃ off : Nat, (s.on = true) ∧ (s.boot.opPort ≠ p) ∧ (off < 16)) ∧
    (∃ s : State, ∃ p : Fin 2, ∃ n : Nat, ∃ i : Instance, (s.on = true) ∧ (s.insts.get? n = some i) ∧ (i.port = p)) ∧
    (∃ s : State, ∃ p : Fin 2, ∃ n : Nat, ∃ i : Instance, (s.on = true) ∧ (s.insts.get? n = some i) ∧ (i.port = p)) ∧
    (∃ s : State, ∃ p : Fin 2, ∃ n : Nat, (∀ i, s.insts.get? n = some i → i.port ≠ p) ∧ (s.on = true)) ∧
    (∃ s : State, ∃ p : Fin 2, (s.on = true) ∧ (s.boot.opPort = p)) :=
  ⟨⟨hs hp, 0, by decide +kernel⟩,
   ⟨hs hp, 0, by decide +kernel⟩,
   ⟨{ hs hp with ports := [(0, { hp with lcHiSnap := 0x1234567 })] }, 0, by decide +kernel⟩,
   ⟨hs hp, 1, 8, by decide +kernel⟩,
   ⟨{ is Wit.inst inst1 with clk := { up.clk with lc := 5 * 2 ^ 32 + 7 } }, 0, 5, Wit.inst, by decide +kernel⟩,
   ⟨is { Wit.inst with lcHiSnap := 77 } inst1, 0, 5, { Wit.inst with lcHiSnap := 77 }, by decide +kernel⟩,
   ⟨is Wit.inst inst1, 0, 6, allSome (by decide +kernel), by decide +kernel⟩,
   ⟨{ hs hp with clk := { up.clk with lostHost0 := true, lostStor := true } }, 0, by decide +kernel⟩⟩

/-- `Obligations.HostRegisters`: its clauses 9, 10, 11, 12, 13, 14, 15, 16. -/
theorem wit_HostRegisters_2 :
    (∃ s : State, ∃ p : Fin 2, (s.on = true) ∧ (s.boot.opPort ≠ p)) ∧
    (∃ s : State, ∃ p : Fin 2, ∃ u : Nat, (s.on = true) ∧ (s.boot.opPort = p) ∧ (unitNamed u = true) ∧ (inRange u 0xA0 16 = false)) ∧
    (∃ s : State, ∃ p : Fin 2, ∃ n : Nat, ∃ i : Instance, ∃ x : Partition, ∃ slot : Fin 64, ∃ e : Nat × PmcCounter, (s.on = true) ∧
      (s.insts.get? n = some i) ∧ (i.port = p) ∧ (s.parts.get? i.part = some x) ∧ (x.tenantCounters = true) ∧ (slotCounter s i.part slot = some e)) ∧
    (∃ s : State, ∃ p : Fin 2, ∃ n : Nat, ∃ i : Instance, ∃ x : Partition, (s.on = true) ∧ (s.insts.get? n = some i) ∧ (i.port = p) ∧
      (s.parts.get? i.part = some x) ∧ (x.tenantCounters = false)) ∧
    (∃ s : State, ∃ p : Fin 2, ∃ v : Nat, (s.on = true) ∧ ((s.mbx (0x400 + p)).enable = false) ∧ (v.testBit 0 = true) ∧ (4 ≤ bitsOf v 4 1) ∧
      (bitsOf v 4 1 ≤ 12) ∧ (4 ≤ bitsOf v 8 5) ∧ (bitsOf v 8 5 ≤ 12)) ∧
    (∃ s : State, ∃ p : Fin 2, ∃ v : Nat, (s.on = true) ∧ ((s.mbx (0x400 + p)).enable = false) ∧ (bitsOf v 4 1 < 4 ∨ 12 < bitsOf v 4 1)) ∧
    (∃ s : State, ∃ p : Fin 2, ∃ v : Nat, (s.on = true) ∧ ((s.mbx (0x400 + p)).enable = true) ∧ (v.testBit 0 = true)) ∧
    (∃ s : State, ∃ p : Fin 2, ∃ v : Nat, (s.on = true) ∧ ((s.mbx (0x400 + p)).enable = true) ∧ (v.testBit 0 = false)) :=
  ⟨⟨hs hp, 1, by decide +kernel⟩,
   ⟨{ hs hp with mon := { pmc := [(8 * 0x20 + 3, { cnt with holder := none }), (8 * 0x20 + 4, cnt)] } }, 0, 0x20, by decide +kernel⟩,
   ⟨{ is Wit.inst inst1 with mon := { pmc := [(8 * 0x20 + 4, cnt)] }, parts := [(2, { part with tenantCounters := true })] }, 0, 5, Wit.inst,
     { part with tenantCounters := true }, 9, (8 * 0x20 + 4, cnt), by decide +kernel⟩,
   ⟨is Wit.inst inst1, 0, 5, Wit.inst, part, by decide +kernel⟩,
   ⟨hm off0, 1, 1 + 4 * 2 + 12 * 32 + 77 * 512 + 2 ^ 20, by decide +kernel⟩,
   ⟨hm off0, 1, 1 + 3 * 2 + 12 * 32, by decide +kernel⟩,
   ⟨hm mb, 1, 1 + 4 * 2 + 12 * 32, by decide +kernel⟩,
   ⟨hm { mb with pend := [pend1] }, 1, 4 * 2 + 12 * 32, by decide +kernel⟩⟩

/-- `Obligations.HostRegisters`: its clauses 17, 18, 19, 20, 21, 22, 23, 24. -/
theorem wit_HostRegisters_3 :
    (∃ s : State, ∃ p : Fin 2, (s.on = true) ∧ ((s.mbx (0x400 + p)).enable = true)) ∧
    (∃ s : State, ∃ p : Fin 2, ∃ bar : Nat, ∃ off : Nat, ∃ size : Nat, (size ≠ 4 ∧ size ≠ 8 ∨ off % size ≠ 0) ∧ (s.boot.opPort = p) ∧ (bar ≠ 2)) ∧
    (∃ s : State, ∃ p : Fin 2, (s.on = true) ∧ ((s.mbx (0x400 + p)).enable = false)) ∧
    (∃ s : State, ∃ k : Nat, ∃ v : Nat, (s.on = true) ∧ (k < 2048) ∧ (v < 2 ^ 32)) ∧
    (∃ s : State, ∃ p : Fin 2, ∃ off : Nat, (s.on = true) ∧ (bar0Region off = .operator) ∧ (s.boot.opPort ≠ p)) ∧
    (∃ s : State, ∃ p : Fin 2, ∃ n : Nat, ∃ off : Nat, (∀ i, s.insts.get? n = some i → i.port ≠ p) ∧ (s.on = true) ∧ (n < 1024) ∧ (off < 16384)) ∧
    (∃ s : State, ∃ m : Nat, (s.on = true) ∧ ((s.mbx m).enable = true) ∧ ((s.mbx m).pend = []) ∧ (mayDma s (mbxPort s m) (mbxInst m) = true)) ∧
    (∃ s : State, ∃ p : Fin 2, ∃ c : Nat, ∃ e : IaldoEntry, (s.on = true) ∧ ((s.mbx (0x400 + p)).enable = true) ∧
      ((s.mbx (0x400 + p)).pend = [e]) ∧ ((s.port p).driverPresent = true) ∧ ((s.mbx (0x400 + p)).signal = false) ∧
      (sub32 ((s.mbx (0x400 + p)).written + 1) c ≤ 2 ^ (s.mbx (0x400 + p)).rspLog2) ∧ (s.insts = [])) :=
  ⟨⟨hm { mb with fetched := 2 ^ 32 - 3, reqLog2 := 4 }, 1, by decide +kernel⟩,
   ⟨hs hp, 0, 0, 0x104, 8, by decide +kernel⟩,
   ⟨hm off0, 1, by decide +kernel⟩,
   ⟨hs hp, 2047, 99, by decide +kernel⟩,
   ⟨hs hp, 1, 0x10008, by decide +kernel⟩,
   ⟨is Wit.inst inst1, 0, 6, 0, allSome (by decide +kernel), by decide +kernel⟩,
   ⟨hm mb, 0x401, by decide +kernel⟩,
   ⟨hm { mb with pend := [pend1] }, 1, 0, pend1, by decide +kernel⟩⟩

/-- `Obligations.HostRegisters`: its clauses 25, 26, 27, 28.2, 29, 30, 31. -/
theorem wit_HostRegisters_4 :
    (∃ s : State, ∃ p : Fin 2, ∃ n : Nat, ∃ v : Nat, ∃ i : Instance, (s.on = true) ∧ (s.insts.get? n = some i) ∧ (i.port = p) ∧
      (i.state = .running) ∧ (v.testBit 0 = true) ∧ (s.longOps = []) ∧ (s.stor.ops = []) ∧ (s.link.streams = [])) ∧
    (∃ s : State, ∃ p : Fin 2, ∃ n : Nat, ∃ v : Nat, ∃ i : Instance, (s.insts.get? n = some i) ∧ (i.port = p) ∧
      (i.state ≠ .running ∨ v.testBit 0 = false)) ∧
    (∃ s : State, ∃ p : Fin 2, ∃ n : Nat, (∀ i, s.insts.get? n = some i → i.port ≠ p) ∧ (s.on = true)) ∧
    (∃ h : HostPort, ∃ write : Bool, ∃ off : Nat, ∃ w, (windowAt h write off = some w)) ∧
    (∃ s : State, ∃ p : Fin 2, ∃ off : Nat, ∃ len : Nat, ∃ w : WinEntry, ∃ bs : Bytes, (s.on = true) ∧ (0 < len) ∧
      (off % 2 ^ 21 + len ≤ 2 ^ 21) ∧ (windowAt (s.port p) false off = some w) ∧
      (readPlot s w.owner (w.target + (off - w.barOffset)) len = .bytes bs)) ∧
    (∃ s : State, ∃ t : State, ∃ p : Fin 2, ∃ off : Nat, ∃ len : Nat, ∃ data : Bytes, ∃ w : WinEntry, (s.on = true) ∧ (0 < len) ∧
      (off % 2 ^ 21 + len ≤ 2 ^ 21) ∧ (windowAt (s.port p) true off = some w) ∧ (guarded s w.owner (w.target + (off - w.barOffset)) len = false) ∧
      (writePlot s w.owner (w.target + (off - w.barOffset)) (padTo len data) = (.done, t))) ∧
    (∃ s : State, ∃ p : Fin 2, ∃ write : Bool, ∃ off : Nat, ∃ len : Nat, (s.on = true) ∧ (0 < len) ∧ (off % 2 ^ 21 + len ≤ 2 ^ 21) ∧
      (windowAt (s.port p) write off = none)) :=
  ⟨⟨is Wit.inst inst1, 1, 6, 1, inst1, by decide +kernel⟩,
   ⟨is { Wit.inst with state := .frozen } inst1, 0, 5, 1, { Wit.inst with state := .frozen }, by decide +kernel⟩,
   ⟨is Wit.inst inst1, 1, 5, allSome (by decide +kernel), by decide +kernel⟩,
   ⟨{ hp with win := [(3, win1)] }, true, 2097152, win1, by decide +kernel⟩,
   ⟨ws win1, 1, 2097152 + 60, 50, win1, (List.range 50).map fun k => Mem.read [(64, 1), (100, 2)] (60 + k), by decide +kernel⟩,
   ⟨ws win1, (writePlot (ws win1) 2 60 (padTo 50 [1, 2])).2, 1, 2097152 + 60, 50, [1, 2], win1, by decide +kernel⟩,
   ⟨ws win1, 1, true, 0, 50, by decide +kernel⟩⟩

/-- `Obligations.InstanceRequests`: its clauses 1, 2, 3, 4, 5, 6, 7, 8. -/
theorem wit_InstanceRequests_1 :
    (∃ s : State, ∃ q : Req, ∃ n : Nat, ∃ part : Nat, ∃ port : Nat, ∃ pasid : Nat, ∃ base : Nat, ∃ count : Nat, (Served s q 0x0301 16 .operator) ∧
      (instBad s n part port pasid base count = false) ∧ (s.insts.get? n = none) ∧ (vectorsHeld s port base count = false) ∧ (n < 1024)) ∧
    (∃ s : State, ∃ q : Req, ∃ n : Nat, ∃ part : Nat, ∃ port : Nat, ∃ pasid : Nat, ∃ base : Nat, ∃ count : Nat, (Served s q 0x0301 16 .operator) ∧
      (instBad s n part port pasid base count = false) ∧ ((s.insts.get? n).isSome = true ∨ vectorsHeld s port base count = true)) ∧
    (∃ s : State, ∃ q : Req, ∃ port : Nat, ∃ pasid : Nat, ∃ base : Nat, ∃ count : Nat, (Served s q 0x0301 16 .operator) ∧
      (2048 < base + count ∨ count < 1 ∨ 66 < count ∨ (pasid ≠ 0xFFFFFFFF ∧ (0xFFFFF < pasid ∨ (s.port port).pasidEnable = false)))) ∧
    (∃ s : State, ∃ q : Req, ∃ n : Nat, ∃ i : Instance, (Served s q 0x0302 8 .operator) ∧ (s.insts.get? n = some i) ∧ (i.state = .running) ∧
      (i.freezing = false) ∧ (n < 1024) ∧ (s.longOps = []) ∧ (s.stor.ops = []) ∧ (s.link.streams = [])) ∧
    (∃ s : State, ∃ q : Req, ∃ n : Nat, ∃ i : Instance, (Served s q 0x0303 8 .operator) ∧ (s.insts.get? n = some i) ∧ (i.state = .running) ∧
      (i.freezing = false) ∧ (n < 1024) ∧ (s.longOps = []) ∧ (s.stor.ops = []) ∧ (s.link.streams = [])) ∧
    (∃ s : State, ∃ q : Req, ∃ n : Nat, ∃ i : Instance, (Served s q 0x0303 8 .operator) ∧ (s.insts.get? n = some i) ∧ (i.state ≠ .running)) ∧
    (∃ s : State, ∃ n : Nat, ∃ i : Instance, (s.insts.get? n = some i) ∧ (i.state = .resetting) ∧ (instBusy s n = true)) ∧
    (∃ s : State, ∃ n : Nat, ∃ i : Instance, (s.insts.get? n = some i) ∧ (i.state = .resetting) ∧ (i.destroying = false) ∧
      (instBusy s n = false) ∧ (s.longOps = []) ∧ (s.stor = {}) ∧ (s.pkt.rings = []) ∧ (s.link.streams = []) ∧ (s.ctxs = [])) :=
  ⟨⟨up, rq 0x400 16, 7, 2, 1, 0xFFFFFFFF, 100, 66, servedOf (by decide +kernel), by decide +kernel⟩,
   ⟨up, rq 0x400 16, 7, 2, 0, 0xFFFFFFFF, 15, 66, servedOf (by decide +kernel), by decide +kernel⟩,
   ⟨up, rq 0x400 16, 0, 0xFFFFFFFF, 150, 67, servedOf (by decide +kernel), by decide +kernel⟩,
   ⟨up, rq 0x400 8, 5, Wit.inst, servedOf (by decide +kernel), by decide +kernel⟩,
   ⟨is { Wit.inst with gen := 65535 } inst1, rq 0x400 8, 5, { Wit.inst with gen := 65535 }, servedOf (by decide +kernel), by decide +kernel⟩,
   ⟨is { Wit.inst with state := .frozen } inst1, rq 0x400 8, 5, { Wit.inst with state := .frozen }, servedOf (by decide +kernel),
     by decide +kernel⟩,
   ⟨{ is { Wit.inst with state := .resetting } inst1 with tracker := [(9, { held := true, owner := 2, gen := 1, inst := 5 })] }, 5,
     { Wit.inst with state := .resetting }, by decide +kernel⟩,
   ⟨is { Wit.inst with state := .resetting } inst1, 5, { Wit.inst with state := .resetting }, by decide +kernel⟩⟩

/-- `Obligations.InstanceRequests`: its clauses 9, 10, 11, 12, 13, 14, 15, 16. -/
theorem wit_InstanceRequests_2 :
    (∃ s : State, ∃ q : Req, ∃ n : Nat, ∃ i : Instance, (Served s q 0x0304 24 .opOrTenant) ∧ (s.insts.get? n = some i) ∧
      (mayActOn (whoOf s q.mbx) i.part = true)) ∧
    (∃ s : State, ∃ q : Req, ∃ n : Nat, ∃ i : Instance, (Served s q 0x0305 8 .operator) ∧ (s.insts.get? n = some i) ∧ (i.state = .running) ∧
      (i.freezing = false) ∧ (instBusy s n = true) ∧ (n < 1024) ∧ (s.longOps = [])) ∧
    (∃ s : State, ∃ q : Req, ∃ n : Nat, ∃ i : Instance, (Served s q 0x0305 8 .operator) ∧ (s.insts.get? n = some i) ∧ (i.state = .running) ∧
      (i.freezing = false) ∧ (instBusy s n = false) ∧ (n < 1024) ∧ (s.longOps = [])) ∧
    (∃ s : State, ∃ n : Nat, ∃ i : Instance, (s.insts.get? n = some i) ∧ (i.freezing = true) ∧ (instBusy s n = true) ∧
      (s.lc < i.freezeAt + 50000000)) ∧
    (∃ s : State, ∃ n : Nat, ∃ i : Instance, (s.insts.get? n = some i) ∧ (i.freezing = true) ∧ (instBusy s n = false) ∧ (s.longOps = []) ∧
      (s.stor.ops = []) ∧ (s.link.runs = []) ∧ (s.pkt.rings = [])) ∧
    (∃ s : State, ∃ q : Req, ∃ n : Nat, ∃ i : Instance, (Served s q 0x0308 8 .operator) ∧ (s.insts.get? n = some i) ∧ (i.state = .frozen) ∧
      (i.doorbells = []) ∧ (n < 1024)) ∧
    (∃ s : State, ∃ q : Req, ∃ n : Nat, ∃ db : Nat, ∃ v : Nat, ∃ key : Nat, ∃ i : Instance, ∃ b : BulkQueue, (Served s q 0x0308 8 .operator) ∧
      (s.insts.get? n = some i) ∧ (i.state = .frozen) ∧ (db < 16) ∧ (i.doorbells = [(0x0A00 + 4 * db, v)]) ∧ (key = bulkKey n db) ∧
      (s.stor.bulk.get? key = some b) ∧ (n < 1024)) ∧
    (∃ s : State, ∃ q : Req, ∃ n : Nat, ∃ k : Nat, ∃ i : Instance, ∃ slot : KeySlot, ∃ out : BufRef, (Served s q 0x0306 24 .operator) ∧
      (s.insts.get? n = some i) ∧ (i.state = .frozen) ∧ (migrationKey s i.part = some (k, slot)) ∧ (slot.state = .loaded) ∧ (out.space = 1) ∧
      (262144 ≤ out.len) ∧ (n < 1024) ∧ ((s.port (whoOf s q.mbx).port).driverPresent = true) ∧ (s.longOps = [])) :=
  ⟨⟨up, rq 5 24, 5, Wit.inst, servedOf (by decide +kernel), by decide +kernel⟩,
   ⟨{ up with tracker := [(9, { held := true, owner := 2, gen := 1, inst := 5 })] }, rq 0x400 8, 5, Wit.inst, servedOf (by decide +kernel),
     by decide +kernel⟩,
   ⟨up, rq 0x400 8, 5, Wit.inst, servedOf (by decide +kernel), by decide +kernel⟩,
   ⟨{ is { Wit.inst with freezing := true, freezeAt := 1 } inst1 with tracker := [(9, { held := true, owner := 2, gen := 1, inst := 5 })] }, 5,
     { Wit.inst with freezing := true, freezeAt := 1 }, by decide +kernel⟩,
   ⟨is { Wit.inst with freezing := true, freezeAt := 1 } inst1, 5, { Wit.inst with freezing := true, freezeAt := 1 }, by decide +kernel⟩,
   ⟨is { Wit.inst with state := .frozen } inst1, rq 0x400 8, 5, { Wit.inst with state := .frozen }, servedOf (by decide +kernel),
     by decide +kernel⟩,
   ⟨{ is { Wit.inst with state := .frozen, doorbells := [(0x0A00 + 12, 9)] } inst1 with stor := { bulk := [(83, bq)] } }, rq 0x400 8, 5, 3, 9,
     83, { Wit.inst with state := .frozen, doorbells := [(0x0A00 + 12, 9)] }, bq, servedOf (by decide +kernel), by decide +kernel⟩,
   ⟨{ is { Wit.inst with state := .frozen } inst1 with sec := keys.sec }, rq 0x400 24, 5, 70, { Wit.inst with state := .frozen }, slot1,
     hostBuf 262144, servedOf (by decide +kernel), by decide +kernel⟩⟩

/-- `Obligations.InstanceRequests`: its clauses 17, 18, 19, 20, 21, 22, 23, 24.
Clause 18 without the hypothesis on an opaque constant. -/
theorem wit_InstanceRequests_3 :
    (∃ s : State, ∃ q : Req, ∃ n : Nat, ∃ part : Nat, ∃ port : Nat, ∃ pasid : Nat, ∃ base : Nat, ∃ count : Nat, ∃ blob : BufRef, ∃ host : HostData, ∃ b : Bytes, (Served s q 0x0307 40 .operator) ∧
      (readBuf s (whoOf s q.mbx) blob host = .ok b) ∧ (instBad s n part port pasid base count = false) ∧ (refBad blob 48 = false) ∧
      (fieldAt b 0 4 ≠ 0x42494D5A)) ∧
    (∃ s : State, ∃ q : Req, ∃ n : Nat, ∃ part : Nat, ∃ port : Nat, ∃ pasid : Nat, ∃ base : Nat, ∃ count : Nat, ∃ k : Nat, ∃ blob : BufRef, ∃ host : HostData, ∃ b : Bytes, ∃ plain : Bytes, ∃ slot : KeySlot, (Served s q 0x0307 40 .operator) ∧
      (readBuf s (whoOf s q.mbx) blob host = .ok b) ∧ (∀ j, 2 ≤ j → (unpackTables saveWidths plain).getD j [] = []) ∧
      (instBad s n part port pasid base count = false) ∧ (refBad blob 48 = false) ∧ (fieldAt b 0 4 = 0x42494D5A) ∧ (fieldAt b 4 2 = 1) ∧
      (48 ≤ fieldAt b 8 4) ∧ (fieldAt b 8 4 ≤ 262144) ∧ (fieldAt b 8 4 ≤ b.length) ∧ (migrationKey s part = some (k, slot)) ∧
      (cell (((unpackTables saveWidths plain).getD 0 []).getD 0 []) 0 ≤ count) ∧ (s.insts.get? n = none) ∧
      (vectorsHeld s port base count = false) ∧ (n < 1024) ∧ (s.longOps = [])) ∧
    (∃ s : State, ∃ q : Req, ∃ port : Nat, ∃ entry : Nat, ∃ off : Nat, ∃ len : Nat, ∃ target : Nat, ∃ owner : Nat, ∃ perm : Nat, ∃ w : WinEntry, w = ({ barOffset := off, length := len, target := target, owner := (ownerOfByte owner).getD 16, read := bitOf perm 0, write := bitOf perm 1, valid := bitOf perm 2 }) ∧
      (Served s q 0x0309 48 .operator) ∧ (windowBad port entry w owner perm = false) ∧ (ownerExists s w.owner = true)) ∧
    (∃ s : State, ∃ q : Req, ∃ port : Nat, (Served s q 0x030A 8 .operator) ∧ (port < 2) ∧ (windowsOverlap (s.port port).winStaged = false)) ∧
    (∃ s : State, ∃ q : Req, ∃ port : Nat, (Served s q 0x030A 8 .operator) ∧ (windowsOverlap (s.port port).winStaged = true)) ∧
    (∃ s : State, ∃ q : Req, ∃ n : Nat, ∃ i : Instance, ∃ r : BufRef, ∃ host : HostData, ∃ bs : Bytes, (Served s q 0x0340 24 .operator) ∧
      (readBuf s (whoOf s q.mbx) r host = .ok bs) ∧ (s.insts.get? n = some i) ∧ (refBad r 16 = false) ∧ (fieldAt (bs.take 16) 0 8 % 4096 = 0) ∧
      (fieldAt (bs.take 16) 8 8 % 4096 = 0) ∧ (fieldAt (bs.take 16) 8 8 ≤ 2 ^ 42) ∧ (i.dirtyOn = false) ∧ (n < 1024)) ∧
    (∃ s : State, ∃ q : Req, ∃ n : Nat, ∃ k : Nat, ∃ i : Instance, ∃ r : DirtyRange, ∃ out : BufRef, (Served s q 0x0341 24 .operator) ∧
      (s.insts.get? n = some i) ∧ (i.dirtyOn = true) ∧ (i.dirty[k]? = some r) ∧ (out.space = 1) ∧ (r.bytes.length ≤ out.len) ∧
      ((s.port (whoOf s q.mbx).port).driverPresent = true) ∧ (n < 1024) ∧ (s.longOps = [])) ∧
    (∃ r : DirtyRange, ∃ j : Nat, (j < r.length / 4096)) :=
  ⟨⟨up, rq 0x400 40, 7, 2, 1, 0xFFFFFFFF, 100, 66, hostBuf 48, .data (zeros 48), zeros 48, servedOf (by decide +kernel),
     okOf (by decide +kernel), by decide +kernel⟩,
   ⟨exf slot1 Wit.inst, rq 0x400 40, 7, 2, 1, 0xFFFFFFFF, 100, 66, 70, hostBuf 360, .data (padTo 360 blob1), padTo 360 blob1, plain1, slot1,
     servedOf (by decide +kernel), okOf (by decide +kernel), allFrom (by decide +kernel), by decide +kernel⟩,
   ⟨up, rq 0x400 48, 1, 255, 2097152, 2097152, 0, 2, 7, _, rfl, servedOf (by decide +kernel), by decide +kernel⟩,
   ⟨{ hs hp with ports := [(0, hp), (1, { hp with winStaged := [(3, win1)] })] }, rq 0x400 8, 1, servedOf (by decide +kernel),
     by decide +kernel⟩,
   ⟨{ hs hp with ports := [(0, hp), (1, { hp with winStaged := [(3, win1), (4, win1)] })] }, rq 0x400 8, 1, servedOf (by decide +kernel),
     by decide +kernel⟩,
   ⟨up, rq 0x400 24, 5, Wit.inst, hostBuf 16, .data (le 8 4096 ++ le 8 8192), le 8 4096 ++ le 8 8192, servedOf (by decide +kernel),
     okOf (by decide +kernel), by decide +kernel⟩,
   ⟨is { Wit.inst with dirtyOn := true, dirtyOutside := 3, dirty := [{ addr := 4096, length := 40960, marked := [1, 9] }] } inst1, rq 0x400 24,
     5, 0, { Wit.inst with dirtyOn := true, dirtyOutside := 3, dirty := [{ addr := 4096, length := 40960, marked := [1, 9] }] },
     { addr := 4096, length := 40960, marked := [1, 9] }, hostBuf 4096, servedOf (by decide +kernel), by decide +kernel⟩,
   ⟨{ addr := 4096, length := 40960, marked := [1, 9] }, 9, by decide +kernel⟩⟩

/-- `Obligations.InstanceRequests`: its clauses 25. -/
theorem wit_InstanceRequests_4 :
    (∃ s : State, ∃ q : Req, ∃ n : Nat, ∃ i : Instance, (Served s q 0x0342 8 .operator) ∧ (s.insts.get? n = some i) ∧ (n < 1024)) :=
  ⟨is { Wit.inst with dirtyOn := true } inst1, rq 0x400 8, 5, { Wit.inst with dirtyOn := true }, servedOf (by decide +kernel),
     by decide +kernel⟩

/-- `Obligations.RefusalOrder`: its clauses 1, 2, 3, 4, 5, 6. -/
theorem wit_RefusalOrder_1 :
    (∃ q : Req, ∃ s : State, (mbxFetches s q.mbx = false)) ∧
    (∃ q : Req, ∃ s : State, (mbxFetches s q.mbx = true) ∧ ((s.mbx q.mbx).session = none)) ∧
    (∃ q : Req, ∃ c : Cat, ∃ s : State, ∃ ses : Session, (mbxFetches s q.mbx = true) ∧ ((s.mbx q.mbx).session = some ses) ∧
      (q.level ≠ ses.level ∨ q.index ≠ ((s.mbx q.mbx).fetched + 1) % 2 ^ 32 ∨ q.len ≠ c.len ∨ q.hdrBad = true)) ∧
    (∃ q : Req, ∃ c : Cat, ∃ s : State, ∃ ses : Session, ((ses.level ≠ 3 ∧ level2Request c.opcode = false) ∨ ses.features.testBit (featureBit c.opcode) = false ∨ (∃ k ∈ c.gates, ses.features.testBit k = false)) ∧
      (mbxFetches s q.mbx = true) ∧ ((s.mbx q.mbx).session = some ses) ∧ (q.level = ses.level) ∧
      (q.index = ((s.mbx q.mbx).fetched + 1) % 2 ^ 32) ∧ (q.len = c.len) ∧ (q.hdrBad = false)) ∧
    (∃ q : Req, ∃ c : Cat, ∃ s : State, ∃ ses : Session, (match c.sender with | .any => False | .pf => q.mbx < 0x400 | .operator => q.mbx ≠ 0x400 + s.boot.opPort | .tenant => 0x400 ≤ q.mbx | .opOrTenant => 0x400 ≤ q.mbx ∧ q.mbx ≠ 0x400 + s.boot.opPort) ∧
      (mbxFetches s q.mbx = true) ∧ ((s.mbx q.mbx).session = some ses) ∧ (q.level = ses.level) ∧
      (q.index = ((s.mbx q.mbx).fetched + 1) % 2 ^ 32) ∧ (q.len = c.len) ∧ (q.hdrBad = false) ∧ (supported ses c.opcode = true) ∧
      (∀ k ∈ c.gates, ses.features.testBit k = true)) ∧
    (∃ s : State, ∃ q : Req, (mbxFetches s q.mbx = true) ∧ ((s.mbx q.mbx).session = none)) :=
  ⟨⟨rq 5 0, mbOf { mb with posted := 0 }, by decide +kernel⟩,
   ⟨rq 5 0, mbOf noS, by decide +kernel⟩,
   ⟨{ rq 0x400 0 with level := 2 }, cat1, up, { level := 3, features := 0x1FFFF, driverVersion := 1 }, by decide +kernel⟩,
   ⟨{ rq 0x400 0 with level := 2 }, { cat1 with gates := [] }, mbOf { mb with session := some { ses2 with features := 0x7E } },
     { ses2 with features := 0x7E }, .inr (.inl (by decide +kernel)), by decide +kernel⟩,
   ⟨{ rq 5 0 with level := 2 }, cat1, mbOf { mb with session := some ses2 }, ses2, (show (5 : Nat) ≠ 0x400 + 0 from by decide),
     by decide +kernel⟩,
   ⟨mbOf noS, rq 5 0, by decide +kernel⟩⟩

/-- `Obligations.DeviceMessages`: its clauses 1, 2, 3, 4, 5, 6, 7, 8. -/
theorem wit_DeviceMessages_1 :
    (∃ s : State, ∃ q : Req, ∃ host : Nat, (mbxFetches s q.mbx = true) ∧ (q.level = 0) ∧ (q.index = ((s.mbx q.mbx).fetched + 1) % 2 ^ 32) ∧
      (q.len = 48) ∧ (q.hdrBad = false) ∧ (q.bodyBad = false) ∧ (2 ≤ host)) ∧
    (∃ s : State, ∃ q : Req, ∃ host : Nat, (mbxFetches s q.mbx = true) ∧ (q.level = 0) ∧ (q.index = ((s.mbx q.mbx).fetched + 1) % 2 ^ 32) ∧
      (q.len = 48) ∧ (q.hdrBad = false) ∧ (q.bodyBad = false) ∧ (host < 2)) ∧
    (∃ s : State, ∃ q : Req, (Served s q 0x0102 0 .any)) ∧
    (∃ s : State, ∃ q : Req, (Served s q 0x0103 0 .any)) ∧
    (∃ s : State, ∃ q : Req, (Served s q 0x0104 0 .any)) ∧
    (∃ s : State, ∃ q : Req, ∃ port : Nat, (Served s q 0x0105 8 .operator) ∧ (port < 2) ∧ ((s.port port).driverPresent = true) ∧
      ((s.mbx (0x400 + port)).session.isSome = true) ∧ (s.sec.log.length < 4096)) ∧
    (∃ s : State, ∃ q : Req, ∃ port : Nat, (Served s q 0x0105 8 .operator) ∧ (port < 2) ∧
      ((s.port port).driverPresent = false ∨ (s.mbx (0x400 + port)).session = none)) ∧
    (∃ s : State, ∃ q : Req, ∃ scope : Nat, ∃ flags : Nat, (Served s q 0x0106 8 .operator) ∧ (scope < 16 ∨ scope = 0xFF) ∧ (flags < 2)) :=
  ⟨⟨mbOf noS, { rq 5 48 with level := 0 }, 4, by decide +kernel⟩,
   ⟨mbOf mb, { rq 0x400 48 with level := 0 }, 1, by decide +kernel⟩,
   ⟨up, rq 5 0, servedOf (by decide +kernel)⟩,
   ⟨{ zs zb with fuses := { up.fuses with lx := true, serial := 2 ^ 63 + 5 }, fw := { up.fw with version := 0x12345678 } }, rq 5 0,
     servedOf (by decide +kernel)⟩,
   ⟨{ up with boot := { up.boot with failed := true, opAbsent := true, cause := 9 } }, rq 5 0, servedOf (by decide +kernel)⟩,
   ⟨up, rq 0x400 8, 1, servedOf (by decide +kernel), by decide +kernel⟩,
   ⟨{ up with ports := [(0, hp), (1, { hp with driverPresent := false })] }, rq 0x400 8, 1, servedOf (by decide +kernel), by decide +kernel⟩,
   ⟨{ up with vio := [(2, { count := 2 ^ 32 - 1, record := some vio1 })] }, rq 0x400 8, 2, 1, servedOf (by decide +kernel), by decide +kernel⟩⟩

/-- `Obligations.DeviceMessages`: its clauses 9, 10, 11, 12, 13, 14, 15, 16. -/
theorem wit_DeviceMessages_2 :
    (∃ s : State, ∃ q : Req, ∃ count : Nat, ∃ out : BufRef, (Served s q 0x0107 24 .operator) ∧ (1 ≤ count) ∧ (count ≤ 1024) ∧ (out.space = 1) ∧
      (32 * count ≤ out.len)) ∧
    (∃ s : State, ∃ q : Req, ∃ k : Nat, ∃ e : FaultEntry, (Served s q 0x0108 8 .operator) ∧ (s.faultLog[k]? = some e)) ∧
    (∃ s : State, ∃ q : Req, ∃ count : Nat, (Served s q 0x0109 72 .any) ∧ (count ≤ 32)) ∧
    (∃ s : State, ∃ q : Req, (Served s q 0x010A 8 .any) ∧ (s.longOps = [])) ∧
    (∃ s : State, ∃ q : Req, ∃ n : Nat, ∃ o : LongOp, ∃ p : Nat, ∃ a : Nat, ∃ m : Nat, (Served s q 0x010A 8 .any) ∧ (s.longOps = [(n, o)]) ∧
      (o.mbx = q.mbx) ∧ (o.sessionNo = (s.mbx q.mbx).sessionNo) ∧ (o.data = .modelLoad p a m)) ∧
    (∃ s : State, ∃ q : Req, ∃ n : Nat, ∃ o : LongOp, ∃ i : Nat, (Served s q 0x010A 8 .any) ∧ (s.longOps = [(n, o)]) ∧ (o.mbx = q.mbx) ∧
      (o.sessionNo = (s.mbx q.mbx).sessionNo) ∧ (o.data = .instReset i)) ∧
    (∃ s : State, ∃ q : Req, (Served s q 0x010B 8 .any) ∧ (q.mbx < 0x402) ∧ (0x400 ≤ q.mbx ∨ (s.insts.get? q.mbx).isSome = true)) ∧
    (∃ s : State, ∃ q : Req, ∃ m : Nat, (Served s q 0x010B 8 .any) ∧ (m ≠ 0xFFFF) ∧ (m ≠ q.mbx) ∧ ((whoOf s q.mbx).op = false)) :=
  ⟨⟨{ up with faultLog := [fe 1, fe 4, fe 2] }, rq 0x400 24, 4, hostBuf 200, servedOf (by decide +kernel), by decide +kernel⟩,
   ⟨{ up with faultLog := [fe 1, fe 4, fe 2] }, rq 0x400 8, 2, fe 2, servedOf (by decide +kernel), by decide +kernel⟩,
   ⟨up, rq 5 72, 2, servedOf (by decide +kernel), by decide +kernel⟩,
   ⟨up, rq 5 8, servedOf (by decide +kernel), by decide +kernel⟩,
   ⟨lo5 (.modelLoad 2 0 65536), rq 5 8, 9, lop (.modelLoad 2 0 65536), 2, 0, 65536, servedOf (by decide +kernel), by decide +kernel⟩,
   ⟨lo5 (.instReset 5), rq 5 8, 9, lop (.instReset 5), 5, servedOf (by decide +kernel), by decide +kernel⟩,
   ⟨mbOf { mb with protoErr := 3, lost := 8 }, rq 5 8, servedOf (by decide +kernel), by decide +kernel⟩,
   ⟨up, rq 5 8, 6, servedOf (by decide +kernel), by decide +kernel⟩⟩

/-- `Obligations.DeviceMessages`: its clauses 17. -/
theorem wit_DeviceMessages_3 :
    (∃ s : State, ∃ q : Req, ∃ p : Nat, ∃ mask : Nat, (Served s q 0x010C 8 .operator) ∧ (p < 2) ∧ (mask < 8)) :=
  ⟨hs { hp with droppedDma := 3, ctoCount := 5, lateCount := 7 }, rq 0x400 8, 1, 5, servedOf (by decide +kernel), by decide +kernel⟩

/-- `Obligations.PartitionMessages`: its clauses 1, 2, 3, 4, 5, 6, 7, 8. -/
theorem wit_PartitionMessages_1 :
    (∃ s : State, ∃ q : Req, ∃ p : Nat, ∃ policy : Nat, ∃ tracker : Nat, ∃ resident : Nat, ∃ rate : Nat, ∃ keys : Nat, ∃ pages : Nat, (Served s q 0x0201 32 .operator) ∧
      (s.sec.alarm = none) ∧ (createBad s p policy (newPart policy tracker resident keys pages) (if rate = 0 then 1000000 else rate) = false) ∧
      (s.parts.get? p = none) ∧ (s.longOps = []) ∧ (s.sec.withdrawn0 = false)) ∧
    (∃ s : State, ∃ q : Req, ∃ p : Nat, ∃ policy : Nat, ∃ rate : Nat, ∃ keys : Nat, ∃ pages : Nat, (Served s q 0x0201 32 .operator) ∧
      (s.sec.alarm = none) ∧ (16 ≤ p ∨ 4 ≤ policy ∨ (rate ≠ 0 ∧ rate < 1000) ∨ 8000000 < rate ∨ 16384 < keys ∨ 16777216 < pages)) ∧
    (∃ s : State, ∃ q : Req, ∃ p : Nat, ∃ policy : Nat, ∃ tracker : Nat, ∃ resident : Nat, ∃ rate : Nat, ∃ keys : Nat, ∃ pages : Nat, (Served s q 0x0201 32 .operator) ∧
      (s.sec.alarm = none) ∧ (createBad s p policy (newPart policy tracker resident keys pages) (if rate = 0 then 1000000 else rate) = false) ∧
      ((s.parts.get? p).isSome = true)) ∧
    (∃ s : State, ∃ q : Req, ∃ p : Nat, ∃ policy : Nat, ∃ tracker : Nat, ∃ resident : Nat, ∃ rate : Nat, ∃ keys : Nat, ∃ pages : Nat, (Served s q 0x0201 32 .operator) ∧
      (s.sec.alarm = none) ∧ (createBad s p policy (newPart policy tracker resident keys pages) (if rate = 0 then 1000000 else rate) = false) ∧
      (s.parts.get? p = none) ∧ (s.longOps = []) ∧ (s.sec.withdrawn0 = true) ∧ (s.sec.withdrawn1 = true)) ∧
    (∃ s : State, ∃ q : Req, ∃ p : Nat, ∃ x : Partition, (Served s q 0x0203 8 .opOrTenant) ∧ (s.parts.get? p = some x) ∧ (p < 16) ∧
      (mayActOn (whoOf s q.mbx) p = true)) ∧
    (∃ s : State, ∃ q : Req, ∃ p : Nat, (Served s q 0x0203 8 .opOrTenant) ∧ ((whoOf s q.mbx).op = false) ∧ (p ≠ 0xFF) ∧
      (p ≠ (whoOf s q.mbx).owner)) ∧
    (∃ s : State, ∃ q : Req, ∃ p : Nat, ∃ v : Nat, ∃ x : Partition, (Served s q 0x0204 8 .operator) ∧ (s.parts.get? p = some x) ∧ (p < 16) ∧
      (v + otherQuotas s p Partition.trackerQuota ≤ 64512)) ∧
    (∃ s : State, ∃ q : Req, ∃ p : Nat, ∃ v : Nat, ∃ x : Partition, (Served s q 0x0204 8 .operator) ∧ (s.parts.get? p = some x) ∧ (p < 16) ∧
      (v + otherQuotas s p Partition.residentQuota + s.opResident ≤ 4080) ∧ ((s.ctxs.map Prod.fst).Nodup)) :=
  ⟨⟨lau up, rq 0x400 32, 3, 3, 0xFFFFFFFF, 0xFFFF, 0, 16384 - 4, 5, servedOf (by decide +kernel), by decide +kernel⟩,
   ⟨lau up, rq 0x400 32, 16, 0, 0, 0, 0, servedOf (by decide +kernel), by decide +kernel⟩,
   ⟨lau up, rq 0x400 32, 2, 0, 0, 0, 0, 0, 0, servedOf (by decide +kernel), by decide +kernel⟩,
   ⟨lau ({ up with sec := { up.sec with withdrawn0 := true, withdrawn1 := true } }), rq 0x400 32, 3, 0, 0, 0, 0, 0, 0,
     servedOf (by decide +kernel), by decide +kernel⟩,
   ⟨{ trk 3 with excRates := [(2, 5000)], groups := [(3, grp), (4, { grp with owner := 3 })], parts := [(2, part3)] }, rq 5 8, 2, part3,
     servedOf (by decide +kernel), by decide +kernel⟩,
   ⟨up, rq 5 8, 3, servedOf (by decide +kernel), by decide +kernel⟩,
   ⟨{ up with parts := [(2, part), (3, { part with trackerQuota := 5000 })] }, rq 0x400 8, 2, 64512 - 5000, part, servedOf (by decide +kernel),
     by decide +kernel⟩,
   ⟨ctxUp, rq 0x400 8, 2, 0, part, servedOf (by decide +kernel), by decide +kernel⟩⟩

/-- `Obligations.PartitionMessages`: its clauses 9, 10, 11, 12, 13, 14, 15, 16. -/
theorem wit_PartitionMessages_2 :
    (∃ s : State, ∃ q : Req, ∃ p : Nat, ∃ v : Nat, (Served s q 0x0204 8 .operator) ∧ (p < 16) ∧
      (64512 < v + otherQuotas s p Partition.trackerQuota)) ∧
    (∃ s : State, ∃ q : Req, ∃ owner : Nat, ∃ o : Nat, ∃ rate : Nat, (Served s q 0x0206 8 .operator) ∧ (ownerOfByte owner = some o) ∧
      (ownerExists s o = true) ∧ (1000 ≤ rate) ∧ (rate ≤ 8000000) ∧ (rate + otherRates s o ≤ excCapacity s)) ∧
    (∃ s : State, ∃ q : Req, ∃ owner : Nat, ∃ o : Nat, ∃ rate : Nat, (Served s q 0x0206 8 .operator) ∧ (ownerOfByte owner = some o) ∧
      (ownerExists s o = true) ∧ (rate < 1000 ∨ 8000000 < rate ∨ excCapacity s < rate + otherRates s o)) ∧
    (∃ s : State, ∃ q : Req, ∃ owner : Nat, ∃ o : Nat, ∃ r : BufRef, ∃ host : HostData, ∃ bs : Bytes, (Served s q 0x0240 24 .opOrTenant) ∧
      (readBuf s (whoOf s q.mbx) r host = .ok bs) ∧ (ownerArg (whoOf s q.mbx) owner = some o) ∧ (o < 16) ∧ (partExists s o = true) ∧
      (refBad r 1024 = false) ∧ (decodeTableOk (bs.take 1024) = true) ∧ (customInUse s o = false) ∧ ((s.sec.logs.getD o []).length < 4096)) ∧
    (∃ s : State, ∃ q : Req, ∃ owner : Nat, ∃ o : Nat, ∃ r : BufRef, ∃ host : HostData, ∃ bs : Bytes, (Served s q 0x0240 24 .opOrTenant) ∧
      (readBuf s (whoOf s q.mbx) r host = .ok bs) ∧ (ownerArg (whoOf s q.mbx) owner = some o) ∧ (o < 16) ∧ (partExists s o = true) ∧
      (refBad r 1024 = false) ∧ (decodeTableOk (bs.take 1024) = false)) ∧
    (∃ s : State, ∃ q : Req, ∃ p : Nat, (Served s q 0x0205 8 .operator) ∧ (p < 16) ∧ (partExists s p = true) ∧ (partInsts s p = []) ∧
      (s.sessions = []) ∧ (s.link.streams = []) ∧ (s.pkt.qps = []) ∧ (s.longOps = []) ∧ (heldBy s p = 0)) ∧
    (∃ s : State, ∃ q : Req, ∃ p : Nat, (Served s q 0x0205 8 .operator) ∧ (p < 16) ∧ (partExists s p = true) ∧ (s.sessions = []) ∧
      (s.link.streams = []) ∧ (s.pkt.qps = []) ∧ (s.pkt.queues = []) ∧ (s.stor.ops = []) ∧ (s.longOps = []) ∧ ((s.insts.map Prod.fst).Nodup) ∧
      (0 < heldBy s p)) ∧
    (∃ s : State, ∃ q : Req, ∃ p : Nat, (Served s q 0x0205 8 .operator) ∧ (16 ≤ p ∨ s.parts.get? p = none) ∧ (s.longOps = [])) :=
  ⟨⟨{ up with parts := [(2, part), (3, { part with trackerQuota := 5000 })] }, rq 0x400 8, 2, 64512 - 4999, servedOf (by decide +kernel),
     by decide +kernel⟩,
   ⟨lau ({ up with excRates := [(2, 5000)] }), rq 0x400 8, 2, 2, 1000, servedOf (by decide +kernel), by decide +kernel⟩,
   ⟨lau ({ up with excRates := [(2, 5000)] }), rq 0x400 8, 2, 2, 999, servedOf (by decide +kernel), by decide +kernel⟩,
   ⟨up, rq 5 24, 9, 2, hostBuf 2000, .data dtab, zeros 2000, servedOf (by decide +kernel), okOf (by decide +kernel), by decide +kernel⟩,
   ⟨up, rq 5 24, 9, 2, hostBuf 1024, .data (le 1 1 ++ zeros 1023), le 1 1 ++ zeros 1023, servedOf (by decide +kernel),
     okOf (by decide +kernel), by decide +kernel⟩,
   ⟨{ up with insts := [], mbxs := [(0x400, mb)] }, rq 0x400 8, 2, servedOf (by decide +kernel), by decide +kernel⟩,
   ⟨trk 3, rq 0x400 8, 2, servedOf (by decide +kernel), by decide +kernel⟩,
   ⟨up, rq 0x400 8, 16, servedOf (by decide +kernel), by decide +kernel⟩⟩

/-- `Obligations.PartitionMessages`: its clauses 17, 18. -/
theorem wit_PartitionMessages_3 :
    (∃ s : State, ∃ q : Req, ∃ p : Nat, (Served s q 0x0202 8 .operator) ∧ (∀ g, s.ckp = some g → g.part ≠ p) ∧ (p < 16) ∧
      (partExists s p = true) ∧ (partInsts s p = []) ∧ (s.sessions = []) ∧ (s.link.streams = []) ∧ (s.pkt.qps = []) ∧ (s.longOps = []) ∧
      (heldBy s p = 0) ∧ (partGroups s p = []) ∧ (excSum s ≤ excCapacity s)) ∧
    (∃ s : State, ∃ q : Req, ∃ p : Nat, ∃ g : CkpGroup, (Served s q 0x0202 8 .operator) ∧ (p < 16) ∧ (partExists s p = true) ∧ (s.ckp = some g) ∧
      (g.part = p) ∧ (s.longOps = [])) :=
  ⟨⟨lau ({ keys with insts := [], mbxs := [(0x400, mb)], excRates := [(2, 5000)], decode := [(2, dtab)], models := [(1, model)], vio := [(2, { count := 3 })], link := { ports := [(3, zalUp)] } }),
     rq 0x400 8, 2, servedOf (by decide +kernel), allSome (by decide +kernel), by decide +kernel⟩,
   ⟨{ up with ckp := some (grpOf 0 none) }, rq 0x400 8, 2, grpOf 0 none, servedOf (by decide +kernel), by decide +kernel⟩⟩

/-- `Obligations.FirmwareUpdate`: its clauses 1, 2, 3, 4, 5, 6, 7, 8.
Clause 3 without the hypothesis on an opaque constant. -/
theorem wit_FirmwareUpdate_1 :
    (∃ s : State, ∃ q : Req, ∃ r : BufRef, ∃ host : HostData, ∃ bs : Bytes, (Served s q 0x0D01 16 .operator) ∧
      (readBuf s (whoOf s q.mbx) r host = .ok bs) ∧ (refBad r 128 = false) ∧ (s.fw.staging ≠ .ialdo) ∧ (s.fw.staging ≠ .pldm) ∧
      (s.fw.pending = false) ∧ (s.longOps = [])) ∧
    (∃ s : State, ∃ q : Req, ∃ r : BufRef, ∃ host : HostData, ∃ bs : Bytes, (Served s q 0x0D01 16 .operator) ∧
      (readBuf s (whoOf s q.mbx) r host = .ok bs) ∧ (refBad r 128 = false) ∧ (s.fw.staging = .ialdo ∨ s.fw.staging = .pldm)) ∧
    (∃ s : State, ∃ n : Nat, ∃ b : Bytes, ((s.longOps.get? n).map LongOp.data = some (.fwStage b)) ∧ (imageHeaderOk b = true) ∧
      (fusedVersion s ≤ fieldAt b 8 8)) ∧
    (∃ s : State, ∃ n : Nat, ∃ b : Bytes, ((s.longOps.get? n).map LongOp.data = some (.fwStage b)) ∧
      (imageHeaderOk b = false ∨ imageKey s b = none ∨ Config.slhVerify ((b.drop 32).take 64) (b.take (128 + fieldAt b 24 8)) ((b.drop (128 + fieldAt b 24 8)).take 29792) = false ∨ fieldAt b 8 8 < fusedVersion s)) ∧
    (∃ b : Bytes, (imageHeaderOk b = true)) ∧
    (∃ s : State, ∃ q : Req, ∃ flags : Nat, ∃ i : FwImage, ∃ ses : Session, (Served s q 0x0D02 4 .operator) ∧
      ((s.mbx q.mbx).session = some ses) ∧ (ses.features.testBit 14 = true) ∧ (flags < 2) ∧ (s.fw.staging = .staged i) ∧ (i.liveCapable = true) ∧
      (openLevel s ≤ i.levelMax) ∧ (s.fw.pending = false) ∧ (s.sec.log.length < 4096) ∧ (emergency s = false) ∧ (s.longOps = [])) ∧
    (∃ s : State, ∃ q : Req, ∃ flags : Nat, ∃ i : FwImage, ∃ ses : Session, (Served s q 0x0D02 4 .operator) ∧
      ((s.mbx q.mbx).session = some ses) ∧ (ses.features.testBit 14 = true) ∧ (flags < 2) ∧ (s.fw.staging = .staged i) ∧ (i.liveCapable = true) ∧
      (openLevel s ≤ i.levelMax) ∧ (s.fw.pending = false) ∧ (s.sec.log.length < 4096) ∧ (emergency s = true) ∧ (s.longOps = [])) ∧
    (∃ s : State, ∃ q : Req, ∃ ses : Session, (Served s q 0x0D02 4 .operator) ∧
      ((∀ i, s.fw.staging ≠ .staged i) ∨ ∃ i, s.fw.staging = .staged i ∧ (i.liveCapable = false ∨ i.levelMax < openLevel s)) ∧
      ((s.mbx q.mbx).session = some ses) ∧ (ses.features.testBit 14 = true)) :=
  ⟨⟨up, rq 0x400 16, hostBuf 200, .data (zeros 5), zeros 200, servedOf (by decide +kernel), okOf (by decide +kernel), by decide +kernel⟩,
   ⟨fwS { staging := .pldm }, rq 0x400 16, hostBuf 200, .data (zeros 5), zeros 200, servedOf (by decide +kernel), okOf (by decide +kernel),
     by decide +kernel⟩,
   ⟨{ lo5 (.fwStage (imgB 5)) with fw := { up.fw with staging := .ialdo }, fuses := { up.fuses with keyState := 2, keyHash := [[], [], [], []] } },
     9, imgB 5, rfl, imgB_ok, by decide +kernel⟩,
   ⟨lo5 (.fwStage (zeros 128)), 9, zeros 128, by decide +kernel⟩,
   ⟨imgB 5, by decide +kernel⟩,
   ⟨fwS { staging := .staged fimg }, rq 0x400 4, 1, fimg, { level := 3, features := 0x1FFFF, driverVersion := 1 },
     servedOf (by decide +kernel), by decide +kernel⟩,
   ⟨{ fwS { staging := .staged fimg } with power := { up.power with thermal0 := true } }, rq 0x400 4, 1, fimg,
     { level := 3, features := 0x1FFFF, driverVersion := 1 }, servedOf (by decide +kernel), by decide +kernel⟩,
   ⟨fwS { staging := .staged { fimg with levelMax := 2 } }, rq 0x400 4, { level := 3, features := 0x1FFFF, driverVersion := 1 },
     servedOf (by decide +kernel), .inr ⟨_, rfl, by decide +kernel⟩, by decide +kernel⟩⟩

/-- `Obligations.FirmwareUpdate`: its clauses 9, 10, 11, 12, 13, 14, 15, 16. -/
theorem wit_FirmwareUpdate_2 :
    (∃ s : State, ∃ q : Req, ∃ ses : Session, (Served s q 0x0D02 4 .operator) ∧ ((s.mbx q.mbx).session = some ses) ∧
      (ses.features.testBit 14 = false)) ∧
    (∃ s : State, ∃ q : Req, ∃ flags : Nat, ∃ i : FwImage, (Served s q 0x0D02 4 .operator) ∧ (flags < 2) ∧ (s.fw.staging = .staged i) ∧
      (s.fw.pending = false) ∧ (s.longOps = [])) ∧
    (∃ s : State, ∃ q : Req, ∃ flags : Nat, ∃ i : FwImage, (Served s q 0x0D02 4 .operator) ∧ (flags < 2) ∧ (s.fw.staging = .staged i) ∧
      (s.fw.pending = true)) ∧
    (∃ s : State, (s.on = true) ∧ (s.fw.whenClear = true) ∧ (s.fw.pending = true) ∧ (emergency s = false) ∧ (s.fw.clearSince + 1000000000 ≤ s.lc)) ∧
    (∃ s : State, (emergency s = true ∨ s.lc < s.fw.clearSince + 1000000000)) ∧
    (∃ s : State, ∃ t0 : Nat, ∃ n : Nat, ∃ i : FwImage, (s.fw.switching = some t0) ∧ (s.fw.staging = .staged i) ∧ (s.lc ≤ t0 + 200000000) ∧
      (s.fw.raiseSvn = false) ∧ (liveOp s = some n)) ∧
    (∃ s : State, ∃ t0 : Nat, ∃ n : Nat, (s.fw.switching = some t0) ∧ (t0 + 200000000 ≤ s.lc) ∧ (liveOp s = some n)) ∧
    (∃ s : State, ∃ t0 : Nat, (s.fw.switching = some t0) ∧ (s.lc < t0 + 200000000)) :=
  ⟨⟨{ fwS { staging := .staged fimg } with mbxs := [(0x400, { mb with session := some { ses2 with level := 3 } })] }, rq 0x400 4,
     { ses2 with level := 3 }, servedOf (by decide +kernel), by decide +kernel⟩,
   ⟨fwS { staging := .staged fimg }, rq 0x400 4, 1, fimg, servedOf (by decide +kernel), by decide +kernel⟩,
   ⟨fwS { staging := .staged fimg, pending := true }, rq 0x400 4, 1, fimg, servedOf (by decide +kernel), by decide +kernel⟩,
   ⟨{ fwS { staging := .staged fimg, pending := true, whenClear := true, clearSince := 5 } with clk := { up.clk with lc := 1000000005 } },
     by decide +kernel⟩,
   ⟨{ fwS { staging := .staged fimg, pending := true, whenClear := true, clearSince := 5 } with clk := { up.clk with lc := 1000000004 } },
     by decide +kernel⟩,
   ⟨fwL { staging := .staged fimg, pending := true, switching := some 5 }, 5, 9, fimg, by decide +kernel⟩,
   ⟨{ fwL { staging := .staged fimg, pending := true, switching := some 5 } with clk := { up.clk with lc := 200000005 } }, 5, 9,
     by decide +kernel⟩,
   ⟨fwL { staging := .staged fimg, pending := true, switching := some 5 }, 5, by decide +kernel⟩⟩

/-- `Obligations.FirmwareUpdate`: its clauses 17, 18, 19. -/
theorem wit_FirmwareUpdate_3 :
    (∃ s : State, ∃ q : Req, ∃ i : FwImage, (Served s q 0x0D03 0 .any) ∧ (s.fw.staging = .staged i)) ∧
    (∃ s : State, ∃ q : Req, ∃ i : FwImage, ∃ n : Nat, (Served s q 0x0D04 0 .operator) ∧ (s.fw.staging = .staged i) ∧ (liveOp s = some n)) ∧
    (∃ s : State, ∃ q : Req, (Served s q 0x0D04 0 .operator) ∧ (s.fw.staging = .ialdo ∨ s.fw.staging = .pldm)) :=
  ⟨⟨fwS { staging := .staged fimg, pending := true, whenClear := true, bank := 1, version := 2 ^ 32 - 1, security := 8, keyIndex := 2 },
     rq 5 0, fimg, servedOf (by decide +kernel), by decide +kernel⟩,
   ⟨fwL { staging := .staged fimg, pending := true, whenClear := true }, rq 0x400 0, fimg, 9, servedOf (by decide +kernel), by decide +kernel⟩,
   ⟨fwS { staging := .ialdo }, rq 0x400 0, servedOf (by decide +kernel), by decide +kernel⟩⟩

/-- `Obligations.NvmeController`: its clauses 1, 2, 3, 4, 5, 6, 7, 8. -/
theorem wit_NvmeController_1 :
    (∃ s : State, ∃ p : Fin 2, ∃ inst : Nat, ∃ cc : Nat, ∃ i : Instance, (s.on = true) ∧ (s.insts.get? inst = some i) ∧ (i.port = p.val) ∧
      (bitOf cc 0 = true) ∧ (bitOf (s.ctrl inst).cc 0 = false) ∧ (bitsOf cc 10 1 = 0) ∧ (bitsOf cc 13 11 ≤ 1)) ∧
    (∃ s : State, ∃ p : Fin 2, ∃ inst : Nat, ∃ cc : Nat, ∃ i : Instance, (s.on = true) ∧ (s.insts.get? inst = some i) ∧ (i.port = p.val) ∧
      (bitOf cc 0 = true) ∧ (bitOf (s.ctrl inst).cc 0 = false) ∧ (bitsOf cc 6 4 ≠ 0 ∨ bitsOf cc 10 7 ≠ 0 ∨ 1 < bitsOf cc 13 11)) ∧
    (∃ s : State, ∃ p : Fin 2, ∃ inst : Nat, ∃ cc : Nat, ∃ i : Instance, (s.on = true) ∧ (s.insts.get? inst = some i) ∧ (i.port = p.val) ∧
      (bitOf cc 0 = false) ∧ (bitOf (s.ctrl inst).cc 0 = true) ∧ (s.stor.ops = [])) ∧
    (∃ s : State, ∃ p : Fin 2, ∃ inst : Nat, ∃ cc : Nat, ∃ i : Instance, ∃ k : Nat, ∃ o : IoOp, (s.on = true) ∧ (s.insts.get? inst = some i) ∧
      (i.port = p.val) ∧ (bitOf cc 0 = false) ∧ (bitOf (s.ctrl inst).cc 0 = true) ∧ (s.stor.ops = [(k, o)]) ∧ (o.inst = inst) ∧ (o.bulk = false) ∧
      (o.started = true)) ∧
    (∃ s : State, ∃ p : Fin 2, ∃ inst : Nat, ∃ cc : Nat, ∃ i : Instance, (s.on = true) ∧ (s.insts.get? inst = some i) ∧ (i.port = p.val) ∧
      (bitOf cc 0 = bitOf (s.ctrl inst).cc 0) ∧ (bitsOf cc 15 14 = 1 ∨ bitsOf cc 15 14 = 2) ∧ ((s.ctrl inst).shst = 0) ∧
      ((s.ctrl inst).rdy = true)) ∧
    (∃ s : State, ∃ p : Fin 2, ∃ inst : Nat, ∃ qid : Nat, ∃ tail : Nat, ∃ i : Instance, ∃ q : NvmeSq, (s.on = true) ∧
      (s.insts.get? inst = some i) ∧ (i.port = p.val) ∧ (i.state = .running) ∧ ((s.ctrl inst).sqs.get? qid = some q) ∧ (tail ≤ q.size) ∧
      (tail < 65536)) ∧
    (∃ s : State, ∃ p : Fin 2, ∃ inst : Nat, ∃ i : Instance, (s.on = true) ∧ (s.insts.get? inst = some i) ∧ (i.port = p.val) ∧
      (i.state = .frozen)) ∧
    (∃ s : State, ∃ p : Fin 2, ∃ inst : Nat, ∃ i : Instance, (s.on = true) ∧ (s.insts.get? inst = some i) ∧ (i.port ≠ p.val)) :=
  ⟨⟨nv { ct with cc := 0, rdy := false } sid, 0, 5, 1, Wit.inst, by decide +kernel⟩,
   ⟨nv { ct with cc := 0, rdy := false } sid, 0, 5, 1 + 16, Wit.inst, by decide +kernel⟩,
   ⟨nv ct1 (ns1 nloc), 0, 5, 0, Wit.inst, by decide +kernel⟩,
   ⟨nv ct1 (oneOp op1), 0, 5, 0, Wit.inst, 7, op1, by decide +kernel⟩,
   ⟨nv ct1 (ns1 nloc), 0, 5, 1 + 16384, Wit.inst, by decide +kernel⟩,
   ⟨nv ct1 sid, 0, 5, 1, 7, Wit.inst, isq, by decide +kernel⟩,
   ⟨{ nv ct1 sid with insts := [(5, { Wit.inst with state := .frozen })] }, 0, 5, { Wit.inst with state := .frozen }, by decide +kernel⟩,
   ⟨nv ct1 sid, 1, 5, Wit.inst, by decide +kernel⟩⟩

/-- `Obligations.NvmeController`: its clauses 9, 10, 11, 12, 13, 14, 15, 16. -/
theorem wit_NvmeController_2 :
    (∃ s : State, ∃ p : Fin 2, ∃ inst : Nat, ∃ qid : Nat, ∃ head : Nat, ∃ i : Instance, ∃ k : NvmeCq, (s.on = true) ∧
      (s.insts.get? inst = some i) ∧ (i.port = p.val) ∧ (i.state = .running) ∧ ((s.ctrl inst).cqs.get? qid = some k) ∧ (head ≤ k.size) ∧
      (head < 65536) ∧ ((s.ctrl inst).wait.getD qid [] = [])) ∧
    (∃ s : State, ∃ c : NvmeCmd, ∃ q : NvmeSq, ∃ k : NvmeCq, ∃ qid : Nat, ∃ size : Nat, ∃ cqid : Nat, (Takes s c q k) ∧ (c.sq = 0) ∧ (qid ≠ 0) ∧
      (qid ≤ (s.ctrl c.inst).grantSq) ∧ ((s.ctrl c.inst).sqs.get? qid = none) ∧ (1 ≤ size) ∧ (size ≤ (s.ctrl c.inst).mqes) ∧ (cqid ≠ 0) ∧
      (((s.ctrl c.inst).cqs.get? cqid).isSome = true) ∧ (bitsOf (s.ctrl c.inst).cc 19 16 = 6) ∧ (s.ctxs.length < 69632)) ∧
    (∃ s : State, ∃ c : NvmeCmd, ∃ q : NvmeSq, ∃ k : NvmeCq, ∃ qid : Nat, (Takes s c q k) ∧ (c.sq = 0) ∧ ((s.ctrl c.inst).grantSq < qid)) ∧
    (∃ s : State, ∃ c : NvmeCmd, ∃ q : NvmeSq, ∃ k : NvmeCq, ∃ qid : Nat, ∃ size : Nat, (Takes s c q k) ∧ (c.sq = 0) ∧ (qid ≠ 0) ∧
      (qid ≤ (s.ctrl c.inst).grantCq) ∧ ((s.ctrl c.inst).cqs.get? qid = none) ∧ (1 ≤ size) ∧ (size ≤ (s.ctrl c.inst).mqes) ∧
      (bitsOf (s.ctrl c.inst).cc 23 20 = 4)) ∧
    (∃ s : State, ∃ c : NvmeCmd, ∃ q : NvmeSq, ∃ k : NvmeCq, ∃ qid : Nat, (Takes s c q k) ∧ (c.sq = 0) ∧ (qid ≠ 0) ∧
      (((s.ctrl c.inst).sqs.get? qid).isSome = true) ∧ (s.stor.ops = [])) ∧
    (∃ s : State, ∃ c : NvmeCmd, ∃ q : NvmeSq, ∃ k : NvmeCq, ∃ qid : Nat, (Takes s c q k) ∧ (c.sq = 0) ∧ (qid ≠ 0) ∧
      (((s.ctrl c.inst).cqs.get? qid).isSome = true)) ∧
    (∃ s : State, ∃ c : NvmeCmd, ∃ q : NvmeSq, ∃ k : NvmeCq, ∃ a : Nat, (Takes s c q k) ∧ (c.sq = 0) ∧ (c.prp = [(a, 64)])) ∧
    (∃ s : State, ∃ c : NvmeCmd, ∃ q : NvmeSq, ∃ k : NvmeCq, ∃ lid : Nat, (Takes s c q k) ∧ (c.sq = 0) ∧ (lid ≠ 1) ∧ (lid ≠ 2) ∧ (lid ≠ 5)) :=
  ⟨⟨nv ct1 sid, 0, 5, 1, 7, Wit.inst, icq0, by decide +kernel⟩,
   ⟨nv { ct with cqs := [(0, acq), (1, icq0)] } sid, nc 0 0 [(0x9000, 4096)], asq, acq, 64, 0xFFF, 1,
     ⟨by decide +kernel, by decide +kernel, by decide +kernel, by decide +kernel, by decide +kernel, by decide +kernel⟩, by decide +kernel⟩,
   ⟨nv ct sid, nc 0 0 [], asq, acq, 65,
     ⟨by decide +kernel, by decide +kernel, by decide +kernel, by decide +kernel, by decide +kernel, by decide +kernel⟩, by decide +kernel⟩,
   ⟨nv ct sid, nc 0 0 [(0x9000, 4096)], asq, acq, 64, 0xFFF,
     ⟨by decide +kernel, by decide +kernel, by decide +kernel, by decide +kernel, by decide +kernel, by decide +kernel⟩, by decide +kernel⟩,
   ⟨nv { ct1 with sqs := [(0, asq), (1, isq)] } sid, nc 0 0 [], asq, acq, 1,
     ⟨by decide +kernel, by decide +kernel, by decide +kernel, by decide +kernel, by decide +kernel, by decide +kernel⟩, by decide +kernel⟩,
   ⟨nv { ct1 with sqs := [(0, asq), (1, isq)] } sid, nc 0 0 [], asq, acq, 1,
     ⟨by decide +kernel, by decide +kernel, by decide +kernel, by decide +kernel, by decide +kernel, by decide +kernel⟩, by decide +kernel⟩,
   ⟨nv { ct with errorLog := [(3, 1, 9, 0x80), (2, 0, 8, 1)], aerMasked := [0, 1] } sid, nc 0 0 [(0x9000, 64)], asq, acq, 0x9000,
     ⟨by decide +kernel, by decide +kernel, by decide +kernel, by decide +kernel, by decide +kernel, by decide +kernel⟩, by decide +kernel⟩,
   ⟨nv ct sid, nc 0 0 [(0x9000, 64)], asq, acq, 3,
     ⟨by decide +kernel, by decide +kernel, by decide +kernel, by decide +kernel, by decide +kernel, by decide +kernel⟩, by decide +kernel⟩⟩

/-- `Obligations.NvmeController`: its clauses 17, 18, 19, 20, 21, 22, 23, 24. -/
theorem wit_NvmeController_3 :
    (∃ s : State, ∃ c : NvmeCmd, ∃ q : NvmeSq, ∃ k : NvmeCq, ∃ a : Nat, (Takes s c q k) ∧ (c.sq = 0) ∧ (c.prp = [(a, 4096)])) ∧
    (∃ s : State, ∃ c : NvmeCmd, ∃ q : NvmeSq, ∃ k : NvmeCq, ∃ a : Nat, (Takes s c q k) ∧
      (∀ n, s.stor.spaces.get? c.nsid = some n → c.inst ∉ n.attached ∧ n.owner = instOwner s c.inst) ∧ (c.sq = 0) ∧ (c.prp = [(a, 4096)]) ∧
      (1 ≤ c.nsid) ∧ (c.nsid ≤ 4096)) ∧
    (∃ s : State, ∃ c : NvmeCmd, ∃ q : NvmeSq, ∃ k : NvmeCq, (Takes s c q k) ∧ (c.sq = 0) ∧ (s.stor.ops = [])) ∧
    (∃ s : State, ∃ c : NvmeCmd, ∃ q : NvmeSq, ∃ q1 : NvmeSq, ∃ k : NvmeCq, ∃ k1 : NvmeCq, ∃ sqid : Nat, ∃ cid : Nat, ∃ n : Nat, ∃ o : IoOp, (Takes s c q k) ∧
      (c.sq = 0) ∧ (sqid ≠ 0) ∧ (q.cqid = 0) ∧ (s.stor.ops = [(n, o)]) ∧ (o.inst = c.inst) ∧ (o.queue = sqid) ∧ (o.id = cid) ∧ (o.bulk = false) ∧
      (o.mute = false) ∧ (o.inst < 0x400) ∧ ((s.ctrl c.inst).sqs.get? sqid = some q1) ∧ (q1.cqid ≠ 0) ∧
      ((s.ctrl c.inst).cqs.get? q1.cqid = some k1) ∧ ((k1.tail + 1) % (k1.size + 1) ≠ k1.head) ∧ ((s.ctrl c.inst).wait.getD q1.cqid [] = [])) ∧
    (∃ s : State, ∃ c : NvmeCmd, ∃ q : NvmeSq, ∃ k : NvmeCq, (Takes s c q k) ∧ (c.sq = 0)) ∧
    (∃ s : State, ∃ c : NvmeCmd, ∃ q : NvmeSq, ∃ k : NvmeCq, ∃ a : Nat, ∃ b : Nat, (Takes s c q k) ∧
      (∀ n x, (n, x) ∈ (s.ctrl c.inst).sqs → n = 0) ∧ (∀ n x, (n, x) ∈ (s.ctrl c.inst).cqs → n = 0) ∧ (c.sq = 0) ∧ (a < 65535) ∧ (b < 65535)) ∧
    (∃ s : State, ∃ c : NvmeCmd, ∃ q : NvmeSq, ∃ k : NvmeCq, ∃ ps : Nat, (Takes s c q k) ∧ (c.sq = 0) ∧ (ps ≤ 4)) ∧
    (∃ s : State, ∃ c : NvmeCmd, ∃ q : NvmeSq, ∃ k : NvmeCq, (Takes s c q k) ∧ (c.sq = 0)) :=
  ⟨⟨nv ct sid, nc 0 0 [(0x9000, 4096)], asq, acq, 0x9000,
     ⟨by decide +kernel, by decide +kernel, by decide +kernel, by decide +kernel, by decide +kernel, by decide +kernel⟩, by decide +kernel⟩,
   ⟨nv ct sid, nc 0 4096 [(0x9000, 4096)], asq, acq, 0x9000,
     ⟨by decide +kernel, by decide +kernel, by decide +kernel, by decide +kernel, by decide +kernel, by decide +kernel⟩,
     allSome (by decide +kernel), by decide +kernel⟩,
   ⟨nv ct sid, nc 0 0 [], asq, acq,
     ⟨by decide +kernel, by decide +kernel, by decide +kernel, by decide +kernel, by decide +kernel, by decide +kernel⟩, by decide +kernel⟩,
   ⟨nv { ct1 with sqs := [(0, asq), (1, isq)] } (oneOp op1), nc 0 0 [], asq, isq, acq, icq0, 1, 9, 7, op1,
     ⟨by decide +kernel, by decide +kernel, by decide +kernel, by decide +kernel, by decide +kernel, by decide +kernel⟩, by decide +kernel⟩,
   ⟨nv ct sid, nc 0 0 [], asq, acq,
     ⟨by decide +kernel, by decide +kernel, by decide +kernel, by decide +kernel, by decide +kernel, by decide +kernel⟩, by decide +kernel⟩,
   ⟨nv ct sid, nc 0 0 [], asq, acq, 100, 3,
     ⟨by decide +kernel, by decide +kernel, by decide +kernel, by decide +kernel, by decide +kernel, by decide +kernel⟩,
     allMem (by decide +kernel), allMem (by decide +kernel), by decide +kernel⟩,
   ⟨nv ct (ns1 nloc), nc 0 0 [], asq, acq, 4,
     ⟨by decide +kernel, by decide +kernel, by decide +kernel, by decide +kernel, by decide +kernel, by decide +kernel⟩, by decide +kernel⟩,
   ⟨nv { ct with grantSq := 5, grantCq := 7 } sid, nc 0 0 [], asq, acq,
     ⟨by decide +kernel, by decide +kernel, by decide +kernel, by decide +kernel, by decide +kernel, by decide +kernel⟩, by decide +kernel⟩⟩

/-- `Obligations.NvmeController`: its clauses 25, 26. -/
theorem wit_NvmeController_4 :
    (∃ s : State, ∃ c : NvmeCmd, ∃ q : NvmeSq, ∃ k : NvmeCq, (Takes s c q k) ∧ (c.sq = 0)) ∧
    (∃ s : State, ∃ c : NvmeCmd, ∃ q : NvmeSq, ∃ k : NvmeCq, (Takes s c q k) ∧ (c.sq = 0) ∧ ((s.ctrl c.inst).aerPend = [])) :=
  ⟨⟨nv ct sid, nc 0 0 [], asq, acq,
     ⟨by decide +kernel, by decide +kernel, by decide +kernel, by decide +kernel, by decide +kernel, by decide +kernel⟩, by decide +kernel⟩,
   ⟨nv { ct with aers := [1, 2, 3] } sid, nc 0 0 [], asq, acq,
     ⟨by decide +kernel, by decide +kernel, by decide +kernel, by decide +kernel, by decide +kernel, by decide +kernel⟩, by decide +kernel⟩⟩

/-- `Obligations.StorageCommands`: its clauses 1.1, 1.2, 1.3, 2, 3, 4, 5, 6. -/
theorem wit_StorageCommands_1 :
    (∃ s : State, ∃ c : NvmeCmd, ∃ q : NvmeSq, ∃ k : NvmeCq, ∃ slba : Nat, ∃ nlb : Nat, ∃ n : Namespace, (Takes s c q k) ∧ (c.sq ≠ 0) ∧
      (1 ≤ c.nsid) ∧ (c.nsid ≤ 4096) ∧ (s.stor.spaces.get? c.nsid = some n) ∧ (c.inst ∈ n.attached) ∧ (n.size < slba + nlb) ∧ (nlb ≤ 2048) ∧
      ((s.ctrl c.inst).ps = (s.ctrl c.inst).pmPs)) ∧
    (∃ s : State, ∃ c : NvmeCmd, ∃ q : NvmeSq, ∃ k : NvmeCq, ∃ slba : Nat, ∃ nlb : Nat, ∃ n : Namespace, (Takes s c q k) ∧ (c.sq ≠ 0) ∧
      (1 ≤ c.nsid) ∧ (c.nsid ≤ 4096) ∧ (s.stor.spaces.get? c.nsid = some n) ∧ (c.inst ∈ n.attached) ∧ (n.size < slba + nlb) ∧ (nlb ≤ 2048) ∧
      ((s.ctrl c.inst).ps = (s.ctrl c.inst).pmPs)) ∧
    (∃ s : State, ∃ c : NvmeCmd, ∃ q : NvmeSq, ∃ k : NvmeCq, ∃ slba : Nat, ∃ nlb : Nat, ∃ n : Namespace, (Takes s c q k) ∧ (c.sq ≠ 0) ∧
      (1 ≤ c.nsid) ∧ (c.nsid ≤ 4096) ∧ (s.stor.spaces.get? c.nsid = some n) ∧ (c.inst ∈ n.attached) ∧ (n.size < slba + nlb) ∧ (nlb ≤ 2048) ∧
      ((s.ctrl c.inst).ps = (s.ctrl c.inst).pmPs)) ∧
    (∃ s : State, ∃ c : NvmeCmd, ∃ q : NvmeSq, ∃ k : NvmeCq, ∃ nlb : Nat, ∃ a : Nat, ∃ n : Namespace, (Takes s c q k) ∧ (c.sq ≠ 0) ∧
      (1 ≤ c.nsid) ∧ (c.nsid ≤ 4096) ∧ (s.stor.spaces.get? c.nsid = some n) ∧ (c.inst ∉ n.attached) ∧ (n.owner ≠ instOwner s c.inst) ∧ (1 ≤ nlb) ∧
      (c.prp = [(a, 512 * nlb)]) ∧ ((s.ctrl c.inst).ps = (s.ctrl c.inst).pmPs)) ∧
    (∃ s : State, ∃ c : NvmeCmd, ∃ q : NvmeSq, ∃ k : NvmeCq, ∃ slba : Nat, ∃ nlb : Nat, ∃ a : Nat, ∃ n : Namespace, (Takes s c q k) ∧
      (TagFree s) ∧ (c.sq ≠ 0) ∧ (s.stor.ops = []) ∧ (1 ≤ c.nsid) ∧ (c.nsid ≤ 4096) ∧ (s.stor.spaces.get? c.nsid = some n) ∧
      (c.inst ∈ n.attached) ∧ (n.backing = 1) ∧ (n.encrypt = false) ∧ (backingUp s n = true) ∧ (slba + nlb ≤ n.size) ∧ (1 ≤ nlb) ∧ (nlb ≤ 2048) ∧
      (c.prp = [(a, 512 * nlb)]) ∧ ((s.ctrl c.inst).ps = (s.ctrl c.inst).pmPs)) ∧
    (∃ s : State, ∃ c : NvmeCmd, ∃ q : NvmeSq, ∃ k : NvmeCq, ∃ slba : Nat, ∃ nlb : Nat, ∃ a : Nat, ∃ n : Namespace, (Takes s c q k) ∧
      (TagFree s) ∧ (c.sq ≠ 0) ∧ (s.stor.ops = []) ∧ (1 ≤ c.nsid) ∧ (c.nsid ≤ 4096) ∧ (s.stor.spaces.get? c.nsid = some n) ∧
      (c.inst ∈ n.attached) ∧ (slba + nlb ≤ n.size) ∧ (1 ≤ nlb) ∧ (nlb ≤ 2048) ∧ (c.prp = [(a, 512 * nlb)]) ∧
      ((s.ctrl c.inst).ps = (s.ctrl c.inst).pmPs)) ∧
    (∃ s : State, ∃ c : NvmeCmd, ∃ q : NvmeSq, ∃ k : NvmeCq, ∃ slba : Nat, ∃ nlb : Nat, ∃ m : Nat, ∃ off : Nat, ∃ n : Namespace, (Takes s c q k) ∧
      (TagFree s) ∧ (c.sq ≠ 0) ∧ (s.stor.ops = []) ∧ (1 ≤ c.nsid) ∧ (c.nsid ≤ 4096) ∧ (s.stor.spaces.get? c.nsid = some n) ∧
      (c.inst ∈ n.attached) ∧ (n.backing = 3) ∧ (backingUp s n = true) ∧ (slba + nlb ≤ n.size) ∧ (1 ≤ nlb) ∧ (nlb ≤ 65536) ∧
      ((s.ctrl c.inst).ps = (s.ctrl c.inst).pmPs) ∧ (translate s n.owner (n.base + 512 * slba) = some (m, off)) ∧ (off + 512 * nlb ≤ 2 ^ 30) ∧
      (guarded s n.owner (n.base + 512 * slba) (512 * nlb) = false) ∧ (Mem.wf s.dram.bytes = true) ∧ (c.inst < 0x400) ∧
      ((plotAt s m).state = .assigned) ∧ (keyHeld s (plotAt s m) = true) ∧ (s.insts.all (fun e => decide (e.2.gen < 65536)) = true)) ∧
    (∃ s : State, ∃ c : NvmeCmd, ∃ q : NvmeSq, ∃ k : NvmeCq, ∃ n : Namespace, (Takes s c q k) ∧ (TagFree s) ∧ (c.sq ≠ 0) ∧ (s.stor.ops = []) ∧
      (1 ≤ c.nsid) ∧ (c.nsid ≤ 4096) ∧ (s.stor.spaces.get? c.nsid = some n) ∧ (c.inst ∈ n.attached) ∧ (n.backing = 3) ∧ (backingUp s n = true) ∧
      (c.inst < 0x400) ∧ (s.insts.all (fun e => decide (e.2.gen < 65536)) = true) ∧ ((s.ctrl c.inst).ps = (s.ctrl c.inst).pmPs)) :=
  ⟨⟨nv ct1 (ns1 nloc), nc 1 9 [(0x9000, 512 * 2)], isq, icq0, 99, 2, nloc,
     ⟨by decide +kernel, by decide +kernel, by decide +kernel, by decide +kernel, by decide +kernel, by decide +kernel⟩, by decide +kernel⟩,
   ⟨nv ct1 (ns1 nloc), nc 1 9 [(0x9000, 512 * 2)], isq, icq0, 99, 2, nloc,
     ⟨by decide +kernel, by decide +kernel, by decide +kernel, by decide +kernel, by decide +kernel, by decide +kernel⟩, by decide +kernel⟩,
   ⟨nv ct1 (ns1 nloc), nc 1 9 [], isq, icq0, 99, 2, nloc,
     ⟨by decide +kernel, by decide +kernel, by decide +kernel, by decide +kernel, by decide +kernel, by decide +kernel⟩, by decide +kernel⟩,
   ⟨nv ct1 (ns1 { nloc with attached := [], owner := 3 }), nc 1 9 [(0x9000, 512 * 2)], isq, icq0, 2, 0x9000,
     { nloc with attached := [], owner := 3 },
     ⟨by decide +kernel, by decide +kernel, by decide +kernel, by decide +kernel, by decide +kernel, by decide +kernel⟩, by decide +kernel⟩,
   ⟨nv ct1 (ns1 nloc), nc 1 9 [(0x9000, 512 * 2)], isq, icq0, 98, 2, 0x9000, nloc,
     ⟨by decide +kernel, by decide +kernel, by decide +kernel, by decide +kernel, by decide +kernel, by decide +kernel⟩,
     ⟨0, by decide +kernel, by decide +kernel⟩, by decide +kernel⟩,
   ⟨nv ct1 (ns1 nloc), nc 1 9 [(0x9000, 512 * 2)], isq, icq0, 98, 2, 0x9000, nloc,
     ⟨by decide +kernel, by decide +kernel, by decide +kernel, by decide +kernel, by decide +kernel, by decide +kernel⟩,
     ⟨0, by decide +kernel, by decide +kernel⟩, by decide +kernel⟩,
   ⟨nv ct1 (ns1 nmem), nc 1 9 [], isq, icq0, 0, 1, 5, 0, nmem,
     ⟨by decide +kernel, by decide +kernel, by decide +kernel, by decide +kernel, by decide +kernel, by decide +kernel⟩,
     ⟨0, by decide +kernel, by decide +kernel⟩, by decide +kernel⟩,
   ⟨nv ct1 (ns1 nmem), nc 1 9 [], isq, icq0, nmem,
     ⟨by decide +kernel, by decide +kernel, by decide +kernel, by decide +kernel, by decide +kernel, by decide +kernel⟩,
     ⟨0, by decide +kernel, by decide +kernel⟩, by decide +kernel⟩⟩

/-- `Obligations.StorageCommands`: its clauses 7, 8.1, 8.2, 9, 10.1, 10.2, 10.3, 11. -/
theorem wit_StorageCommands_2 :
    (∃ s : State, ∃ c : NvmeCmd, ∃ q : NvmeSq, ∃ k : NvmeCq, ∃ n : Namespace, (Takes s c q k) ∧ (TagFree s) ∧ (c.sq ≠ 0) ∧ (s.stor.ops = []) ∧
      (1 ≤ c.nsid) ∧ (c.nsid ≤ 4096) ∧ (s.stor.spaces.get? c.nsid = some n) ∧ (c.inst ∈ n.attached) ∧ (n.backing = 1) ∧ (backingUp s n = true) ∧
      ((s.ctrl c.inst).ps = (s.ctrl c.inst).pmPs)) ∧
    (∃ s : State, ∃ c : NvmeCmd, ∃ q : NvmeSq, ∃ k : NvmeCq, ∃ lo : Nat, ∃ cnt : Nat, ∃ bs : Bytes, ∃ n : Namespace, (Takes s c q k) ∧
      (TagFree s) ∧ (c.sq ≠ 0) ∧ (s.stor.ops = []) ∧ (1 ≤ c.nsid) ∧ (c.nsid ≤ 4096) ∧ (s.stor.spaces.get? c.nsid = some n) ∧
      (c.inst ∈ n.attached) ∧ (n.backing = 1) ∧ (backingUp s n = true) ∧ (bs.length = 16) ∧ (fieldAt bs 8 8 = lo) ∧ (fieldAt bs 4 4 = cnt) ∧
      (lo + cnt ≤ n.size) ∧ ((s.ctrl c.inst).ps = (s.ctrl c.inst).pmPs)) ∧
    (∃ s : State, ∃ c : NvmeCmd, ∃ q : NvmeSq, ∃ k : NvmeCq, ∃ lo : Nat, ∃ cnt : Nat, ∃ bs : Bytes, ∃ n : Namespace, (Takes s c q k) ∧
      (TagFree s) ∧ (c.sq ≠ 0) ∧ (s.stor.ops = []) ∧ (1 ≤ c.nsid) ∧ (c.nsid ≤ 4096) ∧ (s.stor.spaces.get? c.nsid = some n) ∧
      (c.inst ∈ n.attached) ∧ (n.backing = 1) ∧ (backingUp s n = true) ∧ (bs.length = 16) ∧ (fieldAt bs 8 8 = lo) ∧ (fieldAt bs 4 4 = cnt) ∧
      (lo + cnt ≤ n.size) ∧ ((s.ctrl c.inst).ps = (s.ctrl c.inst).pmPs)) ∧
    (∃ s : State, ∃ p : Fin 2, ∃ inst : Nat, ∃ db : Fin 16, ∃ i : Instance, ∃ b : BulkQueue, (s.on = true) ∧ (s.insts.get? inst = some i) ∧
      (i.port = p.val) ∧ (i.state = .running) ∧ (s.stor.bulk.get? (bulkKey inst db) = some b)) ∧
    (∃ s : State, ∃ inst : Nat, ∃ db : Fin 16, ∃ c : BulkCmd, ∃ b : BulkQueue, ∃ n : Namespace, (BulkTakes s inst db b) ∧ (s.stor.ops = []) ∧
      (c.bad = false) ∧ (c.flags < 2) ∧ (1 ≤ c.nlb) ∧ (c.nlb ≤ 2097152) ∧ (s.stor.spaces.get? c.nsid = some n) ∧ (inst ∈ n.attached) ∧
      (n.backing = 1) ∧ (n.port < 4) ∧ (n.encrypt = false) ∧ (backingUp s n = true) ∧ (c.slba + c.nlb ≤ n.size) ∧ (c.space = 1) ∧ (c.addr % 4 = 0)) ∧
    (∃ s : State, ∃ inst : Nat, ∃ db : Fin 16, ∃ c : BulkCmd, ∃ b : BulkQueue, ∃ n : Namespace, ∃ bs, (BulkTakes s inst db b) ∧
      (s.stor.ops = []) ∧ (c.bad = false) ∧ (c.flags < 2) ∧ (1 ≤ c.nlb) ∧ (c.nlb ≤ 2097152) ∧ (s.stor.spaces.get? c.nsid = some n) ∧
      (inst ∈ n.attached) ∧ (n.backing = 1) ∧ (n.port < 4) ∧ (n.encrypt = false) ∧ (backingUp s n = true) ∧ (c.slba + c.nlb ≤ n.size) ∧
      (c.space = 2) ∧ (c.addr % 32 = 0) ∧ (readPlot s (instOwner s inst) c.addr (512 * c.nlb) = .bytes bs)) ∧
    (∃ s : State, ∃ inst : Nat, ∃ db : Fin 16, ∃ c : BulkCmd, ∃ b : BulkQueue, ∃ n : Namespace, (BulkTakes s inst db b) ∧ (s.stor.ops = []) ∧
      (c.bad = false) ∧ (c.flags < 2) ∧ (1 ≤ c.nlb) ∧ (c.nlb ≤ 2097152) ∧ (s.stor.spaces.get? c.nsid = some n) ∧ (inst ∈ n.attached) ∧
      (n.backing = 1) ∧ (n.port < 4) ∧ (n.encrypt = false) ∧ (backingUp s n = true) ∧ (c.slba + c.nlb ≤ n.size)) ∧
    (∃ s : State, ∃ inst : Nat, ∃ db : Fin 16, ∃ c : BulkCmd, ∃ b : BulkQueue, ∃ n : Namespace, (BulkTakes s inst db b) ∧ (c.bad = false) ∧
      (c.flags < 2) ∧ (1 ≤ c.nlb) ∧ (s.stor.spaces.get? c.nsid = some n) ∧ (inst ∈ n.attached) ∧ (n.size < c.slba + c.nlb)) :=
  ⟨⟨nv ct1 (ns1 nloc), nc 1 9 [], isq, icq0, nloc,
     ⟨by decide +kernel, by decide +kernel, by decide +kernel, by decide +kernel, by decide +kernel, by decide +kernel⟩,
     ⟨0, by decide +kernel, by decide +kernel⟩, by decide +kernel⟩,
   ⟨nv ct1 (ns1 nloc), nc 1 9 [(0x9000, 16)], isq, icq0, 98, 2, zeros 4 ++ le 4 2 ++ le 8 98, nloc,
     ⟨by decide +kernel, by decide +kernel, by decide +kernel, by decide +kernel, by decide +kernel, by decide +kernel⟩,
     ⟨0, by decide +kernel, by decide +kernel⟩, by decide +kernel⟩,
   ⟨nv ct1 (ns1 nloc), nc 1 9 [(0x9000, 16)], isq, icq0, 98, 2, zeros 4 ++ le 4 2 ++ le 8 98, nloc,
     ⟨by decide +kernel, by decide +kernel, by decide +kernel, by decide +kernel, by decide +kernel, by decide +kernel⟩,
     ⟨0, by decide +kernel, by decide +kernel⟩, by decide +kernel⟩,
   ⟨nv ct1 sid, 0, 5, 3, Wit.inst, bq1, by decide +kernel⟩,
   ⟨nv ct1 (ns1 nloc), 5, 3, bc, bq1, nloc,
     ⟨by decide +kernel, by decide +kernel, by decide +kernel, by decide +kernel, 0, by decide +kernel, by decide +kernel⟩, by decide +kernel⟩,
   ⟨nv ct1 (ns1 nloc), 5, 3, { bc with space := 2 }, bq1, nloc, (List.range 1024).map fun k => Mem.read [(64, 1), (100, 2)] (64 + k),
     ⟨by decide +kernel, by decide +kernel, by decide +kernel, by decide +kernel, 0, by decide +kernel, by decide +kernel⟩, by decide +kernel⟩,
   ⟨nv ct1 (ns1 nloc), 5, 3, bc, bq1, nloc,
     ⟨by decide +kernel, by decide +kernel, by decide +kernel, by decide +kernel, 0, by decide +kernel, by decide +kernel⟩, by decide +kernel⟩,
   ⟨nv ct1 (ns1 nloc), 5, 3, { bc with slba := 99 }, bq1, nloc,
     ⟨by decide +kernel, by decide +kernel, by decide +kernel, by decide +kernel, 0, by decide +kernel, by decide +kernel⟩, by decide +kernel⟩⟩

/-- `Obligations.StorageCommands`: its clauses 12, 13, 14.1, 14.2, 14.3, 15, 16.1, 16.2. -/
theorem wit_StorageCommands_3 :
    (∃ s : State, ∃ inst : Nat, ∃ db : Fin 16, ∃ c : BulkCmd, ∃ b : BulkQueue, ∃ n : Namespace, (BulkTakes s inst db b) ∧ (s.stor.ops = []) ∧
      (c.bad = false) ∧ (c.flags < 2) ∧ (1 ≤ c.nsid) ∧ (c.nsid ≤ 4096) ∧ (s.stor.spaces.get? c.nsid = some n) ∧ (inst ∈ n.attached) ∧
      (n.backing = 3) ∧ (backingUp s n = true) ∧ (inst < 0x400) ∧ (s.insts.all (fun e => decide (e.2.gen < 65536)) = true)) ∧
    (∃ s : State, ∃ inst : Nat, ∃ m : Nat, ∃ off : Nat, ∃ db : Fin 16, ∃ c : BulkCmd, ∃ b : BulkQueue, (BulkTakes s inst db b) ∧
      (s.stor.ops = []) ∧ (c.bad = false) ∧ (c.flags < 2) ∧ (inst < 0x400) ∧ (s.insts.all (fun e => decide (e.2.gen < 65536)) = true) ∧
      (c.addr % 32 = 0) ∧ (c.len % 32 = 0) ∧ (0 < c.len) ∧ (c.addr % 2 ^ 30 + c.len ≤ 2 ^ 30) ∧
      (translate s (instOwner s inst) c.addr = some (m, off)) ∧ (translates s (instOwner s inst) c.addr c.len = true) ∧
      (guarded s (instOwner s inst) c.addr c.len = false) ∧ ((plotAt s m).state = .assigned) ∧ (keyHeld s (plotAt s m) = true) ∧
      (Mem.wf s.dram.bytes = true)) ∧
    (∃ s : State, ∃ inst : Nat, ∃ db : Fin 16, ∃ c : BulkCmd, ∃ b : BulkQueue, (BulkTakes s inst db b) ∧ (s.stor.ops = []) ∧ (c.bad = false) ∧
      (c.flags < 2) ∧ (inst < 0x400) ∧ (s.insts.all (fun e => decide (e.2.gen < 65536)) = true) ∧ (c.len % 32 ≠ 0)) ∧
    (∃ s : State, ∃ inst : Nat, ∃ db : Fin 16, ∃ c : BulkCmd, ∃ b : BulkQueue, ∃ o, o = (instOwner s inst) ∧ (BulkTakes s inst db b) ∧
      (s.stor.ops = []) ∧ (c.bad = false) ∧ (c.flags < 2) ∧ (inst < 0x400) ∧ (s.insts.all (fun e => decide (e.2.gen < 65536)) = true) ∧
      (c.addr % 32 = 0) ∧ (c.operand % 32 = 0) ∧ (c.len % 32 = 0) ∧ (0 < c.len) ∧ (overlap c.addr c.len c.operand c.len = false) ∧
      (translates s o c.addr c.len = true) ∧ (translates s o c.operand c.len = false)) ∧
    (∃ s : State, ∃ inst : Nat, ∃ db : Fin 16, ∃ c : BulkCmd, ∃ b : BulkQueue, ∃ o, o = (instOwner s inst) ∧
      ∃ n, ∃ j, ∃ m, ∃ k, (BulkTakes s inst db b) ∧ (s.stor.ops = []) ∧ (c.bad = false) ∧ (c.flags < 2) ∧ (inst < 0x400) ∧
      (s.insts.all (fun e => decide (e.2.gen < 65536)) = true) ∧ (translate s o c.addr = some (n, j)) ∧ (translate s o c.operand = some (m, k)) ∧
      (n ≠ m) ∧ (n < 1024) ∧ (m < 1024) ∧ (j + c.len ≤ 2 ^ 30) ∧ (k + c.len ≤ 2 ^ 30) ∧ (c.addr % 32 = 0) ∧ (c.operand % 32 = 0) ∧
      (c.len % 32 = 0) ∧ (0 < c.len) ∧ (overlap c.addr c.len c.operand c.len = false) ∧ (guarded s o c.addr c.len = false) ∧
      ((plotAt s n).state = .assigned) ∧ ((plotAt s m).state = .assigned) ∧ (keyHeld s (plotAt s n) = true) ∧ (keyHeld s (plotAt s m) = true) ∧
      (s.dram.poison = []) ∧ (Mem.wf s.dram.bytes = true)) ∧
    (∃ s : State, ∃ op : Nat, ∃ a : Nat, ∃ o : IoOp, ∃ q : NvmeSq, ∃ k : NvmeCq, ∃ n : Namespace, ∃ data : Bytes, (s.on = true) ∧
      (s.stor.ops = [(op, o)]) ∧ (o.started = true) ∧ (o.kind = .read) ∧ (o.bulk = false) ∧ (o.inst < 0x400) ∧ (o.gen < 65536) ∧ (o.space = 1) ∧
      (o.buffers = [(a, 512 * o.nlb)]) ∧ (s.stor.spaces.get? o.nsid = some n) ∧ (n.encrypt = false) ∧ (data.length = 512 * o.nlb) ∧
      ((s.ctrl o.inst).sqs.get? o.queue = some q) ∧ ((s.ctrl o.inst).cqs.get? q.cqid = some k) ∧ ((k.tail + 1) % (k.size + 1) ≠ k.head) ∧
      ((s.ctrl o.inst).wait.getD q.cqid [] = []) ∧ (mayDma s (instPort s o.inst) o.inst = true) ∧ ((s.ctrl o.inst).shst = 0) ∧
      ((s.track op).owed = 0)) ∧
    (∃ s : State, ∃ op : Nat, ∃ o : IoOp, ∃ q : NvmeSq, ∃ k : NvmeCq, (s.on = true) ∧ (s.stor.ops = [(op, o)]) ∧ (o.kind = .write) ∧
      (o.bulk = false) ∧ (o.inst < 0x400) ∧ (o.gen < 65536) ∧ ((s.ctrl o.inst).sqs.get? o.queue = some q) ∧
      ((s.ctrl o.inst).cqs.get? q.cqid = some k) ∧ ((k.tail + 1) % (k.size + 1) ≠ k.head) ∧ ((s.ctrl o.inst).wait.getD q.cqid [] = []) ∧
      (mayDma s (instPort s o.inst) o.inst = true) ∧ ((s.ctrl o.inst).shst = 0) ∧ (o.started = true)) ∧
    (∃ s : State, ∃ op : Nat, ∃ o : IoOp, ∃ q : NvmeSq, ∃ k : NvmeCq, ∃ at', (s.on = true) ∧ (s.stor.ops = [(op, o)]) ∧ (o.kind = .write) ∧
      (o.bulk = false) ∧ (o.inst < 0x400) ∧ (o.gen < 65536) ∧ ((s.ctrl o.inst).sqs.get? o.queue = some q) ∧
      ((s.ctrl o.inst).cqs.get? q.cqid = some k) ∧ ((k.tail + 1) % (k.size + 1) ≠ k.head) ∧ ((s.ctrl o.inst).wait.getD q.cqid [] = []) ∧
      (mayDma s (instPort s o.inst) o.inst = true) ∧ ((s.ctrl o.inst).shst = 0) ∧ (o.waiting = some at') ∧ (at' + 2000000000 ≤ s.lc)) :=
  ⟨⟨nv ct1 (ns1 nmem), 5, 3, bc, bq1, nmem,
     ⟨by decide +kernel, by decide +kernel, by decide +kernel, by decide +kernel, 0, by decide +kernel, by decide +kernel⟩, by decide +kernel⟩,
   ⟨nv ct1 sid, 5, 5, 64, 3, { bc with len := 64, operand := 0x0807060504030201 }, bq1,
     ⟨by decide +kernel, by decide +kernel, by decide +kernel, by decide +kernel, 0, by decide +kernel, by decide +kernel⟩, by decide +kernel⟩,
   ⟨nv2 sid, 5, 3, { bc with len := 63, operand := 2 ^ 30 }, bq1,
     ⟨by decide +kernel, by decide +kernel, by decide +kernel, by decide +kernel, 0, by decide +kernel, by decide +kernel⟩, by decide +kernel⟩,
   ⟨nv2 sid, 5, 3, { bc with len := 64, operand := 2 ^ 31 }, bq1, _, rfl,
     ⟨by decide +kernel, by decide +kernel, by decide +kernel, by decide +kernel, 0, by decide +kernel, by decide +kernel⟩, by decide +kernel⟩,
   ⟨nv2 sid, 5, 3, { bc with len := 64, operand := 2 ^ 30 + 64 }, bq1, _, rfl, 5, 64, 7, 64,
     ⟨by decide +kernel, by decide +kernel, by decide +kernel, by decide +kernel, 0, by decide +kernel, by decide +kernel⟩, by decide +kernel⟩,
   ⟨{ nv ct1 (oneOp op1) with tracker := [(7, { held := true, owner := 2, gen := 1 })] }, 7, 0x8000, op1, isq, icq0, nloc,
     (List.range 1024).map (BitVec.ofNat 8 ·), by decide +kernel⟩,
   ⟨{ nv ct1 (oneOp { op1 with kind := .write }) with tracker := [(7, { held := true, owner := 2, gen := 1 })] }, 7,
     { op1 with kind := .write }, isq, icq0, by decide +kernel⟩,
   ⟨{ nv ct1 (oneOp { op1 with kind := .write, started := false, waiting := some 5 }) with tracker := [(7, { held := true, owner := 2, gen := 1 })], clk := { up.clk with lc := 2000000005 } },
     7, { op1 with kind := .write, started := false, waiting := some 5 }, isq, icq0, 5, by decide +kernel⟩⟩

/-- `Obligations.StorageCommands`: its clauses 16.3, 17, 18, 19, 20, 21, 22. -/
theorem wit_StorageCommands_4 :
    (∃ s : State, ∃ op : Nat, ∃ o : IoOp, ∃ q : NvmeSq, ∃ k : NvmeCq, ∃ at', (s.on = true) ∧ (s.stor.ops = [(op, o)]) ∧ (o.kind = .write) ∧
      (o.bulk = false) ∧ (o.inst < 0x400) ∧ (o.gen < 65536) ∧ ((s.ctrl o.inst).sqs.get? o.queue = some q) ∧
      ((s.ctrl o.inst).cqs.get? q.cqid = some k) ∧ ((k.tail + 1) % (k.size + 1) ≠ k.head) ∧ ((s.ctrl o.inst).wait.getD q.cqid [] = []) ∧
      (mayDma s (instPort s o.inst) o.inst = true) ∧ ((s.ctrl o.inst).shst = 0) ∧ (o.waiting = some at') ∧ (s.lc < at' + 2000000000)) ∧
    (∃ s : State, ∃ index : Nat, (s.on = true) ∧ (index < 4) ∧ (unitIn s (uStor index) = true) ∧ (¬ s.clk.down.contains 24) ∧ (s.stor.ops = [])) ∧
    (∃ s : State, ∃ index : Nat, ∃ f : FabricTarget, (s.on = true) ∧ (s.stor.targets.get? index = some f) ∧ (targetOp s index = none) ∧
      (s.stor.ops = [])) ∧
    (∃ s : State, ∃ p : Fin 4, ∃ op : Nat, ∃ o : IoOp, ∃ n : Namespace, ((s.pipe p).link = true) ∧ (s.stor.ops = [(op, o)]) ∧
      (s.stor.spaces.get? o.nsid = some n) ∧ (n.backing = 1) ∧ (n.port = p.val) ∧ (o.started = true)) ∧
    (∃ s : State, ∃ target : Nat, ∃ n : Nat, ∃ since : Nat, ∃ o : LongOp, (s.on = true) ∧ (s.longOps = [(n, o)]) ∧
      (o.data = .fabricTarget target since)) ∧
    (∃ s : State, ∃ inst : Nat, ∃ ps : Nat, ∃ ms : Nat, (s.on = true) ∧ ((s.ctrl inst).rdy = true) ∧ ((s.ctrl inst).features.getD 0x0C 0 = 1) ∧
      ((s.ctrl inst).apst[(s.ctrl inst).ps]? = some (8 * ps + 256 * ms)) ∧ ((s.ctrl inst).ps < ps) ∧ (ps ≤ 4) ∧ (0 < ms) ∧ (ms < 2 ^ 24) ∧
      (ioOutstanding s inst = 0)) ∧
    (∃ s : State, ∃ p : Fin 4, ∃ at' : Nat, ((s.pipe p).bulkEnd = some at') ∧ ((s.pipe p).bulk = 0)) :=
  ⟨⟨{ nv ct1 (oneOp { op1 with kind := .write, started := false, waiting := some 5 }) with tracker := [(7, { held := true, owner := 2, gen := 1 })], clk := { up.clk with lc := 2000000004 } },
     7, { op1 with kind := .write, started := false, waiting := some 5 }, isq, icq0, 5, by decide +kernel⟩,
   ⟨nv ct1 (fun s => { s with pipes := [] }), 1, by decide +kernel⟩,
   ⟨nv ct1 (fun s => { s with targets := [(3, ftgt)] }), 3, ftgt, by decide +kernel⟩,
   ⟨nv ct1 (oneOp op1), 1, 7, op1, nloc, by decide +kernel⟩,
   ⟨{ nv ct1 (fun s => { s with targets := [(3, ftgt)] }) with longOps := [(9, lop (.fabricTarget 3 5))], clk := { up.clk with lc := 10000000005 } },
     3, 9, 5, lop (.fabricTarget 3 5), by decide +kernel⟩,
   ⟨{ nv { ct1 with features := [(0x0C, 1)], apst := apst1, idleSince := 5 } (ns1 nloc) with clk := { up.clk with lc := 3000005 } }, 5, 2, 3,
     by decide +kernel⟩,
   ⟨{ nv ct1 (fun s => { ns1 nloc s with pipes := [(1, { pl with bulkEnd := some 5, ps := 0 })] }) with clk := { up.clk with lc := 1000005 } },
     1, 5, by decide +kernel⟩⟩

/-- `Obligations.StorageRequests`: its clauses 1, 2, 3, 4, 5, 6, 7, 8. -/
theorem wit_StorageRequests_1 :
    (∃ s : State, ∃ q : Req, ∃ nsid : Nat, ∃ owner : Nat, ∃ port : Nat, ∃ source : Nat, ∃ base : Nat, ∃ size : Nat, (Served s q 0x0701 32 .operator) ∧
      (∀ id m, (id, m) ∈ s.stor.spaces → id ≠ nsid ∧ (m.backing = 1 → m.port = port → m.source = source → base + size ≤ m.base ∨ m.base + m.size ≤ base)) ∧
      (s.longOps = []) ∧ (1 ≤ nsid) ∧ (nsid ≤ 4096) ∧ (owner < 16) ∧ (ownerExists s owner = true) ∧ (port < 4) ∧ (8 ≤ size)) ∧
    (∃ s : State, ∃ q : Req, ∃ nsid : Nat, ∃ owner : Nat, ∃ size : Nat, ∃ n : Namespace, (Served s q 0x0701 32 .operator) ∧ (1 ≤ nsid) ∧
      (nsid ≤ 4096) ∧ (owner < 16) ∧ (ownerExists s owner = true) ∧ (8 ≤ size) ∧ (s.stor.spaces.get? nsid = some n)) ∧
    (∃ s : State, ∃ q : Req, ∃ nsid : Nat, ∃ owner : Nat, ∃ base : Nat, ∃ size : Nat, ∃ m : Nat, ∃ off : Nat, (Served s q 0x0701 32 .operator) ∧
      (s.longOps = []) ∧ (1 ≤ nsid) ∧ (nsid ≤ 4096) ∧ (owner < 16) ∧ (ownerExists s owner = true) ∧ (8 ≤ size) ∧ (512 * size ≤ 2 ^ 30) ∧
      (base % 2 ^ 30 = 0) ∧ (translate s owner base = some (m, off)) ∧ (s.stor.spaces = []) ∧ (base + 512 * size ≤ 2 ^ 40) ∧
      (Mem.wf s.dram.bytes = true)) ∧
    (∃ s : State, ∃ q : Req, ∃ nsid : Nat, ∃ n : Namespace, (Served s q 0x0702 8 .operator) ∧ (s.stor.spaces.get? nsid = some n)) ∧
    (∃ s : State, ∃ q : Req, ∃ nsid : Nat, ∃ inst : Nat, ∃ n : Namespace, ∃ i : Instance, (Served s q 0x0703 8 .operator) ∧
      (s.stor.spaces.get? nsid = some n) ∧ (s.insts.get? inst = some i)) ∧
    (∃ s : State, ∃ q : Req, ∃ nsid : Nat, ∃ n : Namespace, (Served s q 0x0704 8 .operator) ∧ (s.stor.spaces.get? nsid = some n)) ∧
    (∃ s : State, ∃ q : Req, ∃ port : Nat, ∃ ownerEntry : Nat, ∃ egress : Nat, ∃ dscp : Nat, ∃ nqn : BufRef, ∃ bs : Bytes, (Served s q 0x0705 64 .operator) ∧
      (s.longOps = []) ∧ (nqn.space = 1) ∧ (1 ≤ nqn.len) ∧ (nqn.len ≤ 223) ∧ (bs.length = nqn.len) ∧ (port < 8) ∧ (ownerEntry < 1024) ∧
      (egress < 16384) ∧ (dscp < 64) ∧ (s.stor.targets = [])) ∧
    (∃ s : State, ∃ q : Req, (Served s q 0x0706 8 .operator)) :=
  ⟨⟨nv ct1 (ns1 nloc), rq 0x400 32, 4096, 2, 1, 4, 992, 8, servedOf (by decide +kernel), allMem (by decide +kernel), by decide +kernel⟩,
   ⟨nv ct1 (ns1 nloc), rq 0x400 32, 9, 2, 8, nloc, servedOf (by decide +kernel), by decide +kernel⟩,
   ⟨nv ct1 sid, rq 0x400 32, 9, 2, 0, 8, 5, 0, servedOf (by decide +kernel), by decide +kernel⟩,
   ⟨nv ct1 (ns1 nloc), rq 0x400 8, 9, nloc, servedOf (by decide +kernel), by decide +kernel⟩,
   ⟨nv ct1 (ns1 nloc), rq 0x400 8, 9, 5, nloc, Wit.inst, servedOf (by decide +kernel), by decide +kernel⟩,
   ⟨nv ct1 (ns1 nloc), rq 0x400 8, 9, nloc, servedOf (by decide +kernel), by decide +kernel⟩,
   ⟨nv ct1 sid, rq 0x400 64, 3, 5, 6, 63, hostBuf 4, [1, 2, 3, 4], servedOf (by decide +kernel), by decide +kernel⟩,
   ⟨nv ct1 (ns1 nloc), rq 0x400 8, servedOf (by decide +kernel)⟩⟩

/-- `Obligations.StorageRequests`: its clauses 9, 10, 11, 12. -/
theorem wit_StorageRequests_2 :
    (∃ s : State, ∃ q : Req, ∃ p : Nat, (Served s q 0x0707 8 .operator) ∧ (p < 6)) ∧
    (∃ s : State, ∃ q : Req, (Served s q 0x0707 8 .tenant)) ∧
    (∃ s : State, ∃ q : Req, ∃ db : Nat, ∃ log2 : Nat, (Served s q 0x0740 32 .tenant) ∧ (db < 16) ∧ (6 ≤ log2) ∧ (log2 ≤ 16) ∧
      (s.ctxs.length < 69632) ∧ (s.stor.bulk.get? (bulkKey q.mbx db) = none)) ∧
    (∃ s : State, ∃ q : Req, ∃ db : Nat, (Served s q 0x0741 8 .tenant) ∧ (db < 16) ∧ ((s.stor.bulk.get? (bulkKey q.mbx db)).isSome = true) ∧
      (s.stor.ops = []) ∧ (s.longOps = [])) :=
  ⟨⟨nv ct1 (ns1 nloc), rq 0x400 8, 1, servedOf (by decide +kernel), by decide +kernel⟩,
   ⟨nv ct1 (ns1 nloc), rq 5 8, servedOf (by decide +kernel)⟩,
   ⟨nv ct1 (ns1 nloc), rq 5 32, 4, 16, servedOf (by decide +kernel), by decide +kernel⟩,
   ⟨nv ct1 (ns1 nloc), rq 5 8, 3, servedOf (by decide +kernel), by decide +kernel⟩⟩

/-- `Obligations.EthernetPorts`: its clauses 1, 2, 3, 4, 5, 6, 7, 8. -/
theorem wit_EthernetPorts_1 :
    (∃ s : State, ∃ p : Fin 8, ∃ frame : Bytes, ∃ d, d = (frame.take (frame.length - 4)) ∧
      ∃ fcs, fcs = (decide (frame.drop (frame.length - 4) ≠ le 4 (crc32 d))) ∧
      ∃ len, len = (decide (frame.length < 64 ∨ (s.eth p).maxFrame < frame.length)) ∧ (s.on = true) ∧ ((s.eth p).link = 2) ∧ (4 ≤ frame.length) ∧
      (fcs = true ∨ len = true)) ∧
    (∃ s : State, ∃ p : Fin 8, ∃ frame : Bytes, ∃ d : Bytes, (GoodFrame s p frame d) ∧
      (∀ k e, (k, e) ∈ s.pkt.owners → k / 1024 = p.val → e.mac = d.take 6 → e.vid ≠ outerVid d) ∧ (beAt d 12 2 ≠ 0x8808) ∧
      (rxHeld (s.eth p) + d.length ≤ 4 * 2 ^ 20) ∧ (s.fw.switching = none) ∧ (s.pkt.excRefilled.get? 16 = none)) ∧
    (∃ s : State, ∃ p : Fin 8, ∃ frame : Bytes, ∃ d : Bytes, ∃ e : OwnerEntry, (GoodFrame s p frame d) ∧ (beAt d 12 2 ≠ 0x8808) ∧
      (rxHeld (s.eth p) + d.length ≤ 4 * 2 ^ 20) ∧ (entryOf s p d = some e) ∧ ((s.eth p).pfc = false) ∧ (s.fw.switching = none)) ∧
    (∃ s : State, ∃ p : Fin 8, ∃ frame : Bytes, ∃ d : Bytes, (GoodFrame s p frame d) ∧ (beAt d 12 2 = 0x8808) ∧ (beAt d 14 2 = 1)) ∧
    (∃ s : State, ∃ p : Fin 8, ∃ k : Fin 8, ∃ frame : Bytes, ∃ d : Bytes, ∃ quanta : Nat, (GoodFrame s p frame d) ∧ (beAt d 12 2 = 0x8808) ∧
      (beAt d 14 2 = 0x0101) ∧ (beAt d 0 6 = 0x0180C2000001) ∧ (beAt d 16 2 = 2 ^ k.val) ∧ (beAt d (18 + 2 * k.val) 2 = quanta) ∧ (0 < quanta) ∧
      ((s.eth p).paused = [])) ∧
    (∃ s : State, ∃ p : Fin 8, ∃ prio : Fin 8, (s.on = true) ∧ ((s.eth p).link = 2) ∧ (prio.val ∈ (s.eth p).pfcSending)) ∧
    (∃ s : State, ∃ p : Fin 8, ∃ prio : Fin 8, ∃ stop : Nat, ∃ start : Nat, (s.on = true) ∧ ((s.eth p).paused.get? prio = some stop) ∧
      ((s.eth p).pausedSince.get? prio = some start)) ∧
    (∃ s : State, ∃ p : Fin 8, (s.on = true) ∧ (s.full = true) ∧ ((s.eth p).mode ≠ 0) ∧ ((s.eth p).link ≤ 1) ∧ (unitIn s (uEth p) = true) ∧
      (¬ s.clk.down.contains (8 + p.val)) ∧ (s.ckp = none)) :=
  ⟨⟨pk (ports { ep with fcsErrors := 2 ^ 32 - 1 }), 3, raw1 ++ [1, 2, 3, 4], _, rfl, _, rfl, _, rfl, by decide +kernel⟩,
   ⟨pk pid, 3, fcs rawO, rawO, ⟨by decide +kernel, by decide +kernel, by decide +kernel, by decide +kernel⟩, allMem (by decide +kernel),
     by decide +kernel⟩,
   ⟨pk (fun k => { k with owners := [(3 * 1024 + 7, { own1 with roce := true })] }), 3, fcs udp, udp, { own1 with roce := true },
     ⟨by decide +kernel, by decide +kernel, by decide +kernel, by decide +kernel⟩, by decide +kernel⟩,
   ⟨pk pid, 3, fcs (ctl 1 [0, 5]), ctl 1 [0, 5], ⟨by decide +kernel, by decide +kernel, by decide +kernel, by decide +kernel⟩,
     by decide +kernel⟩,
   ⟨pk pid, 3, 3, fcs pfcF, pfcF, 300, ⟨by decide +kernel, by decide +kernel, by decide +kernel, by decide +kernel⟩, by decide +kernel⟩,
   ⟨{ pk (ports { ep with pfcSending := [3], pfcSentAt := [(3, 5)] }) with clk := { up.clk with lc := 40005 } }, 3, 3, by decide +kernel⟩,
   ⟨pk (ports { ep with paused := [(3, 900)], pausedSince := [(3, 300)] }), 3, 3, 900, 300, by decide +kernel⟩,
   ⟨pk (ports { ep with link := 1 }), 3, by decide +kernel⟩⟩

/-- `Obligations.EthernetPorts`: its clauses 9, 10, 11, 12. -/
theorem wit_EthernetPorts_2 :
    (∃ s : State, ∃ q : Req, (Served s q 0x0801 32 .operator)) ∧
    (∃ s : State, ∃ q : Req, ∃ p : Nat, ∃ entry : Nat, ∃ mac : Nat, ∃ vid : Nat, ∃ owner : Nat, ∃ flags : Nat, (Served s q 0x0801 32 .operator) ∧
      (p < 8) ∧ (entry < 1024) ∧ (mac < 2 ^ 48) ∧ (vid < 4096) ∧ (owner < 16) ∧ (ownerExists s owner = true) ∧ (flags < 2)) ∧
    (∃ s : State, ∃ q : Req, ∃ p : Nat, ∃ entry : Nat, (Served s q 0x0801 32 .operator) ∧ (p < 8) ∧ (entry < 1024)) ∧
    (∃ s : State, ∃ q : Req, ∃ p : Nat, (Served s q 0x0801 32 .operator) ∧ (p < 8)) :=
  ⟨⟨pk (ports { ep with buffer := [rf] }), rq 0x400 32, servedOf (by decide +kernel)⟩,
   ⟨pk (fun k => { k with shares := [(2, sh)] }), rq 0x400 32, 3, 8, 2 + 9 * 2 ^ 40, 6, 2, 1, servedOf (by decide +kernel), by decide +kernel⟩,
   ⟨pk pid, rq 0x400 32, 3, 7, servedOf (by decide +kernel), by decide +kernel⟩,
   ⟨pk pid, rq 0x400 32, 3, servedOf (by decide +kernel), by decide +kernel⟩⟩

/-- `Obligations.ParsePath`: its clauses 1, 2.1, 2.2, 2.3, 2.4, 3, 4, 5. -/
theorem wit_ParsePath_1 :
    (∃ s : State, ∃ p : Fin 8, ∃ c : Nat, ∃ f : RxFrame, ∃ x : Share, (QuietExcept s p) ∧ (s.on = true) ∧ ((s.eth p).reorder = []) ∧
      ((s.eth p).buffer = [f]) ∧ ((s.eth p).pfcSending = []) ∧ (s.pkt.shares.get? f.owner = some x) ∧ (x.program.isSome = true) ∧ (c < 64) ∧
      (x.clusters.testBit c = true) ∧ (c / 32 = p.val / 4) ∧ (unitIn s (uCluster c) = true) ∧ ((s.core (16 * c)).running = false)) ∧
    (∃ s : State, ∃ p : Fin 8, ∃ f : RxFrame, ∃ k : Nat, ∃ words : List W64, ∃ v, v = ((words.getD 0 0).toNat) ∧ ∃ r, r = (bitsOf v 15 4) ∧
      ∃ x, ∃ j, ∃ a, ∃ len, ∃ l, (QuietExcept s p) ∧ (RxTakes s r x j a len l) ∧ (s.on = true) ∧ ((s.eth p).buffer = []) ∧
      ((s.eth p).reorder = [{ frame := f, state := .ended k words }]) ∧ (bitOf v 29 = false) ∧ (x.owner = f.owner)) ∧
    (∃ s : State, ∃ p : Fin 8, ∃ f : RxFrame, ∃ k : Nat, ∃ words : List W64, ∃ v, v = ((words.getD 0 0).toNat) ∧ ∃ r, r = (bitsOf v 15 4) ∧
      (QuietExcept s p) ∧ (∀ x, s.pkt.rings.get? r = some x → x.owner ≠ f.owner) ∧ (s.on = true) ∧ ((s.eth p).buffer = []) ∧
      ((s.eth p).reorder = [{ frame := f, state := .ended k words }]) ∧ (bitOf v 29 = false)) ∧
    (∃ s : State, ∃ p : Fin 8, ∃ f : RxFrame, ∃ k : Nat, ∃ words : List W64, ∃ v, v = ((words.getD 0 0).toNat) ∧ ∃ n, n = (bitsOf v 28 16) ∧
      (QuietExcept s p) ∧ (s.on = true) ∧ ((s.eth p).buffer = []) ∧ ((s.eth p).reorder = [{ frame := f, state := .ended k words }]) ∧
      (bitOf v 29 = true) ∧ ((s.policer n).owner ≠ f.owner)) ∧
    (∃ s : State, ∃ p : Fin 8, ∃ f : RxFrame, ∃ k : Nat, ∃ words : List W64, ∃ v, v = ((words.getD 0 0).toNat) ∧ ∃ n, n = (bitsOf v 28 16) ∧
      (QuietExcept s p) ∧ (s.on = true) ∧ ((s.eth p).buffer = []) ∧ ((s.eth p).reorder = [{ frame := f, state := .ended k words }]) ∧
      (bitOf v 29 = true) ∧ ((s.policer n).owner = f.owner) ∧ ((s.policer n).buckets.enable = true) ∧
      ((s.policer n).buckets.tp < 8 * ((f.data.length + 4 : Int) + (s.eth f.port).overhead)) ∧
      (0 ≤ (f.data.length + 4 : Int) + (s.eth f.port).overhead)) ∧
    (∃ s : State, ∃ die : Fin 2, ∃ o : Nat, ∃ d : Delivery, ∃ rest : List (Nat × Owner × Delivery), (s.on = true) ∧ (s.fw.switching = none) ∧
      (s.pkt.excQueue = (die.val, o, d) :: rest)) ∧
    (∃ s : State, ∃ k : Nat, ∃ c : Context, (s.on = true) ∧ (s.fw.switching = none) ∧ (s.ctxs.get? k = some c) ∧ (c.resident = false) ∧
      (c.wanted = true) ∧ (k < 0x3000000)) ∧
    (∃ s : State, ∃ core : Fin 1024, ∃ n : Fin 4, ∃ tb : MatchTable, ∃ act : Bytes, ∃ h, h = ((s.core core).handle n) ∧ (s.on = true) ∧
      (h.busy = true) ∧ (s.pkt.tables.get? h.table = some tb) ∧ (tb.deleting = none) ∧ (tb.kl ≤ 64) ∧ (act.length = 32) ∧
      (∀ e ∈ cacheOf s (core.val / 512), e.table = h.table → e.key ≠ h.key) ∧ (Mem.wf (s.core core).scratch = true)) :=
  ⟨⟨pk (fun k => { ports { ep with buffer := [rf] } k with shares := [(2, sh)] }), 3, 1, rf, sh, quiet3 rfl (by decide +kernel),
     by decide +kernel⟩,
   ⟨pk (fun k => { ports (ro (1 + 12 * 16 + 3 * 2 ^ 40)) k with rings := [(12, ring1)] }), 3, rf, 18, words1 (1 + 12 * 16 + 3 * 2 ^ 40), _,
     rfl, _, rfl, ring1, 1, 0x8000, 30, [(2, 0x9000, 2000)], quiet3 rfl (by decide +kernel),
     ⟨by decide +kernel, by decide +kernel, by decide +kernel, by decide +kernel, ⟨_, rfl, by decide +kernel⟩, by decide +kernel⟩,
     by decide +kernel⟩,
   ⟨pk (fun k => { ports (ro (1 + 12 * 16)) k with rings := [(12, { ring1 with owner := 3 })] }), 3, rf, 18, words1 (1 + 12 * 16), _, rfl, _,
     rfl, quiet3 rfl (by decide +kernel), allSome (by decide +kernel), by decide +kernel⟩,
   ⟨pk (fun k => { ports (ro (1 + 12 * 16 + 2 ^ 29 + 9 * 2 ^ 16)) k with policers := [(9, { owner := 3 })] }), 3, rf, 18,
     words1 (1 + 12 * 16 + 2 ^ 29 + 9 * 2 ^ 16), _, rfl, _, rfl, quiet3 rfl (by decide +kernel), by decide +kernel⟩,
   ⟨pk (fun k => { ports (ro (1 + 12 * 16 + 2 ^ 29 + 9 * 2 ^ 16)) k with policers := [(9, { owner := 2, buckets := { enable := true, tp := 671 } })] }),
     3, rf, 18, words1 (1 + 12 * 16 + 2 ^ 29 + 9 * 2 ^ 16), _, rfl, _, rfl, quiet3 rfl (by decide +kernel), by decide +kernel⟩,
   ⟨pk (fun k => { k with rings := [(12, ring1)], excRings := [(2, 12)], excQueue := (0, 2, dl1) :: rest1 }), 0, 2, dl1, rest1,
     by decide +kernel⟩,
   ⟨{ pk pid with ctxs := [(3, { cx1 with resident := false, wanted := true })] }, 3, { cx1 with resident := false, wanted := true },
     by decide +kernel⟩,
   ⟨pb (Mem.writeN [] b1 (entryBytes 16 key16 act1)) [], 18, 1, mt, act1, _, rfl, by decide +kernel⟩⟩

/-- `Obligations.ParsePath`: its clauses 6, 7, 8. -/
theorem wit_ParsePath_2 :
    (∃ s : State, ∃ core : Fin 1024, ∃ n : Fin 4, ∃ tb : MatchTable, ∃ e : FlowEntry, ∃ h, h = ((s.core core).handle n) ∧ (s.on = true) ∧
      (h.busy = true) ∧ (s.pkt.tables.get? h.table = some tb) ∧ (tb.deleting = none) ∧ (cacheFind s (core.val / 512) h.table h.key = some e)) ∧
    (∃ s : State, ∃ q : Req, ∃ owner : Nat, ∃ limit : Nat, (Served s q 0x0803 32 .operator) ∧ (owner < 16) ∧ (ownerExists s owner = true) ∧
      (limit ≤ 262144)) ∧
    (∃ s : State, ∃ q : Req, ∃ program : BufRef, ∃ bs : Bytes, ∃ x : Share, (Served s q 0x0802 16 .operator) ∧
      (∀ k c, (k, c) ∈ s.cores → c.running = false) ∧ (program.space = 1) ∧ (bs.length = program.len) ∧ (s.longOps = []) ∧
      (s.pkt.shares.get? 16 = some x) ∧ (x.base + x.size ≤ 16)) :=
  ⟨⟨pb [] [fe1], 18, 1, mt, fe1, _, rfl, by decide +kernel⟩,
   ⟨pk pid, rq 0x400 32, 2, 262144, servedOf (by decide +kernel), by decide +kernel⟩,
   ⟨pk (fun k => { k with shares := [(16, { sh with program := none })] }), rq 0x400 16, hostBuf 16, bnd, { sh with program := none },
     servedOf (by decide +kernel), allMem (by decide +kernel), by decide +kernel⟩⟩

/-- `Obligations.PacketRings`: its clauses 1, 2, 3, 4, 5, 6, 7, 8. -/
theorem wit_PacketRings_1 :
    (∃ s : State, ∃ q : Req, ∃ n : Nat, ∃ owner : Nat, ∃ kl : Nat, ∃ log2 : Nat, ∃ flags : Nat, ∃ base : Nat, ∃ seed1 : Nat, ∃ seed2 : Nat, ∃ m : Nat, ∃ off : Nat, (Served s q 0x0804 32 .operator) ∧
      (n < 64) ∧ (owner < 16) ∧ (ownerExists s owner = true) ∧ (1 ≤ kl ∧ kl ≤ 16 ∨ 33 ≤ kl ∧ kl ≤ 64) ∧ (6 ≤ log2) ∧ (log2 ≤ 23) ∧ (flags < 2) ∧
      (base % 256 = 0) ∧ (seed1 ≠ 0) ∧ (seed2 ≠ 0) ∧ (translate s owner base = some (m, off)) ∧ (off + 256 * 2 ^ log2 ≤ 2 ^ 30) ∧
      ((plotAt s m).state = .assigned) ∧ (keyHeld s (plotAt s m) = true) ∧ (guarded s owner base (256 * 2 ^ log2) = false) ∧ (s.pkt.tables = []) ∧
      (Mem.wf s.dram.bytes = true)) ∧
    (∃ s : State, ∃ q : Req, ∃ kl : Nat, (Served s q 0x0804 32 .operator) ∧ (16 < kl ∧ kl < 33 ∨ kl = 0 ∨ 64 < kl)) ∧
    (∃ s : State, ∃ q : Req, ∃ n : Nat, ∃ records : BufRef, ∃ key : Bytes, ∃ action : Bytes, ∃ tb : MatchTable, (Served s q 0x0805 24 .operator) ∧
      (s.pkt.tables.get? n = some tb) ∧ (tb.deleting = none) ∧ (records.space = 1) ∧ (records.len = 128) ∧ (key.length = tb.kl) ∧
      (action.length = 32) ∧ (tb.kl ≤ 64) ∧ (tb.base % 256 = 0)) ∧
    (∃ s : State, ∃ q : Req, ∃ n : Nat, ∃ tb : MatchTable, (Served s q 0x0806 8 .operator) ∧ (s.pkt.tables.get? n = some tb) ∧
      (tb.deleting = none) ∧ (s.longOps = [])) ∧
    (∃ s : State, ∃ q : Req, ∃ kind : Nat, ∃ log2 : Nat, ∃ db : Nat, (Served s q 0x0807 32 .tenant) ∧ (kind = 1 ∨ kind = 2) ∧ (6 ≤ log2) ∧
      (log2 ≤ 14) ∧ (db < 64) ∧ (s.pkt.rings = []) ∧ (s.ctxs.length < 69632)) ∧
    (∃ s : State, ∃ q : Req, ∃ n : Nat, ∃ x : PktRing, (Served s q 0x0808 8 .tenant) ∧ (s.pkt.rings.get? n = some x) ∧ (x.deleting = none) ∧
      (s.longOps = [])) ∧
    (∃ s : State, ∃ q : Req, ∃ log2 : Nat, (Served s q 0x0809 32 .operator) ∧ (6 ≤ log2) ∧ (log2 ≤ 12)) ∧
    (∃ s : State, ∃ q : Req, ∃ ring : Nat, ∃ x : PktRing, (Served s q 0x0809 32 .tenant) ∧ (q.mbx ≠ 0x400 + s.boot.opPort) ∧
      (s.pkt.rings.get? ring = some x) ∧ (x.tx = false) ∧ (x.deleting = none)) :=
  ⟨⟨pk pid, rq 0x400 32, 63, 2, 33, 6, 1, 0x4000, 5, 6, 5, 0x4000, servedOf (by decide +kernel), by decide +kernel⟩,
   ⟨pk pid, rq 0x400 32, 17, servedOf (by decide +kernel), by decide +kernel⟩,
   ⟨pb (Mem.writeN [] b1 (entryBytes 16 key16 act1)) [], rq 0x400 24, 9, { addr := 0x1000, len := 128, space := 1 }, key16, act1, mt,
     servedOf (by decide +kernel), by decide +kernel⟩,
   ⟨pb [] [fe1], rq 0x400 8, 9, mt, servedOf (by decide +kernel), by decide +kernel⟩,
   ⟨pk pid, rq 5 32, 2, 14, 63, servedOf (by decide +kernel), by decide +kernel⟩,
   ⟨pk (fun k => { k with rings := [(12, ring1)] }), rq 5 8, 12, ring1, servedOf (by decide +kernel), by decide +kernel⟩,
   ⟨pk pid, rq 0x400 32, 12, servedOf (by decide +kernel), by decide +kernel⟩,
   ⟨pk (fun k => { k with rings := [(12, ring1)] }), rq 5 32, 12, ring1, servedOf (by decide +kernel), by decide +kernel⟩⟩

/-- `Obligations.PacketRings`: its clauses 9, 10. -/
theorem wit_PacketRings_2 :
    (∃ s : State, ∃ p : Fin 2, ∃ inst : Nat, ∃ r : Nat, ∃ db : Fin 64, ∃ i : Instance, ∃ x : PktRing, ∃ bs : Bytes, (s.on = true) ∧
      (s.quick = true) ∧ (s.insts.get? inst = some i) ∧ (i.port = p.val) ∧ (i.state = .running) ∧ (functionFetches s inst = true) ∧
      (s.pkt.rings = [(r, x)]) ∧ (x.inst = inst) ∧ (x.doorbell = db.val) ∧ (x.tx = false) ∧ (x.deleting = none) ∧ (resident s (cxRing r) = true) ∧
      (x.fetched + 1 < 2 ^ 32) ∧ (bs.length = 16)) ∧
    (∃ s : State, ∃ r : Nat, ∃ x : PktRing, ∃ b : Bytes, (TagFree s) ∧ (s.pkt.rings.get? r = some x) ∧ (x.tx = true) ∧
      (ringFetches s r x = true) ∧ (mayFetch s x.owner = true) ∧ (b.length = 32) ∧ (x.log2 ≤ 14) ∧ (mayDma s (instPort s x.inst) x.inst = true)) :=
  ⟨⟨pk (fun k => { k with rings := [(12, ring1)] }), 0, 5, 12, 4, Wit.inst, ring1, le 8 0xABC000 ++ le 4 1500 ++ zeros 4, by decide +kernel⟩,
   ⟨pk (fun k => { k with rings := [(12, tx1)], queues := [(8, { eq [] with owner := 3 })] }), 12, tx1, txd 8 60 99,
     ⟨0, by decide +kernel, by decide +kernel⟩, by decide +kernel⟩⟩

/-- `Obligations.RoceEngine`: its clauses 1, 2, 3, 4, 5. -/
theorem wit_RoceEngine_1 :
    (∃ s : State, ∃ q : Req, ∃ port : Nat, ∃ mtu : Nat, ∃ retry : Nat, ∃ entry : Nat, ∃ queue : Nat, ∃ mac : Nat, ∃ dscp : Nat, ∃ remoteQpn : Nat, ∃ timeout : Nat, ∃ psn : Nat, ∃ expected : Nat, (Served s q 0x080A 80 .operator) ∧
      (qpFieldsBad port 0 mtu retry entry queue mac dscp remoteQpn timeout psn expected = false) ∧ (s.ctxs.length < 69632) ∧ (s.pkt.qps = []) ∧
      (noEntropy s = false)) ∧
    (∃ s : State, ∃ q : Req, ∃ n : Nat, ∃ x : Qp, (Served s q 0x080B 8 .operator) ∧ (s.pkt.qps.get? n = some x) ∧ (x.deleting = none) ∧
      (s.longOps = [])) ∧
    (∃ s : State, ∃ p : Fin 8, ∃ f : RxFrame, ∃ l : List RxFrame, ∃ x : RocePkt, ∃ q : Qp, (s.on = true) ∧ ((s.eth p).roce = f :: l) ∧
      (rocePkt f.data = some x) ∧ (s.pkt.qps.get? x.dest = some q)) ∧
    (∃ s : State, ∃ n : Nat, ∃ q : Qp, ∃ m : QpMsg, (s.on = true) ∧ (s.pkt.qps.get? n = some q) ∧ (q.unacked = [m])) ∧
    (∃ s : State, ∃ n : Nat, ∃ r : Nat, ∃ at' : Nat, ∃ q : Qp, (s.on = true) ∧ (s.pkt.qps.get? n = some q) ∧ (q.rate = some r) ∧
      (q.rateAt = some at')) :=
  ⟨⟨pk (fun k => { k with owners := [(3 * 1024 + 7, { own1 with owner := 16 })] }), rq 0x400 80, 3, 5, 7, 7, 8, 9, 3, 0xFFFFFF, 20, 8, 9,
     servedOf (by decide +kernel), by decide +kernel⟩,
   ⟨pq { qp1 with owner := 16 } pid, rq 0x400 8, 77, { qp1 with owner := 16 }, servedOf (by decide +kernel), by decide +kernel⟩,
   ⟨pq { qp1 with owner := 3 } (rx1 (wrF 64 8 [1, 2, 3, 4, 5, 6, 7, 8])), 3, rfr (wrF 64 8 [1, 2, 3, 4, 5, 6, 7, 8]), [rf],
     (rocePkt (wrF 64 8 [1, 2, 3, 4, 5, 6, 7, 8])).getD x0, { qp1 with owner := 3 }, by decide +kernel⟩,
   ⟨{ pq { qp1 with unacked := [msg1], ackSince := 5 } pid with clk := { up.clk with lc := 8197 } }, 77,
     { qp1 with unacked := [msg1], ackSince := 5 }, msg1, by decide +kernel⟩,
   ⟨{ pq { qp1 with rate := some 100000, rateAt := some 5 } pid with clk := { up.clk with lc := 55005 } }, 77, 100000, 5,
     { qp1 with rate := some 100000, rateAt := some 5 }, by decide +kernel⟩⟩

/-- `Obligations.TrafficManager`: its clauses 1, 2, 3, 4, 5, 6, 7, 8. -/
theorem wit_TrafficManager_1 :
    (∃ s : State, ∃ p : Fin 8, (s.on = true) ∧ ((s.eth p).link = 2) ∧ ((s.eth p).busyUntil ≤ s.lc) ∧ ((s.eth p).bank0.entries = []) ∧
      ((s.eth p).bank1.entries = []) ∧ ((s.pkt.queues.map Prod.fst).Nodup)) ∧
    (∃ s : State, ∃ p : Fin 8, ((s.eth p).link ≠ 2 ∨ s.lc < (s.eth p).busyUntil)) ∧
    (∃ s : State, (s.on = true) ∧ (s.lc % 1000 = 0) ∧ (s.pkt.refilledAt ≠ some s.lc)) ∧
    (∃ s : State, (s.pkt.refilledAt = some s.lc ∨ s.lc % 1000 ≠ 0)) ∧
    (∃ s : State, ∃ p : Fin 8, (s.on = true) ∧ ((s.eth p).gates.entries ≠ [])) ∧
    (∃ s : State, ∃ p : Fin 8, ∃ due : Nat, ∃ e : LaunchEntry, (s.on = true) ∧ (launchNext (s.slot (slotKey 2 p 0)) = some (due, e)) ∧
      (e.action = 1)) ∧
    (∃ s : State, ∃ q : Req, ∃ v : Nat, (Served s q 0x0904 4 .operator) ∧ (v < 256)) ∧
    (∃ s : State, ∃ q : Req, ∃ n : Nat, ∃ owner : Nat, ∃ port : Nat, ∃ cls : Nat, ∃ flags : Nat, ∃ weight : Nat, ∃ limit : Nat, (Served s q 0x0901 16 .operator) ∧
      (n < 16384) ∧ (owner < 16) ∧ (ownerExists s owner = true) ∧ (port < 8) ∧ (cls < 8) ∧ (flags < 2) ∧ (weight ≠ 0) ∧ (16 ≤ limit) ∧
      (limit ≤ 65536)) :=
  ⟨⟨pk (ports ep), 3, by decide +kernel⟩,
   ⟨pk (ports { ep with link := 1 }), 3, by decide +kernel⟩,
   ⟨pk (fun k => { k with queues := [(8, { eq [] with shaper := { enable := true, rates := { cir := 5, pir := 9, cbs := 100, pbs := 300 }, tc := 799, tp := -5 } }), (9, { eq [] with shaper := { staged := some (true, { cir := 5, pir := 9, cbs := 100, pbs := 300 }) } }), (10, eq [])], policers := [(4, { owner := 2, buckets := { enable := true, rates := { cir := 5, pir := 9, cbs := 100, pbs := 300 }, tc := 799, tp := -5 } })] }),
     by decide +kernel⟩,
   ⟨pk (fun k => { k with refilledAt := some 1000, queues := [(8, { eq [] with shaper := { enable := true, rates := { cir := 5, pir := 9, cbs := 100, pbs := 300 }, tc := 799, tp := -5 } })] }),
     by decide +kernel⟩,
   ⟨pk (ports { ep with bank := 1, bank1 := gbank, gateIndex := 0, gateAt := 700, cycleStart := 700 }), 3, by decide +kernel⟩,
   ⟨{ pk (ports { ep with bank := 0, bank0 := gbank, bank1 := gbank }) with launch := [(slotKey 2 3 0, { active := some (gtab 1) })] }, 3,
     1000, entry 1 1, by decide +kernel⟩,
   ⟨pk pid, rq 0x400 4, 0xE0, servedOf (by decide +kernel), by decide +kernel⟩,
   ⟨pk (fun k => { k with queues := [(8, eq [tf 60])] }), rq 0x400 16, 8, 2, 4, 2, 1, 5, 16, servedOf (by decide +kernel), by decide +kernel⟩⟩

/-- `Obligations.TrafficManager`: its clauses 9, 10, 11, 12, 13. -/
theorem wit_TrafficManager_2 :
    (∃ s : State, ∃ q : Req, ∃ n : Nat, ∃ flags : Nat, (Served s q 0x0903 32 .operator) ∧ (n < 16384) ∧ (flags < 2)) ∧
    (∃ s : State, ∃ q : Req, ∃ n : Nat, ∃ owner : Nat, ∃ flags : Nat, ∃ source : Nat, ∃ cir : Nat, ∃ pir : Nat, ∃ cbs : Nat, ∃ pbs : Nat, (Served s q 0x0902 48 .operator) ∧
      (owner < 16) ∧ (ownerExists s owner = true) ∧ (n < 8192) ∧ (flags < 4) ∧ (source = 1 ∨ source = 2) ∧ (cir ≤ pir) ∧ (1 ≤ pir) ∧
      (pir ≤ 3200000) ∧ (1 ≤ cbs) ∧ (cbs ≤ 16777215) ∧ (1 ≤ pbs) ∧ (pbs ≤ 16777215)) ∧
    (∃ s : State, ∃ q : Req, ∃ n : Nat, (Served s q 0x0905 8 .operator) ∧ (n < 16384)) ∧
    (∃ s : State, ∃ q : Req, ∃ n : Nat, (Served s q 0x0905 8 .tenant) ∧ (n < 8)) ∧
    (∃ s : State, ∃ q : Req, ∃ p : Nat, ∃ bank : Nat, ∃ cycle : Nat, (Served s q 0x0940 48 .operator) ∧ (p < 8) ∧ (bank < 2) ∧ (128 ≤ cycle) ∧
      (cycle ≤ 1000000000) ∧ ((s.slot (slotKey 2 p 0)).staged = none)) :=
  ⟨⟨pk pid, rq 0x400 32, 8, 1, servedOf (by decide +kernel), by decide +kernel⟩,
   ⟨pk (fun k => { k with policers := [(4, { owner := 2 })] }), rq 0x400 48, 4, 2, 3, 2, 1, 3200000, 1, 16777215, servedOf (by decide +kernel),
     by decide +kernel⟩,
   ⟨pk (fun k => { k with queues := [(8, { eq [] with enqFrames := 5, enqBytes := 6, txFrames := 7, txBytes := 8, dropFrames := 9, dropBytes := 2 ^ 64 - 1 })] }),
     rq 0x400 8, 8, servedOf (by decide +kernel), by decide +kernel⟩,
   ⟨pk pid, rq 5 8, 3, servedOf (by decide +kernel), by decide +kernel⟩,
   ⟨pk pid, rq 0x400 48, 3, 1, 128, servedOf (by decide +kernel), by decide +kernel⟩⟩

/-- `Obligations.KeyStore`: its clauses 1, 2, 3, 4, 5.1, 5.2, 5.3.1, 5.3.2.
Clauses 5.2, 5.3.1, 5.3.2 without the hypothesis on an opaque constant. -/
theorem wit_KeyStore_1 :
    (∃ s : State, ∃ q : Req, ∃ p : Nat, (Served s q 0x0A01 8 .operator) ∧ (s.sec.alarm = none) ∧ (p < 16) ∧ (partExists s p = true) ∧
      ((s.sec.logs.getD p []).length < 4096) ∧ (noEntropy s = false)) ∧
    (∃ s : State, ∃ q : Req, ∃ p : Nat, (Served s q 0x0A01 8 .operator) ∧ (s.sec.alarm = none) ∧ (p < 16) ∧ (partExists s p = true) ∧
      ((s.sec.logs.getD p []).length < 4096) ∧ (noEntropy s = true)) ∧
    (∃ s : State, ∃ q : Req, ∃ data : BufRef, ∃ host : HostData, ∃ bs : Bytes, ∃ ek : Bytes, ∃ dk : Bytes, (Served s q 0x0A02 32 .tenant) ∧
      (readBuf s (whoOf s q.mbx) data host = .ok bs) ∧ (s.sec.alarm = none) ∧ (refBad data 1568 = false) ∧
      (s.sec.decaps.get? (whoOf s q.mbx).owner = some (ek, dk))) ∧
    (∃ s : State, ∃ q : Req, ∃ data : BufRef, ∃ host : HostData, ∃ bs : Bytes, (Served s q 0x0A02 32 .tenant) ∧
      (readBuf s (whoOf s q.mbx) data host = .ok bs) ∧ (s.sec.alarm = none) ∧ (refBad data 1568 = false) ∧
      (s.sec.decaps.get? (whoOf s q.mbx).owner = none)) ∧
    (∃ s : State, ∃ q : Req, ∃ len : Nat, ∃ data : BufRef, ∃ host : HostData, ∃ bs : Bytes, ∃ p, p = ((whoOf s q.mbx).owner) ∧
      (Served s q 0x0A02 32 .tenant) ∧ (readBuf s (whoOf s q.mbx) data host = .ok bs) ∧ (s.sec.alarm = none) ∧ (len = 40 ∨ len = 56 ∨ len = 88) ∧
      (refBad data len = false) ∧ (s.sec.importKeys.get? p = none)) ∧
    (∃ s : State, ∃ q : Req, ∃ len : Nat, ∃ data : BufRef, ∃ host : HostData, ∃ bs : Bytes, ∃ ik : Bytes, ∃ p, p = ((whoOf s q.mbx).owner) ∧
      (Served s q 0x0A02 32 .tenant) ∧ (readBuf s (whoOf s q.mbx) data host = .ok bs) ∧ (s.sec.alarm = none) ∧ (len = 40 ∨ len = 56 ∨ len = 88) ∧
      (refBad data len = false) ∧ (s.sec.importKeys.get? p = some ik)) ∧
    (∃ s : State, ∃ q : Req, ∃ len : Nat, ∃ data : BufRef, ∃ host : HostData, ∃ bs : Bytes, ∃ ik : Bytes, ∃ p, p = ((whoOf s q.mbx).owner) ∧
      ∃ b : Bytes, ∃ a, a = (keyAttr b) ∧ (Served s q 0x0A02 32 .tenant) ∧ (readBuf s (whoOf s q.mbx) data host = .ok bs) ∧ (s.sec.alarm = none) ∧
      (len = 40 ∨ len = 56 ∨ len = 88) ∧ (refBad data len = false) ∧ (s.sec.importKeys.get? p = some ik) ∧ (b.length = len - 8) ∧
      (a.ok (len - 24) = false)) ∧
    (∃ s : State, ∃ q : Req, ∃ slot : Nat, ∃ len : Nat, ∃ data : BufRef, ∃ host : HostData, ∃ bs : Bytes, ∃ ik : Bytes, ∃ p, p = ((whoOf s q.mbx).owner) ∧
      ∃ b : Bytes, ∃ a, a = (keyAttr b) ∧ ∃ k, ∃ x, (Served s q 0x0A02 32 .tenant) ∧ (readBuf s (whoOf s q.mbx) data host = .ok bs) ∧
      (s.sec.alarm = none) ∧ (len = 40 ∨ len = 56 ∨ len = 88) ∧ (refBad data len = false) ∧ (s.sec.importKeys.get? p = some ik) ∧
      (b.length = len - 8) ∧ (a.ok (len - 24) = true) ∧ (a.usage = 0) ∧ (slot = 0xFFFF) ∧ (s.parts.get? p = some x) ∧
      (keysHeld s p < x.keyQuota) ∧ (k < 16384) ∧ (s.sec.slots.get? k = none) ∧ (∀ j, j < k → s.sec.slots.get? j ≠ none)) :=
  ⟨⟨up, rq 0x400 8, 2, servedOf (by decide +kernel), by decide +kernel⟩,
   ⟨sc fun c => { c with withdrawn0 := true, withdrawn1 := true }, rq 0x400 8, 2, servedOf (by decide +kernel), by decide +kernel⟩,
   ⟨sc fun c => { c with decaps := [(2, (zeros 1568, zeros 32))], importKeys := [(3, zeros 32)] }, rq 5 32, hostBuf 1568, .data (zeros 1568),
     zeros 1568, zeros 1568, zeros 32, servedOf (by decide +kernel), okOf (by decide +kernel), by decide +kernel⟩,
   ⟨up, rq 5 32, hostBuf 1568, .data (zeros 1568), zeros 1568, servedOf (by decide +kernel), okOf (by decide +kernel), by decide +kernel⟩,
   ⟨up, rq 5 32, 40, hostBuf 40, .data (wr a0), wr a0, _, rfl, servedOf (by decide +kernel), okOf (by decide +kernel), by decide +kernel⟩,
   ⟨kimp, rq 5 32, 40, hostBuf 40, .data (wr a0), wr a0, zeros 32, _, rfl, servedOf (by decide +kernel), okOf (by decide +kernel),
     by decide +kernel⟩,
   ⟨kimp, rq 5 32, 40, hostBuf 40, .data (wr (attrB 2 1 0 3 5 16)), wr (attrB 2 1 0 3 5 16), zeros 32, _, rfl, attrB 2 1 0 3 5 16, _, rfl,
     servedOf (by decide +kernel), okOf (by decide +kernel), by decide +kernel⟩,
   ⟨kimp, rq 5 32, 0xFFFF, 40, hostBuf 40, .data (wr a0), wr a0, zeros 32, _, rfl, a0, _, rfl, 0, part, servedOf (by decide +kernel),
     okOf (by decide +kernel), by decide +kernel⟩⟩

/-- `Obligations.KeyStore`: its clauses 5.3.3, 5.3.4, 5.3.5, 5.3.6, 5.3.7, 5.3.8, 5.3.9.1, 5.3.9.2.
Clauses 5.3.3, 5.3.4, 5.3.5, 5.3.6, 5.3.7, 5.3.8, 5.3.9.1, 5.3.9.2 without the hypothesis on an opaque constant. -/
theorem wit_KeyStore_2 :
    (∃ s : State, ∃ q : Req, ∃ slot : Nat, ∃ len : Nat, ∃ data : BufRef, ∃ host : HostData, ∃ bs : Bytes, ∃ ik : Bytes, ∃ p, p = ((whoOf s q.mbx).owner) ∧
      ∃ b : Bytes, ∃ a, a = (keyAttr b) ∧ ∃ x, (Served s q 0x0A02 32 .tenant) ∧ (readBuf s (whoOf s q.mbx) data host = .ok bs) ∧
      (s.sec.alarm = none) ∧ (len = 40 ∨ len = 56 ∨ len = 88) ∧ (refBad data len = false) ∧ (s.sec.importKeys.get? p = some ik) ∧
      (b.length = len - 8) ∧ (a.ok (len - 24) = true) ∧ (a.usage = 0) ∧ (slot = 0xFFFF) ∧ (s.parts.get? p = some x) ∧ (x.keyQuota ≤ keysHeld s p)) ∧
    (∃ s : State, ∃ q : Req, ∃ slot : Nat, ∃ len : Nat, ∃ data : BufRef, ∃ host : HostData, ∃ bs : Bytes, ∃ ik : Bytes, ∃ p, p = ((whoOf s q.mbx).owner) ∧
      ∃ b : Bytes, ∃ a, a = (keyAttr b) ∧ ∃ j, ∃ x, (Served s q 0x0A02 32 .tenant) ∧ (readBuf s (whoOf s q.mbx) data host = .ok bs) ∧
      (s.sec.alarm = none) ∧ (len = 40 ∨ len = 56 ∨ len = 88) ∧ (refBad data len = false) ∧ (s.sec.importKeys.get? p = some ik) ∧
      (b.length = len - 8) ∧ (a.ok (len - 24) = true) ∧ (2 ≤ a.usage) ∧ (slot = 0xFFFF) ∧ ((j, x) ∈ s.sec.slots) ∧ (x.owner = p) ∧
      (x.usage = a.usage) ∧ (j < 16384)) ∧
    (∃ s : State, ∃ q : Req, ∃ slot : Nat, ∃ len : Nat, ∃ data : BufRef, ∃ host : HostData, ∃ bs : Bytes, ∃ ik : Bytes, ∃ p, p = ((whoOf s q.mbx).owner) ∧
      ∃ b : Bytes, ∃ a, a = (keyAttr b) ∧ ∃ x, (Served s q 0x0A02 32 .tenant) ∧ (readBuf s (whoOf s q.mbx) data host = .ok bs) ∧
      (s.sec.alarm = none) ∧ (len = 40 ∨ len = 56 ∨ len = 88) ∧ (refBad data len = false) ∧ (s.sec.importKeys.get? p = some ik) ∧
      (b.length = len - 8) ∧ (a.ok (len - 24) = true) ∧ (a.usage = 0) ∧ (slot < 16384) ∧ (s.sec.slots.get? slot = some x) ∧ (x.owner = p) ∧
      (x.state = .erased) ∧ (x.usage = 0) ∧ (x.nextCount < 2 ^ 48)) ∧
    (∃ s : State, ∃ q : Req, ∃ slot : Nat, ∃ len : Nat, ∃ data : BufRef, ∃ host : HostData, ∃ bs : Bytes, ∃ ik : Bytes, ∃ p, p = ((whoOf s q.mbx).owner) ∧
      ∃ b : Bytes, ∃ a, a = (keyAttr b) ∧ ∃ x, (Served s q 0x0A02 32 .tenant) ∧ (readBuf s (whoOf s q.mbx) data host = .ok bs) ∧
      (s.sec.alarm = none) ∧ (len = 40 ∨ len = 56 ∨ len = 88) ∧ (refBad data len = false) ∧ (s.sec.importKeys.get? p = some ik) ∧
      (b.length = len - 8) ∧ (a.ok (len - 24) = true) ∧ (a.usage ≠ 1) ∧ (slot < 16384) ∧ (s.sec.slots.get? slot = some x) ∧ (x.owner = p) ∧
      (x.state = .erased) ∧ (x.usage ≠ a.usage)) ∧
    (∃ s : State, ∃ q : Req, ∃ len : Nat, ∃ data : BufRef, ∃ host : HostData, ∃ bs : Bytes, ∃ ik : Bytes, ∃ p, p = ((whoOf s q.mbx).owner) ∧
      ∃ b : Bytes, ∃ a, a = (keyAttr b) ∧ ∃ m, ∃ k, (Served s q 0x0A02 32 .tenant) ∧ (readBuf s (whoOf s q.mbx) data host = .ok bs) ∧
      (∀ n x, (n, x) ∈ s.dram.plots → x.owner = p → x.state ≠ .assigned) ∧ (s.sec.alarm = none) ∧ (len = 40 ∨ len = 56 ∨ len = 88) ∧
      (refBad data len = false) ∧ (s.sec.importKeys.get? p = some ik) ∧ (b.length = len - 8) ∧ (a.ok (len - 24) = true) ∧ (a.usage = 1) ∧
      (s.sec.memKeys.get? p = some m) ∧ (m.key = some k) ∧ ((s.sec.logs.getD p []).length < 4096)) ∧
    (∃ s : State, ∃ q : Req, ∃ len : Nat, ∃ data : BufRef, ∃ host : HostData, ∃ bs : Bytes, ∃ ik : Bytes, ∃ p, p = ((whoOf s q.mbx).owner) ∧
      ∃ b : Bytes, ∃ a, a = (keyAttr b) ∧ ∃ m, ∃ k, ∃ n, ∃ x, (Served s q 0x0A02 32 .tenant) ∧ (readBuf s (whoOf s q.mbx) data host = .ok bs) ∧
      (s.sec.alarm = none) ∧ (len = 40 ∨ len = 56 ∨ len = 88) ∧ (refBad data len = false) ∧ (s.sec.importKeys.get? p = some ik) ∧
      (b.length = len - 8) ∧ (a.ok (len - 24) = true) ∧ (a.usage = 1) ∧ (s.sec.memKeys.get? p = some m) ∧ (m.key = some k) ∧
      ((n, x) ∈ s.dram.plots) ∧ (x.owner = p) ∧ (x.state = .assigned)) ∧
    (∃ s : State, ∃ q : Req, ∃ len : Nat, ∃ data : BufRef, ∃ host : HostData, ∃ bs : Bytes, ∃ ik : Bytes, ∃ p, p = ((whoOf s q.mbx).owner) ∧
      ∃ b : Bytes, ∃ a, a = (keyAttr b) ∧ ∃ m, (Served s q 0x0A02 32 .tenant) ∧ (readBuf s (whoOf s q.mbx) data host = .ok bs) ∧
      (s.sec.alarm = none) ∧ (len = 40 ∨ len = 56 ∨ len = 88) ∧ (refBad data len = false) ∧ (s.sec.importKeys.get? p = some ik) ∧
      (b.length = len - 8) ∧ (a.ok (len - 24) = true) ∧ (a.usage = 1) ∧ (s.sec.memKeys.get? p = some m) ∧ (m.key = none) ∧
      ((s.sec.logs.getD p []).length < 4096)) ∧
    (∃ s : State, ∃ q : Req, ∃ len : Nat, ∃ data : BufRef, ∃ host : HostData, ∃ bs : Bytes, ∃ ik : Bytes, ∃ p, p = ((whoOf s q.mbx).owner) ∧
      ∃ b : Bytes, ∃ a, a = (keyAttr b) ∧ ∃ m, (Served s q 0x0A02 32 .tenant) ∧ (readBuf s (whoOf s q.mbx) data host = .ok bs) ∧
      (s.sec.alarm = none) ∧ (len = 40 ∨ len = 56 ∨ len = 88) ∧ (refBad data len = false) ∧ (s.sec.importKeys.get? p = some ik) ∧
      (b.length = len - 8) ∧ (a.ok (len - 24) = true) ∧ (a.usage = 1) ∧ (s.sec.memKeys.get? p = some m) ∧ (m.key = none) ∧
      ((s.sec.logs.getD p []).length < 4096)) :=
  ⟨⟨kst ((List.range 4).map fun k => (k, slot1)), rq 5 32, 0xFFFF, 40, hostBuf 40, .data (wr a0), wr a0, zeros 32, _, rfl, a0, _, rfl, part,
     servedOf (by decide +kernel), okOf (by decide +kernel), by decide +kernel⟩,
   ⟨kst [(70, slot1)], rq 5 32, 0xFFFF, 56, hostBuf 56, .data (wr a2), wr a2, zeros 32, _, rfl, a2, _, rfl, 70, slot1,
     servedOf (by decide +kernel), okOf (by decide +kernel), by decide +kernel⟩,
   ⟨kst [(70, ers 0)], rq 5 32, 70, 40, hostBuf 40, .data (wr a0), wr a0, zeros 32, _, rfl, a0, _, rfl, ers 0, servedOf (by decide +kernel),
     okOf (by decide +kernel), by decide +kernel⟩,
   ⟨kst [(70, ers 0)], rq 5 32, 70, 56, hostBuf 56, .data (wr a2), wr a2, zeros 32, _, rfl, a2, _, rfl, ers 0, servedOf (by decide +kernel),
     okOf (by decide +kernel), by decide +kernel⟩,
   ⟨kmm mk1, rq 5 32, 88, hostBuf 88, .data (wr a1), wr a1, zeros 32, _, rfl, a1, _, rfl, mk1, zeros 64, servedOf (by decide +kernel),
     okOf (by decide +kernel), allMem (by decide +kernel), by decide +kernel⟩,
   ⟨{ plots kimp [] with parts := [(2, part)] }, rq 5 32, 88, hostBuf 88, .data (wr a1), wr a1, zeros 32, _, rfl, a1, _, rfl,
     { key := some (zeros 64), imported := false, check := [] }, zeros 64, 5, { state := .assigned, owner := 2, slot := some 0 },
     servedOf (by decide +kernel), okOf (by decide +kernel), by decide +kernel⟩,
   ⟨kmm (mk0 (zeros 32)), rq 5 32, 88, hostBuf 88, .data (wr a1), wr a1, zeros 32, _, rfl, a1, _, rfl, mk0 (zeros 32),
     servedOf (by decide +kernel), okOf (by decide +kernel), by decide +kernel⟩,
   ⟨kmm (mk0 (7 :: zeros 31)), rq 5 32, 88, hostBuf 88, .data (wr a1), wr a1, zeros 32, _, rfl, a1, _, rfl, mk0 (7 :: zeros 31),
     servedOf (by decide +kernel), okOf (by decide +kernel), by decide +kernel⟩⟩

/-- `Obligations.KeyStore`: its clauses 6.1, 6.2, 7, 8.1, 8.2, 8.3, 9.1, 9.2. -/
theorem wit_KeyStore_3 :
    (∃ s : State, ∃ q : Req, ∃ slot : Nat, ∃ x : KeySlot, (Served s q 0x0A03 8 .opOrTenant) ∧
      (∀ id n, (id, n) ∈ s.stor.spaces → n.encrypt = true → n.keySlot ≠ slot) ∧ (∀ g, s.ckp = some g → x.usage = 3 → g.part ≠ x.owner) ∧
      (∀ j i, (j, i) ∈ s.insts → x.usage = 2 → i.part = x.owner → i.freezing = false) ∧ (s.sec.alarm = none) ∧ (s.sec.slots.get? slot = some x) ∧
      (mayActOn (whoOf s q.mbx) x.owner = true) ∧ (s.boot.opAbsent = false)) ∧
    (∃ s : State, ∃ q : Req, ∃ slot : Nat, ∃ x : KeySlot, (Served s q 0x0A03 8 .opOrTenant) ∧
      ((∃ id n, (id, n) ∈ s.stor.spaces ∧ n.encrypt = true ∧ n.keySlot = slot) ∨ (∃ g, s.ckp = some g ∧ x.usage = 3 ∧ g.part = x.owner) ∨ (∃ j i, (j, i) ∈ s.insts ∧ x.usage = 2 ∧ i.part = x.owner ∧ i.freezing = true)) ∧
      (s.sec.alarm = none) ∧ (s.sec.slots.get? slot = some x) ∧ (mayActOn (whoOf s q.mbx) x.owner = true) ∧ (s.boot.opAbsent = false)) ∧
    (∃ s : State, ∃ q : Req, ∃ first : Nat, ∃ count : Nat, ∃ out : BufRef, (Served s q 0x0A04 24 .opOrTenant) ∧ (s.sec.alarm = none) ∧
      (1 ≤ count) ∧ (count ≤ 1024) ∧ (first + count ≤ 16384) ∧ (out.space = 1) ∧ (24 * count ≤ out.len) ∧
      (mayDma s (whoOf s q.mbx).port (whoOf s q.mbx).inst = true)) ∧
    (∃ s : State, ∃ q : Req, ∃ p : Nat, ∃ slots : Nat, ∃ others, others = (((s.parts.filter fun e => decide (e.1 ≠ p)).map fun e => e.2.keyQuota).sum) ∧
      (Served s q 0x0A05 8 .operator) ∧ (s.sec.alarm = none) ∧ (p < 16) ∧ (partExists s p = true) ∧ (others + slots ≤ 16384) ∧
      (keysHeld s p ≤ slots)) ∧
    (∃ s : State, ∃ q : Req, ∃ p : Nat, ∃ slots : Nat, ∃ others, others = (((s.parts.filter fun e => decide (e.1 ≠ p)).map fun e => e.2.keyQuota).sum) ∧
      (Served s q 0x0A05 8 .operator) ∧ (s.sec.alarm = none) ∧ (p < 16) ∧ (partExists s p = true) ∧ (16384 < others + slots)) ∧
    (∃ s : State, ∃ q : Req, ∃ p : Nat, ∃ slots : Nat, ∃ others, others = (((s.parts.filter fun e => decide (e.1 ≠ p)).map fun e => e.2.keyQuota).sum) ∧
      (Served s q 0x0A05 8 .operator) ∧ (s.sec.alarm = none) ∧ (p < 16) ∧ (partExists s p = true) ∧ (others + slots ≤ 16384) ∧
      (slots < keysHeld s p)) ∧
    (∃ s : State, ∃ q : Req, (Served s q 0x0A01 8 .operator) ∧ (s.sec.alarm.isSome = true)) ∧
    (∃ s : State, ∃ q : Req, (Served s q 0x0A05 8 .operator) ∧ (s.sec.alarm.isSome = true)) :=
  ⟨⟨keys, rq 0x400 8, 70, slot1, servedOf (by decide +kernel), allMem (by decide +kernel), allSome (by decide +kernel),
     allMem (by decide +kernel), by decide +kernel⟩,
   ⟨{ keys with insts := [(5, { Wit.inst with freezing := true })] }, rq 0x400 8, 70, slot1, servedOf (by decide +kernel),
     .inr (.inr ⟨5, _, .head _, rfl, rfl, rfl⟩), by decide +kernel⟩,
   ⟨keys, rq 0x400 24, 69, 3, hostBuf 72, servedOf (by decide +kernel), by decide +kernel⟩,
   ⟨keys, rq 0x400 8, 2, 16384, _, rfl, servedOf (by decide +kernel), by decide +kernel⟩,
   ⟨{ keys with parts := [(2, part), (3, part)] }, rq 0x400 8, 2, 16381, _, rfl, servedOf (by decide +kernel), by decide +kernel⟩,
   ⟨keys, rq 0x400 8, 2, 0, _, rfl, servedOf (by decide +kernel), by decide +kernel⟩,
   ⟨ald up, rq 0x400 8, servedOf (by decide +kernel), by decide +kernel⟩,
   ⟨ald up, rq 0x400 8, servedOf (by decide +kernel), by decide +kernel⟩⟩

/-- `Obligations.Attestation`: its clauses 1, 2, 3, 4, 5, 6, 7, 8. -/
theorem wit_Attestation_1 :
    (∃ s : State, ∃ q : Req, ∃ out : BufRef, (Served s q 0x0A06 64 .opOrTenant) ∧ (s.sec.alarm = none) ∧ (refBad out 17408 = false) ∧
      (s.longOps = []) ∧ (s.sec.signing = none) ∧ (s.sec.doe = []) ∧ (s.sec.quotes = [])) ∧
    (∃ s : State, ∃ q : Req, ∃ out : BufRef, ∃ p, p = ((whoOf s q.mbx).owner) ∧ ∃ ek, ek = (s.sec.encaps.getD p []) ∧
      (Served s q 0x0A06 64 .tenant) ∧ ((whoOf s q.mbx).op = false) ∧ (s.sec.alarm = none) ∧ (p < 16) ∧ (partExists s p = true) ∧
      (refBad out (17408 + ek.length) = false) ∧ (s.longOps = []) ∧ (s.sec.signing = none) ∧ (s.sec.doe = []) ∧ (s.sec.quotes = [])) ∧
    (∃ s : State, ∃ q : Req, ∃ out : BufRef, (Served s q 0x0A06 64 .opOrTenant) ∧ (s.sec.alarm = none) ∧ (refBad out 17408 = false) ∧
      (s.longOps = []) ∧ (s.sec.signing.isSome = true)) ∧
    (∃ s : State, ∃ q : Req, ∃ out : BufRef, (Served s q 0x0A06 64 .opOrTenant) ∧ (s.sec.alarm = none) ∧ (refBad out 29904 = false) ∧
      (out.space = 1) ∧ (mayDma s (whoOf s q.mbx).port (whoOf s q.mbx).inst = true) ∧ (s.longOps = []) ∧ (s.sec.doe = []) ∧ (s.sec.quotes = [])) ∧
    (∃ s : State, ∃ q : Req, ∃ part : Nat, (Served s q 0x0A06 64 .tenant) ∧ ((whoOf s q.mbx).op = false) ∧ (part ≠ 0xFF) ∧
      (part ≠ (whoOf s q.mbx).owner) ∧ (s.sec.doe = []) ∧ (s.sec.quotes = [])) ∧
    (∃ s : State, ∃ q : Req, ∃ out : BufRef, (Served s q 0x0A06 64 .opOrTenant) ∧ (s.sec.alarm = none) ∧ (out.len < 17408) ∧ (s.sec.doe = []) ∧
      (s.sec.quotes = [])) ∧
    (∃ s : State, ∃ q : Req, ∃ out : BufRef, (Served s q 0x0A06 64 .opOrTenant) ∧ (s.sec.alarm = none) ∧ (refBad out 17408 = false) ∧
      (2 ≤ quotesInProgress s (some q.mbx) ∨ 32 ≤ quotesInProgress s none) ∧ (s.sec.signing.isSome = true)) ∧
    (∃ s : State, ∃ g : Signing, ∃ n : Nat, ∃ o : LongOp, ∃ kind : Nat, ∃ addr : Nat, ∃ len : Nat, ∃ b : Bytes, (s.on = true) ∧
      (s.sec.signing = some g) ∧ (g.op = some n) ∧ (s.longOps.get? n = some o) ∧ (o.data = .quote kind b 1 addr len) ∧
      (g.body.length + 17088 ≤ len) ∧ (s.sec.doe = []) ∧ (s.sec.quotes = []) ∧ (mayDma s (whoOf s o.mbx).port (whoOf s o.mbx).inst = true)) :=
  ⟨⟨att, rq 0x400 64, hostBuf 17408, servedOf (by decide +kernel), by decide +kernel⟩,
   ⟨att, rq 5 64, hostBuf 20000, _, rfl, _, rfl, servedOf (by decide +kernel), by decide +kernel⟩,
   ⟨{ att with sec := { att.sec with signing := some (sgn (some 9)), quotes := [77] } }, rq 5 64, hostBuf 20000, servedOf (by decide +kernel),
     by decide +kernel⟩,
   ⟨att, rq 0x400 64, hostBuf 29904, servedOf (by decide +kernel), by decide +kernel⟩,
   ⟨att, rq 5 64, 3, servedOf (by decide +kernel), by decide +kernel⟩,
   ⟨att, rq 5 64, hostBuf 17407, servedOf (by decide +kernel), by decide +kernel⟩,
   ⟨{ att with sec := { att.sec with signing := some (sgn (some 1)), quotes := [2] }, longOps := [(1, qop 20000), (2, qop 20000)] }, rq 5 64,
     hostBuf 17408, servedOf (by decide +kernel), by decide +kernel⟩,
   ⟨{ att with sec := { att.sec with signing := some (sgn (some 9)) }, longOps := [(9, qop 17408)] }, sgn (some 9), 9, qop 17408, 1, 0x100000,
     17408, zeros 320, by decide +kernel⟩⟩

/-- `Obligations.Attestation`: its clauses 9, 10, 11.1, 11.2, 11.3, 12, 13.1, 13.2. -/
theorem wit_Attestation_2 :
    (∃ s : State, ∃ g : Signing, (s.on = true) ∧ (s.sec.signing = some g) ∧ (g.op = none) ∧ (g.body.length = 320) ∧ (s.sec.doe = []) ∧
      (s.sec.quotes = [])) ∧
    (∃ s : State, ∃ g : Signing, ∃ d : DoeQuote, ∃ l : List DoeQuote, (s.on = true) ∧ (s.sec.signing = some g) ∧ (g.op = none) ∧
      (s.sec.doe = d :: l) ∧ (d.kind = 1)) ∧
    (∃ s : State, ∃ q : Req, ∃ scope : Nat, ∃ count : Nat, ∃ out : BufRef, (Served s q 0x0A07 32 .opOrTenant) ∧ (s.sec.alarm = none) ∧
      (out.space = 1) ∧ (64 * count ≤ out.len) ∧ (mayDma s (whoOf s q.mbx).port (whoOf s q.mbx).inst = true) ∧ (scope = 0xFF)) ∧
    (∃ s : State, ∃ q : Req, ∃ scope : Nat, ∃ count : Nat, ∃ out : BufRef, (Served s q 0x0A07 32 .opOrTenant) ∧ (s.sec.alarm = none) ∧
      (out.space = 1) ∧ (64 * count ≤ out.len) ∧ (mayDma s (whoOf s q.mbx).port (whoOf s q.mbx).inst = true) ∧ (scope < 16) ∧
      (partExists s scope = true) ∧ ((whoOf s q.mbx).op = true ∨ (whoOf s q.mbx).owner = scope)) ∧
    (∃ s : State, ∃ q : Req, ∃ scope : Nat, ∃ count : Nat, ∃ out : BufRef, (Served s q 0x0A07 32 .opOrTenant) ∧ (s.sec.alarm = none) ∧
      (out.space = 1) ∧ (64 * count ≤ out.len) ∧ (mayDma s (whoOf s q.mbx).port (whoOf s q.mbx).inst = true) ∧ ((whoOf s q.mbx).op = false) ∧
      (scope ≠ 0xFF) ∧ ((whoOf s q.mbx).owner ≠ scope)) ∧
    (∃ s : State, ∃ p : Fin 2, (s.on = true) ∧ (s.boot.rom = true) ∧ ((s.port p).perst = false)) ∧
    (∃ s : State, ∃ p : Fin 2, ∃ nonce : Bytes, ∃ kind : Nat, (s.on = true) ∧ (s.boot.rom = true) ∧ (s.boot.failed = false) ∧
      ((s.port p).perst = false) ∧ (s.sec.alarm = none) ∧ (nonce.length = 32) ∧ (kind = 3)) ∧
    (∃ s : State, ∃ p : Fin 2, ∃ nonce : Bytes, ∃ kind : Nat, (s.on = true) ∧ (s.boot.rom = true) ∧ (s.boot.failed = false) ∧
      ((s.port p).perst = false) ∧ (s.sec.alarm = none) ∧ (nonce.length = 32) ∧ (kind = 1) ∧ (s.sec.signing = none) ∧ (s.sec.doe = [])) :=
  ⟨⟨{ att with sec := { att.sec with signing := some (sgn none) } }, sgn none, by decide +kernel⟩,
   ⟨{ att with sec := { att.sec with signing := some (sgn none), doe := [dq1] } }, sgn none, dq1, [], by decide +kernel⟩,
   ⟨att, rq 5 32, 0xFF, 2, hostBuf 128, servedOf (by decide +kernel), by decide +kernel⟩,
   ⟨att, rq 5 32, 2, 2, hostBuf 128, servedOf (by decide +kernel), by decide +kernel⟩,
   ⟨att, rq 5 32, 3, 2, hostBuf 128, servedOf (by decide +kernel), by decide +kernel⟩,
   ⟨up, 0, by decide +kernel⟩,
   ⟨att, 0, zeros 32, 3, by decide +kernel⟩,
   ⟨att, 0, zeros 32, 1, by decide +kernel⟩⟩

/-- `Obligations.Attestation`: its clauses 13.3, 13.4. -/
theorem wit_Attestation_3 :
    (∃ s : State, ∃ p : Fin 2, ∃ nonce : Bytes, ∃ kind : Nat, (s.on = true) ∧ (s.boot.rom = true) ∧ (s.boot.failed = false) ∧
      ((s.port p).perst = false) ∧ (s.sec.alarm = none) ∧ (nonce.length = 32) ∧ (kind = 1) ∧ (s.sec.signing.isSome = true)) ∧
    (∃ s : State, ∃ p : Fin 2, ∃ nonce : Bytes, ∃ kind : Nat, ∃ part, (s.on = true) ∧ (s.boot.rom = true) ∧ (s.boot.failed = false) ∧
      ((s.port p).perst = false) ∧ (s.sec.alarm = none) ∧ (nonce.length = 32) ∧ (kind = 2) ∧ (s.full = false) ∧ (part < 16)) :=
  ⟨⟨{ att with sec := { att.sec with signing := some (sgn (some 9)) } }, 0, zeros 32, 1, by decide +kernel⟩,
   ⟨{ att with boot := { rom := true, level := 1 } }, 0, zeros 32, 2, 3, by decide +kernel⟩⟩

/-- `Obligations.AlarmsAndEntropy`: its clauses 1.1, 1.2, 1.3, 2, 3, 4, 5, 6. -/
theorem wit_AlarmsAndEntropy_1 :
    (∃ s : State, ∃ k : Fin 7, (s.on = true) ∧ (k.val = 1)) ∧
    (∃ s : State, ∃ k : Fin 7, (s.on = true) ∧ (k.val = 2)) ∧
    (∃ s : State, ∃ k : Fin 7, (s.on = true) ∧ (k.val = 4) ∧ (1200 ≤ s.power.tj0 ∨ 1200 ≤ s.power.tj1)) ∧
    (∃ s : State, ∃ k : Fin 7, (s.on = true) ∧ (k.val ≠ 1) ∧ (k.val ≠ 2) ∧ (k.val = 4 → s.power.tj0 < 1200 ∧ s.power.tj1 < 1200) ∧
      (s.stor.ops = []) ∧ (s.link.runs = []) ∧ (s.sessions = []) ∧ (s.ckp = none) ∧ (s.sec.doe = []) ∧ (s.sec.quotes = [])) ∧
    (∃ s : State, (s.on = true) ∧ (s.sec.alarm.isSome = true) ∧ (s.lc < s.sec.alarmAt + 10000000)) ∧
    (∃ s : State, (s.on = true) ∧ (s.sec.alarm.isSome = true) ∧ (s.sec.alarmAt + 10000000 ≤ s.lc) ∧ (noEntropy s = false) ∧
      ((s.sec.memKeys.map Prod.fst).Nodup)) ∧
    (∃ s : State, (s.on = true)) ∧
    (∃ s : State, (s.on = true) ∧ (s.sec.waiting = []) ∧ (s.stor.ops = []) ∧ (s.sec.unseeded.Nodup)) :=
  ⟨⟨up, 1, by decide +kernel⟩,
   ⟨up, 2, by decide +kernel⟩,
   ⟨pw { tj0 := 1200 }, 4, by decide +kernel⟩,
   ⟨{ keys with sec := { keys.sec with memKeys := [(2, mk1)], deviceKey := some (zeros 64), firmwareKey := true, importKeys := [(2, zeros 32)] } },
     3, by decide +kernel⟩,
   ⟨ald up, by decide +kernel⟩,
   ⟨alc, by decide +kernel⟩,
   ⟨up, by decide +kernel⟩,
   ⟨sc fun c => { c with withdrawn0 := true, withdrawn1 := true, unseeded := [4, 38] }, by decide +kernel⟩⟩

/-- `Obligations.AlarmsAndEntropy`: its clauses 7, 8, 9, 10, 11. -/
theorem wit_AlarmsAndEntropy_2 :
    (∃ s : State, ∃ q : Req, ∃ n : Nat, ∃ k : Nat, ∃ p : Nat, ∃ since : Nat, ∃ ses : Session, (s.on = true) ∧ (s.stor.ops = []) ∧
      (s.sec.unseeded = []) ∧ (s.sec.alarm = none) ∧ (s.sec.waiting = [{ since := since, what := .request q 0x0A01 n k [p] }]) ∧
      ((s.mbx q.mbx).session = some ses) ∧ ((s.mbx q.mbx).sessionNo = k) ∧ ((s.mbx q.mbx).enable = true) ∧ (q.bodyBad = false) ∧ (p < 16) ∧
      (partExists s p = true) ∧ ((s.sec.logs.getD p []).length < 4096)) ∧
    (∃ s : State, ∃ d : WaitingDraw, ∃ l : List WaitingDraw, (s.on = true) ∧ (s.sec.waiting = d :: l) ∧ (s.lc < d.since + 10000000)) ∧
    (∃ s : State, ∃ q : Req, ∃ op : Nat, ∃ n : Nat, ∃ k : Nat, ∃ since : Nat, ∃ a : List Nat, ∃ l : List WaitingDraw, ∃ ses : Session, (s.on = true) ∧
      (s.sec.waiting = { since := since, what := .request q op n k a } :: l) ∧ (since + 10000000 ≤ s.lc) ∧ ((s.mbx q.mbx).session = some ses) ∧
      ((s.mbx q.mbx).sessionNo = k) ∧ ((s.mbx q.mbx).enable = true)) ∧
    (∃ s : State, (s.on = true) ∧ (noEntropy s = false)) ∧
    (∃ s : State, ∃ e : Fin 40, (s.on = true) ∧ (noEntropy s = true) ∧ (e.val ∉ s.sec.unseeded)) :=
  ⟨⟨sc fun c => { c with withdrawn0 := true, withdrawn1 := true, waiting := [wdr] }, rq 0x400 8, 3, 0, 2, 10,
     { level := 3, features := 0x1FFFF, driverVersion := 1 }, by decide +kernel⟩,
   ⟨sc fun c => { c with withdrawn0 := true, withdrawn1 := true, waiting := [wdr] }, wdr, [], by decide +kernel⟩,
   ⟨{ (sc fun c => { c with withdrawn0 := true, withdrawn1 := true, waiting := [wdr] }) with clk := { lc := 20000000, rootLocked := true } },
     rq 0x400 8, 0x0A01, 3, 0, 10, [2], [], { level := 3, features := 0x1FFFF, driverVersion := 1 }, by decide +kernel⟩,
   ⟨sc fun c => { c with withdrawn0 := true, unseeded := [4, 38] }, by decide +kernel⟩,
   ⟨sc fun c => { c with withdrawn0 := true, withdrawn1 := true }, 4, by decide +kernel⟩⟩

/-- `Obligations.ServiceAndTest`: its clauses 1, 2, 3, 4.1, 4.2, 4.3, 4.4, 4.5. -/
theorem wit_ServiceAndTest_1 :
    (∃ state : State → Nat → UnitState, state = (fun (s : State) (u : Nat) => (s.units.getD u {}).state) ∧
      ∃ s : State, ∃ u : Nat, (s.on = true) ∧ (0x140 ≤ u ∧ u < 0x160 ∨ 0x170 ≤ u ∧ u < 0x180 ∨ 0x1A4 ≤ u ∧ u < 0x1AD) ∧ (state s u ≠ .failed)) ∧
    (∃ state : State → Nat → UnitState, state = (fun (s : State) (u : Nat) => (s.units.getD u {}).state) ∧
      ∃ s : State, ∃ p : Fin 8, (s.on = true) ∧ (state s (0x190 + p) ≠ .failed)) ∧
    (∃ state : State → Nat → UnitState, state = (fun (s : State) (u : Nat) => (s.units.getD u {}).state) ∧
      ∃ s : State, ∃ u : Nat, (state s u = .failed)) ∧
    (∃ state : State → Nat → UnitState, state = (fun (s : State) (u : Nat) => (s.units.getD u {}).state) ∧
      ∃ s : State, ∃ q : Req, ∃ u : Nat, (Served s q 0x0E01 4 .operator) ∧ (s.full = true) ∧ (0x140 ≤ u) ∧ (u < 0x160) ∧
      (state s u = .inService) ∧ (4 < unitsIn s (0x140 + 16 * ((u - 0x140) / 16)) 16) ∧ (s.longOps = [])) ∧
    (∃ state : State → Nat → UnitState, state = (fun (s : State) (u : Nat) => (s.units.getD u {}).state) ∧
      ∃ s : State, ∃ q : Req, ∃ u : Nat, (Served s q 0x0E01 4 .operator) ∧ (s.full = true) ∧ (0x140 ≤ u) ∧ (u < 0x160) ∧
      (state s u = .inService) ∧ (unitsIn s (0x140 + 16 * ((u - 0x140) / 16)) 16 ≤ 4)) ∧
    (∃ state : State → Nat → UnitState, state = (fun (s : State) (u : Nat) => (s.units.getD u {}).state) ∧
      ∃ s : State, ∃ q : Req, ∃ u : Nat, ∃ g, (Served s q 0x0E01 4 .operator) ∧ (s.full = true) ∧ (u = 0xA0 + g) ∧ (g < 16) ∧
      (state s u = .inService) ∧ ((s.group g).session.isSome = true)) ∧
    (∃ state : State → Nat → UnitState, state = (fun (s : State) (u : Nat) => (s.units.getD u {}).state) ∧
      ∃ s : State, ∃ q : Req, ∃ u : Nat, ∃ g, (Served s q 0x0E01 4 .operator) ∧ (s.full = true) ∧ (u = 0xA0 + g) ∧ (g < 16) ∧
      (state s u = .inService) ∧ ((s.group g).session = none) ∧ ((s.group g).state = .assigned) ∧ (s.longOps = [])) ∧
    (∃ state : State → Nat → UnitState, state = (fun (s : State) (u : Nat) => (s.units.getD u {}).state) ∧
      ∃ s : State, ∃ q : Req, ∃ u : Nat, ∃ o, ∃ x, (Served s q 0x0E01 4 .operator) ∧ (s.full = true) ∧ (0x100 ≤ u) ∧ (u < 0x140) ∧
      (state s u = .inService) ∧ ((o, x) ∈ s.pkt.shares) ∧ (x.clusters.testBit (u - 0x100) = true) ∧
      (∀ c, c < 64 → c ≠ u - 0x100 → x.clusters.testBit c = false ∨ state s (0x100 + c) ≠ .inService)) :=
  ⟨⟨_, rfl, ut [(0x145, uis)] up, 0x145, by decide +kernel⟩,
   ⟨_, rfl, ut [(0x195, uis)] up, 5, by decide +kernel⟩,
   ⟨_, rfl, ut [(0x145, { state := .failed })] up, 0x145, by decide +kernel⟩,
   ⟨_, rfl, ut ((List.range 16).map fun k => (0x150 + k, uis)) up, rq 0x400 4, 0x153, servedOf (by decide +kernel), by decide +kernel⟩,
   ⟨_, rfl, ut ((List.range 4).map fun k => (0x150 + k, uis)) up, rq 0x400 4, 0x153, servedOf (by decide +kernel), by decide +kernel⟩,
   ⟨_, rfl, ut [(0xA0, uis)] (ys sess), rq 0x400 4, 0xA0, 0, servedOf (by decide +kernel), by decide +kernel⟩,
   ⟨_, rfl, ut [(0xA0, uis)] yew, rq 0x400 4, 0xA0, 0, servedOf (by decide +kernel), by decide +kernel⟩,
   ⟨_, rfl, ut [(0x103, uis)] { up with pkt := { shares := [(2, { clusters := 8, base := 0, size := 0, cacheLimit := 0 })] } }, rq 0x400 4,
     0x103, 2, { clusters := 8, base := 0, size := 0, cacheLimit := 0 }, servedOf (by decide +kernel), by decide +kernel⟩⟩

/-- `Obligations.ServiceAndTest`: its clauses 4.6, 4.7, 4.8, 5, 6, 7, 8.1, 8.2. -/
theorem wit_ServiceAndTest_2 :
    (∃ state : State → Nat → UnitState, state = (fun (s : State) (u : Nat) => (s.units.getD u {}).state) ∧
      ∃ s : State, ∃ q : Req, ∃ u : Nat, ∃ k, (Served s q 0x0E01 4 .operator) ∧ (s.full = true) ∧ (k < 8) ∧ (u = 0x160 + k ∨ u = 0x168 + k) ∧
      (state s u = .inService) ∧ (k ∈ mapOf s (k / 4))) ∧
    (∃ s : State, ∃ q : Req, ∃ u : Nat, (Served s q 0x0E01 4 .operator) ∧ (s.full = true) ∧ (u < 0x90 ∨ 0x180 ≤ u)) ∧
    (∃ s : State, ∃ q : Req, (Served s q 0x0E01 4 .operator) ∧ (s.full = false)) ∧
    (∃ state : State → Nat → UnitState, state = (fun (s : State) (u : Nat) => (s.units.getD u {}).state) ∧
      ∃ s : State, ∃ u : Nat, ∃ n : Nat, ∃ o : LongOp, (∀ k, (s.eth k).reorder = [] ∧ (s.eth k).buffer = []) ∧
      (∀ k x, (k, x) ∈ s.pkt.shares → x.loading = []) ∧ (s.on = true) ∧ (state s u = .draining) ∧ (s.longOps = [(n, o)]) ∧ (o.data = .unitOut u)) ∧
    (∃ state : State → Nat → UnitState, state = (fun (s : State) (u : Nat) => (s.units.getD u {}).state) ∧
      ∃ s : State, ∃ u : Nat, ∃ n : Nat, ∃ o : LongOp, (s.on = true) ∧ (state s u = .draining) ∧ ((s.units.getD u {}).since + 100000000 ≤ s.lc) ∧
      (s.longOps = [(n, o)]) ∧ (o.data = .unitOut u) ∧ (u < 0x100 ∨ 0x140 ≤ u)) ∧
    (∃ state : State → Nat → UnitState, state = (fun (s : State) (u : Nat) => (s.units.getD u {}).state) ∧
      ∃ s : State, ∃ u : Nat, (state s u ≠ .draining ∨ s.lc < (s.units.getD u {}).since + 100000000)) ∧
    (∃ state : State → Nat → UnitState, state = (fun (s : State) (u : Nat) => (s.units.getD u {}).state) ∧
      ∃ s : State, ∃ q : Req, ∃ u : Nat, ∃ kind : Nat, ∃ patterns : Nat, (Served s q 0x0E02 16 .operator) ∧ (0x140 ≤ u) ∧ (u < 0x160) ∧
      (1 ≤ kind) ∧ (kind ≤ 3) ∧ (patterns = 12 ∨ patterns = 16 ∨ patterns = 20) ∧ (state s u = .out) ∧ (emergency s = false) ∧ (s.longOps = [])) ∧
    (∃ state : State → Nat → UnitState, state = (fun (s : State) (u : Nat) => (s.units.getD u {}).state) ∧
      ∃ s : State, ∃ q : Req, ∃ u : Nat, ∃ kind : Nat, ∃ patterns : Nat, (Served s q 0x0E02 16 .operator) ∧ (0x140 ≤ u) ∧ (u < 0x160) ∧
      (1 ≤ kind) ∧ (kind ≤ 3) ∧ (patterns = 12 ∨ patterns = 16 ∨ patterns = 20) ∧ (state s u = .inService)) :=
  ⟨⟨_, rfl, ut [(0x161, uis)] (plots up []), rq 0x400 4, 0x161, 1, servedOf (by decide +kernel), by decide +kernel⟩,
   ⟨up, rq 0x400 4, 0x8F, servedOf (by decide +kernel), by decide +kernel⟩,
   ⟨{ up with boot := { up.boot with level := 2 } }, rq 0x400 4, servedOf (by decide +kernel), by decide +kernel⟩,
   ⟨_, rfl, { ut [(0xA3, udr)] up with longOps := [(9, lop (.unitOut 0xA3))] }, 0xA3, 9, lop (.unitOut 0xA3), (fun _ => ⟨rfl, rfl⟩),
     allMem (by decide +kernel), by decide +kernel⟩,
   ⟨_, rfl, { ut [(0xA3, udr)] up with longOps := [(9, lop (.unitOut 0xA3))], clk := { lc := 200000000, rootLocked := true } }, 0xA3, 9,
     lop (.unitOut 0xA3), by decide +kernel⟩,
   ⟨_, rfl, ut [(0x145, udr)] up, 0x145, by decide +kernel⟩,
   ⟨_, rfl, up, rq 0x400 16, 0x145, 3, 20, servedOf (by decide +kernel), by decide +kernel⟩,
   ⟨_, rfl, ut [(0x145, uis)] up, rq 0x400 16, 0x145, 1, 12, servedOf (by decide +kernel), by decide +kernel⟩⟩

/-- `Obligations.ServiceAndTest`: its clauses 8.3, 9, 10.1, 10.2, 10.3, 10.4, 11.1, 11.2. -/
theorem wit_ServiceAndTest_3 :
    (∃ state : State → Nat → UnitState, state = (fun (s : State) (u : Nat) => (s.units.getD u {}).state) ∧
      ∃ s : State, ∃ q : Req, ∃ u : Nat, ∃ kind : Nat, ∃ patterns : Nat, (Served s q 0x0E02 16 .operator) ∧ (0x140 ≤ u) ∧ (u < 0x160) ∧
      (1 ≤ kind) ∧ (kind ≤ 3) ∧ (patterns = 12 ∨ patterns = 16 ∨ patterns = 20) ∧ (state s u = .out) ∧ (emergency s = true)) ∧
    (∃ state : State → Nat → UnitState, state = (fun (s : State) (u : Nat) => (s.units.getD u {}).state) ∧
      ∃ s : State, ∃ u : Nat, ∃ n : Nat, ∃ kind : Nat, ∃ pat : Nat, ∃ addrs : List Nat, ∃ o : LongOp, (s.on = true) ∧ (state s u = .bist) ∧
      (s.longOps = [(n, o)]) ∧ (o.data = .bist u kind pat) ∧ (addrs.Pairwise (· ≤ ·))) ∧
    (∃ state : State → Nat → UnitState, state = (fun (s : State) (u : Nat) => (s.units.getD u {}).state) ∧
      ∃ s : State, ∃ q : Req, ∃ u : Nat, (Served s q 0x0E03 4 .operator) ∧ (0x140 ≤ u) ∧ (u < 0x160) ∧ (state s u = .out) ∧
      (∀ e ∈ s.faultLog, e.unit = u → e.kind = 0 ∨ 3 < e.kind) ∧ (s.longOps = [])) ∧
    (∃ state : State → Nat → UnitState, state = (fun (s : State) (u : Nat) => (s.units.getD u {}).state) ∧
      ∃ s : State, ∃ q : Req, ∃ u : Nat, (Served s q 0x0E03 4 .operator) ∧ (0x100 ≤ u) ∧ (u < 0x140) ∧ (state s u = .out) ∧
      (∀ e ∈ s.faultLog, e.unit = u → e.kind = 0 ∨ 3 < e.kind) ∧ (s.longOps = []) ∧ (s.pkt.shares = [])) ∧
    (∃ state : State → Nat → UnitState, state = (fun (s : State) (u : Nat) => (s.units.getD u {}).state) ∧
      ∃ s : State, ∃ q : Req, ∃ u : Nat, ∃ e, (Served s q 0x0E03 4 .operator) ∧ (e ∈ s.faultLog) ∧ (0x140 ≤ u) ∧ (u < 0x160) ∧
      (state s u ≠ .draining) ∧ (state s u ≠ .bist) ∧ (e.unit = u) ∧ (1 ≤ e.kind) ∧ (e.kind ≤ 3)) ∧
    (∃ s : State, ∃ q : Req, ∃ u : Nat, (Served s q 0x0E03 4 .operator) ∧ (0xA0 ≤ u ∧ u < 0xB0 ∨ 0x160 ≤ u ∧ u < 0x168)) ∧
    (∃ s : State, ∃ q : Req, ∃ u : Nat, ∃ out : BufRef, (Served s q 0x0E04 24 .operator) ∧ (unitNamed u = true) ∧
      (out = { addr := 0, len := 0, space := 0 })) ∧
    (∃ s : State, ∃ q : Req, ∃ u : Nat, ∃ out : BufRef, (Served s q 0x0E04 24 .operator) ∧ (unitNamed u = true) ∧ (out.space = 1) ∧
      (224 ≤ out.len) ∧ (mayDma s (whoOf s q.mbx).port (whoOf s q.mbx).inst = true)) :=
  ⟨⟨_, rfl, { up with power := { up.power with thermal0 := true } }, rq 0x400 16, 0x145, 1, 12, servedOf (by decide +kernel),
     by decide +kernel⟩,
   ⟨_, rfl, { ut [(0x145, { state := .bist })] up with longOps := [(9, lop (.bist 0x145 3 20))] }, 0x145, 9, 3, 20, [7, 9],
     lop (.bist 0x145 3 20), by decide +kernel⟩,
   ⟨_, rfl, ut [(0x145, { state := .out, last := 1 })] up, rq 0x400 4, 0x145, servedOf (by decide +kernel), by decide +kernel⟩,
   ⟨_, rfl, up, rq 0x400 4, 0x105, servedOf (by decide +kernel), by decide +kernel⟩,
   ⟨_, rfl, { up with faultLog := [{ time := 77, nonce := 5, unit := 0x145, kind := 2, code := 9 }] }, rq 0x400 4, 0x145,
     { time := 77, nonce := 5, unit := 0x145, kind := 2, code := 9 }, servedOf (by decide +kernel), by decide +kernel⟩,
   ⟨up, rq 0x400 4, 0xA0, servedOf (by decide +kernel), by decide +kernel⟩,
   ⟨ut [(0x145, { state := .bist, last := 2 })] up, rq 0x400 24, 0x145, buf0, servedOf (by decide +kernel), by decide +kernel⟩,
   ⟨ut [(0x145, { state := .out, last := 2, result := zeros 224 })] up, rq 0x400 24, 0x145, hostBuf 224, servedOf (by decide +kernel),
     by decide +kernel⟩⟩

/-- `Obligations.CountersAndTelemetry`: its clauses 1.1, 1.2, 1.3.1, 1.3.2, 1.3.3, 1.4, 2, 3. -/
theorem wit_CountersAndTelemetry_1 :
    (∃ s : State, ∃ q : Req, ∃ u : Nat, ∃ k : Nat, ∃ event : Nat, ∃ flags : Nat, ∃ part : Nat, ∃ master : Nat, ∃ mask : Nat, ∃ ctrl : Nat, ∃ value : Nat, ∃ slot : Nat, (Served s q 0x0F01 48 .opOrTenant) ∧
      (hasPmc u = true) ∧ (k < 8) ∧ (event ≤ 1 ∨ 4 ≤ event ∧ event ≤ 6) ∧ (flags < 256) ∧ (flags.testBit 1 = false) ∧ (part < 32) ∧
      (master < 4096) ∧ (mask < 4096) ∧ (value < 2 ^ 48) ∧ (slot < 64) ∧ ((whoOf s q.mbx).op = true) ∧ (ctrl < 2) ∧
      (counterHolder s u k = none ∨ counterHolder s u k = some 16)) ∧
    (∃ s : State, ∃ q : Req, ∃ u : Nat, ∃ k : Nat, ∃ event : Nat, ∃ flags : Nat, ∃ part : Nat, ∃ master : Nat, ∃ mask : Nat, ∃ ctrl : Nat, ∃ value : Nat, ∃ slot : Nat, ∃ x, (Served s q 0x0F01 48 .opOrTenant) ∧
      (hasPmc u = true) ∧ (k < 8) ∧ (event ≤ 1 ∨ 4 ≤ event ∧ event ≤ 6) ∧ (flags < 256) ∧ (flags.testBit 1 = false) ∧ (part < 32) ∧
      (master < 4096) ∧ (mask < 4096) ∧ (value < 2 ^ 48) ∧ (slot < 64) ∧ ((whoOf s q.mbx).op = true) ∧ (2 ≤ ctrl) ∧ (ctrl < 4) ∧
      ((pmcAt s u k).holder = some x)) ∧
    (∃ s : State, ∃ q : Req, ∃ u : Nat, ∃ k : Nat, ∃ event : Nat, ∃ flags : Nat, ∃ part : Nat, ∃ master : Nat, ∃ mask : Nat, ∃ ctrl : Nat, ∃ value : Nat, ∃ slot : Nat, ∃ x, (Served s q 0x0F01 48 .opOrTenant) ∧
      (hasPmc u = true) ∧ (k < 8) ∧ (event ≤ 1 ∨ 4 ≤ event ∧ event ≤ 6) ∧ (flags < 256) ∧ (flags.testBit 1 = false) ∧ (part < 32) ∧
      (master < 4096) ∧ (mask < 4096) ∧ (value < 2 ^ 48) ∧ (slot < 64) ∧ ((whoOf s q.mbx).op = false) ∧
      (s.parts.get? (whoOf s q.mbx).owner = some x) ∧ (x.tenantCounters = true) ∧ (4 ≤ k) ∧ (ctrl < 2) ∧ (event = 1 ∨ event = 4 ∨ event = 5) ∧
      ((whoOf s q.mbx).owner < 16) ∧ (counterHolder s u k = none) ∧ (countersHeld s (whoOf s q.mbx).owner < 64) ∧
      (slotTaken s (whoOf s q.mbx).owner (8 * u + k) slot = false)) ∧
    (∃ s : State, ∃ q : Req, ∃ u : Nat, ∃ k : Nat, ∃ event : Nat, ∃ flags : Nat, ∃ part : Nat, ∃ master : Nat, ∃ mask : Nat, ∃ ctrl : Nat, ∃ value : Nat, ∃ slot : Nat, ∃ x, ∃ o, (Served s q 0x0F01 48 .opOrTenant) ∧
      (hasPmc u = true) ∧ (k < 8) ∧ (event ≤ 1 ∨ 4 ≤ event ∧ event ≤ 6) ∧ (flags < 256) ∧ (flags.testBit 1 = false) ∧ (part < 32) ∧
      (master < 4096) ∧ (mask < 4096) ∧ (value < 2 ^ 48) ∧ (slot < 64) ∧ ((whoOf s q.mbx).op = false) ∧
      (s.parts.get? (whoOf s q.mbx).owner = some x) ∧ (x.tenantCounters = true) ∧ (4 ≤ k) ∧ (ctrl < 2) ∧ (event = 1 ∨ event = 4 ∨ event = 5) ∧
      ((whoOf s q.mbx).owner < 16) ∧ (counterHolder s u k = some o) ∧ (o ≠ (whoOf s q.mbx).owner)) ∧
    (∃ s : State, ∃ q : Req, ∃ u : Nat, ∃ k : Nat, ∃ event : Nat, ∃ flags : Nat, ∃ part : Nat, ∃ master : Nat, ∃ mask : Nat, ∃ ctrl : Nat, ∃ value : Nat, ∃ slot : Nat, ∃ x, (Served s q 0x0F01 48 .opOrTenant) ∧
      (hasPmc u = true) ∧ (k < 8) ∧ (event ≤ 1 ∨ 4 ≤ event ∧ event ≤ 6) ∧ (flags < 256) ∧ (flags.testBit 1 = false) ∧ (part < 32) ∧
      (master < 4096) ∧ (mask < 4096) ∧ (value < 2 ^ 48) ∧ (slot < 64) ∧ ((whoOf s q.mbx).op = false) ∧
      (s.parts.get? (whoOf s q.mbx).owner = some x) ∧ (x.tenantCounters = true) ∧ (4 ≤ k) ∧ (ctrl < 2) ∧ (event = 1 ∨ event = 4 ∨ event = 5) ∧
      ((whoOf s q.mbx).owner < 16) ∧ (counterHolder s u k = none) ∧ (64 ≤ countersHeld s (whoOf s q.mbx).owner) ∧
      (slotTaken s (whoOf s q.mbx).owner (8 * u + k) slot = false)) ∧
    (∃ s : State, ∃ q : Req, ∃ u : Nat, ∃ k : Nat, ∃ event : Nat, ∃ flags : Nat, ∃ part : Nat, ∃ master : Nat, ∃ mask : Nat, ∃ value : Nat, ∃ slot : Nat, ∃ x, (Served s q 0x0F01 48 .opOrTenant) ∧
      (hasPmc u = true) ∧ (k < 8) ∧ (event ≤ 1 ∨ 4 ≤ event ∧ event ≤ 6) ∧ (flags < 256) ∧ (flags.testBit 1 = false) ∧ (part < 32) ∧
      (master < 4096) ∧ (mask < 4096) ∧ (value < 2 ^ 48) ∧ (slot < 64) ∧ ((whoOf s q.mbx).op = false) ∧
      (s.parts.get? (whoOf s q.mbx).owner = some x) ∧ (k < 4 ∨ x.tenantCounters = false)) ∧
    (∃ s : State, ∃ q : Req, ∃ p : Nat, ∃ allow : Nat, (Served s q 0x0F03 8 .operator) ∧ (p < 16) ∧ (partExists s p = true) ∧ (allow < 2)) ∧
    (∃ s : State, ∃ q : Req, ∃ units : BufRef, ∃ out : BufRef, ∃ host : HostData, ∃ u : Nat, ∃ v : Nat, ∃ bs : Bytes, (Served s q 0x0F02 48 .opOrTenant) ∧
      (readBuf s (whoOf s q.mbx) units host = .ok bs) ∧ (refBad units 4 = false) ∧ (refBad out 160 = false) ∧ (fieldAt bs 0 2 = u) ∧
      (fieldAt bs 2 2 = v) ∧ (hasPmc u = true) ∧ (hasPmc v = true)) :=
  ⟨⟨mon (fun m => { m with pmc := [(8 * uc + 3, { pcn1 with holder := none })] }) up, rq 0x400 48, uc, 3, 4, 9, 18, 1, 0xFFF, 1, 77, 12,
     servedOf (by decide +kernel), by decide +kernel⟩,
   ⟨mon (fun m => { m with pmc := [(8 * uc + 3, pcn1)] }) up, rq 0x400 48, uc, 3, 4, 9, 18, 1, 0xFFF, 2, 77, 12, 2,
     servedOf (by decide +kernel), by decide +kernel⟩,
   ⟨tp, rq 5 48, uc, 4, 4, 0, 0, 0, 0, 1, 77, 12, (part3 : Partition), servedOf (by decide +kernel), by decide +kernel⟩,
   ⟨mon (fun m => { m with pmc := [(8 * uc + 4, { pcn1 with holder := some 3 })] }) tp, rq 5 48, uc, 4, 4, 0, 0, 0, 0, 1, 77, 12, part3, 3,
     servedOf (by decide +kernel), by decide +kernel⟩,
   ⟨mon (fun m => { m with pmc := (List.range 64).map fun k => (8 * (0x140 + k / 4) + 4 + k % 4 - (if k = 20 then 4 else 0), { pcn1 with slot := if k = 0 then 70 else k }) }) tp,
     rq 5 48, uc, 4, 4, 0, 0, 0, 0, 1, 77, 0, (part3 : Partition), servedOf (by decide +kernel), by decide +kernel⟩,
   ⟨tp, rq 5 48, uc, 3, 4, 0, 0, 0, 0, 77, 12, (part3 : Partition), servedOf (by decide +kernel), by decide +kernel⟩,
   ⟨mon (fun m => { m with pmc := [(8 * uc + 3, pcn1)] }) up, rq 0x400 8, 2, 1, servedOf (by decide +kernel), by decide +kernel⟩,
   ⟨up, rq 5 48, hostBuf 4, hostBuf 160, .data (le 2 0x145 ++ le 2 0x100), 0x145, 0x100, le 2 0x145 ++ le 2 0x100,
     servedOf (by decide +kernel), okOf (by decide +kernel), by decide +kernel⟩⟩

/-- `Obligations.CountersAndTelemetry`: its clauses 4, 5, 6, 7.1, 7.2, 8.1, 8.2, 9.1. -/
theorem wit_CountersAndTelemetry_2 :
    (∃ s : State, ∃ c : Capture, ∃ l : List Capture, (s.mon.captures = c :: l) ∧ (s.lc < c.at_)) ∧
    (∃ s : State, ∃ c : Capture, ∃ l : List Capture, ∃ u : Nat, ∃ ses : Session, (s.on = true) ∧ (s.mon.captures = c :: l) ∧ (c.at_ ≤ s.lc) ∧
      (c.units = [u]) ∧ (c.out.space = 1) ∧ ((s.mbx c.q.mbx).session = some ses) ∧ ((s.mbx c.q.mbx).sessionNo = c.sessionNo) ∧
      ((s.mbx c.q.mbx).enable = true) ∧ (mayDma s (whoOf s c.q.mbx).port (whoOf s c.q.mbx).inst = true)) ∧
    (∃ s : State, ∃ q : Req, ∃ count : Nat, ∃ out : BufRef, (Served s q 0x0F05 24 .operator) ∧ (1 ≤ count) ∧ (count ≤ 1024) ∧ (out.space = 1) ∧
      (32 * count ≤ out.len) ∧ (mayDma s (whoOf s q.mbx).port (whoOf s q.mbx).inst = true)) ∧
    (∃ s : State, ∃ q : Req, ∃ log2 : Nat, (Served s q 0x0F04 32 .operator) ∧ (6 ≤ log2) ∧ (log2 ≤ 16)) ∧
    (∃ s : State, ∃ q : Req, ∃ log2 : Nat, (Served s q 0x0F04 32 .operator) ∧ (log2 < 6 ∨ 16 < log2)) ∧
    (∃ s : State, ∃ consumed : Nat, ∃ r : TeleRecord, (s.on = true) ∧ (s.mon.ring.set = true) ∧ ((s.port s.boot.opPort).driverPresent = true) ∧
      (s.mon.ring.queue = [r]) ∧ (s.mon.ring.lostSince = 0) ∧ (s.mon.ring.seq + 1 ≤ consumed + 2 ^ s.mon.ring.log2)) ∧
    (∃ s : State, ∃ consumed : Nat, ∃ r : TeleRecord, (s.on = true) ∧ (s.mon.ring.set = true) ∧ ((s.port s.boot.opPort).driverPresent = true) ∧
      (s.mon.ring.queue = [r]) ∧ (s.mon.ring.lostSince = 0) ∧ (consumed + 2 ^ s.mon.ring.log2 < s.mon.ring.seq + 1)) ∧
    (∃ s : State, ∃ die : Fin 2, ∃ e : LaunchEntry, ∃ p, p = (4 * die.val + e.arg % 4) ∧ (s.on = true) ∧
      (launchNext (s.slot (slotKey 4 die 0)) = some (s.lc, e)) ∧ (e.action = 1) ∧ (s.mon.side.get? p = none) ∧ ((s.zal p).link = .up) ∧
      ((s.zal p).inService = true)) :=
  ⟨⟨mon (fun m => { m with captures := [{ cap1 with at_ := 1001 }] }) up, { cap1 with at_ := 1001 }, [], by decide +kernel⟩,
   ⟨mon (fun m => { m with captures := [cap1], pmc := [(8 * uc + 3, pcn1), (8 * uc + 4, { pcn1 with holder := none })] }) up, cap1, [], 0x145,
     { level := 3, features := 0x1FFFF, driverVersion := 1 }, by decide +kernel⟩,
   ⟨mon (fun m => { m with errors := [er1, { er1 with cls := 1 }], overwrites := 3 }) up, rq 0x400 24, 3, hostBuf 96,
     servedOf (by decide +kernel), by decide +kernel⟩,
   ⟨mon (fun m => { m with ring := { seq := 9, consumed := 4 } }) up, rq 0x400 32, 16, servedOf (by decide +kernel), by decide +kernel⟩,
   ⟨tele up, rq 0x400 32, 5, servedOf (by decide +kernel), by decide +kernel⟩,
   ⟨mon (fun m => { m with ring := { m.ring with seq := 66, consumed := 2, queue := [trc] } }) (tele up), 3, trc, by decide +kernel⟩,
   ⟨mon (fun m => { m with ring := { m.ring with seq := 66, consumed := 0, queue := [trc] } }) (tele up), 2, trc, by decide +kernel⟩,
   ⟨zl (tlt 0 1 0x703 (tele up)) (fun l => { l with ports := [(3, zalUp)] }), 0, entry 1 0x703, _, rfl, by decide +kernel⟩⟩

/-- `Obligations.CountersAndTelemetry`: its clauses 9.2, 10, 11.1, 11.2, 11.3, 12.1, 12.2, 13. -/
theorem wit_CountersAndTelemetry_3 :
    (∃ s : State, ∃ die : Fin 2, ∃ e : LaunchEntry, ∃ p, p = (4 * die.val + e.arg % 4) ∧ (TeleReady s) ∧ (s.on = true) ∧
      (launchNext (s.slot (slotKey 4 die 0)) = some (s.lc, e)) ∧ (e.action = 1) ∧ (s.mon.side.get? p = none) ∧ ((s.zal p).inService = false)) ∧
    (∃ s : State, ∃ die : Fin 2, ∃ e : LaunchEntry, ∃ due : Nat, (s.on = true) ∧ (launchNext (s.slot (slotKey 4 die 0)) = some (due, e)) ∧
      (e.action = 1) ∧ (due ≤ s.lc) ∧ ((s.mon.side.get? (4 * die.val + e.arg % 4)).isSome = true) ∧ (policyOf (s.slot (slotKey 4 die 0)) e = 1)) ∧
    (∃ s : State, ∃ p : Fin 8, ∃ x : SideExchange, ∃ payload : Bytes, (TeleReady s) ∧ (s.on = true) ∧ (s.mon.side.get? p = some x) ∧
      (payload.length ≤ 64) ∧ (s.lc ≤ x.start + 250000)) ∧
    (∃ s : State, ∃ p : Fin 8, ∃ x : SideExchange, (TeleReady s) ∧ (s.on = true) ∧ (s.mon.side.get? p = some x) ∧ (x.start + 250000 ≤ s.lc)) ∧
    (∃ s : State, ∃ p : Fin 8, ∃ x : SideExchange, (TeleReady s) ∧ (s.on = true) ∧ (s.mon.side.get? p = some x) ∧ (s.lc < x.start + 250000)) ∧
    (∃ s : State, ∃ die : Fin 2, ∃ e : LaunchEntry, (TeleReady s) ∧ (s.on = true) ∧ (launchNext (s.slot (slotKey 4 die 0)) = some (s.lc, e)) ∧
      (e.action = 2)) ∧
    (∃ s : State, ∃ die : Fin 2, ∃ e : LaunchEntry, (TeleReady s) ∧ (s.on = true) ∧ (launchNext (s.slot (slotKey 4 die 0)) = some (s.lc, e)) ∧
      (e.action = 3)) ∧
    (∃ s : State, ∃ die : Fin 2, ∃ e : LaunchEntry, (s.on = true) ∧ (launchNext (s.slot (slotKey 4 die 0)) = some (s.lc, e)) ∧ (e.action = 2) ∧
      (s.mon.ring.set = true) ∧ (s.mon.ring.consumed + 2 ^ s.mon.ring.log2 < s.mon.ring.seq + 1)) :=
  ⟨⟨zl (tlt 0 1 0x703 (tele up)) (fun l => { l with ports := [(3, { zalUp with inService := false })] }), 0, entry 1 0x703, _, rfl,
     ⟨by decide +kernel, by decide +kernel, by decide +kernel, by decide +kernel⟩, by decide +kernel⟩,
   ⟨mon (fun m => { m with side := [(7, sx)] }) { tele up with launch := [(slotKey 4 1 0, { active := some { tileTable 1 0x703 with kind := 4, base := 900, latePolicy := 1 } })] },
     1, entry 1 0x703, 1000, by decide +kernel⟩,
   ⟨mon (fun m => { m with side := [(3, sx), (7, sx)] }) (tele up), 3, sx, bytes64,
     ⟨by decide +kernel, by decide +kernel, by decide +kernel, by decide +kernel⟩, by decide +kernel⟩,
   ⟨mon (fun m => { m with side := [(3, sx), (7, sx)] }) { tele up with clk := { lc := 250900, rootLocked := true } }, 3, sx,
     ⟨by decide +kernel, by decide +kernel, by decide +kernel, by decide +kernel⟩, by decide +kernel⟩,
   ⟨mon (fun m => { m with side := [(3, sx), (7, sx)] }) { tele up with clk := { lc := 250899, rootLocked := true } }, 3, sx,
     ⟨by decide +kernel, by decide +kernel, by decide +kernel, by decide +kernel⟩, by decide +kernel⟩,
   ⟨tlt 1 2 0x703 (tele up), 1, entry 2 0x703, ⟨by decide +kernel, by decide +kernel, by decide +kernel, by decide +kernel⟩, by decide +kernel⟩,
   ⟨mon (fun m => { m with pmc := [(8 * uc + 3, pcn1)] }) (tlt 1 3 uc (tele up)), 1, entry 3 uc,
     ⟨by decide +kernel, by decide +kernel, by decide +kernel, by decide +kernel⟩, by decide +kernel⟩,
   ⟨mon (fun m => { m with ring := { m.ring with seq := 64 } }) (tlt 1 2 0x703 (tele up)), 1, entry 2 0x703, by decide +kernel⟩⟩

/-- `Obligations.ModuleInterfaces`: its clauses 1.1, 1.2, 1.3, 2, 3.1, 3.2, 4, 5. -/
theorem wit_ModuleInterfaces_1 :
    (∃ s : State, (s.on = true)) ∧
    (∃ s : State, (s.on = true)) ∧
    (∃ s : State, (s.on = true)) ∧
    (∃ port : State → Nat → Jtag, port = (fun (s : State) (d : Nat) => s.jtag.getD d {}) ∧
      ∃ s : State, ∃ d : Fin 2, ∃ c : Instr, ∃ j : Jtag, (s.on = true) ∧
      (c = .extest d ∧ j = { port s d with instr := 3, bypass := false, driven := true, highz := false } ∨ c = .clamp d ∧ j = { port s d with instr := 4, bypass := true, driven := true, highz := false } ∨ c = .highz d ∧ j = { port s d with instr := 5, bypass := true, driven := false, highz := true })) ∧
    (∃ s : State, ∃ eid : Nat, (s.on = true ∨ 44000 ≤ filteredMv s ∧ filteredMv s ≤ 58000) ∧ (eid < 256) ∧ (eid ≠ 0) ∧ (eid ≠ 0xFF)) ∧
    (∃ s : State, ∃ eid : Nat, (s.on = true ∨ 44000 ≤ filteredMv s ∧ filteredMv s ≤ 58000) ∧ (eid < 256) ∧ (eid = 0 ∨ eid = 0xFF)) ∧
    (∃ s : State, (s.on = true ∨ 44000 ≤ filteredMv s ∧ filteredMv s ≤ 58000)) ∧
    (∃ s : State, (s.on = true) ∧ (s.boot.rom = false)) :=
  ⟨⟨jt, by decide +kernel⟩,
   ⟨jt, by decide +kernel⟩,
   ⟨jt, by decide +kernel⟩,
   ⟨_, rfl, jt, 0, .extest 0, { instr := 3, bypass := false, driven := true, highz := false }, by decide +kernel⟩,
   ⟨jt, 9, by decide +kernel⟩,
   ⟨jt, 255, by decide +kernel⟩,
   ⟨up, by decide +kernel⟩,
   ⟨cold, by decide +kernel⟩⟩

/-- `Obligations.ModuleInterfaces`: its clauses 6.1, 6.2, 6.3, 7.1, 7.2.
Clause 7.1 without the hypothesis on an opaque constant. -/
theorem wit_ModuleInterfaces_2 :
    (∃ s : State, (s.on = true) ∧ (s.boot.rom = true) ∧ (s.mgmt.pldmUpdate.isSome = true)) ∧
    (∃ s : State, (s.on = true) ∧ (s.boot.rom = true) ∧ (s.mgmt.pldmUpdate = none) ∧ (s.fw.staging = .ialdo)) ∧
    (∃ s : State, (s.fw.staging = .empty ∨ ∃ i, s.fw.staging = .staged i) ∧ (s.on = true) ∧ (s.boot.rom = true) ∧ (s.mgmt.pldmUpdate = none) ∧
      (s.fw.pending = false)) ∧
    (∃ s : State, ∃ bus : Fin 2, ∃ b : Bytes, (imageHeaderOk b = true) ∧ (s.on = true) ∧ (s.boot.rom = true) ∧
      (s.mgmt.pldmUpdate = some bus.val) ∧ (s.boot.failed = false) ∧ (fusedVersion s ≤ fieldAt b 8 8)) ∧
    (∃ s : State, ∃ bus : Fin 2, ∃ b : Bytes, ∃ verified, verified = (fun (b : Bytes) => Config.slhVerify ((b.drop 32).take 64) (b.take (128 + fieldAt b 24 8)) ((b.drop (128 + fieldAt b 24 8)).take 29792)) ∧
      (imageHeaderOk b = true) ∧ (s.on = true) ∧ (s.boot.rom = true) ∧ (s.mgmt.pldmUpdate = some bus.val) ∧ (s.boot.failed = false) ∧
      (imageKey s b = none ∨ verified b = false)) :=
  ⟨⟨{ up with mgmt := { pldmUpdate := some 1 } }, by decide +kernel⟩,
   ⟨{ up with fw := { up.fw with staging := .ialdo } }, by decide +kernel⟩,
   ⟨up, .inl (by decide +kernel), by decide +kernel⟩,
   ⟨{ up with mgmt := { pldmUpdate := some 1 }, fw := { up.fw with staging := .pldm }, fuses := { up.fuses with keyState := 1, keyHash := [[], [], [], []] } },
     1, imgB 5, imgB_ok, by decide +kernel⟩,
   ⟨{ up with mgmt := { pldmUpdate := some 1 }, fw := { up.fw with staging := .pldm }, fuses := { up.fuses with keyState := 0 } }, 1, imgB 5,
     _, rfl, imgB_ok, by decide +kernel⟩⟩

/-- `Obligations.FallbackDraw`: its clauses 1, 2. -/
theorem wit_FallbackDraw_1 :
    (∃ s : State, ∃ h : Nat, ∃ due : Nat, ∃ v : YewSession, ∃ e : LaunchEntry, (s.on = true) ∧ (s.sessions.get? h = some v) ∧
      (dueEntry s (leadTile s v) = some (due, e)) ∧ (v.inEpoch = true) ∧ (v.state = .running) ∧ (e.action = 3) ∧ (v.slipLine = false) ∧
      (v.drawing = none) ∧ (v.params.temperature = 0 ∨ drbgSpent v = false) ∧ (poisonedSource s v = none) ∧
      ((∀ c ∈ sessLogits s v, c.2 = negInf) ∨ v.params.temperature ≠ 0 ∧ keptCandidates v.params (sessLogits s v) = [])) ∧
    (∃ s : State, ∃ h : Nat, ∃ x : Nat, ∃ v : YewSession, (s.on = true) ∧ (s.sessions.get? h = some v) ∧ (v.inEpoch = true) ∧
      (v.state = .running) ∧ (v.closing = false) ∧ (v.spoiled = false) ∧ (v.drawing = none) ∧ (v.kind = 0) ∧ (v.verdict = none) ∧
      (v.input = [x]) ∧ (v.draws = [{ token := v.params.fallback, prob := 0, fallback := true }]) ∧ (v.params.ringInHost = true) ∧
      (v.consumed + 2 ^ v.params.outLog2 ≤ v.seq) ∧ (∀ t ∈ sessTiles s v, (dueEntry s t).map (fun e => e.2.action) = some 2) ∧
      (∀ t ∈ sessTiles s v, (s.tile t).step = none)) :=
  ⟨⟨running inEp 3 0, 4, 100, inEp, entry 3 0, by decide +kernel⟩,
   ⟨running { inEp with draws := [⟨99, 0, true⟩], seq := 16 } 2 0, 4, 5, { inEp with draws := [⟨99, 0, true⟩], seq := 16 }, by decide +kernel⟩⟩

/-- `Obligations.ExhaustedSlot`: its clauses 1, 2, 3.
Clause 3 without the hypothesis on an opaque constant. -/
theorem wit_ExhaustedSlot_1 :
    (∃ s : State, ∃ q : Req, ∃ n : Nat, ∃ k : Nat, ∃ i : Instance, ∃ slot : KeySlot, ∃ out : BufRef, (Served s q 0x0306 24 .operator) ∧
      (s.insts.get? n = some i) ∧ (i.state = .frozen) ∧ (migrationKey s i.part = some (k, slot)) ∧ (s.sec.slots.get? k = some slot) ∧
      (slot.state = .loaded) ∧ (slot.nextCount = 2 ^ 48 - 1) ∧ (out.space = 1) ∧ (262144 ≤ out.len) ∧ (n < 1024) ∧
      ((s.port (whoOf s q.mbx).port).driverPresent = true) ∧ (s.longOps = [])) ∧
    (∃ s : State, ∃ q : Req, ∃ n : Nat, ∃ k : Nat, ∃ i : Instance, ∃ slot : KeySlot, ∃ out : BufRef, (Served s q 0x0306 24 .operator) ∧
      (s.insts.get? n = some i) ∧ (i.state = .frozen) ∧ (migrationKey s i.part = some (k, slot)) ∧ (slot.state = .exhausted) ∧ (out.space = 1) ∧
      (262144 ≤ out.len) ∧ (n < 1024)) ∧
    (∃ s : State, ∃ q : Req, ∃ n : Nat, ∃ part : Nat, ∃ port : Nat, ∃ pasid : Nat, ∃ base : Nat, ∃ count : Nat, ∃ k : Nat, ∃ blob : BufRef, ∃ host : HostData, ∃ b : Bytes, ∃ plain : Bytes, ∃ slot : KeySlot, (Served s q 0x0307 40 .operator) ∧
      (readBuf s (whoOf s q.mbx) blob host = .ok b) ∧ (∀ j, 2 ≤ j → (unpackTables saveWidths plain).getD j [] = []) ∧
      (instBad s n part port pasid base count = false) ∧ (refBad blob 48 = false) ∧ (fieldAt b 0 4 = 0x42494D5A) ∧ (fieldAt b 4 2 = 1) ∧
      (48 ≤ fieldAt b 8 4) ∧ (fieldAt b 8 4 ≤ 262144) ∧ (fieldAt b 8 4 ≤ b.length) ∧ (migrationKey s part = some (k, slot)) ∧
      (slot.state = .exhausted) ∧ (cell (((unpackTables saveWidths plain).getD 0 []).getD 0 []) 0 ≤ count) ∧ (s.insts.get? n = none) ∧
      (vectorsHeld s port base count = false) ∧ (n < 1024) ∧ (s.longOps = [])) :=
  ⟨⟨exf exq1 fz, rq 0x400 24, 5, 70, fz, exq1, hostBuf 262144, servedOf (by decide +kernel), by decide +kernel⟩,
   ⟨exf exq fz, rq 0x400 24, 5, 70, fz, exq, hostBuf 262144, servedOf (by decide +kernel), by decide +kernel⟩,
   ⟨exf exq Wit.inst, rq 0x400 40, 7, 2, 1, 0xFFFFFFFF, 100, 66, 70, hostBuf 360, .data (padTo 360 blob1), padTo 360 blob1, plain1, exq,
     servedOf (by decide +kernel), okOf (by decide +kernel), allFrom (by decide +kernel), by decide +kernel⟩⟩

/-! ### Well-formed commands: each kind of field refused where it does not fit -/

theorem test_wellFormed : (Instr.keySlotQuotaSet (rq 0x400 8) 2 16384).wellFormed = true := by decide
theorem test_illFormed_header : (Instr.keySlotQuotaSet (rq 65536 8) 2 16384).wellFormed = false := by decide
theorem test_illFormed_body : (Instr.keySlotQuotaSet (rq 0x400 8) 256 16384).wellFormed = false := by decide
theorem test_illFormed_buffer :
    (Instr.fwStage (rq 0x400 16) { addr := 2 ^ 64, len := 1, space := 1 } (.data [])).wellFormed = false := by decide
theorem test_illFormed_target : (Instr.brambleTransaction 1 true (.sram 6 (2 ^ 32)) 4 [] 0).wellFormed = false := by decide

/-! ### The spec's worked examples -/

/-- 04_numbers, the E5M2 chunk: 2^-35 exactly, no flag; added to 1.0 it leaves 1.0 and sets NX. -/
theorem test_e5m2_chunk :
    mxChunk false 4 0x7F 4 0x7C ([0x7B, 0x01, 0xFB] ++ List.replicate 29 0) ([0x7B, 0x01, 0x7B] ++ List.replicate 29 0) = (0x2E000000, 0) ∧
      faddOp false 0x2E000000 0x3F800000 = (0x3F800000, fNX) := by decide +kernel
/-- 04_numbers, quantising to MXFP4: scale 0x80, the first four bytes E7 14 90 62, NX and SAT. -/
theorem test_mxfp4_block :
    (let r := mxBlock false false false 0 ([0x41700000, 0xC1200000, 0x40666666, 0x3FA66666, 0x3E99999A, 0xBF333333, 0x40200000, 0x41100000] ++
       List.replicate 24 0)
     (r.1, le 16 (packBits 4 r.2.1), r.2.2)) = (0x80, [0xE7, 0x14, 0x90, 0x62] ++ zeros 12, fNX ||| fSAT) := by decide +kernel
/-- 04_numbers: -7 / 2, the most negative value / -1, 42 / 0 at 64 bits: quotient, remainder. -/
theorem test_division :
    (opDiv 64 (2 ^ 64 - 7) 2 0).val = 2 ^ 64 - 3 ∧ (opRem 64 (2 ^ 64 - 7) 2 0).val = 2 ^ 64 - 1 ∧
      (opDiv 64 (2 ^ 63) (2 ^ 64 - 1) 0).val = 2 ^ 63 ∧ (opRem 64 (2 ^ 63) (2 ^ 64 - 1) 0).val = 0 ∧
      (opDiv 64 42 0 0).val = 0 ∧ (opRem 64 42 0 0).val = 42 := by decide +kernel
/-- 07_moleveuf_memory, one address: plot 35 of die 1, offset 0x3456_7890, four stacks. -/
theorem test_placement :
    dpaOf (512 + 35) 0x34567890 = 0x88F4567890 ∧ quarter 0x34567890 = 2 ∧ place 35 0x34567890 4 = (2, 0x23D159E90) := by decide +kernel
/-- R485: FIXED 5A 31 00 07 and NEXT_COUNT 76,864 give the IV 5A 31 00 07 00 00 00 00 00 01 2C 40. -/
theorem test_iv : gcmIv [0x5A, 0x31, 0x00, 0x07] 76864 = [0x5A, 0x31, 0x00, 0x07, 0, 0, 0, 0, 0, 0x01, 0x2C, 0x40] := by decide +kernel
/-- 14_traffic_manager, the policer: frames of 12,000 bits from full buckets; colours and buckets after frame 13, 26 and 27. -/
theorem test_policer :
    (let p0 : Policer := { owner := 2, buckets := { enable := true, tc := 160000, tp := 320000 } }
     let f := fun (q : Policer × List Colour) (_ : Nat) => let c := q.1.colour [] 12000; (q.1.after c 12000 1480, c :: q.2)
     let at_ := fun n => let r := (List.range n).foldl f (p0, []); (r.1.buckets.tc, r.1.buckets.tp, r.2.headD .red)
     [at_ 13, at_ 14, at_ 26, at_ 27]) = [(4000, 164000, .green), (4000, 152000, .yellow), (4000, 8000, .yellow), (4000, 8000, .red)] := by
  decide +kernel

/-! ### Single steps -/

/-- The next state of a command at the front of the queue. -/
def stepped (c : Instr) (s : State) : Option State :=
  match step { s with pending := [c] } with
  | .next t => some t
  | _ => none
/-- R557: a die's IDCODE 0x1974074B, shifted out least significant bit first; the queue is empty after it. -/
theorem test_idcode : (stepped (.idcode 0) up).map (fun t => (t.emitted, t.pending)) =
    some ([.tdo 0 ((List.range 32).map fun k => Nat.testBit 0x1974074B k)], []) := by decide +kernel
/-- R46: on an empty queue one nanosecond passes. -/
theorem test_idle : (match step up with | .next t => decide (t.clk.lc = 1001) | _ => false) = true := by decide +kernel
/-- Without power the test port answers nothing. -/
theorem test_no_power : (stepped (.idcode 0) { up with power := { up.power with pwrGood := false } }).map (·.emitted) = some [] := by
  decide +kernel

end Sys2Proof.Wit
end

section
/-! A draw without candidates (R211): the sampler finds none, SAMPLE draws FALLBACK, and the record of the epoch carries it. -/

namespace Sys2Proof.Machine.Fallback

/-! ### Lists -/

theorem mem_of_mem_insertBy {α : Type} {key : α → Nat} {a b : α} {l : List α} (h : b ∈ insertBy key a l) :
    b = a ∨ b ∈ l := by
  induction l with
  | nil => exact .inl (List.mem_singleton.1 h)
  | cons c l ih =>
    unfold insertBy at h
    split at h
    · exact List.mem_cons.1 h
    · rcases List.mem_cons.1 h with rfl | h
      · exact .inr (List.mem_cons_self ..)
      · exact (ih h).imp id (List.mem_cons_of_mem _)

theorem mem_of_mem_sortBy {α : Type} {key : α → Nat} {b : α} {l : List α} (h : b ∈ sortBy key l) : b ∈ l := by
  refine List.foldlRecOn (motive := fun acc => ∀ x ∈ acc, x ∈ l) l _ (by simp) (fun acc ih a ha x hx => ?_) b h
  rcases mem_of_mem_insertBy hx with rfl | hx
  · exact ha
  · exact ih x hx

theorem foldl_eq_self {α β : Type} {f : α → β → α} {a : α} {l : List β} (h : ∀ b ∈ l, f a b = a) : l.foldl f a = a := by
  induction l with
  | nil => rfl
  | cons b l ih =>
    rw [List.foldl_cons, h b (List.mem_cons_self ..)]
    exact ih fun c hc => h c (List.mem_cons_of_mem _ hc)

/-! ### The scaled logit of −∞ (R208 step 4) -/

/-- A non-negative number packs to a pattern with the sign bit clear. -/
theorem pack_le_inf (rtz ftz : Bool) (m : Nat) (e : Int) : (pack fp32 rtz ftz false m e).1 ≤ fp32.inf := by
  have hs : fp32.sign false = 0 := rfl
  unfold pack
  dsimp only
  split
  · simp [hs]
  · split
    · simp only [hs]; split <;> omega
    · split
      · simp [hs]
      · simp only [hs]; omega

theorem quotient32_le_inf (num den : Nat) : quotient32 num den ≤ fp32.inf := by
  unfold quotient32
  split
  · exact Nat.le_refl _
  · exact pack_le_inf ..

/-- A pattern up to +∞ is +∞ or a non-negative number. -/
theorem unpack_of_le_inf {w : Nat} (h : w ≤ fp32.inf) :
    unpack fp32 false w = .inf false ∨ ∃ m e, unpack fp32 false w = .fin false m e := by
  have hsign : w.testBit (fp32.e + fp32.m) = false := Nat.testBit_lt_two_pow (Nat.lt_of_le_of_lt h (by decide))
  unfold unpack
  simp only [hsign]
  split
  · next hex =>
    have hfr : w % 2 ^ fp32.m = 0 := by
      simp only [fp32, Fmt.inf] at h hex ⊢
      omega
    exact .inl (if_pos hfr)
  · split
    · exact .inr ⟨_, _, rfl⟩
    · exact .inr ⟨_, _, rfl⟩

/-- −∞ times +∞ or a positive number is −∞; −∞ times zero is a NaN, which counts as −∞. -/
theorem scaledLogit_negInf {inv : Nat} (h : inv ≤ fp32.inf) : scaledLogit inv negInf = negInf := by
  have hneg : unpack fp32 false negInf = .inf true := by decide
  have hnan : nanLow fp32.nan = negInf := by decide
  have hinf : nanLow negInf = negInf := by decide
  unfold scaledLogit fmulOp fmaOp
  rw [hneg]
  rcases unpack_of_le_inf h with hi | ⟨m, e, hi⟩
  · rw [hi]; exact hinf
  · rw [hi]
    by_cases hm : m = 0
    · simpa [mulNum, hm] using hnan
    · simp only [mulNum, if_neg hm]
      exact hinf

/-! ### Draws without candidates (R208, R211) -/

theorem greedyDraw_of_negInf {zs : List (Nat × Nat)} (h : ∀ c ∈ zs, c.2 = negInf) : greedyDraw zs = none := by
  unfold greedyDraw
  refine Option.filter_eq_none_iff.2 fun p hp => ?_
  simp [h p (mem_of_mem_sortBy (List.mem_of_mem_head? hp))]

theorem topCandidates_of_negInf {k : Nat} {zs : List (Nat × Nat)} (h : ∀ c ∈ zs, c.2 = negInf) : topCandidates k zs = [] := by
  unfold topCandidates
  refine List.filter_eq_nil_iff.2 fun p hp => ?_
  simp [h p (mem_of_mem_sortBy (List.mem_of_mem_take hp))]

@[simp] theorem minPKept_nil (minP : Nat) : minPKept minP [] = [] := by simp [minPKept]
@[simp] theorem topPKept_nil (topP : Nat) : topPKept topP [] = [] := by simp [topPKept]

theorem keptCandidates_of_negInf {v : SessParams} {zs : List (Nat × Nat)} (h : ∀ c ∈ zs, c.2 = negInf) :
    keptCandidates v zs = [] := by
  unfold keptCandidates
  dsimp only
  rw [topCandidates_of_negInf]
  · simp
  · intro c hc
    obtain ⟨p, hp, rfl⟩ := List.mem_map.1 hc
    rw [h p hp]
    exact scaledLogit_negInf (quotient32_le_inf ..)

/-- The draw that R211 gives where no candidate is left. -/
def drawnFallback (v : YewSession) : Draw := { token := v.params.fallback, prob := 0, fallback := true }

theorem drawOf_of_greedy_none {s : State} {v : YewSession} (ht : v.params.temperature = 0) (h : greedyDraw (sessLogits s v) = none) :
    drawOf s v = (drawnFallback v, v.drbg) := by
  simp [drawOf, ht, h, drawnFallback]

theorem drawOf_of_kept_nil {s : State} {v : YewSession} (ht : v.params.temperature ≠ 0)
    (h : keptCandidates v.params (sessLogits s v) = []) : drawOf s v = (drawnFallback v, v.drbg) := by
  unfold drawOf
  dsimp only
  rw [if_neg ht, h]
  rfl

theorem drawOf_without_candidates {s : State} {v : YewSession}
    (h : (∀ c ∈ sessLogits s v, c.2 = negInf) ∨ v.params.temperature ≠ 0 ∧ keptCandidates v.params (sessLogits s v) = []) :
    drawOf s v = (drawnFallback v, v.drbg) := by
  rcases h with hneg | ⟨ht, hkept⟩
  · by_cases ht : v.params.temperature = 0
    · exact drawOf_of_greedy_none ht (greedyDraw_of_negInf hneg)
    · exact drawOf_of_kept_nil ht (keptCandidates_of_negInf hneg)
  · exact drawOf_of_kept_nil ht hkept

/-! ### SAMPLE (R190) -/

@[simp] theorem passEntry_sessions (s : State) (t : Nat) : (passEntry s t).sessions = s.sessions := rfl
@[simp] theorem passEntry_tile (s : State) (t u : Nat) : (passEntry s t).tile u = s.tile u := rfl

theorem get?_modSession_of_get? {s : State} {h : Nat} {v : YewSession} (hv : s.sessions.get? h = some v)
    (f : YewSession → YewSession) : (s.modSession h f).sessions.get? h = some (f v) :=
  (Tbl.get?_modify_self ..).trans (congrArg (Option.map f) hv)

/-- The state in which SAMPLE's entry is passed and its token buffer is empty. -/
def sampleEntered (s : State) (v : YewSession) : State :=
  setFill (passEntry s (leadTile s v)) (leadTile s v) v.sampler.tokenBuf 0

theorem exec_sample_draws {s : State} {h due : Nat} {v : YewSession} {e : LaunchEntry} (hon : s.on = true)
    (hv : s.sessions.get? h = some v) (hdue : dueEntry s (leadTile s v) = some (due, e)) (hin : v.inEpoch = true)
    (hrun : v.state = .running) (hact : e.action = 3) (hslip : v.slipLine = false) (hidle : v.drawing = none)
    (hdrbg : v.params.temperature = 0 ∨ drbgSpent v = false) (hclean : poisonedSource s v = none) :
    exec (.sample h) s = .next ((sampleEntered s v).modSession h fun y =>
      { y with drawing := some (drawOf s v).1, drbg := (drawOf s v).2 }) := by
  have hready : (drbgSpent v && decide (v.params.temperature ≠ 0)) = false := by
    rcases hdrbg with h0 | h0 <;> simp [h0]
  show execSample h s = _
  simp only [execSample, hv, hdue, hclean, hready]
  simp [hon, hin, hrun, hact, hslip, hidle, sampleEntered]

/-! ### The end point of an epoch that completes (R107, R190) -/

/-- A session's state at the end point of an epoch, its entries passed. -/
def endPassed (s : State) (h : Nat) (v : YewSession) : State :=
  ((sessTiles s v).foldl passEntry s).modSession h fun y =>
    { y with inEpoch := false, nextStart := v.epochStart + v.def_.period, drawing := none }

theorem endPassed_get? {s : State} {h : Nat} {v : YewSession} (hv : s.sessions.get? h = some v) :
    (endPassed s h v).sessions.get? h =
      some { v with inEpoch := false, nextStart := v.epochStart + v.def_.period, drawing := none } := by
  refine get?_modSession_of_get? ?_ _
  rw [foldl_keeps (π := State.sessions) passEntry passEntry_sessions]
  exact hv

theorem finishedBy_of_no_step {s : State} {t : Nat} (h : (s.tile t).step = none) (lc : Nat) : finishedBy s t lc = true := by
  simp [finishedBy, h]
theorem settleStep_of_no_step {s : State} {t : Nat} (h : (s.tile t).step = none) : settleStep s t = s := by
  simp [settleStep, h]

theorem lateSlips_of_idle {s : State} {v : YewSession} (hidle : v.drawing = none)
    (hstep : ∀ t ∈ sessTiles s v, (s.tile t).step = none) : lateSlips s v = s := by
  unfold lateSlips
  rw [foldl_eq_self fun t ht => by simp [finishedBy_of_no_step (hstep t ht)]]
  simp [hidle]

theorem foldl_settleStep_of_idle {s : State} {l : List Nat} (hstep : ∀ t ∈ l, (s.tile t).step = none) :
    l.foldl settleStep (l.foldl passEntry s) = l.foldl passEntry s := by
  refine foldl_eq_self fun t ht => settleStep_of_no_step ?_
  rw [foldl_keeps (π := fun s => s.tile t) passEntry (fun s u => passEntry_tile s u t)]
  exact hstep t ht

theorem exec_epochEnd_commits {s : State} {h : Nat} {v : YewSession} (hon : s.on = true) (hv : s.sessions.get? h = some v)
    (hin : v.inEpoch = true) (hrun : v.state = .running) (hclose : v.closing = false) (hspoil : v.spoiled = false)
    (hidle : v.drawing = none) (hdue : ∀ t ∈ sessTiles s v, (dueEntry s t).map (fun e => e.2.action) = some 2)
    (hstep : ∀ t ∈ sessTiles s v, (s.tile t).step = none) :
    exec (.epochEnd h) s = .next (commitEpoch (endPassed s h v) h v) := by
  have hends : ((sessTiles s v).all fun t => ((dueEntry s t).map fun e => decide (e.2.action = 2)).getD false) = true := by
    refine List.all_eq_true.2 fun t ht => ?_
    obtain ⟨e, he, hact⟩ := Option.map_eq_some_iff.1 (hdue t ht)
    simp [he, hact]
  have hdone : ((sessTiles s v).any fun t => !finishedBy s t v.guard) = false :=
    List.any_eq_false.2 fun t ht => by simp [finishedBy_of_no_step (hstep t ht)]
  show execEpochEnd h s = _
  simp only [execEpochEnd, hv, hends, hdone, lateSlips_of_idle hidle hstep, foldl_settleStep_of_idle hstep]
  simp [hon, hin, hrun, hclose, hspoil, hidle, endPassed]

/-! ### The record of a commit (R196 to R198) -/

@[simp] theorem writeDpa_sessions (s : State) (dpa : Nat) (data : Bytes) : (writeDpa s dpa data).sessions = s.sessions := by
  unfold writeDpa
  dsimp only
  rw [modPlot_sessions, foldl_keeps (π := State.sessions), State.modDram_sessions]
  intro s w
  split <;> rfl

@[simp] theorem writeRaw_sessions (s : State) (o : Owner) (a : Nat) (data : Bytes) :
    (writeRaw s o a data).2.sessions = s.sessions := by
  unfold writeRaw
  split
  · rfl
  · split
    · rfl
    · refine foldl_keeps (π := State.sessions) _ (fun s c => ?_) _ s
      split
      · exact writeDpa_sessions ..
      · rfl

@[simp] theorem writeHeader_sessions (s : State) (h epoch : Nat) : (writeHeader s h epoch).sessions = s.sessions := by
  unfold writeHeader
  split
  · rfl
  · exact writeRaw_sessions ..

/-- Session `h` is `v` with one more pending record, of the token, the PROB and the FALLBACK bit of `r`; the DRBG is that of `v`. -/
def RecordPends (t : State) (h : Nat) (v : YewSession) (r : Rec) : Prop :=
  ∃ w o, t.sessions.get? h = some w ∧ w.pend = v.pend ++ [o] ∧ o.token = r.token ∧ o.flags.testBit 0 = r.flags.testBit 0 ∧
    o.prob = r.prob ∧ w.drbg = v.drbg

theorem RecordPends.modSession {t : State} {h : Nat} {v : YewSession} {r : Rec} (hr : RecordPends t h v r)
    {f : YewSession → YewSession} (hpend : ∀ y, (f y).pend = y.pend) (hdrbg : ∀ y, (f y).drbg = y.drbg) :
    RecordPends (t.modSession h f) h v r := by
  obtain ⟨w, o, hw, hp, htok, hflag, hprob, hd⟩ := hr
  exact ⟨f w, o, get?_modSession_of_get? hw f, (hpend w).trans hp, htok, hflag, hprob, (hdrbg w).trans hd⟩

theorem RecordPends.of_sessions {t u : State} {h : Nat} {v : YewSession} {r : Rec} (hr : RecordPends t h v r)
    (hs : u.sessions = t.sessions) : RecordPends u h v r := by
  unfold RecordPends
  rwa [hs]

theorem ringTakes_of_full {s : State} {v : YewSession} (hhost : v.params.ringInHost = true)
    (hfull : v.consumed + 2 ^ v.params.outLog2 ≤ v.seq) : ringTakes s v = false := by
  have : ¬ v.seq + 1 - v.consumed ≤ 2 ^ v.params.outLog2 := by omega
  simp [ringTakes, readConsumed, hhost, this]

theorem flushRing_of_full {s : State} {h : Nat} {v : YewSession} (hv : s.sessions.get? h = some v)
    (hfull : ringTakes s v = false) (n : Nat) : flushRing h n s = s := by
  cases n with
  | zero => rfl
  | succ n => cases hp : v.pend <;> simp [flushRing, hv, hp, hfull]

theorem emitOne_pends {s : State} {h : Nat} {v : YewSession} (force : Bool) (r : Rec) (hv : s.sessions.get? h = some v)
    (hhost : v.params.ringInHost = true) (hfull : v.consumed + 2 ^ v.params.outLog2 ≤ v.seq) :
    RecordPends (emitOne h force r s).2 h v r := by
  simp only [emitOne, hv]
  rw [flushRing_of_full (get?_modSession_of_get? hv _) (ringTakes_of_full hhost hfull)]
  refine ⟨_, _, get?_modSession_of_get? hv _, rfl, rfl, ?_, rfl, rfl⟩
  simp only [Nat.testBit_zero, decide_eq_decide]
  omega

/-- The record of a DECODE epoch whose input is used up by it (R196 step 2). -/
def decodeRec (v : YewSession) (d : Draw) : Rec :=
  { token := d.token, flags := b2n d.fallback, prob := d.prob, position := v.position + 1 }

theorem testBit_zero_decodeRec (v : YewSession) (d : Draw) : (decodeRec v d).flags.testBit 0 = d.fallback := by
  cases hd : d.fallback <;> simp [decodeRec, hd, b2n]

theorem emitVerdict_of_none {s : State} {h : Nat} {v : YewSession} (force : Bool) (hv : s.sessions.get? h = some v)
    (hverdict : v.verdict = none) : emitVerdict h force s = (none, s) := by
  simp [emitVerdict, hv, hverdict]

theorem commitEpoch_of_not_round {s : State} {h : Nat} {v : YewSession} (hkind : v.kind ≠ 2) :
    commitEpoch s h v = (writeHeader (commitTokens (s.modSession h fun y => { y with drbgSaved := y.drbg, abandonedRun := 0 }) h v)
      h v.epoch).modSession h fun y => { y with epoch := v.epoch + 1 } := by
  unfold commitEpoch
  dsimp only
  split
  · split
    · rw [if_neg hkind]
    · rfl
  · rfl

section
/-! `y` is the session in the state, `v` the session as it was when the epoch ended: a DECODE epoch that drew `d` after the last
token of its input. -/

variable {s : State} {h x : Nat} {v y : YewSession} {d : Draw} {l : List Draw} (hy : s.sessions.get? h = some y)
  (hverdict : y.verdict = none) (hkind : v.kind = 0) (hinput : v.input = [x]) (hdraws : v.draws = d :: l)
include hy hverdict hkind hinput hdraws

theorem commitTokens_decode : commitTokens s h v =
    let o := emitOne h false (decodeRec v d) ((s.modSession h fun y => { y with input := [], position := y.position + 1 }).modSession
      h fun y => { y with input := [d.token] })
    if o.1 then goIdle o.2 h (decodeRec v d) [] else o.2 := by
  simp only [commitTokens, emitVerdict_of_none _ hy hverdict, hkind, hinput, hdraws]
  rfl

variable (hhost : y.params.ringInHost = true) (hfull : y.consumed + 2 ^ y.params.outLog2 ≤ y.seq)
include hhost hfull

theorem commitTokens_decode_pends : RecordPends (commitTokens s h v) h y (decodeRec v d) := by
  have hy' := get?_modSession_of_get? (get?_modSession_of_get? hy fun y => { y with input := [], position := y.position + 1 })
    fun y => { y with input := [d.token] }
  have hr := emitOne_pends false (decodeRec v d) hy' hhost hfull
  change RecordPends _ h y _ at hr
  rw [commitTokens_decode hy hverdict hkind hinput hdraws]
  dsimp only
  split
  · exact hr.modSession (fun _ => rfl) fun _ => rfl
  · exact hr

theorem commitEpoch_decode_pends : RecordPends (commitEpoch s h v) h y (decodeRec v d) := by
  have hy' := get?_modSession_of_get? hy fun y => { y with drbgSaved := y.drbg, abandonedRun := 0 }
  have hr := commitTokens_decode_pends hy' hverdict hkind hinput hdraws hhost hfull
  change RecordPends _ h y _ at hr
  rw [commitEpoch_of_not_round (by omega)]
  exact (hr.of_sessions (writeHeader_sessions ..)).modSession (fun _ => rfl) fun _ => rfl

end

/-- Settles O59: the sampler finds no candidate and takes no DRBG output; a commit takes token, FALLBACK and PROB of its record
from the draw. -/
theorem fallbackDraw : Obligations.FallbackDraw := by
  unfold Obligations.FallbackDraw
  constructor
  · intro s h due v e hon hv hdue hin hrun hact hslip hidle hdrbg hclean hnone
    refine ⟨_, exec_sample_draws hon hv hdue hin hrun hact hslip hidle hdrbg hclean, ?_⟩
    rw [drawOf_without_candidates hnone]
    exact ⟨_, get?_modSession_of_get? hv _, rfl, rfl, rfl⟩
  · intro s h x v hon hv hin hrun hclose hspoil hidle hkind hverdict hinput hdraws hhost hfull hdue hstep
    refine ⟨_, exec_epochEnd_commits hon hv hin hrun hclose hspoil hidle hdue hstep, ?_⟩
    obtain ⟨w, o, hw, hpend, htok, hflag, hprob, hdrbg⟩ :=
      commitEpoch_decode_pends (endPassed_get? hv) hverdict hkind hinput hdraws hhost hfull
    exact ⟨w, o, hw, hpend, htok, hflag.trans (testBit_zero_decodeRec ..), hprob, hdrbg⟩

end Sys2Proof.Machine.Fallback
end
